-- ==== Sys2Proof/Word.lean ====
section
/-!
DEFINITION. The word types of the module (R9, R47, R72) and the plain data types that several parts of the
state share: sparse tables by number.
-/
namespace Sys2Proof

/-- One byte. -/
abbrev Byte := BitVec 8

/-- The value of a 32-bit register (R47). -/
abbrev Word := BitVec 32

/-- A cell of an LX core: 64 bits (R152). -/
abbrev LxCell := BitVec 64

/-- A sparse table: pairs of a number and a value, numbers strictly rising. What a number that is not listed
holds is said by the reader of the table. -/
abbrev Tab (α : Type) := List (Nat × α)

end Sys2Proof
end

