-- ==== Sys2Proof/Syntax.lean ====
section
/-!
DEFINITION. The commands of the module: one constructor per row of opcode_table.json, and the types of their
operands. A command names the unit it acts on (a core, a tile, a link, a context, a function, a port) and carries
what comes from outside the module with it: the master and value of an access, a received packet or frame, a
sensor reading, the result of an exchange with a partner.
-/
namespace Sys2Proof

/-- The register blocks, in the order of R45. -/
inductive BlockKind where
  | mod | pwr | thm | fwm | log | tel | fin | key | til | lxc | shf | hbc | myl | myr | gma | pce | vfn | nvc
  | rtp | fpp | fps | cip
deriving DecidableEq, Repr

/-- One instance of a register block (R45). -/
structure Blk where
  kind : BlockKind
  inst : Nat
deriving DecidableEq, Repr

/-- The master classes of R54. -/
inductive MClass where
  | librarian | circulation | lectern | tileDma | hostPf | hostVf | remoteQueue | debug | none
deriving DecidableEq, Repr

/-- A master and the secure attribute its access carries (R54, R63). -/
structure Master where
  cls : MClass
  index : Nat
  secure : Bool
deriving DecidableEq, Repr

/-- A Myven packet: the header fields of R254 and the payload. -/
structure Packet where
  dst : Nat
  src : Nat
  endpoint : Nat
  vc : Nat
  hops : Nat
  opcode : Nat
  msgId : Nat
  offset : Nat
  length : Nat
  first : Bool
  last : Bool
  flag : Bool
  encrypted : Bool
  policy : Nat
  viaValid : Bool
  viaGroup : Nat
  addr : Nat
  space : Nat
  srcCtx : Nat
  /-- The reserved header bits [255:230] -/
  reserved : Nat
  payload : List Byte
deriving DecidableEq, Repr

/-- A fault that a running tile command meets and reports at its end: the code of R135, the address and the
progress of R144. -/
structure TileFault where
  code : Nat
  addr : Nat
  progress : Nat
deriving DecidableEq, Repr

/-- What a partner offers in its TRAIN flits (R231): allowed rates, widths and FEC modes in the layout of MYL_CFG, its FEC
preference, module, link, link class, feature bits (0 TREE, 1 LEDGER), and whether it offers cipher suite 0x0001. -/
structure Offer where
  rates : Nat
  widths : Nat
  fecs : Nat
  fecPref : Nat
  module : Nat
  link : Nat
  cls : Nat
  features : Nat
  cipher : Bool
deriving DecidableEq, Repr
/-- A namespace as the label of the drives holds it (R517, R519): class, key source, JOB_ID for source 2, the nonce drawn at
creation, the drives of its stripe in ascending order and its extents on each of them, OWNER, the controller it is attached
to (0: none), FEED_OWNER, KCV, and its flags. -/
structure NsRec where
  durable : Bool
  keySource : Nat
  job : Nat
  nonce : Nat
  stripe : List Nat
  extents : List (List Nat)
  owner : Nat
  ctrl : Nat
  feedOwner : Option Nat
  kcv : List Nat
  dirty : Bool
  lost : Bool
deriving DecidableEq, Repr

/-- One copy of the label: its generation and the namespace table, by NSID (R517). -/
structure DrvLabel where
  gen : Nat
  recs : List (Nat × NsRec)
deriving DecidableEq, Repr

/-- What a half of a root port finds: whether the drive meets the conditions of R516, its 1 GiB extents after the label
region, its model, serial, firmware and capacity, the label copies whose digest verifies, and the rate and lanes of its
link. -/
structure DriveInfo where
  good : Bool
  extents : Nat
  info : List Byte
  labels : List DrvLabel
  speed : Nat
  width : Nat
deriving DecidableEq, Repr

/-- The head of an NVMe command: the controller, the submission queue whose head it is (0: admin), CID, NSID, and whether
FUSE or a reserved field is set. -/
structure NvHdr where
  ctrl : Nat
  sq : Nat
  cid : Nat
  nsid : Nat
  bad : Bool
deriving DecidableEq, Repr

/-- A configuration request: a read of a dword, or a write that sets Memory Space Enable, PME_En, Function Mask of MSI-X, or
Enable of ATS. -/
inductive CfgReq where
  | read (reg : Nat)
  | mse (on : Bool)
  | pmeEn (on : Bool)
  | fnMask (on : Bool)
  | ats (on : Bool)
deriving DecidableEq, Repr

/-- What a CTX_CREATE request asks for (R288, R565): the owner, a partition of the function's or itself; TYPE and attributes;
the peer; the ring; the first message number; the event vector; and the RoCE fields of TYPE 1. -/
structure CtxReq where
  part : Option Nat
  typ : Nat
  secure : Bool
  rreg : Bool
  maxOut : Nat
  peerModule : Nat
  peerCtx : Nat
  policy : Nat
  keyPage : Nat
  e2e : Bool
  ringHost : Bool
  ringBase : Nat
  ringLog2 : Nat
  pasid : Nat
  msgId : Nat
  vec : Nat
  destQpn : Nat
  port : Nat
  egressQ : Nat
  pmtu : Nat
  psnSend : Nat
  psnRecv : Nat
  peerIp : Nat
  localIp : Nat
  l2 : Nat
  dscp : Nat
  retryCnt : Nat
  timeout : Nat
  regionBase : Nat
  regionLen : Nat
  remWrite : Bool
  remRead : Bool
  rkey : Nat
  recvBase : Nat
  slotLog2 : Nat
  recvLog2 : Nat
deriving DecidableEq, Repr

/-- What a PART_CREATE request asks for (R344, R345): the entry, its role, tiles and job slot, whether it is to be sealed, its
granules of memory (shelf ones from 1,000), and the image of each tile's lectern core, in tile order. -/
structure PartReq where
  p : Nat
  role : Nat
  tiles : Nat
  job : Option Nat
  sealIt : Bool
  granules : List Nat
  images : List (List Byte)
deriving DecidableEq, Repr

/-- An IDE_KM message of the key manager (R454): program a key set of a stream, with the functions that a selective stream
covers; put a key set in use; stop the use of one. -/
inductive IdeKm where
  | prog (stream set : Nat) (key : List Byte) (fns : List Nat)
  | go (stream set : Nat)
  | stop (stream set : Nat)
deriving DecidableEq, Repr

/-- An AtomicOp of PCI Express on BAR 2: its kind and operands. -/
inductive PcieAtomic where
  | fetchAdd (v : Nat)
  | swap (v : Nat)
  | cas (cmp v : Nat)
deriving DecidableEq, Repr

/-- What the creation of a namespace asks for (R519): class, key source, JOB_ID for source 2, drives, and extents on each
drive. -/
structure NsAsk where
  durable : Bool
  keySource : Nat
  job : Nat
  stripe : List Nat
  extents : Nat
deriving DecidableEq, Repr

/-- The header of a dictionary request (R630): the session that it comes from (0: the PF0 mailbox; 1 to 8: the management
port; 9 and 10: MCTP over I3C), SEQ, INDEX, SUBINDEX, OFFSET and TOTAL. LENGTH is that of the data. -/
structure DHdr where
  sess : Nat
  seq : Nat
  idx : Nat
  sub : Nat
  off : Nat
  total : Nat
deriving DecidableEq, Repr

/-- A unit that a start may park (R26, R581): an HBM stack, a tile, a shelf die (3d + k), a tensor die, a band, or
circulation die B. -/
inductive ModUnit where
  | stack (i : Nat)
  | tile (i : Nat)
  | shelf (i : Nat)
  | die (i : Nat)
  | band (i : Nat)
  | dieB
deriving DecidableEq, Repr

/-- What the tests of a start find (R580 to R586): SLOT_ID as strapped; whether SLOT_A, SLOT_B and the catalogue copies
authenticate and carry a valid signature; the failing units, each with its reason code, by the step that finds them; the
tiles whose timing margin is below the guard; sensors that fail their self-check; the floor measured in W; stream engines
that fail their known-answer test; a failure of R586 (step and stop code, which is 0 for none); the units that have not
passed when a step reaches its limit, by step, in rising order; and the milliseconds from PWR_EN accepted to the end. -/
structure StartReport where
  slotId : Nat
  slotOk : List Bool
  catOk : List Bool
  fails : List (Nat × ModUnit × Nat)
  lowMargin : List Nat
  sensorsBad : List Nat
  floorW : Nat
  enginesBad : List Nat
  stop : Nat × Nat
  stalls : List (Nat × List ModUnit)
  ms : Nat
deriving DecidableEq, Repr


/-- The commands, one constructor per row of opcode_table.json. -/
inductive Instr where
  /-- R67: A write to a register that has no row of its own passes the guard, width, lock and gate checks and applies each field under its access code. -/
  | registerWrite (m : Master) (off width : Nat) (v : Word)
  /-- R47: A read of a _LO counter register captures the _HI half for the next _HI read. -/
  | counterPairLoRead (m : Master) (off : Nat)
  /-- R70: A write to the bit-alias region performs a one-cycle read-modify-write of one register bit according to its field class. -/
  | bitAliasWrite (m : Master) (addr : Nat) (v : Word)
  /-- R62: Writing BLK_CTRL.ENABLE from 0 to 1 enables the block, first running a full configuration CRC pass if CRC_CHECK is 1. -/
  | blockEnable (m : Master) (b : Blk)
  /-- R56: Writing BLK_CTRL.ENABLE = 0 stops acceptance of new work and starts the drain of accepted work. -/
  | blockDisable (m : Master) (b : Blk)
  /-- R50: Writing 1 to BLK_CTRL.LOCK locks every RWG and WOL field of the block until module reset. -/
  | blockLock (m : Master) (b : Blk)
  /-- R56: The last accepted work of a disabled block completes and ACTIVE falls. -/
  | blockDrainDone (b : Blk)
  /-- R62: The enable-time CRC pass ends; on a match the block sets ACTIVE, on a mismatch it clears ENABLE and sets CFG_CRC. -/
  | cfgCrcEnablePassDone (b : Blk)
  /-- R60: A periodic configuration CRC pass of an ACTIVE block completes and its result is compared with BLK_CFG_REF. -/
  | cfgCrcPass (b : Blk)
  /-- R178: Pushes the 64-byte descriptor at an address into the tile command queue, stalling while it is full. -/
  | tpush (c : Nat)
  /-- R178: Pushes a descriptor from memory without stalling, returning 2 when the queue is full. -/
  | tpushnb (c : Nat)
  /-- R178: Pushes the staging buffer into the tile command queue, stalling while it is full. -/
  | tpushs (c : Nat)
  /-- R178: Pushes the staging buffer without stalling, returning 2 when the queue is full. -/
  | tpushsnb (c : Nat)
  /-- R106: A queue entry frees and a stalled push copies its descriptor into the queue. -/
  | pushStallRelease (c : Nat)
  /-- R178: Writes one staging buffer word. -/
  | tstw (c : Nat) (imm : BitVec 8)
  /-- R178: Reads one staging buffer word. -/
  | tldw (c : Nat) (imm : BitVec 8)
  /-- R178: Pushes TIL_STS of the core's tile. -/
  | tsts (c : Nat)
  /-- R178: Pushes a signal counter of the core's tile. -/
  | tsig (c : Nat)
  /-- R178: Stalls until a signal counter reaches a value. -/
  | twait (c : Nat)
  /-- R178: The awaited signal counter reaches its value and a stalled TWAIT retires. -/
  | twaitRelease (c : Nat)
  /-- R178: Pushes a metadata slot value, sign-extended. -/
  | tmeta (c : Nat)
  /-- R112: A LOAD command issues and fills a carrel region from a local or remote source with format conversion. -/
  | load (t : Nat) (poison : Option Nat)
  /-- R115: An MMA command issues and streams A and B through the array into an accumulator bank. -/
  | mma (t rise : Nat)
  /-- R117: A DRAIN command issues and converts a bank into the carrel, raw or rounded, with optional post ops. -/
  | drain (t : Nat)
  /-- R120: A POST command issues and runs a post-op list over carrel rows. -/
  | post (t : Nat)
  /-- R124: A STORE command issues and copies carrel bytes to a local or remote address. -/
  | store (t : Nat)
  /-- R125: A SYNC command reaches the head and holds it until its condition is met. -/
  | sync (t : Nat)
  /-- R125: The condition of a SYNC at the head is met and issue resumes. -/
  | syncConditionMet (t : Nat)
  /-- R125: A SYNC's TIMEOUT expires and the tile halts with SYNC_TIMEOUT. -/
  | syncTimeout (t : Nat)
  /-- R126: A PHASE command issues, declares the tile's phase to the power controller and completes at once. -/
  | phase (t : Nat)
  /-- R127: A SCRUB command issues and checks or zeroes a carrel range, writing a summary record. -/
  | scrub (t : Nat)
  /-- R109: An issued tile command finishes with OK or FAILED, updating signal counters and events. -/
  | cmdComplete (t slot : Nat) (fault : Option TileFault)
  /-- R132: A drain reads the last row of its bank and the bank becomes FREE. -/
  | drainBankReadDone (t : Nat)
  /-- R137: TIL_CMD_CTRL RETRY reissues the failed command of a halted tile. -/
  | tileRetry (m : Master) (t : Nat)
  /-- R137: TIL_CMD_CTRL SKIP completes the failed command FAILED and resumes issue. -/
  | tileSkip (m : Master) (t : Nat)
  /-- R137: TIL_CMD_CTRL FLUSH completes the failed command and aborts every unissued command. -/
  | tileFlush (m : Master) (t : Nat)
  /-- R148: The librarian writes TIL_RESET.GO to start a tile reset. -/
  | tileReset (m : Master) (t : Nat)
  /-- R148: A tile reset completes after 1,024 cycles and sets DONE. -/
  | tileResetDone (t : Nat)
  /-- R131: The power controller requests calm; issue stops at once. -/
  | tileCalmRequest (t : Nat)
  /-- R131: Issued DMA transfers finish their carrel accesses and the tile clock stops in CALM. -/
  | tileClockStopped (t : Nat)
  /-- R131: Calm is released and the tile resumes in the cycle it stopped. -/
  | tileCalmRelease (t rise : Nat)
  /-- R160: LX no operation. -/
  | nop (c : Nat)
  /-- R160: Drops the top cell. -/
  | drop (c : Nat)
  /-- R160: Duplicates the top cell. -/
  | dup (c : Nat)
  /-- R160: Swaps the top two cells. -/
  | swap (c : Nat)
  /-- R160: Copies the second cell to the top. -/
  | over (c : Nat)
  /-- R160: Rotates the top three cells. -/
  | rot (c : Nat)
  /-- R160: Drops the second cell. -/
  | nip (c : Nat)
  /-- R160: Copies the top cell below the second. -/
  | tuck (c : Nat)
  /-- R160: Drops the top two cells. -/
  | drop2 (c : Nat)
  /-- R160: Duplicates the top two cells. -/
  | dup2 (c : Nat)
  /-- R160: Copies cell n to the top. -/
  | pick (c : Nat)
  /-- R160: Pushes the total data stack depth. -/
  | depth (c : Nat)
  /-- R160: Moves the top cell to the return stack. -/
  | tor (c : Nat)
  /-- R160: Moves the return stack top to the data stack. -/
  | fromr (c : Nat)
  /-- R160: Copies the return stack top to the data stack. -/
  | rfetch (c : Nat)
  /-- R160: Drops the return stack top. -/
  | rdrop (c : Nat)
  /-- R160: Pushes a sign-extended 1-byte immediate. -/
  | lit8 (c : Nat) (imm : BitVec 8)
  /-- R160: Pushes a sign-extended 2-byte immediate. -/
  | lit16 (c : Nat) (imm : BitVec 16)
  /-- R160: Pushes a sign-extended 4-byte immediate. -/
  | lit32 (c : Nat) (imm : BitVec 32)
  /-- R160: Pushes an 8-byte immediate. -/
  | lit64 (c : Nat) (imm : BitVec 64)
  /-- R160: Adds a 1-byte immediate to the top cell. -/
  | addi8 (c : Nat) (imm : BitVec 8)
  /-- R160: Adds a 4-byte immediate to the top cell. -/
  | addi32 (c : Nat) (imm : BitVec 32)
  /-- R160: Pushes a zero-extended 4-byte immediate. -/
  | litu32 (c : Nat) (imm : BitVec 32)
  /-- R160: Copies the cell named by the immediate to the top. -/
  | picki (c : Nat) (imm : BitVec 8)
  /-- R170: Pushes a special register. -/
  | rsp (c : Nat) (imm : BitVec 8)
  /-- R170: Writes a special register from the top cell. -/
  | wsp (c : Nat) (imm : BitVec 8)
  /-- R154: Writes every hardware cell of both stacks to memory. -/
  | spill (c : Nat)
  /-- R161: Adds the top two cells. -/
  | add (c : Nat)
  /-- R161: Subtracts the top cell from the second. -/
  | sub (c : Nat)
  /-- R161: Bitwise AND. -/
  | and (c : Nat)
  /-- R161: Bitwise OR. -/
  | or (c : Nat)
  /-- R161: Bitwise XOR. -/
  | xor (c : Nat)
  /-- R161: Shifts left. -/
  | shl (c : Nat)
  /-- R161: Shifts right logically. -/
  | shr (c : Nat)
  /-- R161: Shifts right arithmetically. -/
  | sar (c : Nat)
  /-- R161: Signed less-than comparison. -/
  | slt (c : Nat)
  /-- R161: Unsigned less-than comparison. -/
  | sltu (c : Nat)
  /-- R161: Equality comparison. -/
  | seq (c : Nat)
  /-- R161: Signed minimum. -/
  | min (c : Nat)
  /-- R161: Signed maximum. -/
  | max (c : Nat)
  /-- R161: Unsigned minimum. -/
  | minu (c : Nat)
  /-- R161: Unsigned maximum. -/
  | maxu (c : Nat)
  /-- R161: Bitwise NOT. -/
  | not (c : Nat)
  /-- R161: Negates the top cell. -/
  | neg (c : Nat)
  /-- R161: Adds 1 to the top cell. -/
  | inc (c : Nat)
  /-- R161: Subtracts 1 from the top cell. -/
  | dec (c : Nat)
  /-- R161: Counts leading zeros. -/
  | clz (c : Nat)
  /-- R161: Counts trailing zeros. -/
  | ctz (c : Nat)
  /-- R161: Counts set bits. -/
  | popc (c : Nat)
  /-- R161: Sign-extends from bit 7. -/
  | sext8 (c : Nat)
  /-- R161: Sign-extends from bit 15. -/
  | sext16 (c : Nat)
  /-- R161: Sign-extends from bit 31. -/
  | sext32 (c : Nat)
  /-- R161: Zero-extends from bit 7. -/
  | zext8 (c : Nat)
  /-- R161: Zero-extends from bit 15. -/
  | zext16 (c : Nat)
  /-- R161: Zero-extends from bit 31. -/
  | zext32 (c : Nat)
  /-- R161: Reverses the 8 bytes of the top cell. -/
  | bswap (c : Nat)
  /-- R161: Tests the top cell for zero. -/
  | zeq (c : Nat)
  /-- R161: Shifts left by an immediate. -/
  | shli (c : Nat) (imm : BitVec 8)
  /-- R161: Shifts right logically by an immediate. -/
  | shri (c : Nat) (imm : BitVec 8)
  /-- R161: Shifts right arithmetically by an immediate. -/
  | sari (c : Nat) (imm : BitVec 8)
  /-- R161: ANDs with a sign-extended 4-byte immediate. -/
  | andi32 (c : Nat) (imm : BitVec 32)
  /-- R162: Pops two cells and branches if equal. -/
  | beq (c : Nat) (long : Bool) (imm : BitVec 32)
  /-- R162: Pops two cells and branches if not equal. -/
  | bne (c : Nat) (long : Bool) (imm : BitVec 32)
  /-- R162: Pops two cells and branches if signed less. -/
  | blt (c : Nat) (long : Bool) (imm : BitVec 32)
  /-- R162: Pops two cells and branches if signed greater or equal. -/
  | bge (c : Nat) (long : Bool) (imm : BitVec 32)
  /-- R162: Pops two cells and branches if unsigned less. -/
  | bltu (c : Nat) (long : Bool) (imm : BitVec 32)
  /-- R162: Pops two cells and branches if unsigned greater or equal. -/
  | bgeu (c : Nat) (long : Bool) (imm : BitVec 32)
  /-- R162: Pops a cell and branches if zero. -/
  | bz (c : Nat) (long : Bool) (imm : BitVec 32)
  /-- R162: Pops a cell and branches if non-zero. -/
  | bnz (c : Nat) (long : Bool) (imm : BitVec 32)
  /-- R163: Relative jump with a 16-bit offset. -/
  | jmp (c : Nat) (imm : BitVec 16)
  /-- R163: Relative jump with a 32-bit offset. -/
  | jmpL (c : Nat) (imm : BitVec 32)
  /-- R163: Relative call with a 16-bit offset. -/
  | call (c : Nat) (imm : BitVec 16)
  /-- R163: Relative call with a 32-bit offset. -/
  | callL (c : Nat) (imm : BitVec 32)
  /-- R163: Jumps to an IM offset from the stack. -/
  | jmpi (c : Nat)
  /-- R163: Calls an IM offset from the stack. -/
  | calli (c : Nat)
  /-- R163: Returns to the address on the return stack. -/
  | ret (c : Nat)
  /-- R163: Returns from a trap, restoring PC and STATUS. -/
  | rte (c : Nat)
  /-- R163: Waits until an enabled interrupt source is pending. -/
  | wfe (c : Nat)
  /-- R163: An enabled source becomes pending and a core in WFE continues. -/
  | wfeWake (c : Nat)
  /-- R163: Raises the BREAK trap. -/
  | brk (c : Nat) (imm : BitVec 8)
  /-- R163: Raises EMULATE as a service call to the privileged level. -/
  | svc (c : Nat) (imm : BitVec 8)
  /-- R159: An unlisted opcode raises EMULATE. -/
  | reservedOpcode (c : Nat) (op : BitVec 8)
  /-- R175: A pending enabled source with IE set is taken between instructions. -/
  | interruptTaken (c : Nat)
  /-- R164: Issues a signed 128-bit multiplication. -/
  | mul (c : Nat)
  /-- R164: Issues an unsigned 128-bit multiplication. -/
  | mulu (c : Nat)
  /-- R164: A multiplication writes MLO and MHI at the end of cycle c + 3. -/
  | mulResult (c : Nat)
  /-- R165: Issues a signed division, abandoning any in progress. -/
  | div (c : Nat)
  /-- R165: Issues an unsigned division, abandoning any in progress. -/
  | divu (c : Nat)
  /-- R165: A division writes QUO and REM at the end of cycle c + 33. -/
  | divResult (c : Nat)
  /-- R168: Loads a zero-extended byte. -/
  | ld8u (c : Nat)
  /-- R168: Loads a sign-extended byte. -/
  | ld8s (c : Nat)
  /-- R168: Loads a zero-extended halfword. -/
  | ld16u (c : Nat)
  /-- R168: Loads a sign-extended halfword. -/
  | ld16s (c : Nat)
  /-- R168: Loads a zero-extended word. -/
  | ld32u (c : Nat)
  /-- R168: Loads a sign-extended word. -/
  | ld32s (c : Nat)
  /-- R168: Loads a 64-bit value. -/
  | ld64 (c : Nat)
  /-- R168: Stores a byte into the store buffer. -/
  | st8 (c : Nat)
  /-- R168: Stores a halfword into the store buffer. -/
  | st16 (c : Nat)
  /-- R168: Stores a word into the store buffer. -/
  | st32 (c : Nat)
  /-- R168: Stores a 64-bit value into the store buffer. -/
  | st64 (c : Nat)
  /-- R168: Loads 64 bits from an address plus an immediate offset. -/
  | ldo64 (c : Nat) (imm : BitVec 16)
  /-- R168: Stores 64 bits to an address plus an immediate offset. -/
  | sto64 (c : Nat) (imm : BitVec 16)
  /-- R168: Atomic compare-and-swap at MODULE scope. -/
  | cas64 (c : Nat)
  /-- R168: Atomic fetch-and-add at MODULE scope. -/
  | amoadd64 (c : Nat)
  /-- R217: Orders the core's accesses at TILE, DIE or MODULE scope. -/
  | fence (c : Nat) (imm : BitVec 8)
  /-- R169: A buffered store reaches its target, is checked there and is performed. -/
  | storePerformed (c : Nat)
  /-- R181: A transport-triggered move copies a value between ports without a trigger. -/
  | compatMove (c : Nat) (w w1 w2 : BitVec 32)
  /-- R183: A write to an ALU trigger port computes an ALU operation. -/
  | compatAluTrigger (c : Nat) (w w1 w2 : BitVec 32)
  /-- R183: A write to a MUL trigger port starts a 64-bit product. -/
  | compatMulTrigger (c : Nat) (w w1 w2 : BitVec 32)
  /-- R183: A write to the LSU load trigger starts a 32-bit DM load. -/
  | compatLoadTrigger (c : Nat) (w w1 w2 : BitVec 32)
  /-- R183: A write to the LSU store trigger stores 32 bits to DM. -/
  | compatStoreTrigger (c : Nat) (w w1 w2 : BitVec 32)
  /-- R183: A BR trigger jumps by a word count after one delay word. -/
  | compatJump (c : Nat) (w w1 w2 : BitVec 32)
  /-- R183: A BR trigger jumps if the condition is non-zero or zero. -/
  | compatCondJump (c : Nat) (w w1 w2 : BitVec 32)
  /-- R183: A BR trigger calls, pushing the return word offset. -/
  | compatCall (c : Nat) (w w1 w2 : BitVec 32)
  /-- R183: A BR trigger returns. -/
  | compatReturn (c : Nat) (w w1 w2 : BitVec 32)
  /-- R185: A TCMD trigger raises EMULATE so the runtime translates and pushes the forerunner descriptor. -/
  | compatTcmd (c : Nat) (w w1 w2 : BitVec 32)
  /-- R187: The librarian writes LXC_CTRL.RESTART, restarting the core from its entry and clearing FROZEN and STOPPED. -/
  | lxcRestart (m : Master) (t : Nat)
  /-- R187: LXC_CTRL.STEP in DEBUG retires one instruction and returns to DEBUG. -/
  | lxcStep (m : Master) (t : Nat)
  /-- R187: LXC_CTRL.HALT = 1 enters DEBUG after the current instruction; 0 resumes. -/
  | lxcHalt (m : Master) (t : Nat) (on : Bool)
  /-- R188: A write of 1 to LXC_DOORBELL latches the DOORBELL interrupt source. -/
  | lxcDoorbellRing (m : Master) (t : Nat)
  /-- R223: SCRUB_CTRL.GO starts a scrub pass of an HBM or shelf controller over the range registers. -/
  | hbcScrubGo (m : Master) (shelf : Bool) (i : Nat)
  /-- R223: SCRUB_CTRL.ABORT ends the pass after the unit in progress. -/
  | hbcScrubAbort (m : Master) (shelf : Bool) (i : Nat)
  /-- R211: A scrub pass ends, writes its summary and BUSY falls. -/
  | scrubPassDone (shelf : Bool) (i : Nat)
  /-- R221: A one-second window begins and CE_WINDOW resets to zero. -/
  | ceWindowStart (shelf : Bool) (i : Nat)
  /-- R202: Each second the controller reads the stack's on-die error status into HBC_ODECC_CNT. -/
  | hbmOdeccPoll (i count : Nat)
  /-- R200: A per-bank refresh falls due and is performed. -/
  | hbmRefresh (i celsius : Nat)
  /-- R200: A row closes after 64 controller cycles without a request. -/
  | hbmRowClose (i chan : Nat)
  /-- R200: Writes drain in a batch when the write queue holds 48 or no read waits. -/
  | hbmWriteBatch (i : Nat)
  /-- R230: A link in DETECT repeats receiver detection every 1 ms. -/
  | detectProbe (n : Nat)
  /-- R230: A partner answers and the link enters NEGOTIATE. -/
  | partnerDetected (n : Nat)
  /-- R230: No partner answers within 100 ms and REASON becomes NO_PARTNER. -/
  | noPartnerTimeout (n : Nat)
  /-- R231: A TRAIN control flit carrying negotiation or key exchange content is received. -/
  | trainFlit (n : Nat) (offer : Option Offer) (refused : Bool)
  /-- R231: Capabilities are exchanged and the link selects candidate modes and FEC or faults. -/
  | negotiateDone (n : Nat)
  /-- R231: Equalisation at a candidate mode ends, taking the mode or moving to the next. -/
  | equalisationResult (n : Nat) (ok : Bool) (lanes : Nat)
  /-- R450: The authenticated key exchange ends and the link enters ACTIVE or FAULT. -/
  | keyxComplete (n : Nat) (auth : Bool) (svn : Nat) (secret : List Byte)
  /-- R234: A lane in use loses lock and the link leaves ACTIVE for RETRAIN. -/
  | lossOfLock (n : Nat)
  /-- R234: The RETRAIN wait expires and the link goes to DETECT, or to FAULT after eight failures. -/
  | retrainBackoffExpiry (n : Nat)
  /-- R235: Every flit is acknowledged or 1 ms passes, the link sends DOWN and enters DISABLED. -/
  | linkDisableDrainEnd (n : Nat)
  /-- R237: A DATA flit is received, CRC and sequence checked and held for frame authentication. -/
  | dataFlit (n : Nat) (bs : List Byte) (mismatch : Bool)
  /-- R239: An IDLE control flit carrying ACK is received. -/
  | idleFlit (n : Nat) (bs : List Byte)
  /-- R245: A TAG flit closes a frame; the frame is authenticated and released with its credits. -/
  | tagFlit (n : Nat) (bs : List Byte)
  /-- R248: A KEY_SWITCH flit moves the receiver to the next epoch once its frame authenticates. -/
  | keySwitchFlit (n : Nat) (bs : List Byte)
  /-- R239: A DOWN flit is received and the link leaves ACTIVE. -/
  | downFlit (n : Nat) (bs : List Byte)
  /-- R241: A RETRY flit makes the transmitter resend from the requested SEQ. -/
  | retryFlit (n : Nat) (bs : List Byte)
  /-- R241: A RETRY is repeated every 2 µs until the flit arrives. -/
  | retryRepeat (n : Nat)
  /-- R244: 10 ns after its first flit a frame is closed by a TAG flit. -/
  | frameCloseTimer (n : Nat)
  /-- R244: An idle transmitter owing credit sends a one-TAG frame after 100 ns. -/
  | creditReturnTimer (n : Nat)
  /-- R248: The frame counter reaches 2^INTERVAL and the transmitter switches epoch. -/
  | rekeyInterval (n : Nat)
  /-- R248: MYL_REKEY.FORCE switches the transmit epoch. -/
  | rekeyForce (m : Master) (n : Nat)
  /-- R249: After 65,536 epochs or 24 hours the librarians run a new key exchange over VC 7. -/
  | masterSecretExchange (n : Nat) (ok : Bool) (secret : List Byte)
  /-- R236: A one-second window ends and FEC_HIGH is set if uncorrectable codewords were counted. -/
  | fecWindow (n corr uncorr : Nat)
  /-- R259: A packet head reaches the router, is checked and routed to an egress or the local port. -/
  | packetRoute (p : Packet) (arr : Option Nat) (mismatch : Bool)
  /-- R262: A packet with no eligible link waits UNREACH_MS and is discarded. -/
  | unreachableTimeout
  /-- R263: MYR_ROUTE_CTRL.SWAP makes every port switch to the other route bank. -/
  | routeSwap (m : Master)
  /-- R263: All ports have swapped; SWAP clears and ACTIVE_BANK changes. -/
  | routeSwapDone
  /-- R267: A partner's far-loop request is served or refused with EDDY_REFUSED. -/
  | farEddyRequest (n : Nat)
  /-- R269: A packet held for REORDER or DELAY is sent when its condition is met or the link leaves ACTIVE. -/
  | faultHeldRelease (n : Nat)
  /-- R292: A doorbell write sets PRODUCER of a queue context. -/
  | ctxDoorbell (m : Master) (c v : Nat)
  /-- R291: A context fetches its next ring descriptor and checks it. -/
  | descFetch (c : Nat)
  /-- R294: A PUT descriptor sends data as messages and packets to the peer. -/
  | put (c : Nat)
  /-- R304: A PUT_FLAG descriptor sends a flagged write. -/
  | putFlag (c : Nat)
  /-- R298: A GET descriptor takes a tracker and sends a GET_REQ. -/
  | get (c : Nat)
  /-- R300: An ATOMIC descriptor sends an ATOMIC_REQ. -/
  | atomic (c : Nat)
  /-- R302: A LEDGER_ADD descriptor sends ledger words to be added at the target. -/
  | ledgerAdd (c : Nat)
  /-- R317: A WAIT descriptor holds the context in WAITING until a counter reaches a value. -/
  | queueWait (c : Nat)
  /-- R299: A NOP descriptor completes at once. -/
  | queueNop (c : Nat)
  /-- R329: A REDUCE descriptor contributes ledger words to its group's reduction and counts as an arrival. -/
  | reduce (c : Nat)
  /-- R317: The watched counter reaches the WAIT value and later descriptors are fetched. -/
  | waitMet (c : Nat)
  /-- R317: A WAIT beyond hardware watching is tested every 1 µs. -/
  | waitPoll (c : Nat)
  /-- R317: A WAIT not met within TIMEOUT fails. -/
  | waitTimeout (c : Nat)
  /-- R306: A PUT packet is checked and placed, and COMPLETION is sent when its message completes. -/
  | putReceive (p : Packet) (half : Nat)
  /-- R304: A PUT_FLAG is placed when EXP_MSG equals its MSG_ID, or parked. -/
  | putFlagReceive (p : Packet) (half : Nat)
  /-- R304: EXP_MSG reaches a parked flag, which is placed, ARRIVE_CNT increments and COMPLETION is sent. -/
  | parkedFlagPlace (c : Nat)
  /-- R298: A GET_REQ is checked and answered with GET_RSP packets. -/
  | getReqReceive (p : Packet) (half : Nat)
  /-- R300: An ATOMIC_REQ is performed atomically, logged and answered with ATOMIC_RSP. -/
  | atomicReqReceive (p : Packet) (half : Nat)
  /-- R302: A whole LEDGER_ADD packet adds its words in ascending order. -/
  | ledgerAddReceive (p : Packet) (half : Nat)
  /-- R309: A RESEND_REQ makes the sender resend every packet whose bit is clear. -/
  | resendReqReceive (p : Packet) (half : Nat)
  /-- R298: A GET_RSP is placed at the requester's destination for that message. -/
  | getRspReceive (p : Packet)
  /-- R299: An ATOMIC_RSP writes the old value to LOCAL and completes the atomic. -/
  | atomicRspReceive (p : Packet)
  /-- R299: A COMPLETION ends a message and may advance COMP_CNT. -/
  | completionReceive (p : Packet)
  /-- R324: A NACK freezes the context on a violation or puts it in ERROR. -/
  | nackReceive (p : Packet)
  /-- R309: A tracker sees no new packet for 2 ms and sends RESEND_REQ, or abandons the message. -/
  | trackerIdleTimeout (c id : Nat)
  /-- R310: A message without completion or RESEND_REQ for MSG_TIMEOUT is sent again or fails. -/
  | msgTimeout (c id : Nat)
  /-- R311: A packet refused with BUSY is sent again after 10 µs. -/
  | busyResend (c id : Nat)
  /-- R314: A context fetch into the cache completes and waiting packets are checked in arrival order. -/
  | ctxFetchDone (c : Nat) (auth : Bool)
  /-- R319: Writing GMA_WIN_CTRL.ENABLE = 1 runs the entry check and starts admission. -/
  | winEnable (m : Master) (w : Nat)
  /-- R319: Writing GMA_WIN_CTRL.ENABLE = 0 stops admission and drains accepted packets. -/
  | winDisable (m : Master) (w : Nat)
  /-- R319: Every 32 µs an enabled window is checked against GMA_WIN_REF and disabled on mismatch. -/
  | winCrcCheck (w : Nat)
  /-- R326: A write to GMA_BAR_ARRIVE counts a local arrival at a barrier group. -/
  | barArriveWrite (m : Master) (g : Nat)
  /-- R341: Writing GMA_BAR_CFG.ENABLE 0 to 1 sets GEN and ARRIVED to 0. -/
  | barGroupEnable (m : Master) (g : Nat) (on : Bool)
  /-- R327: A child's BARRIER_ARRIVE is counted and the member arrives at its parent or releases as root. -/
  | barrierArriveReceive (n : Nat) (p : Packet)
  /-- R327: A BARRIER_RELEASE is forwarded, local waiters are released and GEN advances. -/
  | barrierReleaseReceive (n : Nat) (p : Packet)
  /-- R329: A whole REDUCE_UP packet is combined with ledger_add and forwarded or written at the root. -/
  | reduceUpReceive (n : Nat) (p : Packet)
  /-- R329: A REDUCE_DOWN total is written at the member's result address and forwarded. -/
  | reduceDownReceive (n : Nat) (p : Packet)
  /-- R345: Writing MOD_PART_CFG.ENABLE = 1 enables the partition's tiles. -/
  | partitionEnable (m : Master) (p : Nat)
  /-- R346: Writing MOD_PART_CFG.ENABLE = 0 disables every tile of the partition and drains it. -/
  | partitionDisable (m : Master) (p : Nat)
  /-- R349: Writing MOD_JOB_CFG.ENABLE = 1 enters FORMING and sends JOIN to the coordinator. -/
  | jobSlotEnable (m : Master) (j : Nat)
  /-- R349: Writing MOD_JOB_CFG.ENABLE = 0 returns the slot to IDLE. -/
  | jobSlotDisable (m : Master) (j : Nat)
  /-- R349: The coordinator records a JOIN and sends FORMED once every member has joined matching. -/
  | joinReceive (src job count digest : Nat)
  /-- R349: FORMED arrives and the slot becomes ACTIVE. -/
  | formedReceive (src job : Nat)
  /-- R350: FORMED has not arrived 10 s after ENABLE and the slot enters BROKEN. -/
  | joinTimeout (j : Nat)
  /-- R353: Writing FOLLOW_SLOWEST applies or removes the straggler limit on the slot's tiles. -/
  | followSlowestWrite (m : Master) (j : Nat) (on : Bool)
  /-- R352: A PACE_NOTICE updates the straggler table and is forwarded on the tree. -/
  | paceNoticeReceive (n : Nat) (p : Packet)
  /-- R404: A tile of the slot has been throttled for 1 ms and the member sends a PACE_NOTICE. -/
  | throttleDetect (j : Nat)
  /-- R351: A throttled member repeats its notice every 10 ms. -/
  | paceNoticeRepeat (j : Nat)
  /-- R404: No tile has been throttled for 10 ms and a notice with REASON 0 is sent. -/
  | throttleRelease (j : Nat)
  /-- R352: A straggler entry without refresh for 50 ms expires. -/
  | stragglerExpiry (j module : Nat)
  /-- R354: Writing MOD_STREAM_CTRL.ENABLE = 1 starts frame scheduling or is refused. -/
  | streamEnable (m : Master) (p : Nat)
  /-- R355: At each 1 µs tick the scheduler admits or skips the undecided frame. -/
  | streamTick (p : Nat)
  /-- R356: The lead core writes MOD_STREAM_DONE, ending the frame as DONE or LATE. -/
  | streamFrameDone (m : Master) (p v : Nat)
  /-- R381: A write of MOD_PART_STEP_HI makes the step value take effect. -/
  | partStepWrite (m : Master) (p : Nat) (v : Word)
  /-- R366: The coordinator's step reaches k × INTERVAL − LEAD and a round starts. -/
  | ckptStepTrigger (j : Nat)
  /-- R366: TIMER seconds have passed since the last round and a round starts. -/
  | ckptTimerTrigger (j : Nat)
  /-- R366: MOD_CKPT_CFG.TRIGGER or 0x9011 starts a round at the coordinator. -/
  | ckptManualTrigger (m : Master) (j : Nat)
  /-- R368: A member receives CK_QUIESCE, sets HOLD and TARGET, or answers CK_TOO_LATE. -/
  | ckQuiesce (job gen step idx retain : Nat) (via : Option Nat)
  /-- R368: The member's step equals N with tiles idle and no message outstanding; it sends CK_QUIESCED. -/
  | memberQuiesced (j : Nat)
  /-- R369: The coordinator records a CK_QUIESCED and sends CK_WRITE when all have quiesced. -/
  | ckQuiesced (src job gen step : Nat)
  /-- R369: The coordinator aborts with TOO_LATE and restarts the round. -/
  | ckTooLate (src job gen step : Nat)
  /-- R371: A member receives CK_WRITE and writes its shards. -/
  | ckWrite (job gen : Nat) (via : Option Nat)
  /-- R368: The member's last shard write completes on medium and it sends CK_WRITTEN or CK_FAILED. -/
  | shardWritesDone (j : Nat)
  /-- R375: The coordinator records shard entries and, when all arrive, writes the manifest and sends CK_RESUME. -/
  | ckWritten (src job gen : Nat) (entries : List (List Byte))
  /-- R370: The coordinator receives CK_FAILED and aborts the round. -/
  | ckFailed (src job gen reason : Nat)
  /-- R368: A member clears HOLD and wakes held lectern cores. -/
  | ckResume (job gen : Nat) (via : Option Nat)
  /-- R368: A member ends its part of the round and clears HOLD. -/
  | ckAbort (job gen reason : Nat) (via : Option Nat)
  /-- R375: A member learns that the generation is committed. -/
  | ckCommitted (job gen : Nat) (via : Option Nat)
  /-- R370: Not every member has quiesced 60 s after CK_QUIESCE; the round aborts. -/
  | quiesceTimeout (j : Nat)
  /-- R370: Not every member has written 600 s after CK_WRITE; the round aborts. -/
  | writeTimeout (j : Nat)
  /-- R375: The last block of the manifest write completes and the generation is committed. -/
  | manifestCommit (j : Nat)
  /-- R375: The replica manifest write ends and CK_COMMITTED is sent, or REPLICA_FAILED is logged. -/
  | replicaWriteDone (j : Nat) (ok : Bool)
  /-- R377: A member receives RS_BEGIN and requests the shard parts its map needs. -/
  | rsBegin (job gen digest : Nat) (marks : List (List Byte)) (via : Option Nat)
  /-- R377: A holder reads and verifies a requested shard and sends its parts. -/
  | shardPartRequest (src job gen step nsid lba length digest : Nat) (parts : List (Nat × Nat)) (blocks : Option (List Byte))
  /-- R377: A member writes received shard parts into its map entries. -/
  | shardPartReceive (src job gen lba off reason : Nat) (data : List Byte)
  /-- R377: The coordinator records RS_DONE and broadcasts RS_RESUME when all have replied. -/
  | rsDone (src job gen : Nat)
  /-- R377: A member's failure moves the group to the next older candidate or fails the restore. -/
  | rsFailed (src job gen reason : Nat) (via : Option Nat)
  /-- R378: A member writes the restored STEP and clears HOLD. -/
  | rsResume (job gen step : Nat) (via : Option Nat)
  /-- R377: A holder does not answer within 10 s and the generation fails. -/
  | holderTimeout (j : Nat)
  /-- R377: Not every member replied RS_DONE within 600 s; the next candidate is tried. -/
  | restoreTimeout (j : Nat)
  /-- R385: Input voltage and current are sampled every 1 µs. -/
  | inputSample (mv ma : Nat)
  /-- R385: A 1 ms window ends and P_1ms and P_1s are updated. -/
  | p1msWindow
  /-- R396: Every 100 µs the controller divides the input budget and sets each tile's budget term. -/
  | budgetTick (keep fixed : Nat) (draw : List (List Nat)) (calm : List Nat)
  /-- R397: A write of PWR_CAP sets or removes a cap, or is refused with CAP_REFUSED. -/
  | capWrite (m : Master) (v : Nat)
  /-- R399: Every 10 µs the duty of paced arrays is raised. -/
  | squallDutyStep (duty : Nat)
  /-- R400: A fall in load beyond the bus allowance starts filler work on idle arrays. -/
  | lullFillStart (t : Nat)
  /-- R401: HOLD ends and fill decays at the slew limit. -/
  | lullHoldExpiry
  /-- R401: Fill has decayed to zero and stops. -/
  | lullFillEnd (t rise : Nat)
  /-- R403: Local supply falls below the droop threshold and the tile clock stretches. -/
  | droopDetect (t : Nat)
  /-- R403: A die's droop limit expires after 10 ms without renewal. -/
  | droopLimitExpiry (d : Nat)
  /-- R393: Every 24 hours the ageing monitor measures margin and may lower a ceiling. -/
  | ageingCheck (t : Nat) (below : Bool)
  /-- R406: Input below WARN for 5 µs starts a brown-out warning. -/
  | brownoutWarning
  /-- R407: Input at or above WARN + 1 V for 10 ms ends the warning. -/
  | brownoutRecovered
  /-- R408: Input below 33.0 V for 5 µs runs the power-fail sequence on the hold-up store. -/
  | powerFail
  /-- R408: The write buffer flush and flash writes complete and the module goes OFF. -/
  | powerFailFlushDone
  /-- R409: The hold-up store falls to 5 J and the flush stops with FLUSH_INCOMPLETE. -/
  | holdupReserveReached
  /-- R654: Input above 62 V for 5 µs opens the switch and runs R408. -/
  | overvoltage
  /-- R410: Every 1 ms the sensors are read and thermal throttling and emergencies are applied. -/
  | sensorRead (temps : List (Option Int)) (hbm : List Nat)
  /-- R411: 100 ms after an emergency, a junction still at 110 °C calms every tile. -/
  | emergencyRecheck
  /-- R411: A comparator at 115 °C asserts THERMTRIP_N and removes the core rails. -/
  | thermalTrip (i : Nat)
  /-- R412: Every second the coolant flow is estimated and COOLANT_LOW or INLET_RANGE may set. -/
  | coolantEstimate
  /-- R413: LEAK_N low for 1 ms sets LEAK and applies LEAK_ACTION. -/
  | leakDetect
  /-- R413: LEAK_N high for 1 s clears LEAK. -/
  | leakClear
  /-- R451: SPDM GET_VERSION request. -/
  | getVersion (req : Nat)
  /-- R451: SPDM GET_CAPABILITIES request. -/
  | getCapabilities (req : Nat)
  /-- R451: SPDM NEGOTIATE_ALGORITHMS request. -/
  | negotiateAlgorithms (req asym hash meas dhe aead reqAsym : Nat)
  /-- R451: SPDM GET_DIGESTS request. -/
  | getDigests (req : Nat)
  /-- R451: SPDM GET_CERTIFICATE request for slot 0. -/
  | getCertificate (req slot off len : Nat)
  /-- R451: SPDM CHALLENGE request. -/
  | challenge (req slot : Nat) (nonce : List Byte)
  /-- R452: SPDM GET_MEASUREMENTS returns signed measurement blocks. -/
  | getMeasurements (req op : Nat) (signed : Bool) (nonce : List Byte)
  /-- R451: SPDM KEY_EXCHANGE opens a session, or is refused beyond 64. -/
  | keyExchange (req reqId : Nat) (secret : List Byte)
  /-- R451: SPDM FINISH completes session establishment. -/
  | finish (sess : Nat) (key : Option (List Byte)) (ok : Bool)
  /-- R451: SPDM HEARTBEAT request. -/
  | heartbeat (sess : Nat)
  /-- R451: SPDM KEY_UPDATE request. -/
  | keyUpdate (sess op : Nat)
  /-- R451: SPDM END_SESSION request. -/
  | endSession (sess : Nat)
  /-- R451: SPDM CHUNK_SEND request. -/
  | chunkSend (req part : Nat) (last : Bool) (bs : List Byte)
  /-- R451: SPDM CHUNK_GET request. -/
  | chunkGet (req part : Nat)
  /-- R451: An unsupported SPDM request receives an error response. -/
  | spdmUnsupported (req code : Nat)
  /-- R440: Binds an OWNER to the session requester's public key. -/
  | bind (sess owner : Nat)
  /-- R441: Unwraps a key into a FREE page of a bound owner. -/
  | keyImport (sess owner page typ usage : Nat) (sealedOnly : Bool) (wrapped : List Byte)
  /-- R440: Derives a TN child key into a FREE page. -/
  | keyDerive (sess owner page child typ usage : Nat) (ctx : List Byte)
  /-- R438: Moves a key page to ZEROISING. -/
  | keyRelease (sess page : Nat)
  /-- R440: Returns the state and attributes of the bound owner's pages. -/
  | keyQuery (sess owner : Nat)
  /-- R433: Unmaps, zeroes and marks a partition sealed. -/
  | seal (sess p : Nat)
  /-- R440: Clears a sealed partition and removes the mark. -/
  | unseal (sess p : Nat)
  /-- R438: Jobs on a ZEROISING page end, the page is zeroed and becomes FREE. -/
  | keyZeroiseDone (i : Nat)
  /-- R446: A doorbell write sets the producer of a cipher job ring. -/
  | cipherDoorbell (m : Master) (r v : Nat)
  /-- R447: A cipher job encrypts with AES-256-GCM and appends the tag. -/
  | gcmEnc (r : Nat) (bad : Option (Nat × Nat))
  /-- R447: A cipher job decrypts with AES-256-GCM and checks the tag. -/
  | gcmDec (r : Nat) (bad : Option (Nat × Nat))
  /-- R447: A cipher job encrypts with AES-256-XTS. -/
  | xtsEnc (r : Nat) (bad : Option (Nat × Nat))
  /-- R447: A cipher job decrypts with AES-256-XTS. -/
  | xtsDec (r : Nat) (bad : Option (Nat × Nat))
  /-- R447: A cipher job computes a SHA-384 digest. -/
  | sha384Job (r : Nat) (bad : Option (Nat × Nat))
  /-- R446: A cipher job ends and writes its completion record. -/
  | cipherJobComplete (r : Nat)
  /-- R443: An engine's 1 ms known-answer test ends; it returns or is parked. -/
  | engineSelfTestDone (e : Nat) (ok : Bool)
  /-- R454: An IDE_KM message over SPDM programs or refreshes IDE stream keys. -/
  | ideKmRequest (sess : Nat) (op : IdeKm)
  /-- R455: A covering IDE stream leaves the secure state and its functions act as with BME cleared. -/
  | ideStreamInsecure (stream : Nat)
  /-- R480: A PCIe configuration request is served or completed with CRS. -/
  | configRequest (f tag : Nat) (r : CfgReq)
  /-- R468: A host read through the HBM aperture. -/
  | bar2Read (f tag off len : Nat)
  /-- R468: A host write through the HBM aperture. -/
  | bar2Write (f off : Nat) (bs : List Byte)
  /-- R461: A PCIe AtomicOp on BAR 2 performed atomically. -/
  | bar2Atomic (f tag off width : Nat) (op : PcieAtomic)
  /-- R469: A completion for a master read arrives and is reassembled by tag and offset. -/
  | readCompletion (f tag off : Nat) (bs : List Byte) (ok : Bool)
  /-- R470: A master read reaches its completion timeout and ends with an error. -/
  | completionTimeout (f tag : Nat)
  /-- R477: A completion for a pre-FLR request is discarded, reported and logged. -/
  | unexpectedCompletion (f tag : Nat)
  /-- R471: An Invalidate Request refuses matching entries to new uses. -/
  | atsInvalidate (f : Nat) (pasid : Option Nat) (page pages : Nat)
  /-- R471: Uses of matching entries drain and the Invalidate Completion is sent. -/
  | atsInvalidateDone (f : Nat)
  /-- R472: Software reports consumed event records through the consumer doorbell. -/
  | eventConsumerDoorbell (m : Master) (f v : Nat)
  /-- R474: The moderation timer expires and one message per vector is sent. -/
  | msixModerationExpiry (f : Nat)
  /-- R474: A vector is unmasked and its pending message is sent. -/
  | msixUnmask (f vec addr data : Nat)
  /-- R475: Bus Master Enable is cleared and the function stops issuing requests. -/
  | bmeClear (f : Nat)
  /-- R475: Bus Master Enable is set and held events and MSI-X are sent. -/
  | bmeSet (f : Nat)
  /-- R476: A function-level reset stops the function and awaits outstanding reads. -/
  | flr (f : Nat)
  /-- R476: Outstanding reads end or 90 ms pass, the function state is reset and the FLR completes. -/
  | flrResetState (f : Nat) (late : Bool)
  /-- R476: Once a context's outstanding messages end after an FLR, firmware resets it to message ID 0. -/
  | ctxFlrReset (c : Nat)
  /-- R478: A function moves between D0, D3hot and D3cold. -/
  | powerStateChange (f d : Nat)
  /-- R479: PERST_N, hot reset or link disable resets the endpoint as an FLR of every function. -/
  | perstAssert
  /-- R480: PERST_N deasserts and the endpoint starts link training. -/
  | perstDeassert
  /-- R480: The endpoint becomes ready and sends Device Readiness Status. -/
  | endpointReady
  /-- R494: Writing GO submits the set-up page request buffer to firmware. -/
  | mailboxGo (f : Nat)
  /-- R494: Returns the function's resource set and weights. -/
  | getResources (f : Nat)
  /-- R345: Creates a partition, loading its images. -/
  | partCreate (f : Nat) (r : PartReq)
  /-- R494: Destroys a partition. -/
  | partDestroy (f p : Nat)
  /-- R287: Creates a queue context. -/
  | ctxCreate (f c : Nat) (r : CtxReq)
  /-- R290: Resets a context out of ERROR or FROZEN. -/
  | ctxReset (f c msgId : Nat)
  /-- R313: Pins a context in the cache. -/
  | ctxPin (f c : Nat) (on : Bool)
  /-- R494: Destroys a queue context. -/
  | ctxDestroy (f c : Nat)
  /-- R494: Writes one inbound window entry. -/
  | winWrite (f w ctrl lo hi src mask ref : Nat)
  /-- R494: Writes one barrier group entry. -/
  | barrierWrite (f g cfg childLo childHi : Nat)
  /-- R446: Creates a cipher job ring. -/
  | ringCreate (f r : Nat) (part : Option Nat) (base log2 cpl vec : Nat)
  /-- R494: Destroys a cipher job ring. -/
  | ringDestroy (f r : Nat)
  /-- R468: Maps a BAR 2 slot to an open granule. -/
  | slotMap (f slot g : Nat)
  /-- R468: Unmaps a BAR 2 slot. -/
  | slotUnmap (f slot : Nat)
  /-- R472: Sets the function's event ring and moderation. -/
  | eventRingSet (f iova pasid log2 moderation : Nat)
  /-- R487: Provisions a VF with its whole resource set or nothing. -/
  | vfCreate (f : Nat) (body : List Byte)
  /-- R488: Destroys a VF's objects and clears its resources. -/
  | vfDestroy (f v : Nat)
  /-- R496: Changes a VF's HBM and send weights. -/
  | vfSetQos (f v hbm send : Nat)
  /-- R499: Clears a VF's FROZEN bit. -/
  | vfUnfreeze (f v : Nat)
  /-- R490: VF Enable or NumVFs changes, making VFs ABSENT or present. -/
  | vfEnableChange (pf : Nat) (on : Bool) (num : Nat)
  /-- R503: Opens an SPDM session with the target and sends the migration key. -/
  | movePrepare (f v dst dstVf : Nat) (trusted : Bool)
  /-- R504: Starts HALTING of the source VF. -/
  | moveFreeze (f v : Nat)
  /-- R504: All issued work of the VF has ended and it enters HALTED. -/
  | moveHalted (v : Nat)
  /-- R505: Starts sending the state stream. -/
  | moveSave (f v : Nat)
  /-- R504: The last chunk is sent and the source enters SAVED. -/
  | moveSaved (v : Nat)
  /-- R507: Starts the target's acceptance of chunks. -/
  | moveRestore (f v src srcVf : Nat) (key : List Byte)
  /-- R507: The target verifies and applies a state chunk, and at END completes or fails the restore. -/
  | moveChunkReceive (v : Nat) (bs : List Byte)
  /-- R507: 10 s without a chunk fails the restore. -/
  | moveChunkTimeout (v : Nat)
  /-- R508: Destroys the source VF's objects and clears its resources. -/
  | moveCommit (f v : Nat)
  /-- R508: Returns the source VF to READY and resumes its tiles. -/
  | moveCancel (f v : Nat)
  /-- R528: A submission queue tail doorbell makes commands available to fetch. -/
  | nvmeSqDoorbell (ctrl qid tail : Nat)
  /-- R528: A completion queue head doorbell frees completion entries. -/
  | nvmeCqDoorbell (ctrl qid head : Nat)
  /-- R514: NVMe admin Create I/O Submission Queue. -/
  | createIoSq (h : NvHdr) (qid size cq prio : Nat) (contig : Bool)
  /-- R514: NVMe admin Create I/O Completion Queue. -/
  | createIoCq (h : NvHdr) (qid size vec : Nat) (ien contig : Bool)
  /-- R534: NVMe admin Delete I/O Submission Queue, aborting its commands. -/
  | deleteIoSq (h : NvHdr) (qid : Nat)
  /-- R514: NVMe admin Delete I/O Completion Queue. -/
  | deleteIoCq (h : NvHdr) (qid : Nat)
  /-- R514: NVMe admin Get Log Page. -/
  | getLogPage (h : NvHdr) (lid : Nat)
  /-- R514: NVMe admin Identify. -/
  | identify (h : NvHdr) (cns : Nat)
  /-- R529: NVMe admin Abort. -/
  | nvmeAbort (h : NvHdr) (sq cid : Nat)
  /-- R513: NVMe admin Set Features, including Number of Queues. -/
  | setFeatures (h : NvHdr) (fid value : Nat)
  /-- R514: NVMe admin Get Features. -/
  | getFeatures (h : NvHdr) (fid vec : Nat)
  /-- R514: NVMe admin Asynchronous Event Request. -/
  | asyncEventRequest (h : NvHdr)
  /-- R519: NVMe Namespace Management creates or deletes a STANDARD namespace. -/
  | namespaceManagement (h : NvHdr) (del : Bool) (nsze : Nat)
  /-- R519: NVMe Namespace Attachment attaches or detaches a namespace. -/
  | namespaceAttachment (h : NvHdr) (detach : Bool) (ctrls : List Nat)
  /-- R535: NVMe Firmware Image Download stores an image piece. -/
  | firmwareImageDownload (h : NvHdr) (off : Nat) (bs : List Byte)
  /-- R535: NVMe Firmware Commit writes or marks a firmware slot. -/
  | firmwareCommit (h : NvHdr) (action slot : Nat)
  /-- R514: An unsupported NVMe opcode completes with Invalid Command Opcode. -/
  | nvmeUnsupported (h : NvHdr) (op : Nat)
  /-- R533: NVMe Flush destages covered writes and flushes the drives. -/
  | nvmeFlush (h : NvHdr)
  /-- R524: NVMe Write encrypts blocks and completes buffered or on medium. -/
  | nvmeWrite (h : NvHdr) (slba nlb : Nat) (fua : Bool) (data : Option (List Byte)) (engine : Option Nat)
  /-- R522: NVMe Read returns decrypted blocks from buffer or drive. -/
  | nvmeRead (h : NvHdr) (slba nlb : Nat) (transfer : Bool) (engine : Option Nat)
  /-- R530: NVMe Write Zeroes stores encrypted zero blocks. -/
  | writeZeroes (h : NvHdr) (slba nlb : Nat) (fua : Bool) (engine : Option Nat)
  /-- R530: NVMe Dataset Management passes Deallocate for whole stripe units. -/
  | datasetManagement (h : NvHdr) (deallocate : Bool) (ranges : List (Nat × Nat))
  /-- R515: CC.EN set enables an NVMe controller. -/
  | controllerEnable (ctrl ams asqs acqs : Nat)
  /-- R534: CC.EN cleared aborts queued commands and deletes I/O queues. -/
  | controllerReset (ctrl : Nat)
  /-- R534: CC.SHN = 01b destages and flushes the controller's namespaces. -/
  | normalShutdown (ctrl : Nat)
  /-- R534: CC.SHN = 10b acts as a controller reset with destage continuing. -/
  | abruptShutdown (ctrl : Nat)
  /-- R524: A buffered block is written to its drive in the background. -/
  | destageBlock (ns lba : Nat)
  /-- R524: A namespace with no buffered block for 1 s has DIRTY cleared. -/
  | dirtyClear (ns : Nat)
  /-- R525: The write buffer mode changes between ON, WRITE_THROUGH and OFF. -/
  | wbModeChange (pct energy : Nat)
  /-- R518: A drive fails or loses link for over 1 s and its namespaces enter FAILED. -/
  | driveFailure (k : Nat)
  /-- R585: A drive that becomes ready later joins and its namespaces become available. -/
  | driveJoin (k : Nat) (d : DriveInfo)
  /-- R536: A doorbell write sets the producer of a partition's feed ring. -/
  | feedDoorbell (m : Master) (p v : Nat)
  /-- R537: A feed READ descriptor reads namespace blocks into local memory. -/
  | feedRead (p : Nat) (engine : Option Nat)
  /-- R537: A feed ends, writes its record and increments the signal counter. -/
  | feedComplete (p n : Nat)
  /-- R545: A front port link comes up after negotiation or goes down. -/
  | frontPortLinkChange (p : Nat) (up optical : Bool) (partner lanes : Nat)
  /-- R547: A received frame is parsed, looked up and handled by its rule or a default action. -/
  | frameReceive (p : Nat) (bs : List Byte) (fcs : Bool) (ns : Nat) (bad : Option Nat)
  /-- R562: A received PFC frame pauses a priority's egress queue. -/
  | pfcFrameReceive (p mask : Nat) (times : List Nat)
  /-- R562: A PFC pause expires and the queue is served again. -/
  | pfcPauseExpiry (p prio : Nat)
  /-- R553: Setting a rule's VALID checks its action and leaves it 0 with RULE_REFUSED on failure. -/
  | ruleValidate (m : Master) (p r v : Nat)
  /-- R557: Every 1 µs each policer bucket gains tokens. -/
  | policerRefill (p : Nat)
  /-- R557: Writing a policer entry refills its bucket to BURST. -/
  | policerWrite (m : Master) (p i k v : Nat)
  /-- R559: The owner reports consumed RX ring packets. -/
  | rxConsumerDoorbell (m : Master) (p r v : Nat)
  /-- R561: A producer doorbell makes TX descriptors available. -/
  | txDoorbell (m : Master) (p r v : Nat)
  /-- R561: A TX descriptor's frame is encrypted as asked and queued for egress. -/
  | txFrame (p r : Nat) (bad : Option Nat)
  /-- R562: The egress scheduler sends the next packet by strict priority and DRR. -/
  | egressDequeue (p : Nat)
  /-- R566: A RoCE SEND descriptor sends a message. -/
  | roceSend (c : Nat)
  /-- R566: A RoCE RDMA WRITE descriptor. -/
  | roceWrite (c : Nat)
  /-- R566: A RoCE RDMA READ descriptor. -/
  | roceRead (c : Nat)
  /-- R566: A RoCE RDMA WRITE with immediate descriptor. -/
  | roceWriteImm (c : Nat)
  /-- R567: An inbound RoCE packet is checked and placed or answered for its context. -/
  | rocePacketReceive (p srcQp : Nat) (bs : List Byte)
  /-- R566: An ACK or NAK for a RoCE context completes, retransmits or fails operations. -/
  | roceAckReceive (p srcQp : Nat) (bs : List Byte)
  /-- R568: A received CNP halves the context's send rate. -/
  | cnpReceive (p srcQp : Nat) (bs : List Byte)
  /-- R564: The retransmission timeout expires and go-back-N resends, or retries are exhausted. -/
  | roceRetryTimeout (c : Nat)
  /-- R568: Every 55 µs without a CNP the rate rises by 1 % of the port rate. -/
  | roceRateIncrease (c : Nat)
  /-- R567: The owner returns consumed receive slots. -/
  | roceReceiveDoorbell (m : Master) (c v : Nat)
  /-- R570: A selection entry's interval elapses and a queue sample is written to the ring. -/
  | telSample (i delay : Nat)
  /-- R571: The consumer reports telemetry records consumed. -/
  | telConsumerDoorbell (m : Master) (v : Nat)
  /-- R579: Input reaches 40 V and the module enters STANDBY. -/
  | inputApplied
  /-- R580: PWR_EN asserted 1 ms with input in range begins the start sequence. -/
  | startSequence (r : StartReport)
  /-- R580: A start step reaches its limit and units not yet passed are parked. -/
  | startStepLimit
  /-- R659: PWR_EN deasserted for 1 ms stops the module into STANDBY. -/
  | pwrEnDeassert
  /-- R652: REFCLK stops and the clock generator enters holdover. -/
  | refclkLoss
  /-- R652: REFCLK returns and the generator relocks. -/
  | refclkReturn
  /-- R601: A circulation core's watchdog runs 20 ms and the librarian restarts the core. -/
  | circWatchdogExpiry (k : Nat)
  /-- R601: A reloaded circulation core resumes and takes latched requests. -/
  | coreRestartDone (k : Nat)
  /-- R604: The librarian watchdog runs 500 ms and hardware resets the librarian core alone. -/
  | libWatchdogExpiry
  /-- R607: A firmware trace point with its mask bit set records a log entry. -/
  | tracePoint (k n : Nat)
  /-- R614: 60 s after EMERGENCY falls, a deferred activation is rechecked and run. -/
  | deferredActivationDue
  /-- R615: With both slots failed, a bundle from the I3C bus owner is written to SLOT_A. -/
  | recoveryBundle (data : List Byte)
  /-- R631: A dictionary READ returns value bytes from a snapshot. -/
  | dictRead (d : DHdr)
  /-- R632: A dictionary WRITE segment for an object without a row of its own. -/
  | dictWrite (d : DHdr) (data : List Byte)
  /-- R631: Returns an object's type, access, persistence and default. -/
  | describe (d : DHdr)
  /-- R631: Returns the following existing index:subindex pairs. -/
  | list (d : DHdr)
  /-- R631: Returns a fresh 48-byte nonce for the session. -/
  | dictChallenge (d : DHdr)
  /-- R636: Authenticates a role by signature over the session nonce. -/
  | login (d : DHdr) (data : List Byte) (sigOk tokenOk : Bool)
  /-- R631: Ends the session's role. -/
  | logout (d : DHdr)
  /-- R629: A TLS connection or I3C endpoint opens a dictionary session or is refused. -/
  | sessionOpen (transport : Nat)
  /-- R629: A session idle for 15 minutes is ended. -/
  | sessionIdleTimeout (n : Nat)
  /-- R632: A 10 s gap discards a segmented transfer or read snapshot. -/
  | segmentGapTimeout (n : Nat)
  /-- R637: A 60 s LOGIN bar on a transport ends. -/
  | loginBarExpiry (transport : Nat)
  /-- R226: Dictionary SCRUB_GO runs a scrub through the owning scrubber. -/
  | scrubGo (d : DHdr) (data : List Byte)
  /-- R286: Writing the EDDY object disables, programs and re-enables a link. -/
  | dictEddy (d : DHdr) (data : List Byte)
  /-- R286: Writing FAULT_INJECT programs a link's fault injector. -/
  | dictFaultInject (d : DHdr) (data : List Byte)
  /-- R286: Writing ROUTE_TABLES loads compiled tables into the inactive bank and swaps. -/
  | routeTables (d : DHdr) (data : List Byte) (tables : List (Bool × Nat × Nat))
  /-- R517: Writes a fresh label to a drive and frees its extents. -/
  | driveFormat (d : DHdr) (data : List Byte)
  /-- R519: Creates a namespace with the given class, key source and stripe. -/
  | nsCreate (d : DHdr) (data : List Byte) (a : NsAsk)
  /-- R521: Deletes a namespace and frees its extents. -/
  | nsDelete (d : DHdr) (data : List Byte)
  /-- R519: Attaches or detaches a namespace to a controller. -/
  | nsAttach (d : DHdr) (data : List Byte) (nsid ctrl : Nat)
  /-- R520: Binds a key page to a namespace, checking its KCV. -/
  | nsKeyBind (d : DHdr) (data : List Byte) (nsid page : Nat)
  /-- R526: Clears a namespace's LOST_WRITES flag. -/
  | nsClearLost (d : DHdr) (data : List Byte)
  /-- R362: Writing a JOB_GROUP object forms a job slot. -/
  | jobGroup (d : DHdr) (data : List Byte) (job notice : Nat) (follow : Bool) (members : List Nat)
  /-- R362: Writing a PARTITION object creates or changes a partition. -/
  | partition (d : DHdr) (data : List Byte) (owner : Nat) (r : PartReq)
  /-- R384: Writing CKPT_TRIGGER at the coordinator starts a round. -/
  | ckptTrigger (d : DHdr) (data : List Byte)
  /-- R377: Writing the RESTORE object starts a restore of a generation. -/
  | restore (d : DHdr) (data : List Byte) (j job coord replica gen staging length : Nat) (manifests : List (List Byte))
  /-- R512: Writing the VF_CREATE object performs VF_CREATE. -/
  | dictVfCreate (d : DHdr) (data : List Byte)
  /-- R512: Writing the VF_DESTROY object performs VF_DESTROY. -/
  | dictVfDestroy (d : DHdr) (data : List Byte)
  /-- R591: Writing RESTART destages, takes links down and restarts the module from step 2. -/
  | restart (d : DHdr) (data : List Byte)
  /-- R601: Writing CORE_RESTART restarts a named circulation core. -/
  | coreRestart (d : DHdr) (data : List Byte)
  /-- R613: Downloads a bundle into the inactive slot. -/
  | bundleImage (d : DHdr) (data : List Byte)
  /-- R613: Downloads a full or delta catalogue into the inactive copy. -/
  | catalogueImage (d : DHdr) (data : List Byte)
  /-- R613: Marks staged areas PENDING in the boot record. -/
  | commit (d : DHdr) (data : List Byte)
  /-- R614: Restarts into the PENDING areas, or defers during an emergency. -/
  | activate (d : DHdr) (data : List Byte)
  /-- R614: Ends a deferral and removes the PENDING mark. -/
  | cancel (d : DHdr) (data : List Byte)
  /-- R642: Writing MODULE_TIME sets module time and makes TIME_VALID 1. -/
  | moduleTime (d : DHdr) (data : List Byte)
  /-- R642: Enables the IEEE 1149.1 port until the next start, unless a sealed context exists. -/
  | debugEnable (d : DHdr) (data : List Byte)
  /-- R640: Clears every installer and operator key. -/
  | credentialReset (d : DHdr) (data : List Byte)
  /-- R661: SETDASA or ENTDAA assigns the module's I3C dynamic address. -/
  | i3cAddressAssign (a : Nat)
  /-- R662: IEEE 1149.1 activity acts only while DEBUG_ENABLE is 1. -/
  | jtagAccess (write : Bool) (addr : Nat) (v : Word)
  /-- R604: The reloaded librarian firmware resumes after its hardware reset, rebuilds its state and takes up waiting restarts, key exchanges and the on-return actions of R604. -/
  | librarianReturn
  /-- R524: A local drive posts the completion of a read, write, FUA write or Flush issued by the module, letting the host command, destage or feed proceed. -/
  | driveCompletion (n : Nat) (ok : Bool) (data : List Byte)
  /-- R483: The PCIe link of the endpoint finishes training into L0, or leaves L0 or L1 other than through a reset, setting PCE_BLK_ERR.LINK_DOWN. -/
  | endpointLinkChange (state speed width : Nat) (flit : Bool)
  /-- R514: The Interrupt Coalescing aggregation time of an NVMe completion queue expires and its pending interrupt is sent. -/
  | aggregationTimeExpiry (ctrl cq : Nat)
  /-- R403: The supply has stayed 1 % above the droop threshold for 32 stretched cycles and the tile clock stops stretching. -/
  | droopStretchEnd (t : Nat)
deriving DecidableEq, Repr

end Sys2Proof
end

