-- ==== Sys2Proof/Machine/RegMap.lean ====
section
/-!
DEFINITION. The register maps of the module, written from the maps of the chapters: the common header
(R49 to R53) and every block's registers (R39, R44, R99, R138 to R148, R186 to R191, R220 to R225, R270 to
R285, R332 to R341, R358 to R360, R381, R382, R416 to R430, R456 to R459, R481, R482, R509 to R511, R539 to
R543, R572 to R577, R592 to R594, R618 to R622). One row per register: its offset in the block, how often
it repeats (two dimensions of count and stride), whether it is guarded (R63), what gates its RWG fields
(R55, R58), and its fields with access code, reset value and the least and greatest encoding that the map
does not reserve (R48). A field whose write has a command of its own carries `trig`.
-/
namespace Sys2Proof.Machine

/-- The access codes of R14. -/
inductive AccCode where
  | rw | rwg | ro | wo | w1c | w1s | rc | wol
deriving DecidableEq, Repr

/-- One field of a register: bits `hi:lo`, its access code, its reset value, the least and greatest
encodings that are not reserved, and whether a write of it is the start of a command of its own. -/
structure FieldRow where
  hi : Nat
  lo : Nat
  acc : AccCode
  reset : Nat
  least : Nat
  greatest : Nat
  trig : Bool
deriving DecidableEq, Repr

/-- What gates the RWG fields of a register: its block's ACTIVE (R55); for registers gated per entry, the
bit of the entry's control register at the given offset (R58); for a route table bank, being the bank in
use (R263). -/
inductive Gate where
  | block
  | entry (ctl bit : Nat)
  | bank (b : Nat)
deriving DecidableEq, Repr

/-- One register of a block, with up to two dimensions of repetition. -/
structure RegRow where
  off : Nat
  count : Nat
  stride : Nat
  count2 : Nat
  stride2 : Nat
  guarded : Bool
  gate : Gate
  fields : List FieldRow
deriving DecidableEq, Repr

/-- The common header of R49 to R53; BLOCK_ERR is sixteen fields of one bit (R51). -/
def headerRows : List RegRow :=
  [ ⟨0xff00, 1, 0, 1, 0, false, .block, [⟨31, 16, .ro, 0x0, 0, 0xffff, false⟩, ⟨15, 8, .ro, 0x0, 0, 0xff, false⟩, ⟨7, 0, .ro, 0x0, 0, 0xff, false⟩]⟩,
    ⟨0xff04, 1, 0, 1, 0, false, .block, [⟨31, 31, .w1s, 0x0, 0, 0x1, true⟩, ⟨8, 8, .ro, 0x0, 0, 0x1, false⟩, ⟨2, 2, .rwg, 0x0, 0, 0x1, false⟩, ⟨1, 1, .rwg, 0x0, 0, 0x1, false⟩, ⟨0, 0, .rw, 0x0, 0, 0x1, true⟩]⟩,
    ⟨0xff08, 1, 0, 1, 0, false, .block, [⟨31, 31, .w1c, 0x0, 0, 0x1, false⟩, ⟨30, 30, .w1c, 0x0, 0, 0x1, false⟩, ⟨29, 29, .w1c, 0x0, 0, 0x1, false⟩, ⟨28, 28, .w1c, 0x0, 0, 0x1, false⟩, ⟨27, 27, .w1c, 0x0, 0, 0x1, false⟩, ⟨26, 26, .w1c, 0x0, 0, 0x1, false⟩, ⟨25, 25, .w1c, 0x0, 0, 0x1, false⟩, ⟨24, 24, .w1c, 0x0, 0, 0x1, false⟩, ⟨23, 23, .w1c, 0x0, 0, 0x1, false⟩, ⟨22, 22, .w1c, 0x0, 0, 0x1, false⟩, ⟨21, 21, .w1c, 0x0, 0, 0x1, false⟩, ⟨20, 20, .w1c, 0x0, 0, 0x1, false⟩, ⟨19, 19, .w1c, 0x0, 0, 0x1, false⟩, ⟨18, 18, .w1c, 0x0, 0, 0x1, false⟩, ⟨17, 17, .w1c, 0x0, 0, 0x1, false⟩, ⟨16, 16, .w1c, 0x0, 0, 0x1, false⟩, ⟨5, 5, .w1c, 0x0, 0, 0x1, false⟩, ⟨4, 4, .w1c, 0x0, 0, 0x1, false⟩, ⟨3, 3, .w1c, 0x0, 0, 0x1, false⟩, ⟨2, 2, .w1c, 0x0, 0, 0x1, false⟩, ⟨1, 1, .w1c, 0x0, 0, 0x1, false⟩]⟩,
    ⟨0xff0c, 1, 0, 1, 0, false, .block, [⟨31, 28, .ro, 0x0, 0, 0xf, false⟩, ⟨27, 27, .ro, 0x0, 0, 0x1, false⟩, ⟨23, 0, .ro, 0x0, 0, 0xffffff, false⟩]⟩,
    ⟨0xff10, 1, 0, 1, 0, false, .block, [⟨25, 0, .ro, 0x0, 0, 0x3ffffff, false⟩]⟩,
    ⟨0xff14, 1, 0, 1, 0, false, .block, [⟨31, 0, .rwg, 0x0, 0, 0xffffffff, false⟩]⟩,
    ⟨0xff18, 1, 0, 1, 0, false, .block, [⟨31, 0, .ro, 0x0, 0, 0xffffffff, false⟩]⟩ ]

/-- Registers of the MOD block: MOD_STS, MOD_START, MOD_PARKED0, MOD_PARKED1, MOD_PARKED2, MOD_HOLE_CAP0, MOD_HOLE_CAP1, MOD_HOLE_CAP2, MOD_PART_CFG, MOD_PART_TILES, MOD_PART_STS, MOD_PART_STEP_LO, MOD_PART_STEP_HI, MOD_JOB_ID, MOD_JOB_CFG, MOD_JOB_MEMBERS, MOD_JOB_COORD, MOD_JOB_STS, MOD_JOB_STRAG, MOD_JOB_STRAG_CNT, MOD_STREAM_CTRL, MOD_STREAM_PERIOD, MOD_STREAM_DEADLINE, MOD_STREAM_STEP. -/
def modRows0 : List RegRow :=
  [ ⟨0x0, 1, 0x0, 1, 0x0, false, .block, [⟨31, 31, .ro, 0x0, 0, 0x1, false⟩, ⟨30, 30, .ro, 0x0, 0, 0x1, false⟩, ⟨11, 8, .ro, 0x0, 0, 0xf, false⟩, ⟨3, 0, .ro, 0x0, 0, 0xf, false⟩]⟩,
    ⟨0x4, 1, 0x0, 1, 0x0, false, .block, [⟨31, 16, .ro, 0x0, 0, 0xffff, false⟩, ⟨11, 8, .ro, 0x0, 0, 0xf, false⟩, ⟨7, 4, .ro, 0x0, 0, 0xf, false⟩, ⟨3, 0, .ro, 0x0, 0, 0xf, false⟩]⟩,
    ⟨0x10, 1, 0x0, 1, 0x0, false, .block, [⟨31, 16, .ro, 0x0, 0, 0xffff, false⟩, ⟨15, 0, .ro, 0x0, 0, 0xffff, false⟩]⟩,
    ⟨0x14, 1, 0x0, 1, 0x0, false, .block, [⟨31, 24, .ro, 0x0, 0, 0xff, false⟩, ⟨23, 0, .ro, 0x0, 0, 0xffffff, false⟩]⟩,
    ⟨0x18, 1, 0x0, 1, 0x0, false, .block, [⟨0, 0, .ro, 0x0, 0, 0x1, false⟩]⟩,
    ⟨0x20, 1, 0x0, 1, 0x0, false, .block, [⟨31, 28, .ro, 0x0, 0, 0xf, false⟩, ⟨27, 27, .ro, 0x0, 0, 0x1, false⟩, ⟨23, 0, .ro, 0x0, 0, 0xffffff, false⟩]⟩,
    ⟨0x24, 1, 0x0, 1, 0x0, false, .block, [⟨31, 0, .ro, 0x0, 0, 0xffffffff, false⟩]⟩,
    ⟨0x28, 1, 0x0, 1, 0x0, false, .block, [⟨31, 31, .w1c, 0x0, 0, 0x1, false⟩, ⟨30, 30, .ro, 0x0, 0, 0x1, false⟩, ⟨7, 0, .ro, 0x0, 0, 0xff, false⟩]⟩,
    ⟨0x1000, 16, 0x40, 1, 0x0, true, .entry 0x1000 30, [⟨31, 31, .rw, 0x0, 0, 0x1, true⟩, ⟨30, 30, .ro, 0x0, 0, 0x1, false⟩, ⟨29, 29, .ro, 0x0, 0, 0x1, false⟩, ⟨23, 20, .rwg, 0x0, 0, 0xf, false⟩, ⟨19, 19, .rwg, 0x0, 0, 0x1, false⟩, ⟨18, 16, .rwg, 0x0, 0, 0x7, false⟩, ⟨15, 0, .rwg, 0x0, 0, 0xffff, false⟩]⟩,
    ⟨0x1004, 16, 0x40, 1, 0x0, true, .entry 0x1000 30, [⟨15, 0, .rwg, 0x0, 0, 0xffff, false⟩]⟩,
    ⟨0x1008, 16, 0x40, 1, 0x0, false, .block, [⟨31, 16, .ro, 0x0, 0, 0xffff, false⟩, ⟨15, 0, .ro, 0x0, 0, 0xffff, false⟩]⟩,
    ⟨0x1010, 16, 0x40, 1, 0x0, false, .block, [⟨31, 0, .rw, 0x0, 0, 0xffffffff, true⟩]⟩,
    ⟨0x1014, 16, 0x40, 1, 0x0, false, .block, [⟨31, 0, .rw, 0x0, 0, 0xffffffff, true⟩]⟩,
    ⟨0x2000, 16, 0x40, 1, 0x0, true, .entry 0x2004 30, [⟨31, 0, .rwg, 0x0, 1, 0xffffffff, false⟩]⟩,
    ⟨0x2004, 16, 0x40, 1, 0x0, true, .entry 0x2004 30, [⟨31, 31, .rw, 0x0, 0, 0x1, true⟩, ⟨30, 30, .ro, 0x0, 0, 0x1, false⟩, ⟨29, 29, .rw, 0x0, 0, 0x1, true⟩, ⟨11, 0, .rwg, 0x0, 0, 0xfff, false⟩]⟩,
    ⟨0x2008, 16, 0x40, 1, 0x0, true, .entry 0x2004 30, [⟨20, 0, .rwg, 0x0, 1, 0x100000, false⟩]⟩,
    ⟨0x200c, 16, 0x40, 1, 0x0, false, .block, [⟨19, 0, .ro, 0x0, 0, 0xfffff, false⟩]⟩,
    ⟨0x2010, 16, 0x40, 1, 0x0, false, .block, [⟨5, 4, .ro, 0x0, 0, 0x3, false⟩, ⟨1, 0, .ro, 0x0, 0, 0x3, false⟩]⟩,
    ⟨0x2014, 16, 0x40, 1, 0x0, false, .block, [⟨31, 31, .ro, 0x0, 0, 0x1, false⟩, ⟨27, 24, .ro, 0x0, 0, 0xf, false⟩, ⟨23, 20, .ro, 0x0, 0, 0xf, false⟩, ⟨19, 0, .ro, 0x0, 0, 0xfffff, false⟩]⟩,
    ⟨0x2018, 16, 0x40, 1, 0x0, false, .block, [⟨31, 31, .ro, 0x0, 0, 0x1, false⟩, ⟨6, 0, .ro, 0x0, 0, 0x7f, false⟩]⟩,
    ⟨0x3000, 16, 0x40, 1, 0x0, true, .entry 0x3000 30, [⟨31, 31, .rw, 0x0, 0, 0x1, true⟩, ⟨30, 30, .ro, 0x0, 0, 0x1, false⟩, ⟨29, 29, .rwg, 0x1, 0, 0x1, false⟩, ⟨28, 28, .rwg, 0x0, 0, 0x1, false⟩, ⟨27, 27, .rwg, 0x0, 0, 0x1, false⟩, ⟨26, 26, .rw, 0x1, 0, 0x1, false⟩, ⟨17, 0, .rwg, 0x0, 0, 0x3ffff, false⟩]⟩,
    ⟨0x3004, 16, 0x40, 1, 0x0, true, .entry 0x3000 30, [⟨23, 0, .rwg, 0x0, 100, 0x989680, false⟩]⟩,
    ⟨0x3008, 16, 0x40, 1, 0x0, true, .entry 0x3000 30, [⟨23, 0, .rwg, 0x0, 1, 0x989680, false⟩]⟩,
    ⟨0x300c, 16, 0x40, 1, 0x0, true, .entry 0x3000 30, [⟨15, 0, .rwg, 0x1, 1, 0xffff, false⟩]⟩ ]

/-- Registers of the MOD block: MOD_STREAM_EST_SET, MOD_STREAM_EST, MOD_STREAM_FRAME, MOD_STREAM_DONE, MOD_STREAM_STS, MOD_STREAM_CNT_DONE, MOD_STREAM_CNT_NO_INPUT, MOD_STREAM_CNT_OVERRUN, MOD_STREAM_CNT_LATE, MOD_CKPT_CFG, MOD_CKPT_TIMER, MOD_CKPT_INTERVAL, MOD_CKPT_MANIFEST, MOD_CKPT_NS, MOD_CKPT_MAP_LO, MOD_CKPT_MAP_HI, MOD_CKPT_MAP_CNT, MOD_CKPT_TARGET_LO, MOD_CKPT_TARGET_HI, MOD_CKPT_STS, MOD_CKPT_GEN, MOD_CKPT_ATTEMPT. -/
def modRows1 : List RegRow :=
  [ ⟨0x3010, 16, 0x40, 1, 0x0, true, .entry 0x3000 30, [⟨23, 0, .rwg, 0x0, 0, 0x989680, false⟩]⟩,
    ⟨0x3014, 16, 0x40, 1, 0x0, false, .block, [⟨23, 0, .ro, 0x0, 0, 0xffffff, false⟩]⟩,
    ⟨0x3018, 16, 0x40, 1, 0x0, false, .block, [⟨31, 0, .ro, 0x0, 0, 0xffffffff, false⟩]⟩,
    ⟨0x301c, 16, 0x40, 1, 0x0, false, .block, [⟨31, 0, .wo, 0x0, 0, 0xffffffff, true⟩]⟩,
    ⟨0x3020, 16, 0x40, 1, 0x0, false, .block, [⟨0, 0, .ro, 0x0, 0, 0x1, false⟩]⟩,
    ⟨0x3024, 16, 0x40, 1, 0x0, false, .block, [⟨31, 0, .rw, 0x0, 0, 0xffffffff, false⟩]⟩,
    ⟨0x3028, 16, 0x40, 1, 0x0, false, .block, [⟨31, 0, .rw, 0x0, 0, 0xffffffff, false⟩]⟩,
    ⟨0x302c, 16, 0x40, 1, 0x0, false, .block, [⟨31, 0, .rw, 0x0, 0, 0xffffffff, false⟩]⟩,
    ⟨0x3030, 16, 0x40, 1, 0x0, false, .block, [⟨31, 0, .rw, 0x0, 0, 0xffffffff, false⟩]⟩,
    ⟨0x4000, 16, 0x40, 1, 0x0, true, .entry 0x4000 31, [⟨31, 31, .rw, 0x0, 0, 0x1, false⟩, ⟨29, 29, .rw, 0x0, 0, 0x1, true⟩, ⟨26, 24, .rwg, 0x2, 2, 0x7, false⟩, ⟨23, 16, .rwg, 0x2, 1, 0xff, false⟩, ⟨11, 0, .rwg, 0x0, 0, 0xfff, false⟩]⟩,
    ⟨0x4004, 16, 0x40, 1, 0x0, true, .entry 0x4000 31, [⟨31, 0, .rwg, 0x0, 0, 0xffffffff, false⟩]⟩,
    ⟨0x4008, 16, 0x40, 1, 0x0, true, .entry 0x4000 31, [⟨31, 0, .rwg, 0x0, 0, 0xffffffff, false⟩]⟩,
    ⟨0x400c, 16, 0x40, 1, 0x0, true, .entry 0x4000 31, [⟨31, 0, .rwg, 0x10000, 1, 0xffffffff, false⟩]⟩,
    ⟨0x4010, 16, 0x40, 1, 0x0, true, .entry 0x4000 31, [⟨9, 0, .rwg, 0x0, 0, 0x3ff, false⟩]⟩,
    ⟨0x4014, 16, 0x40, 1, 0x0, true, .entry 0x4000 31, [⟨31, 0, .rwg, 0x0, 0, 0xffffffff, false⟩]⟩,
    ⟨0x4018, 16, 0x40, 1, 0x0, true, .entry 0x4000 31, [⟨7, 0, .rwg, 0x0, 0, 0xff, false⟩]⟩,
    ⟨0x401c, 16, 0x40, 1, 0x0, true, .entry 0x4000 31, [⟨15, 0, .rwg, 0x0, 1, 0xffff, false⟩]⟩,
    ⟨0x4020, 16, 0x40, 1, 0x0, false, .block, [⟨31, 0, .ro, 0x0, 0, 0xffffffff, false⟩]⟩,
    ⟨0x4024, 16, 0x40, 1, 0x0, false, .block, [⟨31, 0, .ro, 0x0, 0, 0xffffffff, false⟩]⟩,
    ⟨0x4028, 16, 0x40, 1, 0x0, false, .block, [⟨31, 31, .ro, 0x0, 0, 0x1, false⟩, ⟨30, 28, .ro, 0x0, 0, 0x7, false⟩, ⟨27, 24, .ro, 0x0, 0, 0xf, false⟩, ⟨23, 16, .ro, 0x0, 0, 0xff, false⟩]⟩,
    ⟨0x402c, 16, 0x40, 1, 0x0, false, .block, [⟨31, 0, .ro, 0x0, 0, 0xffffffff, false⟩]⟩,
    ⟨0x4030, 16, 0x40, 1, 0x0, false, .block, [⟨31, 0, .ro, 0x0, 0, 0xffffffff, false⟩]⟩ ]

def modRows : List RegRow := modRows0 ++ modRows1

/-- Registers of the PWR block: PWR_STS, PWR_CAP, PWR_FLOOR, PWR_LIMITS, PWR_INPUT0, PWR_INPUT1, PWR_HOLDUP, PWR_SQUALL_CNT, PWR_FILL_CNT, PWR_STAGE3_CNT, PWR_BROWNOUT_CNT, PWR_RECOVERED_CNT, PWR_DROOP_CNT, PWR_TILE_OP, PWR_PHASE_PREF. -/
def pwrRows : List RegRow :=
  [ ⟨0x0, 1, 0x0, 1, 0x0, false, .block, [⟨31, 31, .ro, 0x0, 0, 0x1, false⟩, ⟨30, 29, .ro, 0x0, 0, 0x3, false⟩, ⟨28, 27, .ro, 0x0, 0, 0x3, false⟩, ⟨26, 26, .ro, 0x0, 0, 0x1, false⟩, ⟨25, 25, .ro, 0x0, 0, 0x1, false⟩, ⟨24, 24, .ro, 0x0, 0, 0x1, false⟩, ⟨15, 0, .ro, 0x0, 0, 0xffff, false⟩]⟩,
    ⟨0x4, 1, 0x0, 1, 0x0, true, .block, [⟨15, 0, .rw, 0x0, 0, 0xffff, true⟩]⟩,
    ⟨0x8, 1, 0x0, 1, 0x0, false, .block, [⟨15, 0, .ro, 0x0, 0, 0xffff, false⟩]⟩,
    ⟨0xc, 1, 0x0, 1, 0x0, true, .block, [⟨25, 16, .rw, 0x17c, 360, 0x1b8, false⟩, ⟨15, 8, .rw, 0x14, 0, 0x64, false⟩, ⟨5, 0, .rw, 0x8, 1, 0x28, false⟩]⟩,
    ⟨0x20, 1, 0x0, 1, 0x0, false, .block, [⟨31, 16, .ro, 0x0, 0, 0xffff, false⟩, ⟨15, 0, .ro, 0x0, 0, 0xffff, false⟩]⟩,
    ⟨0x24, 1, 0x0, 1, 0x0, false, .block, [⟨31, 16, .ro, 0x0, 0, 0xffff, false⟩, ⟨15, 0, .ro, 0x0, 0, 0xffff, false⟩]⟩,
    ⟨0x28, 1, 0x0, 1, 0x0, false, .block, [⟨15, 8, .ro, 0x0, 0, 0xff, false⟩, ⟨7, 0, .ro, 0x0, 0, 0xff, false⟩]⟩,
    ⟨0x40, 1, 0x0, 1, 0x0, false, .block, [⟨31, 0, .rw, 0x0, 0, 0xffffffff, false⟩]⟩,
    ⟨0x44, 1, 0x0, 1, 0x0, false, .block, [⟨31, 0, .rw, 0x0, 0, 0xffffffff, false⟩]⟩,
    ⟨0x48, 1, 0x0, 1, 0x0, false, .block, [⟨31, 0, .rw, 0x0, 0, 0xffffffff, false⟩]⟩,
    ⟨0x4c, 1, 0x0, 1, 0x0, false, .block, [⟨31, 0, .rw, 0x0, 0, 0xffffffff, false⟩]⟩,
    ⟨0x50, 1, 0x0, 1, 0x0, false, .block, [⟨31, 0, .rw, 0x0, 0, 0xffffffff, false⟩]⟩,
    ⟨0x54, 1, 0x0, 1, 0x0, false, .block, [⟨31, 0, .rw, 0x0, 0, 0xffffffff, false⟩]⟩,
    ⟨0x100, 16, 0x4, 1, 0x0, false, .block, [⟨31, 28, .ro, 0x0, 0, 0xf, false⟩, ⟨21, 16, .ro, 0x0, 0, 0x3f, false⟩, ⟨11, 8, .ro, 0x0, 0, 0xf, false⟩, ⟨7, 4, .ro, 0x0, 0, 0xf, false⟩, ⟨3, 0, .ro, 0x0, 0, 0xf, false⟩]⟩,
    ⟨0x1000, 16, 0x20, 8, 0x4, true, .block, [⟨31, 0, .rw, 0xcccccccc, 0, 0xffffffff, false⟩]⟩ ]

/-- Registers of the THM block: THM_CFG, THM_STS, THM_COOLANT, THM_SENSOR. -/
def thmRows : List RegRow :=
  [ ⟨0x0, 1, 0x0, 1, 0x0, true, .block, [⟨9, 8, .rw, 0x2, 0, 0x2, false⟩, ⟨7, 0, .rw, 0x64, 85, 0x64, false⟩]⟩,
    ⟨0x4, 1, 0x0, 1, 0x0, false, .block, [⟨31, 31, .ro, 0x0, 0, 0x1, false⟩, ⟨30, 30, .ro, 0x0, 0, 0x1, false⟩, ⟨29, 29, .ro, 0x0, 0, 0x1, false⟩, ⟨28, 28, .ro, 0x0, 0, 0x1, false⟩, ⟨27, 27, .ro, 0x0, 0, 0x1, false⟩, ⟨13, 8, .ro, 0x0, 0, 0x3f, false⟩, ⟨7, 0, .ro, 0x0, 0, 0xff, false⟩]⟩,
    ⟨0x8, 1, 0x0, 1, 0x0, false, .block, [⟨31, 16, .ro, 0x0, 0, 0xffff, false⟩, ⟨15, 8, .ro, 0x0, 0, 0xff, false⟩, ⟨7, 0, .ro, 0x0, 0, 0xff, false⟩]⟩,
    ⟨0x100, 64, 0x4, 1, 0x0, false, .block, [⟨31, 31, .ro, 0x0, 0, 0x1, false⟩, ⟨15, 0, .ro, 0x0, 0, 0xffff, false⟩]⟩ ]

/-- Registers of the FWM block: FWM_STS, FWM_VER_A, FWM_VER_B, FWM_VER_CAT, FWM_SVN, FWM_CORE_STS. -/
def fwmRows : List RegRow :=
  [ ⟨0x0, 1, 0x0, 1, 0x0, false, .block, [⟨31, 28, .ro, 0x0, 0, 0xf, false⟩, ⟨27, 27, .ro, 0x0, 0, 0x1, false⟩, ⟨26, 26, .ro, 0x0, 0, 0x1, false⟩, ⟨25, 25, .ro, 0x0, 0, 0x1, false⟩, ⟨24, 24, .ro, 0x0, 0, 0x1, false⟩, ⟨23, 23, .ro, 0x0, 0, 0x1, false⟩, ⟨22, 22, .ro, 0x0, 0, 0x1, false⟩, ⟨21, 21, .ro, 0x0, 0, 0x1, false⟩, ⟨19, 16, .ro, 0x0, 0, 0xf, false⟩, ⟨15, 0, .ro, 0x0, 0, 0xffff, false⟩]⟩,
    ⟨0x4, 1, 0x0, 1, 0x0, false, .block, [⟨31, 0, .ro, 0x0, 0, 0xffffffff, false⟩]⟩,
    ⟨0x8, 1, 0x0, 1, 0x0, false, .block, [⟨31, 0, .ro, 0x0, 0, 0xffffffff, false⟩]⟩,
    ⟨0xc, 1, 0x0, 1, 0x0, false, .block, [⟨31, 0, .ro, 0x0, 0, 0xffffffff, false⟩]⟩,
    ⟨0x10, 1, 0x0, 1, 0x0, false, .block, [⟨31, 16, .ro, 0x0, 0, 0xffff, false⟩, ⟨15, 0, .ro, 0x0, 0, 0xffff, false⟩]⟩,
    ⟨0x100, 9, 0x4, 1, 0x0, false, .block, [⟨31, 24, .ro, 0x0, 0, 0xff, false⟩, ⟨15, 8, .ro, 0x0, 0, 0xff, false⟩, ⟨2, 0, .ro, 0x0, 0, 0x7, false⟩]⟩ ]

/-- Registers of the LOG block: LOG_HEAD, LOG_DROPPED, LOG_TRACE_DROPPED. -/
def logRows : List RegRow :=
  [ ⟨0x0, 1, 0x0, 1, 0x0, false, .block, [⟨31, 0, .ro, 0x0, 0, 0xffffffff, false⟩]⟩,
    ⟨0x4, 1, 0x0, 1, 0x0, false, .block, [⟨31, 0, .rw, 0x0, 0, 0xffffffff, false⟩]⟩,
    ⟨0x8, 1, 0x0, 1, 0x0, false, .block, [⟨31, 0, .rw, 0x0, 0, 0xffffffff, false⟩]⟩ ]

/-- Registers of the TEL block: TEL_CTRL, TEL_RING_LO, TEL_RING_HI, TEL_SAMPLES_SKIPPED, TEL_SAMPLES_LOST, TEL_SEL_ID, TEL_SEL_INT. -/
def telRows : List RegRow :=
  [ ⟨0x0, 1, 0x0, 1, 0x0, false, .block, [⟨31, 31, .rw, 0x0, 0, 0x1, false⟩, ⟨20, 16, .rwg, 0x6, 6, 0x14, false⟩, ⟨15, 0, .rwg, 0x0, 0, 0xffff, false⟩]⟩,
    ⟨0x4, 1, 0x0, 1, 0x0, false, .block, [⟨31, 0, .rwg, 0x0, 0, 0xffffffff, false⟩]⟩,
    ⟨0x8, 1, 0x0, 1, 0x0, false, .block, [⟨7, 0, .rwg, 0x0, 0, 0xff, false⟩]⟩,
    ⟨0x40, 1, 0x0, 1, 0x0, false, .block, [⟨31, 0, .rw, 0x0, 0, 0xffffffff, false⟩]⟩,
    ⟨0x44, 1, 0x0, 1, 0x0, false, .block, [⟨31, 0, .rw, 0x0, 0, 0xffffffff, false⟩]⟩,
    ⟨0x1000, 512, 0x8, 1, 0x0, false, .block, [⟨31, 0, .rw, 0x0, 0, 0xffffffff, true⟩]⟩,
    ⟨0x1004, 512, 0x8, 1, 0x0, false, .block, [⟨19, 0, .rw, 0x3e8, 1, 0xf4240, false⟩]⟩ ]

/-- Registers of the FIN block: FIN_LINK_CTRL, FIN_LINK_PARAM. -/
def finRows : List RegRow :=
  [ ⟨0x1000, 48, 0x20, 1, 0x0, true, .block, [⟨31, 31, .rw, 0x0, 0, 0x1, false⟩, ⟨30, 30, .rw, 0x0, 0, 0x1, false⟩, ⟨29, 27, .rw, 0x0, 0, 0x4, false⟩, ⟨15, 8, .rw, 0x0, 0, 0xff, false⟩, ⟨7, 0, .rw, 0xff, 0, 0xff, false⟩]⟩,
    ⟨0x1004, 48, 0x20, 1, 0x0, true, .block, [⟨31, 16, .rw, 0x0, 0, 0xffff, false⟩, ⟨15, 0, .rw, 0x0, 0, 0xffff, false⟩]⟩ ]

/-- Registers of the KEY block: KEY_FREE, KEY_PAGE_STS. -/
def keyRows : List RegRow :=
  [ ⟨0x0, 1, 0x0, 1, 0x0, false, .block, [⟨12, 0, .ro, 0x1000, 0, 0x1fff, false⟩]⟩,
    ⟨0x4000, 4096, 0x4, 1, 0x0, false, .block, [⟨31, 16, .ro, 0x0, 0, 0xffff, false⟩, ⟨15, 15, .ro, 0x0, 0, 0x1, false⟩, ⟨11, 11, .ro, 0x0, 0, 0x1, false⟩, ⟨10, 10, .ro, 0x0, 0, 0x1, false⟩, ⟨9, 9, .ro, 0x0, 0, 0x1, false⟩, ⟨8, 8, .ro, 0x0, 0, 0x1, false⟩, ⟨5, 3, .ro, 0x0, 0, 0x7, false⟩, ⟨2, 0, .ro, 0x0, 0, 0x7, false⟩]⟩ ]

/-- Registers of the TIL block: TIL_CMD_HEAD, TIL_CMD_TAIL, TIL_CMD_CTRL, TIL_STS, TIL_CMD_ABORTS, TIL_RESET, TIL_SIG_CNT, TIL_ERR_REC0, TIL_ERR_REC1, TIL_ERR_REC2, TIL_ERR_REC3, TIL_ERR_REC4, TIL_HSR_SEED_LO, TIL_HSR_SEED_HI, TIL_HSR_STEP, TIL_ARITH_FLAGS, TIL_DRAIN_LAST, TIL_META, TIL_CARREL_CE_CNT, TIL_CARREL_UE_CNT. -/
def tilRows : List RegRow :=
  [ ⟨0x0, 1, 0x0, 1, 0x0, false, .block, [⟨6, 0, .ro, 0x0, 0, 0x7f, false⟩]⟩,
    ⟨0x4, 1, 0x0, 1, 0x0, false, .block, [⟨6, 0, .ro, 0x0, 0, 0x7f, false⟩]⟩,
    ⟨0x8, 1, 0x0, 1, 0x0, false, .block, [⟨1, 0, .rw, 0x0, 0, 0x3, true⟩]⟩,
    ⟨0xc, 1, 0x0, 1, 0x0, false, .block, [⟨27, 26, .ro, 0x0, 0, 0x3, false⟩, ⟨25, 24, .ro, 0x0, 0, 0x3, false⟩, ⟨22, 16, .ro, 0x0, 0, 0x7f, false⟩, ⟨11, 11, .ro, 0x0, 0, 0x1, false⟩, ⟨10, 10, .ro, 0x0, 0, 0x1, false⟩, ⟨9, 9, .ro, 0x0, 0, 0x1, false⟩, ⟨8, 8, .ro, 0x0, 0, 0x1, false⟩, ⟨3, 0, .ro, 0x0, 0, 0xf, false⟩]⟩,
    ⟨0x10, 1, 0x0, 1, 0x0, false, .block, [⟨31, 0, .rw, 0x0, 0, 0xffffffff, false⟩]⟩,
    ⟨0x20, 1, 0x0, 1, 0x0, true, .block, [⟨1, 1, .ro, 0x0, 0, 0x1, false⟩, ⟨0, 0, .rw, 0x0, 0, 0x1, true⟩]⟩,
    ⟨0x40, 4, 0x4, 1, 0x0, false, .block, [⟨31, 0, .rw, 0x0, 0, 0xffffffff, false⟩]⟩,
    ⟨0x100, 1, 0x0, 1, 0x0, false, .block, [⟨31, 24, .ro, 0x0, 0, 0xff, false⟩, ⟨23, 16, .ro, 0x0, 0, 0xff, false⟩, ⟨15, 14, .ro, 0x0, 0, 0x3, false⟩, ⟨13, 9, .ro, 0x0, 0, 0x1f, false⟩, ⟨5, 0, .ro, 0x0, 0, 0x3f, false⟩]⟩,
    ⟨0x104, 1, 0x0, 1, 0x0, false, .block, [⟨15, 0, .ro, 0x0, 0, 0xffff, false⟩]⟩,
    ⟨0x108, 1, 0x0, 1, 0x0, false, .block, [⟨31, 0, .ro, 0x0, 0, 0xffffffff, false⟩]⟩,
    ⟨0x10c, 1, 0x0, 1, 0x0, false, .block, [⟨31, 0, .ro, 0x0, 0, 0xffffffff, false⟩]⟩,
    ⟨0x110, 1, 0x0, 1, 0x0, false, .block, [⟨31, 0, .ro, 0x0, 0, 0xffffffff, false⟩]⟩,
    ⟨0x200, 1, 0x0, 1, 0x0, false, .block, [⟨31, 0, .rw, 0x0, 0, 0xffffffff, false⟩]⟩,
    ⟨0x204, 1, 0x0, 1, 0x0, false, .block, [⟨31, 0, .rw, 0x0, 0, 0xffffffff, false⟩]⟩,
    ⟨0x208, 1, 0x0, 1, 0x0, false, .block, [⟨31, 0, .rw, 0x0, 0, 0xffffffff, false⟩]⟩,
    ⟨0x20c, 1, 0x0, 1, 0x0, false, .block, [⟨8, 8, .w1c, 0x0, 0, 0x1, false⟩, ⟨7, 7, .w1c, 0x0, 0, 0x1, false⟩, ⟨6, 6, .w1c, 0x0, 0, 0x1, false⟩, ⟨5, 5, .w1c, 0x0, 0, 0x1, false⟩, ⟨4, 4, .w1c, 0x0, 0, 0x1, false⟩, ⟨3, 3, .w1c, 0x0, 0, 0x1, false⟩, ⟨2, 2, .w1c, 0x0, 0, 0x1, false⟩, ⟨1, 1, .w1c, 0x0, 0, 0x1, false⟩, ⟨0, 0, .w1c, 0x0, 0, 0x1, false⟩]⟩,
    ⟨0x210, 1, 0x0, 1, 0x0, false, .block, [⟨31, 16, .ro, 0x0, 0, 0xffff, false⟩, ⟨8, 0, .ro, 0x0, 0, 0x1ff, false⟩]⟩,
    ⟨0x300, 64, 0x4, 1, 0x0, false, .block, [⟨15, 0, .ro, 0x8000, 0, 0xffff, false⟩]⟩,
    ⟨0x400, 1, 0x0, 1, 0x0, false, .block, [⟨31, 0, .rw, 0x0, 0, 0xffffffff, false⟩]⟩,
    ⟨0x404, 1, 0x0, 1, 0x0, false, .block, [⟨31, 0, .rw, 0x0, 0, 0xffffffff, false⟩]⟩ ]

/-- Registers of the LXC block: LXC_STS, LXC_CTRL, LXC_DOORBELL, LXC_PC, LXC_LAST_TRAP, LXC_CE_CNT. -/
def lxcRows : List RegRow :=
  [ ⟨0x0, 1, 0x0, 1, 0x0, false, .block, [⟨8, 8, .ro, 0x0, 0, 0x1, false⟩, ⟨5, 5, .ro, 0x0, 0, 0x1, false⟩, ⟨4, 4, .ro, 0x0, 0, 0x1, false⟩, ⟨2, 0, .ro, 0x0, 0, 0x7, false⟩]⟩,
    ⟨0x4, 1, 0x0, 1, 0x0, true, .block, [⟨2, 2, .rw, 0x0, 0, 0x1, true⟩, ⟨1, 1, .rw, 0x0, 0, 0x1, true⟩, ⟨0, 0, .rw, 0x0, 0, 0x1, true⟩]⟩,
    ⟨0x8, 1, 0x0, 1, 0x0, false, .block, [⟨0, 0, .w1s, 0x0, 0, 0x1, true⟩]⟩,
    ⟨0xc, 1, 0x0, 1, 0x0, false, .block, [⟨31, 0, .ro, 0x0, 0, 0xffffffff, false⟩]⟩,
    ⟨0x10, 1, 0x0, 1, 0x0, false, .block, [⟨4, 4, .ro, 0x0, 0, 0x1, false⟩, ⟨3, 0, .ro, 0x0, 0, 0xf, false⟩]⟩,
    ⟨0x14, 1, 0x0, 1, 0x0, false, .block, [⟨31, 0, .rw, 0x0, 0, 0xffffffff, false⟩]⟩ ]

/-- Registers of the SHF block: SHF_STS, SHF_CE_CNT, SHF_UE_CNT, SHF_CE_WINDOW, SHF_UE_ADDR_LO, SHF_UE_ADDR_HI, SHF_CE_THRESH, SHF_SCRUB_CTRL, SHF_SCRUB_START_LO, SHF_SCRUB_START_HI, SHF_SCRUB_LEN_LO, SHF_SCRUB_LEN_HI, SHF_SCRUB_DEST_LO, SHF_SCRUB_DEST_HI, SHF_SCRUB_STS. -/
def shfRows : List RegRow :=
  [ ⟨0x0, 1, 0x0, 1, 0x0, false, .block, [⟨3, 3, .ro, 0x0, 0, 0x1, false⟩, ⟨2, 0, .ro, 0x0, 0, 0x7, false⟩]⟩,
    ⟨0x10, 3, 0x20, 1, 0x0, false, .block, [⟨31, 0, .rw, 0x0, 0, 0xffffffff, false⟩]⟩,
    ⟨0x14, 3, 0x20, 1, 0x0, false, .block, [⟨31, 0, .rw, 0x0, 0, 0xffffffff, false⟩]⟩,
    ⟨0x18, 3, 0x20, 1, 0x0, false, .block, [⟨31, 0, .ro, 0x0, 0, 0xffffffff, false⟩]⟩,
    ⟨0x1c, 3, 0x20, 1, 0x0, false, .block, [⟨31, 0, .ro, 0x0, 0, 0xffffffff, false⟩]⟩,
    ⟨0x20, 3, 0x20, 1, 0x0, false, .block, [⟨31, 31, .w1c, 0x0, 0, 0x1, false⟩, ⟨7, 0, .ro, 0x0, 0, 0xff, false⟩]⟩,
    ⟨0x80, 1, 0x0, 1, 0x0, false, .block, [⟨31, 0, .rw, 0x3e8, 0, 0xffffffff, false⟩]⟩,
    ⟨0x100, 1, 0x0, 1, 0x0, false, .block, [⟨9, 8, .rw, 0x1, 0, 0x3, false⟩, ⟨2, 2, .rw, 0x0, 0, 0x1, false⟩, ⟨1, 1, .rw, 0x0, 0, 0x1, true⟩, ⟨0, 0, .rw, 0x0, 0, 0x1, true⟩]⟩,
    ⟨0x104, 1, 0x0, 1, 0x0, false, .block, [⟨31, 0, .rw, 0x0, 0, 0xffffffff, false⟩]⟩,
    ⟨0x108, 1, 0x0, 1, 0x0, false, .block, [⟨7, 0, .rw, 0x0, 0, 0xff, false⟩]⟩,
    ⟨0x10c, 1, 0x0, 1, 0x0, false, .block, [⟨31, 0, .rw, 0x0, 0, 0xffffffff, false⟩]⟩,
    ⟨0x110, 1, 0x0, 1, 0x0, false, .block, [⟨7, 0, .rw, 0x0, 0, 0xff, false⟩]⟩,
    ⟨0x114, 1, 0x0, 1, 0x0, false, .block, [⟨31, 0, .rw, 0x0, 0, 0xffffffff, false⟩]⟩,
    ⟨0x118, 1, 0x0, 1, 0x0, false, .block, [⟨7, 0, .rw, 0x0, 0, 0xff, false⟩]⟩,
    ⟨0x11c, 1, 0x0, 1, 0x0, false, .block, [⟨3, 1, .ro, 0x0, 0, 0x7, false⟩, ⟨0, 0, .ro, 0x0, 0, 0x1, false⟩]⟩ ]

/-- Registers of the HBC block: HBC_STS, HBC_CE_CNT, HBC_UE_CNT, HBC_CE_WINDOW, HBC_UE_ADDR_LO, HBC_UE_ADDR_HI, HBC_ODECC_CNT, HBC_CE_THRESH, HBC_SCRUB_CTRL, HBC_SCRUB_START_LO, HBC_SCRUB_START_HI, HBC_SCRUB_LEN_LO, HBC_SCRUB_LEN_HI, HBC_SCRUB_DEST_LO, HBC_SCRUB_DEST_HI, HBC_SCRUB_STS. -/
def hbcRows : List RegRow :=
  [ ⟨0x0, 1, 0x0, 1, 0x0, false, .block, [⟨4, 4, .ro, 0x0, 0, 0x1, false⟩, ⟨2, 2, .ro, 0x0, 0, 0x1, false⟩, ⟨1, 1, .ro, 0x0, 0, 0x1, false⟩, ⟨0, 0, .ro, 0x0, 0, 0x1, false⟩]⟩,
    ⟨0x10, 1, 0x0, 1, 0x0, false, .block, [⟨31, 0, .rw, 0x0, 0, 0xffffffff, false⟩]⟩,
    ⟨0x14, 1, 0x0, 1, 0x0, false, .block, [⟨31, 0, .rw, 0x0, 0, 0xffffffff, false⟩]⟩,
    ⟨0x18, 1, 0x0, 1, 0x0, false, .block, [⟨31, 0, .ro, 0x0, 0, 0xffffffff, false⟩]⟩,
    ⟨0x1c, 1, 0x0, 1, 0x0, false, .block, [⟨31, 0, .ro, 0x0, 0, 0xffffffff, false⟩]⟩,
    ⟨0x20, 1, 0x0, 1, 0x0, false, .block, [⟨31, 31, .w1c, 0x0, 0, 0x1, false⟩, ⟨7, 0, .ro, 0x0, 0, 0xff, false⟩]⟩,
    ⟨0x30, 1, 0x0, 1, 0x0, false, .block, [⟨31, 0, .rw, 0x0, 0, 0xffffffff, false⟩]⟩,
    ⟨0x80, 1, 0x0, 1, 0x0, false, .block, [⟨31, 0, .rw, 0x3e8, 0, 0xffffffff, false⟩]⟩,
    ⟨0x100, 1, 0x0, 1, 0x0, false, .block, [⟨9, 8, .rw, 0x1, 0, 0x3, false⟩, ⟨2, 2, .rw, 0x0, 0, 0x1, false⟩, ⟨1, 1, .rw, 0x0, 0, 0x1, true⟩, ⟨0, 0, .rw, 0x0, 0, 0x1, true⟩]⟩,
    ⟨0x104, 1, 0x0, 1, 0x0, false, .block, [⟨31, 0, .rw, 0x0, 0, 0xffffffff, false⟩]⟩,
    ⟨0x108, 1, 0x0, 1, 0x0, false, .block, [⟨7, 0, .rw, 0x0, 0, 0xff, false⟩]⟩,
    ⟨0x10c, 1, 0x0, 1, 0x0, false, .block, [⟨31, 0, .rw, 0x0, 0, 0xffffffff, false⟩]⟩,
    ⟨0x110, 1, 0x0, 1, 0x0, false, .block, [⟨7, 0, .rw, 0x0, 0, 0xff, false⟩]⟩,
    ⟨0x114, 1, 0x0, 1, 0x0, false, .block, [⟨31, 0, .rw, 0x0, 0, 0xffffffff, false⟩]⟩,
    ⟨0x118, 1, 0x0, 1, 0x0, false, .block, [⟨7, 0, .rw, 0x0, 0, 0xff, false⟩]⟩,
    ⟨0x11c, 1, 0x0, 1, 0x0, false, .block, [⟨3, 1, .ro, 0x0, 0, 0x7, false⟩, ⟨0, 0, .ro, 0x0, 0, 0x1, false⟩]⟩ ]

/-- Registers of the MYL block: MYL_CFG, MYL_EXPECT, MYL_STS, MYL_PARTNER, MYL_TX_EPOCH, MYL_RX_EPOCH, MYL_REKEY, MYL_FEC_CORR, MYL_FEC_UNCORR, MYL_CRC_ERR, MYL_REPLAY, MYL_TAG_FAIL, MYL_DOWN_CNT, MYL_TRAIN_CNT, MYL_EDDY, MYL_EDDY_ERR. -/
def mylRows : List RegRow :=
  [ ⟨0x0, 1, 0x0, 1, 0x0, false, .block, [⟨23, 23, .rwg, 0x0, 0, 0x1, false⟩, ⟨22, 22, .rwg, 0x1, 0, 0x1, false⟩, ⟨21, 20, .rwg, 0x0, 0, 0x2, false⟩, ⟨16, 16, .rwg, 0x0, 0, 0x1, false⟩, ⟨15, 14, .rwg, 0x3, 1, 0x3, false⟩, ⟨10, 8, .rwg, 0x7, 0, 0x7, false⟩, ⟨3, 0, .rwg, 0xf, 0, 0xf, false⟩]⟩,
    ⟨0x4, 1, 0x0, 1, 0x0, false, .block, [⟨31, 31, .rwg, 0x0, 0, 0x1, false⟩, ⟨25, 20, .rwg, 0x0, 0, 0x2f, false⟩, ⟨19, 0, .rwg, 0x0, 0, 0xfffff, false⟩]⟩,
    ⟨0x10, 1, 0x0, 1, 0x0, false, .block, [⟨31, 28, .ro, 0x0, 0, 0xf, false⟩, ⟨27, 24, .ro, 0x0, 0, 0xf, false⟩, ⟨22, 22, .ro, 0x0, 0, 0x1, false⟩, ⟨21, 20, .ro, 0x0, 0, 0x3, false⟩, ⟨19, 17, .ro, 0x0, 0, 0x7, false⟩, ⟨3, 0, .ro, 0x0, 0, 0xf, false⟩]⟩,
    ⟨0x14, 1, 0x0, 1, 0x0, false, .block, [⟨31, 31, .ro, 0x0, 0, 0x1, false⟩, ⟨30, 30, .ro, 0x0, 0, 0x1, false⟩, ⟨29, 29, .ro, 0x0, 0, 0x1, false⟩, ⟨25, 20, .ro, 0x0, 0, 0x3f, false⟩, ⟨19, 0, .ro, 0x0, 0, 0xfffff, false⟩]⟩,
    ⟨0x20, 1, 0x0, 1, 0x0, false, .block, [⟨31, 0, .ro, 0x0, 0, 0xffffffff, false⟩]⟩,
    ⟨0x24, 1, 0x0, 1, 0x0, false, .block, [⟨31, 0, .ro, 0x0, 0, 0xffffffff, false⟩]⟩,
    ⟨0x28, 1, 0x0, 1, 0x0, false, .block, [⟨8, 8, .rw, 0x0, 0, 0x1, true⟩, ⟨5, 0, .rwg, 0x20, 20, 0x28, false⟩]⟩,
    ⟨0x40, 1, 0x0, 1, 0x0, false, .block, [⟨31, 0, .rw, 0x0, 0, 0xffffffff, false⟩]⟩,
    ⟨0x44, 1, 0x0, 1, 0x0, false, .block, [⟨31, 0, .rw, 0x0, 0, 0xffffffff, false⟩]⟩,
    ⟨0x48, 1, 0x0, 1, 0x0, false, .block, [⟨31, 0, .rw, 0x0, 0, 0xffffffff, false⟩]⟩,
    ⟨0x4c, 1, 0x0, 1, 0x0, false, .block, [⟨31, 0, .rw, 0x0, 0, 0xffffffff, false⟩]⟩,
    ⟨0x50, 1, 0x0, 1, 0x0, false, .block, [⟨31, 0, .rw, 0x0, 0, 0xffffffff, false⟩]⟩,
    ⟨0x54, 1, 0x0, 1, 0x0, false, .block, [⟨31, 0, .rw, 0x0, 0, 0xffffffff, false⟩]⟩,
    ⟨0x58, 1, 0x0, 1, 0x0, false, .block, [⟨31, 0, .rw, 0x0, 0, 0xffffffff, false⟩]⟩,
    ⟨0x80, 1, 0x0, 1, 0x0, false, .block, [⟨5, 4, .rwg, 0x0, 0, 0x2, false⟩, ⟨1, 0, .rwg, 0x0, 0, 0x3, false⟩]⟩,
    ⟨0x84, 1, 0x0, 1, 0x0, false, .block, [⟨31, 0, .rw, 0x0, 0, 0xffffffff, false⟩]⟩ ]

/-- Registers of the MYR block: MYR_FABRIC_ID, MYR_ROUTE_CTRL, MYR_UP_LO, MYR_UP_HI, MYR_CFG, MYR_DISC_CNT, MYR_VIA_LIST, MYR_BANK0, MYR_BANK1. -/
def myrRows : List RegRow :=
  [ ⟨0x10, 1, 0x0, 1, 0x0, true, .block, [⟨31, 31, .rwg, 0x0, 0, 0x1, false⟩, ⟨19, 0, .rwg, 0x0, 0, 0xfffff, false⟩]⟩,
    ⟨0x20, 1, 0x0, 1, 0x0, false, .block, [⟨11, 8, .rwg, 0x6, 6, 0xa, false⟩, ⟨1, 1, .rw, 0x0, 0, 0x1, true⟩, ⟨0, 0, .ro, 0x0, 0, 0x1, false⟩]⟩,
    ⟨0x30, 1, 0x0, 1, 0x0, false, .block, [⟨31, 0, .ro, 0x0, 0, 0xffffffff, false⟩]⟩,
    ⟨0x34, 1, 0x0, 1, 0x0, false, .block, [⟨15, 0, .ro, 0x0, 0, 0xffff, false⟩]⟩,
    ⟨0x40, 1, 0x0, 1, 0x0, false, .block, [⟨31, 24, .rwg, 0xa, 1, 0xff, false⟩, ⟨23, 16, .rwg, 0x0, 0, 0xff, false⟩, ⟨15, 8, .rwg, 0x80, 0, 0xff, false⟩, ⟨7, 0, .rwg, 0xc0, 0, 0xff, false⟩]⟩,
    ⟨0x100, 5, 0x4, 1, 0x0, false, .block, [⟨31, 0, .rw, 0x0, 0, 0xffffffff, false⟩]⟩,
    ⟨0x800, 255, 0x4, 1, 0x0, false, .block, [⟨19, 0, .rwg, 0x0, 0, 0xfffff, false⟩]⟩,
    ⟨0x100000, 131072, 0x4, 1, 0x0, false, .bank 0, [⟨31, 0, .rw, 0x0, 0, 0xffffffff, false⟩]⟩,
    ⟨0x180000, 131072, 0x4, 1, 0x0, false, .bank 1, [⟨31, 0, .rw, 0x0, 0, 0xffffffff, false⟩]⟩ ]

/-- Registers of the GMA block: GMA_CTX_BASE_LO, GMA_CTX_BASE_HI, GMA_CTX_LOC, GMA_RREG_BLOCKS, GMA_HOLD_STS, GMA_CACHE_STS, GMA_MSG_TIMEOUT, GMA_TILE_CTX, GMA_CNT, GMA_VIOL_CAP0, GMA_VIOL_CAP1, GMA_VIOL_CAP2, GMA_VIOL_CAP3, GMA_BAR_ARRIVE, GMA_WIN_CTRL, GMA_WIN_LO, GMA_WIN_HI, GMA_WIN_SRC, GMA_WIN_SRCMASK, GMA_WIN_REF, GMA_BAR_CFG, GMA_BAR_CHILD_LO, GMA_BAR_CHILD_HI, GMA_BAR_STS. -/
def gmaRows : List RegRow :=
  [ ⟨0x0, 1, 0x0, 1, 0x0, true, .block, [⟨31, 26, .rwg, 0x3f, 0, 0x3f, false⟩]⟩,
    ⟨0x4, 1, 0x0, 1, 0x0, true, .block, [⟨31, 0, .rwg, 0xbf, 0, 0xffffffff, false⟩]⟩,
    ⟨0x8, 1, 0x0, 1, 0x0, true, .block, [⟨31, 31, .rwg, 0x0, 0, 0x1, false⟩, ⟨19, 0, .rwg, 0x0, 0, 0xfffff, false⟩]⟩,
    ⟨0x20, 1, 0x0, 1, 0x0, true, .block, [⟨21, 8, .rwg, 0x0, 0, 0x3fff, false⟩, ⟨5, 0, .rwg, 0x0, 0, 0x3f, false⟩]⟩,
    ⟨0x30, 1, 0x0, 1, 0x0, false, .block, [⟨31, 16, .ro, 0x8000, 0, 0xffff, false⟩, ⟨15, 0, .ro, 0x8000, 0, 0xffff, false⟩]⟩,
    ⟨0x34, 1, 0x0, 1, 0x0, false, .block, [⟨29, 16, .ro, 0x0, 0, 0x3fff, false⟩, ⟨5, 0, .ro, 0x0, 0, 0x3f, false⟩]⟩,
    ⟨0x38, 1, 0x0, 1, 0x0, false, .block, [⟨23, 0, .rwg, 0xfa0, 1000, 0xf4240, false⟩]⟩,
    ⟨0x100, 16, 0x4, 1, 0x0, false, .block, [⟨31, 31, .rw, 0x0, 0, 0x1, false⟩, ⟨17, 0, .rw, 0x0, 0, 0x3ffff, false⟩]⟩,
    ⟨0x200, 8, 0x4, 1, 0x0, false, .block, [⟨31, 0, .rw, 0x0, 0, 0xffffffff, false⟩]⟩,
    ⟨0x280, 1, 0x0, 1, 0x0, false, .block, [⟨31, 31, .w1c, 0x0, 0, 0x1, false⟩, ⟨27, 24, .ro, 0x0, 0, 0xf, false⟩, ⟨23, 20, .ro, 0x0, 0, 0xf, false⟩, ⟨19, 0, .ro, 0x0, 0, 0xfffff, false⟩]⟩,
    ⟨0x284, 1, 0x0, 1, 0x0, false, .block, [⟨31, 24, .ro, 0x0, 0, 0xff, false⟩, ⟨17, 0, .ro, 0x0, 0, 0x3ffff, false⟩]⟩,
    ⟨0x288, 1, 0x0, 1, 0x0, false, .block, [⟨31, 0, .ro, 0x0, 0, 0xffffffff, false⟩]⟩,
    ⟨0x28c, 1, 0x0, 1, 0x0, false, .block, [⟨7, 0, .ro, 0x0, 0, 0xff, false⟩]⟩,
    ⟨0x300, 1, 0x0, 1, 0x0, false, .block, [⟨11, 0, .wo, 0x0, 0, 0xfff, true⟩]⟩,
    ⟨0x100000, 4096, 0x20, 1, 0x0, false, .entry 0x100000 30, [⟨31, 31, .rw, 0x0, 0, 0x1, true⟩, ⟨30, 30, .ro, 0x0, 0, 0x1, false⟩, ⟨27, 27, .rwg, 0x0, 0, 0x1, false⟩, ⟨26, 26, .rwg, 0x0, 0, 0x1, false⟩, ⟨25, 25, .rwg, 0x0, 0, 0x1, false⟩, ⟨24, 24, .rwg, 0x0, 0, 0x1, false⟩, ⟨15, 0, .rwg, 0x0, 0, 0xffff, false⟩]⟩,
    ⟨0x100004, 4096, 0x20, 1, 0x0, false, .entry 0x100000 30, [⟨27, 0, .rwg, 0x0, 0, 0xfffffff, false⟩]⟩,
    ⟨0x100008, 4096, 0x20, 1, 0x0, false, .entry 0x100000 30, [⟨27, 0, .rwg, 0x0, 0, 0xfffffff, false⟩]⟩,
    ⟨0x10000c, 4096, 0x20, 1, 0x0, false, .entry 0x100000 30, [⟨19, 0, .rwg, 0x0, 0, 0xfffff, false⟩]⟩,
    ⟨0x100010, 4096, 0x20, 1, 0x0, false, .entry 0x100000 30, [⟨19, 0, .rwg, 0x0, 0, 0xfffff, false⟩]⟩,
    ⟨0x100014, 4096, 0x20, 1, 0x0, false, .entry 0x100000 30, [⟨31, 0, .rwg, 0x0, 0, 0xffffffff, false⟩]⟩,
    ⟨0x200000, 4096, 0x20, 1, 0x0, false, .entry 0x200000 31, [⟨31, 31, .rw, 0x0, 0, 0x1, true⟩, ⟨30, 30, .rwg, 0x0, 0, 0x1, false⟩, ⟨29, 24, .rwg, 0x0, 0, 0x3f, false⟩, ⟨23, 23, .rwg, 0x0, 0, 0x1, false⟩, ⟨22, 22, .rwg, 0x0, 0, 0x1, false⟩, ⟨21, 12, .rwg, 0x1, 1, 0x3ff, false⟩]⟩,
    ⟨0x200004, 4096, 0x20, 1, 0x0, false, .entry 0x200000 31, [⟨31, 0, .rwg, 0x0, 0, 0xffffffff, false⟩]⟩,
    ⟨0x200008, 4096, 0x20, 1, 0x0, false, .entry 0x200000 31, [⟨31, 16, .rwg, 0x0, 0, 0xffff, false⟩, ⟨15, 0, .rwg, 0x0, 0, 0xffff, false⟩]⟩,
    ⟨0x20000c, 4096, 0x20, 1, 0x0, false, .block, [⟨31, 30, .ro, 0x0, 0, 0x3, false⟩, ⟨29, 22, .ro, 0x0, 0, 0xff, false⟩, ⟨21, 12, .ro, 0x0, 0, 0x3ff, false⟩, ⟨5, 0, .ro, 0x0, 0, 0x3f, false⟩]⟩ ]

/-- Registers of the PCE block: PCE_LINK_STS, PCE_UR_SENT, PCE_POISON_SENT, PCE_CPL_TIMEOUT, PCE_UNEXP_CPL, PCE_BME_DISCARD, PCE_ATS_INV, PCE_ATS_FAIL, PCE_MSIX_LOST. -/
def pceRows : List RegRow :=
  [ ⟨0x0, 1, 0x0, 1, 0x0, false, .block, [⟨23, 20, .ro, 0x0, 0, 0xf, false⟩, ⟨19, 15, .ro, 0x0, 0, 0x1f, false⟩, ⟨14, 14, .ro, 0x0, 0, 0x1, false⟩, ⟨13, 13, .ro, 0x0, 0, 0x1, false⟩, ⟨12, 12, .ro, 0x0, 0, 0x1, false⟩, ⟨3, 0, .ro, 0x0, 0, 0xf, false⟩]⟩,
    ⟨0x40, 1, 0x0, 1, 0x0, false, .block, [⟨31, 0, .rw, 0x0, 0, 0xffffffff, false⟩]⟩,
    ⟨0x44, 1, 0x0, 1, 0x0, false, .block, [⟨31, 0, .rw, 0x0, 0, 0xffffffff, false⟩]⟩,
    ⟨0x48, 1, 0x0, 1, 0x0, false, .block, [⟨31, 0, .rw, 0x0, 0, 0xffffffff, false⟩]⟩,
    ⟨0x4c, 1, 0x0, 1, 0x0, false, .block, [⟨31, 0, .rw, 0x0, 0, 0xffffffff, false⟩]⟩,
    ⟨0x50, 1, 0x0, 1, 0x0, false, .block, [⟨31, 0, .rw, 0x0, 0, 0xffffffff, false⟩]⟩,
    ⟨0x54, 1, 0x0, 1, 0x0, false, .block, [⟨31, 0, .rw, 0x0, 0, 0xffffffff, false⟩]⟩,
    ⟨0x58, 1, 0x0, 1, 0x0, false, .block, [⟨31, 0, .rw, 0x0, 0, 0xffffffff, false⟩]⟩,
    ⟨0x5c, 1, 0x0, 1, 0x0, false, .block, [⟨31, 0, .rw, 0x0, 0, 0xffffffff, false⟩]⟩ ]

/-- Registers of the VFN block: VFN_VF_FREEZES, VFN_FROZEN_DISCARDS, VFN_VF_FLRS, VFN_MOVES_SAVED, VFN_MOVES_RESTORED, VFN_MOVES_FAILED, VFN_STS, VFN_QOS. -/
def vfnRows : List RegRow :=
  [ ⟨0x40, 1, 0x0, 1, 0x0, false, .block, [⟨31, 0, .rw, 0x0, 0, 0xffffffff, false⟩]⟩,
    ⟨0x44, 1, 0x0, 1, 0x0, false, .block, [⟨31, 0, .rw, 0x0, 0, 0xffffffff, false⟩]⟩,
    ⟨0x48, 1, 0x0, 1, 0x0, false, .block, [⟨31, 0, .rw, 0x0, 0, 0xffffffff, false⟩]⟩,
    ⟨0x4c, 1, 0x0, 1, 0x0, false, .block, [⟨31, 0, .rw, 0x0, 0, 0xffffffff, false⟩]⟩,
    ⟨0x50, 1, 0x0, 1, 0x0, false, .block, [⟨31, 0, .rw, 0x0, 0, 0xffffffff, false⟩]⟩,
    ⟨0x54, 1, 0x0, 1, 0x0, false, .block, [⟨31, 0, .rw, 0x0, 0, 0xffffffff, false⟩]⟩,
    ⟨0x1000, 128, 0x4, 1, 0x0, false, .block, [⟨7, 5, .ro, 0x0, 0, 0x7, false⟩, ⟨4, 4, .ro, 0x0, 0, 0x1, false⟩, ⟨3, 3, .ro, 0x0, 0, 0x1, false⟩, ⟨2, 0, .ro, 0x0, 0, 0x7, false⟩]⟩,
    ⟨0x2000, 128, 0x4, 1, 0x0, false, .block, [⟨23, 16, .ro, 0x0, 0, 0xff, false⟩, ⟨15, 8, .ro, 0x0, 0, 0xff, false⟩, ⟨7, 0, .ro, 0x0, 0, 0xff, false⟩]⟩ ]

/-- Registers of the NVC block: NVC_WB_STS, NVC_WB_FULL_WAITS, NVC_DESTAGE_RETRIES, NVC_MEDIA_ERRORS, NVC_LOST_WRITE_MARKS, NVC_FEEDS_DONE, NVC_FEEDS_FAILED, NVC_DRIVE_STS, NVC_FEED_CTRL, NVC_FEED_BASE_LO, NVC_FEED_BASE_HI, NVC_FEED_CPL_LO, NVC_FEED_CPL_HI. -/
def nvcRows : List RegRow :=
  [ ⟨0x0, 1, 0x0, 1, 0x0, false, .block, [⟨31, 30, .ro, 0x0, 0, 0x3, false⟩, ⟨29, 29, .ro, 0x0, 0, 0x1, false⟩, ⟨18, 0, .ro, 0x0, 0, 0x7ffff, false⟩]⟩,
    ⟨0x40, 1, 0x0, 1, 0x0, false, .block, [⟨31, 0, .rw, 0x0, 0, 0xffffffff, false⟩]⟩,
    ⟨0x44, 1, 0x0, 1, 0x0, false, .block, [⟨31, 0, .rw, 0x0, 0, 0xffffffff, false⟩]⟩,
    ⟨0x48, 1, 0x0, 1, 0x0, false, .block, [⟨31, 0, .rw, 0x0, 0, 0xffffffff, false⟩]⟩,
    ⟨0x4c, 1, 0x0, 1, 0x0, false, .block, [⟨31, 0, .rw, 0x0, 0, 0xffffffff, false⟩]⟩,
    ⟨0x50, 1, 0x0, 1, 0x0, false, .block, [⟨31, 0, .rw, 0x0, 0, 0xffffffff, false⟩]⟩,
    ⟨0x54, 1, 0x0, 1, 0x0, false, .block, [⟨31, 0, .rw, 0x0, 0, 0xffffffff, false⟩]⟩,
    ⟨0x100, 8, 0x4, 1, 0x0, false, .block, [⟨31, 16, .ro, 0x0, 0, 0xffff, false⟩, ⟨4, 4, .ro, 0x0, 0, 0x1, false⟩, ⟨3, 3, .ro, 0x0, 0, 0x1, false⟩, ⟨2, 2, .ro, 0x0, 0, 0x1, false⟩, ⟨1, 1, .ro, 0x0, 0, 0x1, false⟩, ⟨0, 0, .ro, 0x0, 0, 0x1, false⟩]⟩,
    ⟨0x1000, 16, 0x20, 1, 0x0, false, .entry 0x1000 30, [⟨31, 31, .rw, 0x0, 0, 0x1, true⟩, ⟨30, 30, .ro, 0x0, 0, 0x1, false⟩, ⟨21, 8, .ro, 0x0, 0, 0x3fff, false⟩, ⟨3, 0, .rwg, 0x4, 4, 0xc, false⟩]⟩,
    ⟨0x1004, 16, 0x20, 1, 0x0, false, .entry 0x1000 30, [⟨31, 0, .rwg, 0x0, 0, 0xffffffff, false⟩]⟩,
    ⟨0x1008, 16, 0x20, 1, 0x0, false, .entry 0x1000 30, [⟨7, 0, .rwg, 0x0, 0, 0xff, false⟩]⟩,
    ⟨0x100c, 16, 0x20, 1, 0x0, false, .entry 0x1000 30, [⟨31, 0, .rwg, 0x0, 0, 0xffffffff, false⟩]⟩,
    ⟨0x1010, 16, 0x20, 1, 0x0, false, .entry 0x1000 30, [⟨7, 0, .rwg, 0x0, 0, 0xff, false⟩]⟩ ]

/-- Registers of the RTP block: RTP_CFG, RTP_STS. -/
def rtpRows : List RegRow :=
  [ ⟨0x0, 1, 0x0, 1, 0x0, true, .block, [⟨3, 1, .rwg, 0x6, 0, 0x7, false⟩, ⟨0, 0, .rwg, 0x0, 0, 0x1, false⟩]⟩,
    ⟨0x4, 1, 0x0, 1, 0x0, false, .block, [⟨15, 12, .ro, 0x0, 0, 0xf, false⟩, ⟨11, 8, .ro, 0x0, 0, 0xf, false⟩, ⟨7, 4, .ro, 0x0, 0, 0xf, false⟩, ⟨3, 0, .ro, 0x0, 0, 0xf, false⟩]⟩ ]

/-- Registers of the FPP block: FPP_PORT_CFG, FPP_PORT_STS, FPP_MODE_ALLOW, FPP_RX_FRAMES, FPP_FCS_ERR, FPP_OVERSIZE, FPP_PARSE_FAIL, FPP_NO_MATCH, FPP_RULE_DROP, FPP_POLICE_DROP, FPP_RING_FULL, FPP_TOO_BIG, FPP_TAG_FAIL, FPP_HOLD_DROP, FPP_PAUSE_IGNORED, FPP_TTL_DROP, FPP_REWRITE_SKIP, FPP_MIRROR_DROP, FPP_ROCE_BAD_QP, FPP_DEF_NOMATCH, FPP_DEF_PARSE, FPP_RULE, FPP_PATTERN, FPP_POLICER. -/
def fppRows0 : List RegRow :=
  [ ⟨0x0, 1, 0x0, 1, 0x0, true, .block, [⟨31, 16, .rwg, 0x12b5, 0, 0xffff, false⟩, ⟨15, 2, .rwg, 0x2400, 1518, 0x2400, false⟩, ⟨1, 0, .rwg, 0x0, 0, 0x2, false⟩]⟩,
    ⟨0x4, 1, 0x0, 1, 0x0, false, .block, [⟨7, 4, .ro, 0x0, 0, 0xf, false⟩, ⟨3, 2, .ro, 0x0, 0, 0x3, false⟩, ⟨1, 1, .ro, 0x0, 0, 0x1, false⟩, ⟨0, 0, .ro, 0x0, 0, 0x1, false⟩]⟩,
    ⟨0x8, 1, 0x0, 1, 0x0, false, .block, [⟨2, 0, .rwg, 0x7, 0, 0x7, false⟩]⟩,
    ⟨0x40, 1, 0x0, 1, 0x0, false, .block, [⟨31, 0, .rw, 0x0, 0, 0xffffffff, false⟩]⟩,
    ⟨0x44, 1, 0x0, 1, 0x0, false, .block, [⟨31, 0, .rw, 0x0, 0, 0xffffffff, false⟩]⟩,
    ⟨0x48, 1, 0x0, 1, 0x0, false, .block, [⟨31, 0, .rw, 0x0, 0, 0xffffffff, false⟩]⟩,
    ⟨0x4c, 1, 0x0, 1, 0x0, false, .block, [⟨31, 0, .rw, 0x0, 0, 0xffffffff, false⟩]⟩,
    ⟨0x50, 1, 0x0, 1, 0x0, false, .block, [⟨31, 0, .rw, 0x0, 0, 0xffffffff, false⟩]⟩,
    ⟨0x54, 1, 0x0, 1, 0x0, false, .block, [⟨31, 0, .rw, 0x0, 0, 0xffffffff, false⟩]⟩,
    ⟨0x58, 1, 0x0, 1, 0x0, false, .block, [⟨31, 0, .rw, 0x0, 0, 0xffffffff, false⟩]⟩,
    ⟨0x5c, 1, 0x0, 1, 0x0, false, .block, [⟨31, 0, .rw, 0x0, 0, 0xffffffff, false⟩]⟩,
    ⟨0x60, 1, 0x0, 1, 0x0, false, .block, [⟨31, 0, .rw, 0x0, 0, 0xffffffff, false⟩]⟩,
    ⟨0x64, 1, 0x0, 1, 0x0, false, .block, [⟨31, 0, .rw, 0x0, 0, 0xffffffff, false⟩]⟩,
    ⟨0x68, 1, 0x0, 1, 0x0, false, .block, [⟨31, 0, .rw, 0x0, 0, 0xffffffff, false⟩]⟩,
    ⟨0x6c, 1, 0x0, 1, 0x0, false, .block, [⟨31, 0, .rw, 0x0, 0, 0xffffffff, false⟩]⟩,
    ⟨0x70, 1, 0x0, 1, 0x0, false, .block, [⟨31, 0, .rw, 0x0, 0, 0xffffffff, false⟩]⟩,
    ⟨0x74, 1, 0x0, 1, 0x0, false, .block, [⟨31, 0, .rw, 0x0, 0, 0xffffffff, false⟩]⟩,
    ⟨0x78, 1, 0x0, 1, 0x0, false, .block, [⟨31, 0, .rw, 0x0, 0, 0xffffffff, false⟩]⟩,
    ⟨0x7c, 1, 0x0, 1, 0x0, false, .block, [⟨31, 0, .rw, 0x0, 0, 0xffffffff, false⟩]⟩,
    ⟨0x100, 4, 0x4, 1, 0x0, false, .block, [⟨31, 0, .rw, 0x0, 0, 0xffffffff, true⟩]⟩,
    ⟨0x110, 4, 0x4, 1, 0x0, false, .block, [⟨31, 0, .rw, 0x0, 0, 0xffffffff, true⟩]⟩,
    ⟨0x10000, 4096, 0x80, 32, 0x4, false, .block, [⟨31, 0, .rw, 0x0, 0, 0xffffffff, true⟩]⟩,
    ⟨0x90000, 1024, 0x40, 16, 0x4, false, .block, [⟨31, 0, .rw, 0x0, 0, 0xffffffff, false⟩]⟩,
    ⟨0xa0000, 1024, 0x10, 4, 0x4, false, .block, [⟨31, 0, .rw, 0x0, 0, 0xffffffff, true⟩]⟩ ]

/-- Registers of the FPP block: FPP_COUNTER, FPP_TEMPLATE, FPP_RXRING, FPP_TXRING. -/
def fppRows1 : List RegRow :=
  [ ⟨0xb0000, 4096, 0x10, 4, 0x4, false, .block, [⟨31, 0, .rw, 0x0, 0, 0xffffffff, false⟩]⟩,
    ⟨0xc0000, 64, 0x80, 32, 0x4, false, .block, [⟨31, 0, .rw, 0x0, 0, 0xffffffff, false⟩]⟩,
    ⟨0xd0000, 512, 0x20, 8, 0x4, false, .block, [⟨31, 0, .rw, 0x0, 0, 0xffffffff, true⟩]⟩,
    ⟨0xd4000, 512, 0x20, 8, 0x4, false, .block, [⟨31, 0, .rw, 0x0, 0, 0xffffffff, true⟩]⟩ ]

def fppRows : List RegRow := fppRows0 ++ fppRows1

/-- Registers of the FPS block: FPS_Q_CFG, FPS_TX_PKTS, FPS_TAIL_DROP. -/
def fpsRows : List RegRow :=
  [ ⟨0x100, 8, 0x4, 1, 0x0, false, .block, [⟨19, 19, .rw, 0x0, 0, 0x1, false⟩, ⟨18, 16, .rw, 0x0, 0, 0x7, false⟩, ⟨15, 8, .rw, 0x20, 1, 0x80, false⟩, ⟨7, 0, .rw, 0x1, 1, 0xff, false⟩]⟩,
    ⟨0x200, 8, 0x8, 1, 0x0, false, .block, [⟨31, 0, .rw, 0x0, 0, 0xffffffff, false⟩]⟩,
    ⟨0x204, 8, 0x8, 1, 0x0, false, .block, [⟨31, 0, .rw, 0x0, 0, 0xffffffff, false⟩]⟩ ]

/-- Registers of the CIP block: CIP_ENGINE_STS, CIP_MISMATCH_CNT, CIP_QUARANTINE_CNT, CIP_TAG_FAIL_CNT, CIP_LENGTH_CNT, CIP_E2E_TAG_CNT, CIP_KEY_REFUSED_CNT. -/
def cipRows : List RegRow :=
  [ ⟨0x0, 1, 0x0, 1, 0x0, false, .block, [⟨31, 0, .ro, 0x0, 0, 0xffffffff, false⟩]⟩,
    ⟨0x40, 1, 0x0, 1, 0x0, false, .block, [⟨31, 0, .rw, 0x0, 0, 0xffffffff, false⟩]⟩,
    ⟨0x44, 1, 0x0, 1, 0x0, false, .block, [⟨31, 0, .rw, 0x0, 0, 0xffffffff, false⟩]⟩,
    ⟨0x48, 1, 0x0, 1, 0x0, false, .block, [⟨31, 0, .rw, 0x0, 0, 0xffffffff, false⟩]⟩,
    ⟨0x4c, 1, 0x0, 1, 0x0, false, .block, [⟨31, 0, .rw, 0x0, 0, 0xffffffff, false⟩]⟩,
    ⟨0x50, 1, 0x0, 1, 0x0, false, .block, [⟨31, 0, .rw, 0x0, 0, 0xffffffff, false⟩]⟩,
    ⟨0x54, 1, 0x0, 1, 0x0, false, .block, [⟨31, 0, .rw, 0x0, 0, 0xffffffff, false⟩]⟩ ]

/-- The registers of a block, the common header first. -/
def blockRows : BlockKind → List RegRow
  | .mod => headerRows ++ modRows
  | .pwr => headerRows ++ pwrRows
  | .thm => headerRows ++ thmRows
  | .fwm => headerRows ++ fwmRows
  | .log => headerRows ++ logRows
  | .tel => headerRows ++ telRows
  | .fin => headerRows ++ finRows
  | .key => headerRows ++ keyRows
  | .til => headerRows ++ tilRows
  | .lxc => headerRows ++ lxcRows
  | .shf => headerRows ++ shfRows
  | .hbc => headerRows ++ hbcRows
  | .myl => headerRows ++ mylRows
  | .myr => headerRows ++ myrRows
  | .gma => headerRows ++ gmaRows
  | .pce => headerRows ++ pceRows
  | .vfn => headerRows ++ vfnRows
  | .nvc => headerRows ++ nvcRows
  | .rtp => headerRows ++ rtpRows
  | .fpp => headerRows ++ fppRows
  | .fps => headerRows ++ fpsRows
  | .cip => headerRows ++ cipRows

/-- A field of a register in register space: the offset of the register and the bits. -/
structure Fld where
  off : Nat
  hi : Nat
  lo : Nat
deriving DecidableEq, Repr

/-! Named fields of the registers, as the maps name them. An instanced block takes its instance first,
then the register's indices. -/
def F.MOD_STS_READY : Fld := ⟨0x0, 31, 31⟩
def F.MOD_STS_MOVING : Fld := ⟨0x0, 30, 30⟩
def F.MOD_STS_STEP : Fld := ⟨0x0, 11, 8⟩
def F.MOD_STS_STATE : Fld := ⟨0x0, 3, 0⟩
def F.MOD_START_START_MS : Fld := ⟨0x4, 31, 16⟩
def F.MOD_START_SERVICE_WHY : Fld := ⟨0x4, 11, 8⟩
def F.MOD_START_STOP_CODE : Fld := ⟨0x4, 7, 4⟩
def F.MOD_START_CAUSE : Fld := ⟨0x4, 3, 0⟩
def F.MOD_PARKED0_STACKS : Fld := ⟨0x10, 31, 16⟩
def F.MOD_PARKED0_TILES : Fld := ⟨0x10, 15, 0⟩
def F.MOD_PARKED1_DIES : Fld := ⟨0x14, 31, 24⟩
def F.MOD_PARKED1_SHELVES : Fld := ⟨0x14, 23, 0⟩
def F.MOD_PARKED2_CIRC_B : Fld := ⟨0x18, 0, 0⟩
def F.MOD_HOLE_CAP0_CLASS : Fld := ⟨0x20, 31, 28⟩
def F.MOD_HOLE_CAP0_SECURE : Fld := ⟨0x20, 27, 27⟩
def F.MOD_HOLE_CAP0_INDEX : Fld := ⟨0x20, 23, 0⟩
def F.MOD_HOLE_CAP1_ADDR_LO : Fld := ⟨0x24, 31, 0⟩
def F.MOD_HOLE_CAP2_CAPTURED : Fld := ⟨0x28, 31, 31⟩
def F.MOD_HOLE_CAP2_WRITE : Fld := ⟨0x28, 30, 30⟩
def F.MOD_HOLE_CAP2_ADDR_HI : Fld := ⟨0x28, 7, 0⟩
def F.MOD_PART_CFG_ENABLE (j : Nat) : Fld := ⟨0x1000 + 0x40 * j, 31, 31⟩
def F.MOD_PART_CFG_ACTIVE (j : Nat) : Fld := ⟨0x1000 + 0x40 * j, 30, 30⟩
def F.MOD_PART_CFG_SEALED (j : Nat) : Fld := ⟨0x1000 + 0x40 * j, 29, 29⟩
def F.MOD_PART_CFG_JOB_SLOT (j : Nat) : Fld := ⟨0x1000 + 0x40 * j, 23, 20⟩
def F.MOD_PART_CFG_JOB_VALID (j : Nat) : Fld := ⟨0x1000 + 0x40 * j, 19, 19⟩
def F.MOD_PART_CFG_ROLE (j : Nat) : Fld := ⟨0x1000 + 0x40 * j, 18, 16⟩
def F.MOD_PART_CFG_OWNER (j : Nat) : Fld := ⟨0x1000 + 0x40 * j, 15, 0⟩
def F.MOD_PART_TILES_TILES (j : Nat) : Fld := ⟨0x1004 + 0x40 * j, 15, 0⟩
def F.MOD_PART_STS_CALM (j : Nat) : Fld := ⟨0x1008 + 0x40 * j, 31, 16⟩
def F.MOD_PART_STS_HALTED (j : Nat) : Fld := ⟨0x1008 + 0x40 * j, 15, 0⟩
def F.MOD_PART_STEP_LO (j : Nat) : Fld := ⟨0x1010 + 0x40 * j, 31, 0⟩
def F.MOD_PART_STEP_HI (j : Nat) : Fld := ⟨0x1014 + 0x40 * j, 31, 0⟩
def F.MOD_JOB_ID_JOB_ID (j : Nat) : Fld := ⟨0x2000 + 0x40 * j, 31, 0⟩
def F.MOD_JOB_CFG_ENABLE (j : Nat) : Fld := ⟨0x2004 + 0x40 * j, 31, 31⟩
def F.MOD_JOB_CFG_ACTIVE (j : Nat) : Fld := ⟨0x2004 + 0x40 * j, 30, 30⟩
def F.MOD_JOB_CFG_FOLLOW_SLOWEST (j : Nat) : Fld := ⟨0x2004 + 0x40 * j, 29, 29⟩
def F.MOD_JOB_CFG_NOTICE_GROUP (j : Nat) : Fld := ⟨0x2004 + 0x40 * j, 11, 0⟩
def F.MOD_JOB_MEMBERS (j : Nat) : Fld := ⟨0x2008 + 0x40 * j, 20, 0⟩
def F.MOD_JOB_COORD (j : Nat) : Fld := ⟨0x200c + 0x40 * j, 19, 0⟩
def F.MOD_JOB_STS_REASON (j : Nat) : Fld := ⟨0x2010 + 0x40 * j, 5, 4⟩
def F.MOD_JOB_STS_STATE (j : Nat) : Fld := ⟨0x2010 + 0x40 * j, 1, 0⟩
def F.MOD_JOB_STRAG_VALID (j : Nat) : Fld := ⟨0x2014 + 0x40 * j, 31, 31⟩
def F.MOD_JOB_STRAG_REASON (j : Nat) : Fld := ⟨0x2014 + 0x40 * j, 27, 24⟩
def F.MOD_JOB_STRAG_OP (j : Nat) : Fld := ⟨0x2014 + 0x40 * j, 23, 20⟩
def F.MOD_JOB_STRAG_MODULE (j : Nat) : Fld := ⟨0x2014 + 0x40 * j, 19, 0⟩
def F.MOD_JOB_STRAG_CNT_OVERFLOW (j : Nat) : Fld := ⟨0x2018 + 0x40 * j, 31, 31⟩
def F.MOD_JOB_STRAG_CNT_IN_FORCE (j : Nat) : Fld := ⟨0x2018 + 0x40 * j, 6, 0⟩
def F.MOD_STREAM_CTRL_ENABLE (j : Nat) : Fld := ⟨0x3000 + 0x40 * j, 31, 31⟩
def F.MOD_STREAM_CTRL_ACTIVE (j : Nat) : Fld := ⟨0x3000 + 0x40 * j, 30, 30⟩
def F.MOD_STREAM_CTRL_LEARN (j : Nat) : Fld := ⟨0x3000 + 0x40 * j, 29, 29⟩
def F.MOD_STREAM_CTRL_INPUT_EN (j : Nat) : Fld := ⟨0x3000 + 0x40 * j, 28, 28⟩
def F.MOD_STREAM_CTRL_WSEL (j : Nat) : Fld := ⟨0x3000 + 0x40 * j, 27, 27⟩
def F.MOD_STREAM_CTRL_MISS_EVT (j : Nat) : Fld := ⟨0x3000 + 0x40 * j, 26, 26⟩
def F.MOD_STREAM_CTRL_INPUT_CTX (j : Nat) : Fld := ⟨0x3000 + 0x40 * j, 17, 0⟩
def F.MOD_STREAM_PERIOD (j : Nat) : Fld := ⟨0x3004 + 0x40 * j, 23, 0⟩
def F.MOD_STREAM_DEADLINE (j : Nat) : Fld := ⟨0x3008 + 0x40 * j, 23, 0⟩
def F.MOD_STREAM_STEP_INPUT_STEP (j : Nat) : Fld := ⟨0x300c + 0x40 * j, 15, 0⟩
def F.MOD_STREAM_EST_SET (j : Nat) : Fld := ⟨0x3010 + 0x40 * j, 23, 0⟩
def F.MOD_STREAM_EST (j : Nat) : Fld := ⟨0x3014 + 0x40 * j, 23, 0⟩
def F.MOD_STREAM_FRAME (j : Nat) : Fld := ⟨0x3018 + 0x40 * j, 31, 0⟩
def F.MOD_STREAM_DONE (j : Nat) : Fld := ⟨0x301c + 0x40 * j, 31, 0⟩
def F.MOD_STREAM_STS_FRAME_ACTIVE (j : Nat) : Fld := ⟨0x3020 + 0x40 * j, 0, 0⟩
def F.MOD_STREAM_CNT_DONE (j : Nat) : Fld := ⟨0x3024 + 0x40 * j, 31, 0⟩
def F.MOD_STREAM_CNT_NO_INPUT (j : Nat) : Fld := ⟨0x3028 + 0x40 * j, 31, 0⟩
def F.MOD_STREAM_CNT_OVERRUN (j : Nat) : Fld := ⟨0x302c + 0x40 * j, 31, 0⟩
def F.MOD_STREAM_CNT_LATE (j : Nat) : Fld := ⟨0x3030 + 0x40 * j, 31, 0⟩
def F.MOD_CKPT_CFG_ENABLE (j : Nat) : Fld := ⟨0x4000 + 0x40 * j, 31, 31⟩
def F.MOD_CKPT_CFG_TRIGGER (j : Nat) : Fld := ⟨0x4000 + 0x40 * j, 29, 29⟩
def F.MOD_CKPT_CFG_RETAIN (j : Nat) : Fld := ⟨0x4000 + 0x40 * j, 26, 24⟩
def F.MOD_CKPT_CFG_LEAD (j : Nat) : Fld := ⟨0x4000 + 0x40 * j, 23, 16⟩
def F.MOD_CKPT_CFG_KEY_PAGE (j : Nat) : Fld := ⟨0x4000 + 0x40 * j, 11, 0⟩
def F.MOD_CKPT_TIMER (j : Nat) : Fld := ⟨0x4004 + 0x40 * j, 31, 0⟩
def F.MOD_CKPT_INTERVAL (j : Nat) : Fld := ⟨0x4008 + 0x40 * j, 31, 0⟩
def F.MOD_CKPT_MANIFEST (j : Nat) : Fld := ⟨0x400c + 0x40 * j, 31, 0⟩
def F.MOD_CKPT_NS_NSID (j : Nat) : Fld := ⟨0x4010 + 0x40 * j, 9, 0⟩
def F.MOD_CKPT_MAP_LO (j : Nat) : Fld := ⟨0x4014 + 0x40 * j, 31, 0⟩
def F.MOD_CKPT_MAP_HI (j : Nat) : Fld := ⟨0x4018 + 0x40 * j, 7, 0⟩
def F.MOD_CKPT_MAP_CNT (j : Nat) : Fld := ⟨0x401c + 0x40 * j, 15, 0⟩
def F.MOD_CKPT_TARGET_LO (j : Nat) : Fld := ⟨0x4020 + 0x40 * j, 31, 0⟩
def F.MOD_CKPT_TARGET_HI (j : Nat) : Fld := ⟨0x4024 + 0x40 * j, 31, 0⟩
def F.MOD_CKPT_STS_HOLD (j : Nat) : Fld := ⟨0x4028 + 0x40 * j, 31, 31⟩
def F.MOD_CKPT_STS_PHASE (j : Nat) : Fld := ⟨0x4028 + 0x40 * j, 30, 28⟩
def F.MOD_CKPT_STS_LAST_RESULT (j : Nat) : Fld := ⟨0x4028 + 0x40 * j, 27, 24⟩
def F.MOD_CKPT_STS_REASON (j : Nat) : Fld := ⟨0x4028 + 0x40 * j, 23, 16⟩
def F.MOD_CKPT_GEN (j : Nat) : Fld := ⟨0x402c + 0x40 * j, 31, 0⟩
def F.MOD_CKPT_ATTEMPT (j : Nat) : Fld := ⟨0x4030 + 0x40 * j, 31, 0⟩
def F.PWR_STS_EMERGENCY : Fld := ⟨0x10000, 31, 31⟩
def F.PWR_STS_BROWNOUT : Fld := ⟨0x10000, 30, 29⟩
def F.PWR_STS_CAP_STAGE : Fld := ⟨0x10000, 28, 27⟩
def F.PWR_STS_CAP_UNMET : Fld := ⟨0x10000, 26, 26⟩
def F.PWR_STS_SQUALL : Fld := ⟨0x10000, 25, 25⟩
def F.PWR_STS_HOLDUP_OK : Fld := ⟨0x10000, 24, 24⟩
def F.PWR_STS_FILL_TILES : Fld := ⟨0x10000, 15, 0⟩
def F.PWR_CAP_CAP_W : Fld := ⟨0x10004, 15, 0⟩
def F.PWR_FLOOR_FLOOR_W : Fld := ⟨0x10008, 15, 0⟩
def F.PWR_LIMITS_WARN_DV : Fld := ⟨0x1000c, 25, 16⟩
def F.PWR_LIMITS_MAX_HOLD_MS : Fld := ⟨0x1000c, 15, 8⟩
def F.PWR_LIMITS_SLEW : Fld := ⟨0x1000c, 5, 0⟩
def F.PWR_INPUT0_IIN : Fld := ⟨0x10020, 31, 16⟩
def F.PWR_INPUT0_VIN : Fld := ⟨0x10020, 15, 0⟩
def F.PWR_INPUT1_P1S : Fld := ⟨0x10024, 31, 16⟩
def F.PWR_INPUT1_P1MS : Fld := ⟨0x10024, 15, 0⟩
def F.PWR_HOLDUP_CHARGE_PCT : Fld := ⟨0x10028, 15, 8⟩
def F.PWR_HOLDUP_ENERGY_J : Fld := ⟨0x10028, 7, 0⟩
def F.PWR_SQUALL_CNT : Fld := ⟨0x10040, 31, 0⟩
def F.PWR_FILL_CNT : Fld := ⟨0x10044, 31, 0⟩
def F.PWR_STAGE3_CNT : Fld := ⟨0x10048, 31, 0⟩
def F.PWR_BROWNOUT_CNT : Fld := ⟨0x1004c, 31, 0⟩
def F.PWR_RECOVERED_CNT : Fld := ⟨0x10050, 31, 0⟩
def F.PWR_DROOP_CNT : Fld := ⟨0x10054, 31, 0⟩
def F.PWR_TILE_OP_LIMIT_BY (j : Nat) : Fld := ⟨0x10100 + 0x4 * j, 31, 28⟩
def F.PWR_TILE_OP_PHASE (j : Nat) : Fld := ⟨0x10100 + 0x4 * j, 21, 16⟩
def F.PWR_TILE_OP_RUN (j : Nat) : Fld := ⟨0x10100 + 0x4 * j, 11, 8⟩
def F.PWR_TILE_OP_CEIL (j : Nat) : Fld := ⟨0x10100 + 0x4 * j, 7, 4⟩
def F.PWR_TILE_OP_REQ (j : Nat) : Fld := ⟨0x10100 + 0x4 * j, 3, 0⟩
def F.PWR_PHASE_PREF_PREF (j k : Nat) : Fld := ⟨0x11000 + 0x20 * j + 0x4 * k, 31, 0⟩
def F.THM_CFG_LEAK_ACTION : Fld := ⟨0x20000, 9, 8⟩
def F.THM_CFG_THROTTLE_C : Fld := ⟨0x20000, 7, 0⟩
def F.THM_STS_EMERGENCY : Fld := ⟨0x20004, 31, 31⟩
def F.THM_STS_LEAK : Fld := ⟨0x20004, 30, 30⟩
def F.THM_STS_COOLANT_LOW : Fld := ⟨0x20004, 29, 29⟩
def F.THM_STS_INLET_RANGE : Fld := ⟨0x20004, 28, 28⟩
def F.THM_STS_TRIP_LAST : Fld := ⟨0x20004, 27, 27⟩
def F.THM_STS_HOTTEST : Fld := ⟨0x20004, 13, 8⟩
def F.THM_STS_HOTTEST_C : Fld := ⟨0x20004, 7, 0⟩
def F.THM_COOLANT_FLOW : Fld := ⟨0x20008, 31, 16⟩
def F.THM_COOLANT_OUTLET_C : Fld := ⟨0x20008, 15, 8⟩
def F.THM_COOLANT_INLET_C : Fld := ⟨0x20008, 7, 0⟩
def F.THM_SENSOR_VALID (j : Nat) : Fld := ⟨0x20100 + 0x4 * j, 31, 31⟩
def F.THM_SENSOR_TEMP (j : Nat) : Fld := ⟨0x20100 + 0x4 * j, 15, 0⟩
def F.FWM_STS_UPD_STATE : Fld := ⟨0x30000, 31, 28⟩
def F.FWM_STS_LOCK : Fld := ⟨0x30000, 27, 27⟩
def F.FWM_STS_CAT_FALLBACK : Fld := ⟨0x30000, 26, 26⟩
def F.FWM_STS_FALLBACK : Fld := ⟨0x30000, 25, 25⟩
def F.FWM_STS_CAT_ACTIVE : Fld := ⟨0x30000, 24, 24⟩
def F.FWM_STS_PENDING_VALID : Fld := ⟨0x30000, 23, 23⟩
def F.FWM_STS_PENDING_SLOT : Fld := ⟨0x30000, 22, 22⟩
def F.FWM_STS_ACTIVE_SLOT : Fld := ⟨0x30000, 21, 21⟩
def F.FWM_STS_LAST_REFUSAL : Fld := ⟨0x30000, 19, 16⟩
def F.FWM_STS_DEFER_S : Fld := ⟨0x30000, 15, 0⟩
def F.FWM_VER_A : Fld := ⟨0x30004, 31, 0⟩
def F.FWM_VER_B : Fld := ⟨0x30008, 31, 0⟩
def F.FWM_VER_CAT : Fld := ⟨0x3000c, 31, 0⟩
def F.FWM_SVN_FUSED_MIN : Fld := ⟨0x30010, 31, 16⟩
def F.FWM_SVN_ACTIVE : Fld := ⟨0x30010, 15, 0⟩
def F.FWM_CORE_STS_RESTARTS (j : Nat) : Fld := ⟨0x30100 + 0x4 * j, 31, 24⟩
def F.FWM_CORE_STS_LAST_CAUSE (j : Nat) : Fld := ⟨0x30100 + 0x4 * j, 15, 8⟩
def F.FWM_CORE_STS_STATE (j : Nat) : Fld := ⟨0x30100 + 0x4 * j, 2, 0⟩
def F.LOG_HEAD : Fld := ⟨0x40000, 31, 0⟩
def F.LOG_DROPPED : Fld := ⟨0x40004, 31, 0⟩
def F.LOG_TRACE_DROPPED : Fld := ⟨0x40008, 31, 0⟩
def F.TEL_CTRL_ENABLE : Fld := ⟨0x50000, 31, 31⟩
def F.TEL_CTRL_RING_LOG2 : Fld := ⟨0x50000, 20, 16⟩
def F.TEL_CTRL_OWNER : Fld := ⟨0x50000, 15, 0⟩
def F.TEL_RING_LO : Fld := ⟨0x50004, 31, 0⟩
def F.TEL_RING_HI : Fld := ⟨0x50008, 7, 0⟩
def F.TEL_SAMPLES_SKIPPED : Fld := ⟨0x50040, 31, 0⟩
def F.TEL_SAMPLES_LOST : Fld := ⟨0x50044, 31, 0⟩
def F.TEL_SEL_ID_QUEUE_ID (j : Nat) : Fld := ⟨0x51000 + 0x8 * j, 31, 0⟩
def F.TEL_SEL_INT (j : Nat) : Fld := ⟨0x51004 + 0x8 * j, 19, 0⟩
def F.FIN_LINK_CTRL_ARM (j : Nat) : Fld := ⟨0x61000 + 0x20 * j, 31, 31⟩
def F.FIN_LINK_CTRL_MODE (j : Nat) : Fld := ⟨0x61000 + 0x20 * j, 30, 30⟩
def F.FIN_LINK_CTRL_ACTION (j : Nat) : Fld := ⟨0x61000 + 0x20 * j, 29, 27⟩
def F.FIN_LINK_CTRL_OPCODE (j : Nat) : Fld := ⟨0x61000 + 0x20 * j, 15, 8⟩
def F.FIN_LINK_CTRL_VC_MASK (j : Nat) : Fld := ⟨0x61000 + 0x20 * j, 7, 0⟩
def F.FIN_LINK_PARAM_PARAM (j : Nat) : Fld := ⟨0x61004 + 0x20 * j, 31, 16⟩
def F.FIN_LINK_PARAM_PARAM_P (j : Nat) : Fld := ⟨0x61004 + 0x20 * j, 15, 0⟩
def F.KEY_FREE : Fld := ⟨0x70000, 12, 0⟩
def F.KEY_PAGE_STS_OWNER (j : Nat) : Fld := ⟨0x74000 + 0x4 * j, 31, 16⟩
def F.KEY_PAGE_STS_SEALED_ONLY (j : Nat) : Fld := ⟨0x74000 + 0x4 * j, 15, 15⟩
def F.KEY_PAGE_STS_KDF (j : Nat) : Fld := ⟨0x74000 + 0x4 * j, 11, 11⟩
def F.KEY_PAGE_STS_MAC (j : Nat) : Fld := ⟨0x74000 + 0x4 * j, 10, 10⟩
def F.KEY_PAGE_STS_DEC (j : Nat) : Fld := ⟨0x74000 + 0x4 * j, 9, 9⟩
def F.KEY_PAGE_STS_ENC (j : Nat) : Fld := ⟨0x74000 + 0x4 * j, 8, 8⟩
def F.KEY_PAGE_STS_TYPE (j : Nat) : Fld := ⟨0x74000 + 0x4 * j, 5, 3⟩
def F.KEY_PAGE_STS_STATE (j : Nat) : Fld := ⟨0x74000 + 0x4 * j, 2, 0⟩
def F.TIL_CMD_HEAD_HEAD (i : Nat) : Fld := ⟨0x100000 + 0x10000 * i, 6, 0⟩
def F.TIL_CMD_TAIL_TAIL (i : Nat) : Fld := ⟨0x100004 + 0x10000 * i, 6, 0⟩
def F.TIL_CMD_CTRL_ACTION (i : Nat) : Fld := ⟨0x100008 + 0x10000 * i, 1, 0⟩
def F.TIL_STS_BANK1 (i : Nat) : Fld := ⟨0x10000c + 0x10000 * i, 27, 26⟩
def F.TIL_STS_BANK0 (i : Nat) : Fld := ⟨0x10000c + 0x10000 * i, 25, 24⟩
def F.TIL_STS_QUEUED (i : Nat) : Fld := ⟨0x10000c + 0x10000 * i, 22, 16⟩
def F.TIL_STS_VECTOR_BUSY (i : Nat) : Fld := ⟨0x10000c + 0x10000 * i, 11, 11⟩
def F.TIL_STS_MMA_BUSY (i : Nat) : Fld := ⟨0x10000c + 0x10000 * i, 10, 10⟩
def F.TIL_STS_DMA_BUSY (i : Nat) : Fld := ⟨0x10000c + 0x10000 * i, 9, 9⟩
def F.TIL_STS_SYNC_HELD (i : Nat) : Fld := ⟨0x10000c + 0x10000 * i, 8, 8⟩
def F.TIL_STS_STATE (i : Nat) : Fld := ⟨0x10000c + 0x10000 * i, 3, 0⟩
def F.TIL_CMD_ABORTS (i : Nat) : Fld := ⟨0x100010 + 0x10000 * i, 31, 0⟩
def F.TIL_RESET_DONE (i : Nat) : Fld := ⟨0x100020 + 0x10000 * i, 1, 1⟩
def F.TIL_RESET_GO (i : Nat) : Fld := ⟨0x100020 + 0x10000 * i, 0, 0⟩
def F.TIL_SIG_CNT (i j : Nat) : Fld := ⟨0x100040 + 0x10000 * i + 0x4 * j, 31, 0⟩
def F.TIL_ERR_REC0_CODE (i : Nat) : Fld := ⟨0x100100 + 0x10000 * i, 31, 24⟩
def F.TIL_ERR_REC0_OPCODE (i : Nat) : Fld := ⟨0x100100 + 0x10000 * i, 23, 16⟩
def F.TIL_ERR_REC0_UNIT (i : Nat) : Fld := ⟨0x100100 + 0x10000 * i, 15, 14⟩
def F.TIL_ERR_REC0_WORD (i : Nat) : Fld := ⟨0x100100 + 0x10000 * i, 13, 9⟩
def F.TIL_ERR_REC0_SLOT (i : Nat) : Fld := ⟨0x100100 + 0x10000 * i, 5, 0⟩
def F.TIL_ERR_REC1_TAG (i : Nat) : Fld := ⟨0x100104 + 0x10000 * i, 15, 0⟩
def F.TIL_ERR_REC2 (i : Nat) : Fld := ⟨0x100108 + 0x10000 * i, 31, 0⟩
def F.TIL_ERR_REC3 (i : Nat) : Fld := ⟨0x10010c + 0x10000 * i, 31, 0⟩
def F.TIL_ERR_REC4 (i : Nat) : Fld := ⟨0x100110 + 0x10000 * i, 31, 0⟩
def F.TIL_HSR_SEED_LO_SEED (i : Nat) : Fld := ⟨0x100200 + 0x10000 * i, 31, 0⟩
def F.TIL_HSR_SEED_HI_SEED (i : Nat) : Fld := ⟨0x100204 + 0x10000 * i, 31, 0⟩
def F.TIL_HSR_STEP (i : Nat) : Fld := ⟨0x100208 + 0x10000 * i, 31, 0⟩
def F.TIL_ARITH_FLAGS_ANCHOR_MIX (i : Nat) : Fld := ⟨0x10020c + 0x10000 * i, 8, 8⟩
def F.TIL_ARITH_FLAGS_COUNT_SAT (i : Nat) : Fld := ⟨0x10020c + 0x10000 * i, 7, 7⟩
def F.TIL_ARITH_FLAGS_LONG (i : Nat) : Fld := ⟨0x10020c + 0x10000 * i, 6, 6⟩
def F.TIL_ARITH_FLAGS_AUTO (i : Nat) : Fld := ⟨0x10020c + 0x10000 * i, 5, 5⟩
def F.TIL_ARITH_FLAGS_NINF (i : Nat) : Fld := ⟨0x10020c + 0x10000 * i, 4, 4⟩
def F.TIL_ARITH_FLAGS_PINF (i : Nat) : Fld := ⟨0x10020c + 0x10000 * i, 3, 3⟩
def F.TIL_ARITH_FLAGS_NAN (i : Nat) : Fld := ⟨0x10020c + 0x10000 * i, 2, 2⟩
def F.TIL_ARITH_FLAGS_INEXACT (i : Nat) : Fld := ⟨0x10020c + 0x10000 * i, 1, 1⟩
def F.TIL_ARITH_FLAGS_OVER (i : Nat) : Fld := ⟨0x10020c + 0x10000 * i, 0, 0⟩
def F.TIL_DRAIN_LAST_TAG (i : Nat) : Fld := ⟨0x100210 + 0x10000 * i, 31, 16⟩
def F.TIL_DRAIN_LAST_FLAGS (i : Nat) : Fld := ⟨0x100210 + 0x10000 * i, 8, 0⟩
def F.TIL_META (i j : Nat) : Fld := ⟨0x100300 + 0x10000 * i + 0x4 * j, 15, 0⟩
def F.TIL_CARREL_CE_CNT (i : Nat) : Fld := ⟨0x100400 + 0x10000 * i, 31, 0⟩
def F.TIL_CARREL_UE_CNT (i : Nat) : Fld := ⟨0x100404 + 0x10000 * i, 31, 0⟩
def F.LXC_STS_FROZEN (i : Nat) : Fld := ⟨0x200000 + 0x10000 * i, 8, 8⟩
def F.LXC_STS_COMPAT (i : Nat) : Fld := ⟨0x200000 + 0x10000 * i, 5, 5⟩
def F.LXC_STS_PRIV (i : Nat) : Fld := ⟨0x200000 + 0x10000 * i, 4, 4⟩
def F.LXC_STS_STATE (i : Nat) : Fld := ⟨0x200000 + 0x10000 * i, 2, 0⟩
def F.LXC_CTRL_RESTART (i : Nat) : Fld := ⟨0x200004 + 0x10000 * i, 2, 2⟩
def F.LXC_CTRL_STEP (i : Nat) : Fld := ⟨0x200004 + 0x10000 * i, 1, 1⟩
def F.LXC_CTRL_HALT (i : Nat) : Fld := ⟨0x200004 + 0x10000 * i, 0, 0⟩
def F.LXC_DOORBELL_RING (i : Nat) : Fld := ⟨0x200008 + 0x10000 * i, 0, 0⟩
def F.LXC_PC_PC (i : Nat) : Fld := ⟨0x20000c + 0x10000 * i, 31, 0⟩
def F.LXC_LAST_TRAP_FROM_PRIV (i : Nat) : Fld := ⟨0x200010 + 0x10000 * i, 4, 4⟩
def F.LXC_LAST_TRAP_CAUSE (i : Nat) : Fld := ⟨0x200010 + 0x10000 * i, 3, 0⟩
def F.LXC_CE_CNT (i : Nat) : Fld := ⟨0x200014 + 0x10000 * i, 31, 0⟩
def F.SHF_STS_INIT_DONE (i : Nat) : Fld := ⟨0x300000 + 0x10000 * i, 3, 3⟩
def F.SHF_STS_PARKED (i : Nat) : Fld := ⟨0x300000 + 0x10000 * i, 2, 0⟩
def F.SHF_CE_CNT (i j : Nat) : Fld := ⟨0x300010 + 0x10000 * i + 0x20 * j, 31, 0⟩
def F.SHF_UE_CNT (i j : Nat) : Fld := ⟨0x300014 + 0x10000 * i + 0x20 * j, 31, 0⟩
def F.SHF_CE_WINDOW (i j : Nat) : Fld := ⟨0x300018 + 0x10000 * i + 0x20 * j, 31, 0⟩
def F.SHF_UE_ADDR_LO (i j : Nat) : Fld := ⟨0x30001c + 0x10000 * i + 0x20 * j, 31, 0⟩
def F.SHF_UE_ADDR_HI_CAPTURED (i j : Nat) : Fld := ⟨0x300020 + 0x10000 * i + 0x20 * j, 31, 31⟩
def F.SHF_UE_ADDR_HI_ADDR (i j : Nat) : Fld := ⟨0x300020 + 0x10000 * i + 0x20 * j, 7, 0⟩
def F.SHF_CE_THRESH (i : Nat) : Fld := ⟨0x300080 + 0x10000 * i, 31, 0⟩
def F.SHF_SCRUB_CTRL_SHARE (i : Nat) : Fld := ⟨0x300100 + 0x10000 * i, 9, 8⟩
def F.SHF_SCRUB_CTRL_ZERO (i : Nat) : Fld := ⟨0x300100 + 0x10000 * i, 2, 2⟩
def F.SHF_SCRUB_CTRL_ABORT (i : Nat) : Fld := ⟨0x300100 + 0x10000 * i, 1, 1⟩
def F.SHF_SCRUB_CTRL_GO (i : Nat) : Fld := ⟨0x300100 + 0x10000 * i, 0, 0⟩
def F.SHF_SCRUB_START_LO (i : Nat) : Fld := ⟨0x300104 + 0x10000 * i, 31, 0⟩
def F.SHF_SCRUB_START_HI (i : Nat) : Fld := ⟨0x300108 + 0x10000 * i, 7, 0⟩
def F.SHF_SCRUB_LEN_LO (i : Nat) : Fld := ⟨0x30010c + 0x10000 * i, 31, 0⟩
def F.SHF_SCRUB_LEN_HI (i : Nat) : Fld := ⟨0x300110 + 0x10000 * i, 7, 0⟩
def F.SHF_SCRUB_DEST_LO (i : Nat) : Fld := ⟨0x300114 + 0x10000 * i, 31, 0⟩
def F.SHF_SCRUB_DEST_HI (i : Nat) : Fld := ⟨0x300118 + 0x10000 * i, 7, 0⟩
def F.SHF_SCRUB_STS_RESULT (i : Nat) : Fld := ⟨0x30011c + 0x10000 * i, 3, 1⟩
def F.SHF_SCRUB_STS_BUSY (i : Nat) : Fld := ⟨0x30011c + 0x10000 * i, 0, 0⟩
def F.HBC_STS_REFRESH_2X (i : Nat) : Fld := ⟨0x400000 + 0x10000 * i, 4, 4⟩
def F.HBC_STS_INIT_DONE (i : Nat) : Fld := ⟨0x400000 + 0x10000 * i, 2, 2⟩
def F.HBC_STS_TRAINED (i : Nat) : Fld := ⟨0x400000 + 0x10000 * i, 1, 1⟩
def F.HBC_STS_PARKED (i : Nat) : Fld := ⟨0x400000 + 0x10000 * i, 0, 0⟩
def F.HBC_CE_CNT (i : Nat) : Fld := ⟨0x400010 + 0x10000 * i, 31, 0⟩
def F.HBC_UE_CNT (i : Nat) : Fld := ⟨0x400014 + 0x10000 * i, 31, 0⟩
def F.HBC_CE_WINDOW (i : Nat) : Fld := ⟨0x400018 + 0x10000 * i, 31, 0⟩
def F.HBC_UE_ADDR_LO (i : Nat) : Fld := ⟨0x40001c + 0x10000 * i, 31, 0⟩
def F.HBC_UE_ADDR_HI_CAPTURED (i : Nat) : Fld := ⟨0x400020 + 0x10000 * i, 31, 31⟩
def F.HBC_UE_ADDR_HI_ADDR (i : Nat) : Fld := ⟨0x400020 + 0x10000 * i, 7, 0⟩
def F.HBC_ODECC_CNT (i : Nat) : Fld := ⟨0x400030 + 0x10000 * i, 31, 0⟩
def F.HBC_CE_THRESH (i : Nat) : Fld := ⟨0x400080 + 0x10000 * i, 31, 0⟩
def F.HBC_SCRUB_CTRL_SHARE (i : Nat) : Fld := ⟨0x400100 + 0x10000 * i, 9, 8⟩
def F.HBC_SCRUB_CTRL_ZERO (i : Nat) : Fld := ⟨0x400100 + 0x10000 * i, 2, 2⟩
def F.HBC_SCRUB_CTRL_ABORT (i : Nat) : Fld := ⟨0x400100 + 0x10000 * i, 1, 1⟩
def F.HBC_SCRUB_CTRL_GO (i : Nat) : Fld := ⟨0x400100 + 0x10000 * i, 0, 0⟩
def F.HBC_SCRUB_START_LO (i : Nat) : Fld := ⟨0x400104 + 0x10000 * i, 31, 0⟩
def F.HBC_SCRUB_START_HI (i : Nat) : Fld := ⟨0x400108 + 0x10000 * i, 7, 0⟩
def F.HBC_SCRUB_LEN_LO (i : Nat) : Fld := ⟨0x40010c + 0x10000 * i, 31, 0⟩
def F.HBC_SCRUB_LEN_HI (i : Nat) : Fld := ⟨0x400110 + 0x10000 * i, 7, 0⟩
def F.HBC_SCRUB_DEST_LO (i : Nat) : Fld := ⟨0x400114 + 0x10000 * i, 31, 0⟩
def F.HBC_SCRUB_DEST_HI (i : Nat) : Fld := ⟨0x400118 + 0x10000 * i, 7, 0⟩
def F.HBC_SCRUB_STS_RESULT (i : Nat) : Fld := ⟨0x40011c + 0x10000 * i, 3, 1⟩
def F.HBC_SCRUB_STS_BUSY (i : Nat) : Fld := ⟨0x40011c + 0x10000 * i, 0, 0⟩
def F.MYL_CFG_ALLOW_FAR_EDDY (i : Nat) : Fld := ⟨0x800000 + 0x10000 * i, 23, 23⟩
def F.MYL_CFG_AUTO_RETRAIN (i : Nat) : Fld := ⟨0x800000 + 0x10000 * i, 22, 22⟩
def F.MYL_CFG_LINK_CLASS (i : Nat) : Fld := ⟨0x800000 + 0x10000 * i, 21, 20⟩
def F.MYL_CFG_FEC_PREF (i : Nat) : Fld := ⟨0x800000 + 0x10000 * i, 16, 16⟩
def F.MYL_CFG_FEC_ALLOW (i : Nat) : Fld := ⟨0x800000 + 0x10000 * i, 15, 14⟩
def F.MYL_CFG_WIDTH_ALLOW (i : Nat) : Fld := ⟨0x800000 + 0x10000 * i, 10, 8⟩
def F.MYL_CFG_RATE_ALLOW (i : Nat) : Fld := ⟨0x800000 + 0x10000 * i, 3, 0⟩
def F.MYL_EXPECT_CHECK (i : Nat) : Fld := ⟨0x800004 + 0x10000 * i, 31, 31⟩
def F.MYL_EXPECT_PARTNER_LINK (i : Nat) : Fld := ⟨0x800004 + 0x10000 * i, 25, 20⟩
def F.MYL_EXPECT_PARTNER_MODULE (i : Nat) : Fld := ⟨0x800004 + 0x10000 * i, 19, 0⟩
def F.MYL_STS_REASON (i : Nat) : Fld := ⟨0x800010 + 0x10000 * i, 31, 28⟩
def F.MYL_STS_LANES (i : Nat) : Fld := ⟨0x800010 + 0x10000 * i, 27, 24⟩
def F.MYL_STS_FEC (i : Nat) : Fld := ⟨0x800010 + 0x10000 * i, 22, 22⟩
def F.MYL_STS_WIDTH (i : Nat) : Fld := ⟨0x800010 + 0x10000 * i, 21, 20⟩
def F.MYL_STS_RATE (i : Nat) : Fld := ⟨0x800010 + 0x10000 * i, 19, 17⟩
def F.MYL_STS_STATE (i : Nat) : Fld := ⟨0x800010 + 0x10000 * i, 3, 0⟩
def F.MYL_PARTNER_VALID (i : Nat) : Fld := ⟨0x800014 + 0x10000 * i, 31, 31⟩
def F.MYL_PARTNER_TREE (i : Nat) : Fld := ⟨0x800014 + 0x10000 * i, 30, 30⟩
def F.MYL_PARTNER_LEDGER (i : Nat) : Fld := ⟨0x800014 + 0x10000 * i, 29, 29⟩
def F.MYL_PARTNER_LINK (i : Nat) : Fld := ⟨0x800014 + 0x10000 * i, 25, 20⟩
def F.MYL_PARTNER_MODULE (i : Nat) : Fld := ⟨0x800014 + 0x10000 * i, 19, 0⟩
def F.MYL_TX_EPOCH (i : Nat) : Fld := ⟨0x800020 + 0x10000 * i, 31, 0⟩
def F.MYL_RX_EPOCH (i : Nat) : Fld := ⟨0x800024 + 0x10000 * i, 31, 0⟩
def F.MYL_REKEY_FORCE (i : Nat) : Fld := ⟨0x800028 + 0x10000 * i, 8, 8⟩
def F.MYL_REKEY_INTERVAL (i : Nat) : Fld := ⟨0x800028 + 0x10000 * i, 5, 0⟩
def F.MYL_FEC_CORR (i : Nat) : Fld := ⟨0x800040 + 0x10000 * i, 31, 0⟩
def F.MYL_FEC_UNCORR (i : Nat) : Fld := ⟨0x800044 + 0x10000 * i, 31, 0⟩
def F.MYL_CRC_ERR (i : Nat) : Fld := ⟨0x800048 + 0x10000 * i, 31, 0⟩
def F.MYL_REPLAY (i : Nat) : Fld := ⟨0x80004c + 0x10000 * i, 31, 0⟩
def F.MYL_TAG_FAIL (i : Nat) : Fld := ⟨0x800050 + 0x10000 * i, 31, 0⟩
def F.MYL_DOWN_CNT (i : Nat) : Fld := ⟨0x800054 + 0x10000 * i, 31, 0⟩
def F.MYL_TRAIN_CNT (i : Nat) : Fld := ⟨0x800058 + 0x10000 * i, 31, 0⟩
def F.MYL_EDDY_PATTERN (i : Nat) : Fld := ⟨0x800080 + 0x10000 * i, 5, 4⟩
def F.MYL_EDDY_MODE (i : Nat) : Fld := ⟨0x800080 + 0x10000 * i, 1, 0⟩
def F.MYL_EDDY_ERR (i : Nat) : Fld := ⟨0x800084 + 0x10000 * i, 31, 0⟩
def F.MYR_FABRIC_ID_VALID : Fld := ⟨0xc00010, 31, 31⟩
def F.MYR_FABRIC_ID_MODULE_ID : Fld := ⟨0xc00010, 19, 0⟩
def F.MYR_ROUTE_CTRL_GROUP_SHIFT : Fld := ⟨0xc00020, 11, 8⟩
def F.MYR_ROUTE_CTRL_SWAP : Fld := ⟨0xc00020, 1, 1⟩
def F.MYR_ROUTE_CTRL_ACTIVE_BANK : Fld := ⟨0xc00020, 0, 0⟩
def F.MYR_UP_LO : Fld := ⟨0xc00030, 31, 0⟩
def F.MYR_UP_HI : Fld := ⟨0xc00034, 15, 0⟩
def F.MYR_CFG_UNREACH_MS : Fld := ⟨0xc00040, 31, 24⟩
def F.MYR_CFG_VIA_CNT : Fld := ⟨0xc00040, 23, 16⟩
def F.MYR_CFG_CROSS_THRESH : Fld := ⟨0xc00040, 15, 8⟩
def F.MYR_CFG_NONMIN_THRESH : Fld := ⟨0xc00040, 7, 0⟩
def F.MYR_DISC_CNT (j : Nat) : Fld := ⟨0xc00100 + 0x4 * j, 31, 0⟩
def F.MYR_VIA_LIST_GROUP (j : Nat) : Fld := ⟨0xc00800 + 0x4 * j, 19, 0⟩
def F.MYR_BANK0 (j : Nat) : Fld := ⟨0xd00000 + 0x4 * j, 31, 0⟩
def F.MYR_BANK1 (j : Nat) : Fld := ⟨0xd80000 + 0x4 * j, 31, 0⟩
def F.GMA_CTX_BASE_LO_BASE : Fld := ⟨0x1000000, 31, 26⟩
def F.GMA_CTX_BASE_HI_BASE : Fld := ⟨0x1000004, 31, 0⟩
def F.GMA_CTX_LOC_HOST : Fld := ⟨0x1000008, 31, 31⟩
def F.GMA_CTX_LOC_PASID : Fld := ⟨0x1000008, 19, 0⟩
def F.GMA_RREG_BLOCKS_BLOCKS_HI : Fld := ⟨0x1000020, 21, 8⟩
def F.GMA_RREG_BLOCKS_BLOCKS_LO : Fld := ⟨0x1000020, 5, 0⟩
def F.GMA_HOLD_STS_FREE_B : Fld := ⟨0x1000030, 31, 16⟩
def F.GMA_HOLD_STS_FREE_A : Fld := ⟨0x1000030, 15, 0⟩
def F.GMA_CACHE_STS_PINNED : Fld := ⟨0x1000034, 29, 16⟩
def F.GMA_CACHE_STS_FETCHING : Fld := ⟨0x1000034, 5, 0⟩
def F.GMA_MSG_TIMEOUT : Fld := ⟨0x1000038, 23, 0⟩
def F.GMA_TILE_CTX_VALID (j : Nat) : Fld := ⟨0x1000100 + 0x4 * j, 31, 31⟩
def F.GMA_TILE_CTX_CTX (j : Nat) : Fld := ⟨0x1000100 + 0x4 * j, 17, 0⟩
def F.GMA_CNT (j : Nat) : Fld := ⟨0x1000200 + 0x4 * j, 31, 0⟩
def F.GMA_VIOL_CAP0_CAPTURED : Fld := ⟨0x1000280, 31, 31⟩
def F.GMA_VIOL_CAP0_CODE : Fld := ⟨0x1000280, 27, 24⟩
def F.GMA_VIOL_CAP0_SPACE : Fld := ⟨0x1000280, 23, 20⟩
def F.GMA_VIOL_CAP0_SRC_MODULE : Fld := ⟨0x1000280, 19, 0⟩
def F.GMA_VIOL_CAP1_OPCODE : Fld := ⟨0x1000284, 31, 24⟩
def F.GMA_VIOL_CAP1_ENDPOINT : Fld := ⟨0x1000284, 17, 0⟩
def F.GMA_VIOL_CAP2 : Fld := ⟨0x1000288, 31, 0⟩
def F.GMA_VIOL_CAP3 : Fld := ⟨0x100028c, 7, 0⟩
def F.GMA_BAR_ARRIVE_GROUP : Fld := ⟨0x1000300, 11, 0⟩
def F.GMA_WIN_CTRL_ENABLE (j : Nat) : Fld := ⟨0x1100000 + 0x20 * j, 31, 31⟩
def F.GMA_WIN_CTRL_ACTIVE (j : Nat) : Fld := ⟨0x1100000 + 0x20 * j, 30, 30⟩
def F.GMA_WIN_CTRL_LEDGER (j : Nat) : Fld := ⟨0x1100000 + 0x20 * j, 27, 27⟩
def F.GMA_WIN_CTRL_ATOMIC (j : Nat) : Fld := ⟨0x1100000 + 0x20 * j, 26, 26⟩
def F.GMA_WIN_CTRL_WRITE (j : Nat) : Fld := ⟨0x1100000 + 0x20 * j, 25, 25⟩
def F.GMA_WIN_CTRL_READ (j : Nat) : Fld := ⟨0x1100000 + 0x20 * j, 24, 24⟩
def F.GMA_WIN_CTRL_OWNER (j : Nat) : Fld := ⟨0x1100000 + 0x20 * j, 15, 0⟩
def F.GMA_WIN_LO (j : Nat) : Fld := ⟨0x1100004 + 0x20 * j, 27, 0⟩
def F.GMA_WIN_HI (j : Nat) : Fld := ⟨0x1100008 + 0x20 * j, 27, 0⟩
def F.GMA_WIN_SRC (j : Nat) : Fld := ⟨0x110000c + 0x20 * j, 19, 0⟩
def F.GMA_WIN_SRCMASK (j : Nat) : Fld := ⟨0x1100010 + 0x20 * j, 19, 0⟩
def F.GMA_WIN_REF (j : Nat) : Fld := ⟨0x1100014 + 0x20 * j, 31, 0⟩
def F.GMA_BAR_CFG_ENABLE (j : Nat) : Fld := ⟨0x1200000 + 0x20 * j, 31, 31⟩
def F.GMA_BAR_CFG_ROOT (j : Nat) : Fld := ⟨0x1200000 + 0x20 * j, 30, 30⟩
def F.GMA_BAR_CFG_PARENT (j : Nat) : Fld := ⟨0x1200000 + 0x20 * j, 29, 24⟩
def F.GMA_BAR_CFG_HOME (j : Nat) : Fld := ⟨0x1200000 + 0x20 * j, 23, 23⟩
def F.GMA_BAR_CFG_REDUCE_EN (j : Nat) : Fld := ⟨0x1200000 + 0x20 * j, 22, 22⟩
def F.GMA_BAR_CFG_LOCAL_EXPECT (j : Nat) : Fld := ⟨0x1200000 + 0x20 * j, 21, 12⟩
def F.GMA_BAR_CHILD_LO_CHILD (j : Nat) : Fld := ⟨0x1200004 + 0x20 * j, 31, 0⟩
def F.GMA_BAR_CHILD_HI_OWNER (j : Nat) : Fld := ⟨0x1200008 + 0x20 * j, 31, 16⟩
def F.GMA_BAR_CHILD_HI_CHILD (j : Nat) : Fld := ⟨0x1200008 + 0x20 * j, 15, 0⟩
def F.GMA_BAR_STS_STATE (j : Nat) : Fld := ⟨0x120000c + 0x20 * j, 31, 30⟩
def F.GMA_BAR_STS_GEN (j : Nat) : Fld := ⟨0x120000c + 0x20 * j, 29, 22⟩
def F.GMA_BAR_STS_ARRIVED (j : Nat) : Fld := ⟨0x120000c + 0x20 * j, 21, 12⟩
def F.GMA_BAR_STS_CHILD_ARRIVED (j : Nat) : Fld := ⟨0x120000c + 0x20 * j, 5, 0⟩
def F.PCE_LINK_STS_SPEED : Fld := ⟨0x2000000, 23, 20⟩
def F.PCE_LINK_STS_WIDTH : Fld := ⟨0x2000000, 19, 15⟩
def F.PCE_LINK_STS_FLIT : Fld := ⟨0x2000000, 14, 14⟩
def F.PCE_LINK_STS_IDE_SECURE : Fld := ⟨0x2000000, 13, 13⟩
def F.PCE_LINK_STS_READY : Fld := ⟨0x2000000, 12, 12⟩
def F.PCE_LINK_STS_STATE : Fld := ⟨0x2000000, 3, 0⟩
def F.PCE_UR_SENT : Fld := ⟨0x2000040, 31, 0⟩
def F.PCE_POISON_SENT : Fld := ⟨0x2000044, 31, 0⟩
def F.PCE_CPL_TIMEOUT : Fld := ⟨0x2000048, 31, 0⟩
def F.PCE_UNEXP_CPL : Fld := ⟨0x200004c, 31, 0⟩
def F.PCE_BME_DISCARD : Fld := ⟨0x2000050, 31, 0⟩
def F.PCE_ATS_INV : Fld := ⟨0x2000054, 31, 0⟩
def F.PCE_ATS_FAIL : Fld := ⟨0x2000058, 31, 0⟩
def F.PCE_MSIX_LOST : Fld := ⟨0x200005c, 31, 0⟩
def F.VFN_VF_FREEZES : Fld := ⟨0x2100040, 31, 0⟩
def F.VFN_FROZEN_DISCARDS : Fld := ⟨0x2100044, 31, 0⟩
def F.VFN_VF_FLRS : Fld := ⟨0x2100048, 31, 0⟩
def F.VFN_MOVES_SAVED : Fld := ⟨0x210004c, 31, 0⟩
def F.VFN_MOVES_RESTORED : Fld := ⟨0x2100050, 31, 0⟩
def F.VFN_MOVES_FAILED : Fld := ⟨0x2100054, 31, 0⟩
def F.VFN_STS_MOVE_PHASE (j : Nat) : Fld := ⟨0x2101000 + 0x4 * j, 7, 5⟩
def F.VFN_STS_FROZEN (j : Nat) : Fld := ⟨0x2101000 + 0x4 * j, 4, 4⟩
def F.VFN_STS_FLR_BUSY (j : Nat) : Fld := ⟨0x2101000 + 0x4 * j, 3, 3⟩
def F.VFN_STS_STATE (j : Nat) : Fld := ⟨0x2101000 + 0x4 * j, 2, 0⟩
def F.VFN_QOS_SEND_WEIGHT (j : Nat) : Fld := ⟨0x2102000 + 0x4 * j, 23, 16⟩
def F.VFN_QOS_HBM_WEIGHT (j : Nat) : Fld := ⟨0x2102000 + 0x4 * j, 15, 8⟩
def F.VFN_QOS_LINK_SHARE (j : Nat) : Fld := ⟨0x2102000 + 0x4 * j, 7, 0⟩
def F.NVC_WB_STS_MODE : Fld := ⟨0x2200000, 31, 30⟩
def F.NVC_WB_STS_DESTAGING : Fld := ⟨0x2200000, 29, 29⟩
def F.NVC_WB_STS_BLOCKS : Fld := ⟨0x2200000, 18, 0⟩
def F.NVC_WB_FULL_WAITS : Fld := ⟨0x2200040, 31, 0⟩
def F.NVC_DESTAGE_RETRIES : Fld := ⟨0x2200044, 31, 0⟩
def F.NVC_MEDIA_ERRORS : Fld := ⟨0x2200048, 31, 0⟩
def F.NVC_LOST_WRITE_MARKS : Fld := ⟨0x220004c, 31, 0⟩
def F.NVC_FEEDS_DONE : Fld := ⟨0x2200050, 31, 0⟩
def F.NVC_FEEDS_FAILED : Fld := ⟨0x2200054, 31, 0⟩
def F.NVC_DRIVE_STS_EXTENTS_FREE (j : Nat) : Fld := ⟨0x2200100 + 0x4 * j, 31, 16⟩
def F.NVC_DRIVE_STS_BLANK (j : Nat) : Fld := ⟨0x2200100 + 0x4 * j, 4, 4⟩
def F.NVC_DRIVE_STS_FAILED (j : Nat) : Fld := ⟨0x2200100 + 0x4 * j, 3, 3⟩
def F.NVC_DRIVE_STS_LABEL_OK (j : Nat) : Fld := ⟨0x2200100 + 0x4 * j, 2, 2⟩
def F.NVC_DRIVE_STS_UP (j : Nat) : Fld := ⟨0x2200100 + 0x4 * j, 1, 1⟩
def F.NVC_DRIVE_STS_PRESENT (j : Nat) : Fld := ⟨0x2200100 + 0x4 * j, 0, 0⟩
def F.NVC_FEED_CTRL_ENABLE (j : Nat) : Fld := ⟨0x2201000 + 0x20 * j, 31, 31⟩
def F.NVC_FEED_CTRL_ACTIVE (j : Nat) : Fld := ⟨0x2201000 + 0x20 * j, 30, 30⟩
def F.NVC_FEED_CTRL_CONSUMER (j : Nat) : Fld := ⟨0x2201000 + 0x20 * j, 21, 8⟩
def F.NVC_FEED_CTRL_RING_LOG2 (j : Nat) : Fld := ⟨0x2201000 + 0x20 * j, 3, 0⟩
def F.NVC_FEED_BASE_LO (j : Nat) : Fld := ⟨0x2201004 + 0x20 * j, 31, 0⟩
def F.NVC_FEED_BASE_HI (j : Nat) : Fld := ⟨0x2201008 + 0x20 * j, 7, 0⟩
def F.NVC_FEED_CPL_LO (j : Nat) : Fld := ⟨0x220100c + 0x20 * j, 31, 0⟩
def F.NVC_FEED_CPL_HI (j : Nat) : Fld := ⟨0x2201010 + 0x20 * j, 7, 0⟩
def F.RTP_CFG_MAX_SPEED (i : Nat) : Fld := ⟨0x2300000 + 0x10000 * i, 3, 1⟩
def F.RTP_CFG_BIFURCATE (i : Nat) : Fld := ⟨0x2300000 + 0x10000 * i, 0, 0⟩
def F.RTP_STS_SPEED1 (i : Nat) : Fld := ⟨0x2300004 + 0x10000 * i, 15, 12⟩
def F.RTP_STS_WIDTH1 (i : Nat) : Fld := ⟨0x2300004 + 0x10000 * i, 11, 8⟩
def F.RTP_STS_SPEED0 (i : Nat) : Fld := ⟨0x2300004 + 0x10000 * i, 7, 4⟩
def F.RTP_STS_WIDTH0 (i : Nat) : Fld := ⟨0x2300004 + 0x10000 * i, 3, 0⟩
def F.FPP_PORT_CFG_VXLAN_PORT (i : Nat) : Fld := ⟨0x2400000 + 0x100000 * i, 31, 16⟩
def F.FPP_PORT_CFG_MAXFRAME (i : Nat) : Fld := ⟨0x2400000 + 0x100000 * i, 15, 2⟩
def F.FPP_PORT_CFG_MODE (i : Nat) : Fld := ⟨0x2400000 + 0x100000 * i, 1, 0⟩
def F.FPP_PORT_STS_LANES (i : Nat) : Fld := ⟨0x2400004 + 0x100000 * i, 7, 4⟩
def F.FPP_PORT_STS_MODE (i : Nat) : Fld := ⟨0x2400004 + 0x100000 * i, 3, 2⟩
def F.FPP_PORT_STS_OPTICAL (i : Nat) : Fld := ⟨0x2400004 + 0x100000 * i, 1, 1⟩
def F.FPP_PORT_STS_UP (i : Nat) : Fld := ⟨0x2400004 + 0x100000 * i, 0, 0⟩
def F.FPP_MODE_ALLOW_MODE_ALLOW (i : Nat) : Fld := ⟨0x2400008 + 0x100000 * i, 2, 0⟩
def F.FPP_RX_FRAMES (i : Nat) : Fld := ⟨0x2400040 + 0x100000 * i, 31, 0⟩
def F.FPP_FCS_ERR (i : Nat) : Fld := ⟨0x2400044 + 0x100000 * i, 31, 0⟩
def F.FPP_OVERSIZE (i : Nat) : Fld := ⟨0x2400048 + 0x100000 * i, 31, 0⟩
def F.FPP_PARSE_FAIL (i : Nat) : Fld := ⟨0x240004c + 0x100000 * i, 31, 0⟩
def F.FPP_NO_MATCH (i : Nat) : Fld := ⟨0x2400050 + 0x100000 * i, 31, 0⟩
def F.FPP_RULE_DROP (i : Nat) : Fld := ⟨0x2400054 + 0x100000 * i, 31, 0⟩
def F.FPP_POLICE_DROP (i : Nat) : Fld := ⟨0x2400058 + 0x100000 * i, 31, 0⟩
def F.FPP_RING_FULL (i : Nat) : Fld := ⟨0x240005c + 0x100000 * i, 31, 0⟩
def F.FPP_TOO_BIG (i : Nat) : Fld := ⟨0x2400060 + 0x100000 * i, 31, 0⟩
def F.FPP_TAG_FAIL (i : Nat) : Fld := ⟨0x2400064 + 0x100000 * i, 31, 0⟩
def F.FPP_HOLD_DROP (i : Nat) : Fld := ⟨0x2400068 + 0x100000 * i, 31, 0⟩
def F.FPP_PAUSE_IGNORED (i : Nat) : Fld := ⟨0x240006c + 0x100000 * i, 31, 0⟩
def F.FPP_TTL_DROP (i : Nat) : Fld := ⟨0x2400070 + 0x100000 * i, 31, 0⟩
def F.FPP_REWRITE_SKIP (i : Nat) : Fld := ⟨0x2400074 + 0x100000 * i, 31, 0⟩
def F.FPP_MIRROR_DROP (i : Nat) : Fld := ⟨0x2400078 + 0x100000 * i, 31, 0⟩
def F.FPP_ROCE_BAD_QP (i : Nat) : Fld := ⟨0x240007c + 0x100000 * i, 31, 0⟩
def F.FPP_DEF_NOMATCH (i j : Nat) : Fld := ⟨0x2400100 + 0x100000 * i + 0x4 * j, 31, 0⟩
def F.FPP_DEF_PARSE (i j : Nat) : Fld := ⟨0x2400110 + 0x100000 * i + 0x4 * j, 31, 0⟩
def F.FPP_RULE (i j k : Nat) : Fld := ⟨0x2410000 + 0x100000 * i + 0x80 * j + 0x4 * k, 31, 0⟩
def F.FPP_PATTERN (i j k : Nat) : Fld := ⟨0x2490000 + 0x100000 * i + 0x40 * j + 0x4 * k, 31, 0⟩
def F.FPP_POLICER (i j k : Nat) : Fld := ⟨0x24a0000 + 0x100000 * i + 0x10 * j + 0x4 * k, 31, 0⟩
def F.FPP_COUNTER (i j k : Nat) : Fld := ⟨0x24b0000 + 0x100000 * i + 0x10 * j + 0x4 * k, 31, 0⟩
def F.FPP_TEMPLATE (i j k : Nat) : Fld := ⟨0x24c0000 + 0x100000 * i + 0x80 * j + 0x4 * k, 31, 0⟩
def F.FPP_RXRING (i j k : Nat) : Fld := ⟨0x24d0000 + 0x100000 * i + 0x20 * j + 0x4 * k, 31, 0⟩
def F.FPP_TXRING (i j k : Nat) : Fld := ⟨0x24d4000 + 0x100000 * i + 0x20 * j + 0x4 * k, 31, 0⟩
def F.FPS_Q_CFG_PFC_EN (i j : Nat) : Fld := ⟨0x2600100 + 0x10000 * i + 0x4 * j, 19, 19⟩
def F.FPS_Q_CFG_PFC_PRIO (i j : Nat) : Fld := ⟨0x2600100 + 0x10000 * i + 0x4 * j, 18, 16⟩
def F.FPS_Q_CFG_LIMIT (i j : Nat) : Fld := ⟨0x2600100 + 0x10000 * i + 0x4 * j, 15, 8⟩
def F.FPS_Q_CFG_WEIGHT (i j : Nat) : Fld := ⟨0x2600100 + 0x10000 * i + 0x4 * j, 7, 0⟩
def F.FPS_TX_PKTS (i j : Nat) : Fld := ⟨0x2600200 + 0x10000 * i + 0x8 * j, 31, 0⟩
def F.FPS_TAIL_DROP (i j : Nat) : Fld := ⟨0x2600204 + 0x10000 * i + 0x8 * j, 31, 0⟩
def F.CIP_ENGINE_STS_PARKED : Fld := ⟨0x2800000, 31, 0⟩
def F.CIP_MISMATCH_CNT : Fld := ⟨0x2800040, 31, 0⟩
def F.CIP_QUARANTINE_CNT : Fld := ⟨0x2800044, 31, 0⟩
def F.CIP_TAG_FAIL_CNT : Fld := ⟨0x2800048, 31, 0⟩
def F.CIP_LENGTH_CNT : Fld := ⟨0x280004c, 31, 0⟩
def F.CIP_E2E_TAG_CNT : Fld := ⟨0x2800050, 31, 0⟩
def F.CIP_KEY_REFUSED_CNT : Fld := ⟨0x2800054, 31, 0⟩

end Sys2Proof.Machine
end

