-- ==== Sys2Proof/Config.lean ====
section
/-!
DEFINITION. What the spec leaves open, as constants without a body: nothing in Lean can evaluate one or prove a
value of it. Each is named in the assumption log.
-/
namespace Sys2Proof.Config

/-- BLK_ID.VERSION of a block, by BLOCK code (R49 gives no value). -/
opaque blkVersion (block : Nat) : Nat

/-- SEVERITY of a hardware event, by BLOCK code and bit (R605 gives the codes and assigns none). -/
opaque eventSeverity (block bit : Nat) : Nat

/-- The FP32 result bits of post ops 0x07 to 0x0D (R122: within 2 units in the last place, by a fixed algorithm
that the spec does not give). -/
opaque postFn (op : Nat) (x : BitVec 32) : BitVec 32

/-- Whether the result of such an op was exact (R118). -/
opaque postExact (op : Nat) (x : BitVec 32) : Bool

/-- Core cycles that a load takes beyond DM, the own IM, the own TIL block and the own carrel (R176). -/
opaque accessCycles (core addr : Nat) : Nat

/-- Core cycles that a FENCE takes, by core and scope (R217 gives only limits). -/
opaque fenceCycles (core scope : Nat) : Nat

/-- A value the spec calls unspecified, undefined or drawn at random: fresh for each number of the state's
counter of free values. -/
opaque freeNat (counter : Nat) : Nat

/-- A yes or no that the spec leaves to chance, fresh for each number of the counter. -/
opaque freeBool (counter : Nat) : Bool

/-- PHASE of the records of the first pass through an event ring (R472 gives only its inversion). -/
opaque firstPhase : Nat

/-- The fused root key (R435): no master reads it. -/
opaque rootKey : BitVec 256

/-- The certificate chain of slot 0 (R453); it changes with the firmware version. -/
opaque certChain (version : Nat) : List (BitVec 8)

/-- A signature of the Alias key (R452, R453). -/
opaque sign (msg : List Nat) : List (BitVec 8)

/-- The digest of a measurement, by index and what it covers (R452 gives no serialisation). -/
opaque measurement (index : Nat) (content : List Nat) : List (BitVec 8)

/-- The value type of a measurement block, by index (R452: the DMTF format). -/
opaque measType (index : Nat) : Nat

/-- The status byte of a vendor-defined response, by outcome (R441 names the outcomes and gives no numbers): 0 done,
1 refused, 2 WRAP_FAIL, 3 BAD_TYPE, 4 NO_PAGE, 5 DUPLICATE. -/
opaque vendorStatus (outcome : Nat) : BitVec 8

/-- CODE of an event record whose source has no codes of its own in the spec, by source and what happened (R472). -/
opaque eventCode (source what : Nat) : Nat

/-- DETAIL of an event record, by source, code and object (R472: source-specific). -/
opaque eventDetail (source code object : Nat) : Nat

/-- CODE of a log entry of KIND 1 for an event of the rule of the given number (R605: each chapter gives its codes; these
chapters give none). -/
opaque logCode (rule : Nat) : Nat

/-- The hash of POLICY 2, over SRC_MODULE and MSG_ID (R259: not given). -/
opaque routeHash (src msgId : Nat) : Nat

/-- The hash that picks an intermediate group, over SRC_MODULE, MSG_ID and OFFSET (R260: not given). -/
opaque viaHash (src msgId offset : Nat) : Nat

/-- A byte of an NVMe structure that the manual does not fix: kind of structure, object, offset. -/
opaque nvmeByte (kind obj off : Nat) : Nat

/-- The module serial number, as text (R513). -/
opaque serial : List (BitVec 8)

/-- The vendor ID assigned by PCI-SIG (R462 gives no number). -/
opaque vendorId : Nat

/-- A dword of configuration space that the manual does not give, by function and number. -/
opaque cfgSpace (f reg : Nat) : Nat

/-- The hash of a flow that gives the source port of VXLAN_ENCAP and of RoCE packets (R556: not given). -/
opaque flowHash (flow : List Nat) : Nat

/-- The MAC address of a front port, which the manual does not give. -/
opaque portMac (port : Nat) : Nat

/-- VERSION of the firmware that a module leaves manufacture with (R609 gives none). -/
opaque factoryVersion : Nat

/-- The ceiling fused for a tile at manufacture (R393), and the fused text and numbers of 0x1000 (R642): object by
subindex. -/
opaque fusedCeiling (t : Nat) : Nat
opaque fusedObject (sub : Nat) : List (BitVec 8)


/-- The route tables compiled for the reference topologies (R261, R286 give conditions, not entries): whether an entry is
of the local table, its number, and bits [49:0]. -/
opaque referenceTables (moduleId : Nat) : List (Bool × Nat × Nat)

end Sys2Proof.Config
end

