-- ==== Sys2Proof/Machine/Bits.lean ====
section
/-!
DEFINITION. Bit fields of natural numbers, byte order (little-endian, R9), sign extension and sparse tables.
-/
namespace Sys2Proof.Machine

/-- Bits `hi:lo` of `v`, as a number. -/
def bits (v hi lo : Nat) : Nat := (v >>> lo) % 2 ^ (hi + 1 - lo)

/-- Bit `b` of `v`. -/
def bit (v b : Nat) : Bool := v.testBit b

/-- `v` with bits `hi:lo` holding `x`, cut to the field. -/
def setBits (v hi lo x : Nat) : Nat :=
  let m := 2 ^ (hi + 1 - lo)
  (v >>> (hi + 1)) * 2 ^ (hi + 1) + (x % m) * 2 ^ lo + v % 2 ^ lo

/-- The `n` low bytes of `v`, least significant first (R9). -/
def leBytes : Nat → Nat → List Byte
  | 0, _ => []
  | n + 1, v => BitVec.ofNat 8 v :: leBytes n (v / 256)

/-- The number that bytes spell, least significant first (R9). -/
def ofLe : List Byte → Nat
  | [] => 0
  | b :: bs => b.toNat + 256 * ofLe bs

/-- Bytes `lo` to `lo + n - 1` of a byte string as a little-endian number. -/
def leAt (bs : List Byte) (lo n : Nat) : Nat := ofLe ((bs.drop lo).take n)

/-- Two's complement reading of the low `w` bits of `v`. -/
def sext (w v : Nat) : Int :=
  let m := v % 2 ^ w
  if m < 2 ^ (w - 1) then (m : Int) else (m : Int) - (2 ^ w : Nat)

/-- The bits of `v` below `n` that are set, rising. -/
def setBitsOf (n v : Nat) : List Nat := (List.range n).filter (fun i => v.testBit i)

/-- `v` with bit `b` set or cleared. -/
def putBit (v b : Nat) (on : Bool) : Nat :=
  if on then v ||| 2 ^ b else v - (if v.testBit b then 2 ^ b else 0)

/-- 1 for true, 0 for false. -/
def ofBool (b : Bool) : Nat := if b then 1 else 0

/-- Addition that stops at 0xFFFF_FFFF (the saturating counters, R276). -/
def satAdd32 (a b : Nat) : Nat := min (a + b) 0xFFFFFFFF

/-- The value a table lists for `k`. -/
def Tab.find? {α : Type} : Tab α → Nat → Option α
  | [], _ => none
  | (j, v) :: t, k => if k = j then some v else Tab.find? t k

/-- The value a table holds for `k`, `d` where it lists none. -/
def Tab.getD {α : Type} (t : Tab α) (k : Nat) (d : α) : α := (Tab.find? t k).getD d

/-- The table with `v` for `k`; the order of the numbers is kept. -/
def Tab.set {α : Type} : Tab α → Nat → α → Tab α
  | [], k, v => [(k, v)]
  | (j, w) :: t, k, v =>
    if k < j then (k, v) :: (j, w) :: t
    else if k = j then (k, v) :: t
    else (j, w) :: Tab.set t k v

/-- The table without `k`. -/
def Tab.erase {α : Type} : Tab α → Nat → Tab α
  | [], _ => []
  | (j, w) :: t, k => if k = j then t else (j, w) :: Tab.erase t k

/-- The table with `v` for `k`, where an unlisted number holds `d`: the canonical form lists no `d`. -/
def Tab.put {α : Type} [DecidableEq α] (t : Tab α) (k : Nat) (v d : α) : Tab α :=
  if v = d then Tab.erase t k else Tab.set t k v

/-- The table with the value of `k` changed by `f`, where an unlisted number holds `d`. -/
def Tab.modify {α : Type} (t : Tab α) (k : Nat) (d : α) (f : α → α) : Tab α :=
  Tab.set t k (f (Tab.getD t k d))

/-- The numbers strictly rise, each above `b`. -/
def Tab.risingFrom {α : Type} : Nat → Tab α → Bool
  | _, [] => true
  | b, (j, _) :: t => decide (b ≤ j) && Tab.risingFrom (j + 1) t

/-- The canonical form of a table whose unlisted numbers hold `d`. -/
def Tab.canonical {α : Type} [DecidableEq α] (t : Tab α) (d : α) : Bool :=
  Tab.risingFrom 0 t && t.all (fun p => decide (p.2 ≠ d))

/-- `l` with element `i` replaced; unchanged where there is none. -/
def listSet {α : Type} : List α → Nat → α → List α
  | [], _, _ => []
  | _ :: t, 0, v => v :: t
  | h :: t, n + 1, v => h :: listSet t n v

/-- The last `n` elements. -/
def lastN {α : Type} (n : Nat) (l : List α) : List α := l.drop (l.length - n)

/-- `f` applied to `s` once for each of the numbers below `n`, in rising order. -/
def iterUpTo {σ : Type} (n : Nat) (f : Nat → σ → σ) (s : σ) : σ := (List.range n).foldl (fun t i => f i t) s

/-- At most `k` chunks of `n` elements; the last may be shorter. -/
def chunksUpTo {α : Type} (n : Nat) : Nat → List α → List (List α)
  | 0, _ => []
  | k + 1, l => if l.isEmpty then [] else l.take n :: chunksUpTo n k (l.drop n)

/-- A list in chunks of `n` elements. -/
def chunksOf {α : Type} (n : Nat) (l : List α) : List (List α) := chunksUpTo n (l.length / n + 1) l

/-- The or of a list of masks. -/
def orAll (l : List Nat) : Nat := l.foldl (· ||| ·) 0

end Sys2Proof.Machine
end

