-- ==== Sys2Proof/Machine/Arith.lean ====
section
/-!
DEFINITION. Number formats, products, the ledger accumulator, the ledger word and rounding
(03_ledger_arithmetic.md, R72 to R98), and the FP32 operations of the post unit (R118, R121 to R123).
Values are exact: a sign, a magnitude and a power of two.
-/
namespace Sys2Proof.Machine

/-- The number formats of R72. -/
inductive Fmt where
  | fp32 | bf16 | fp16 | e4m3 | e5m2 | e2m3 | e3m2 | e2m1
  | mxE4m3 | mxE5m2 | mxE2m3 | mxE3m2 | mxE2m1 | int8 | int32 | ledger
deriving DecidableEq, Repr

/-- The format codes of R72; 0x10 to 0x1F are reserved. -/
def Fmt.ofCode : Nat → Option Fmt
  | 0 => some .fp32 | 1 => some .bf16 | 2 => some .fp16 | 3 => some .e4m3 | 4 => some .e5m2
  | 5 => some .e2m3 | 6 => some .e3m2 | 7 => some .e2m1 | 8 => some .mxE4m3 | 9 => some .mxE5m2
  | 10 => some .mxE2m3 | 11 => some .mxE3m2 | 12 => some .mxE2m1 | 13 => some .int8
  | 14 => some .int32 | 15 => some .ledger | _ => none

/-- Element bits of a format, scales apart (R72). -/
def Fmt.width : Fmt → Nat
  | .fp32 => 32 | .bf16 => 16 | .fp16 => 16 | .e4m3 => 8 | .e5m2 => 8 | .e2m3 => 6 | .e3m2 => 6
  | .e2m1 => 4 | .mxE4m3 => 8 | .mxE5m2 => 8 | .mxE2m3 => 6 | .mxE3m2 => 6 | .mxE2m1 => 4
  | .int8 => 8 | .int32 => 32 | .ledger => 256

/-- The formats that carry block scales (R72, R75). -/
def Fmt.isMx : Fmt → Bool
  | .mxE4m3 => true | .mxE5m2 => true | .mxE2m3 => true | .mxE3m2 => true | .mxE2m1 => true
  | _ => false

/-- Operands of MMA (R72). -/
def Fmt.isOperand : Fmt → Bool
  | .int32 => false | .ledger => false | _ => true

/-- Drain outputs (R72). -/
def Fmt.isDrainOut : Fmt → Bool
  | .e2m3 => false | .e3m2 => false | .e2m1 => false | _ => true

/-- Exponent bits, fraction bits and bias of the element of a floating-point format (R73). -/
def Fmt.layout : Fmt → Nat × Nat × Nat
  | .fp32 => (8, 23, 127) | .bf16 => (8, 7, 127) | .fp16 => (5, 10, 15)
  | .e4m3 => (4, 3, 7) | .mxE4m3 => (4, 3, 7)
  | .e5m2 => (5, 2, 15) | .mxE5m2 => (5, 2, 15)
  | .e2m3 => (2, 3, 1) | .mxE2m3 => (2, 3, 1)
  | .e3m2 => (3, 2, 3) | .mxE3m2 => (3, 2, 3)
  | .e2m1 => (2, 1, 1) | .mxE2m1 => (2, 1, 1)
  | .int8 => (0, 7, 0) | .int32 => (0, 31, 0) | .ledger => (0, 0, 0)

/-- Encoding, without sign, of the largest finite value (R73). -/
def Fmt.maxFinite : Fmt → Nat
  | .fp32 => 0x7F7FFFFF | .bf16 => 0x7F7F | .fp16 => 0x7BFF
  | .e4m3 => 0x7E | .mxE4m3 => 0x7E | .e5m2 => 0x7B | .mxE5m2 => 0x7B
  | .e2m3 => 0x1F | .mxE2m3 => 0x1F | .e3m2 => 0x1F | .mxE3m2 => 0x1F
  | .e2m1 => 0x7 | .mxE2m1 => 0x7 | .int8 => 0x7F | .int32 => 0x7FFFFFFF | .ledger => 0

/-- An element's value: finite, `(-1)^neg * m * 2^e` with both zeros; infinite; or not a number. -/
inductive Num where
  | fin (neg : Bool) (m : Nat) (e : Int)
  | inf (neg : Bool)
  | nan
deriving DecidableEq, Repr

/-- The value of an element's bits (R73). -/
def decodeElem (f : Fmt) (v : Nat) : Num :=
  match f with
  | .int8 => let i := sext 8 v; .fin (i < 0) i.natAbs 0
  | .int32 => let i := sext 32 v; .fin (i < 0) i.natAbs 0
  | .ledger => .fin false 0 0
  | _ =>
    let (eb, mb, bias) := f.layout
    let neg := v.testBit (eb + mb)
    let ef := bits v (eb + mb - 1) mb
    let fr := v % 2 ^ mb
    let allOnes := 2 ^ eb - 1
    let special : Option Num :=
      match f with
      | .fp32 | .bf16 | .fp16 | .e5m2 | .mxE5m2 =>
        if ef = allOnes then some (if fr = 0 then .inf neg else .nan) else none
      | .e4m3 | .mxE4m3 => if ef = allOnes ∧ fr = 7 then some .nan else none
      | _ => none
    special.getD
      (if ef = 0 then .fin neg fr (1 - (bias : Int) - (mb : Int))
       else .fin neg (2 ^ mb + fr) ((ef : Int) - (bias : Int) - (mb : Int)))

def isNanNum : Num → Bool
  | .nan => true
  | _ => false

/-- Floor of the base-2 logarithm of `m * 2^e`, for `m` not zero. -/
def floorLog2 (m : Nat) (e : Int) : Int := (Nat.log2 m : Int) + e

/-- Flags of R86 as bits of a number. -/
def flagOver : Nat := 1
def flagInexact : Nat := 2
def flagNan : Nat := 4
def flagPinf : Nat := 8
def flagNinf : Nat := 16
def flagAuto : Nat := 32
def flagLong : Nat := 64
def flagCountSat : Nat := 128
def flagAnchorMix : Nat := 256

/-- The rounding modes of R95. -/
inductive Rmode where
  | nearest | zero | down | up | hashed
deriving DecidableEq, Repr

def Rmode.ofCode : Nat → Option Rmode
  | 0 => some .nearest | 1 => some .zero | 2 => some .down | 3 => some .up | 4 => some .hashed | _ => none

/-- `m * 2^e` in units of `2^q`: the whole units, and the rest as a fraction `rem / den`. -/
def inUnits (m : Nat) (e q : Int) : Nat × Nat × Nat :=
  if q ≤ e then (m * 2 ^ (e - q).toNat, 0, 1)
  else let d := 2 ^ (q - e).toNat; (m / d, m % d, d)

/-- Whether the magnitude rounds up (R95, R98), given the fraction and the 32 hash bits `r`. -/
def roundsUp (mode : Rmode) (neg : Bool) (k rem den r : Nat) : Bool :=
  match mode with
  | .nearest => decide (den < 2 * rem) || (decide (2 * rem = den) && k % 2 = 1)
  | .zero => false
  | .down => neg && decide (rem ≠ 0)
  | .up => !neg && decide (rem ≠ 0)
  | .hashed => decide (2 ^ 32 ≤ rem * 2 ^ 32 / den + r)

/-- A finite magnitude rounded to a floating-point element: its encoding without sign, unlimited above, and
whether it is exact (R95: subnormal results are produced). -/
def roundMag (f : Fmt) (mode : Rmode) (neg : Bool) (m : Nat) (e : Int) (r : Nat) : Nat × Bool :=
  let (_, mb, bias) := f.layout
  let qmin : Int := 1 - (bias : Int) - (mb : Int)
  if m = 0 then (0, true)
  else
    let q : Int := max (floorLog2 m e - (mb : Int)) qmin
    let (k, rem, den) := inUnits m e q
    let k' := if roundsUp mode neg k rem den r then k + 1 else k
    (k' + (q - qmin).toNat * 2 ^ mb, decide (rem = 0))

/-- The sign bit of an element of format `f`. -/
def signBit (f : Fmt) (neg : Bool) : Nat := if neg then 2 ^ (f.width - 1) else 0

/-- The quiet NaN that the first row of R96 gives; for an integer its least value; an MX element gives zero
beside the scale 0xFF (R97). -/
def quietNan : Fmt → Nat
  | .fp32 => 0x7FC00000 | .bf16 => 0x7FC0 | .fp16 => 0x7E00 | .e4m3 => 0x7F | .e5m2 => 0x7F
  | .int8 => 0x80 | .int32 => 0x80000000 | _ => 0

/-- The output of an infinite value (rows PINF and NINF of R96). -/
def infOut (f : Fmt) (neg sat : Bool) : Nat :=
  match f with
  | .fp32 => signBit f neg + 0x7F800000
  | .bf16 => signBit f neg + 0x7F80
  | .fp16 => signBit f neg + 0x7C00
  | .e4m3 => signBit f neg + (if sat then 0x7E else 0x7F)
  | .e5m2 => signBit f neg + 0x7C
  | .int8 => if neg then 0x80 else 0x7F
  | .int32 => if neg then 0x80000000 else 0x7FFFFFFF
  | _ => 0

/-- IEEE 754 overflow goes to infinity in these cases; hashed rounding overflows as nearest-even (R96). -/
def overflowsToInf (mode : Rmode) (neg : Bool) : Bool :=
  match mode with
  | .nearest => true | .hashed => true | .zero => false | .down => neg | .up => !neg

/-- The output for a finite value whose rounded magnitude exceeds the largest finite (R96). -/
def overflowOut (f : Fmt) (mode : Rmode) (neg sat : Bool) : Nat :=
  match f with
  | .e4m3 => signBit f neg + (if sat then 0x7E else 0x7F)
  | _ =>
    if sat || !overflowsToInf mode neg then signBit f neg + f.maxFinite
    else infOut f neg sat

/-- A finite value rounded to an integer format and clamped (R95). -/
def roundInt (f : Fmt) (mode : Rmode) (neg : Bool) (m : Nat) (e : Int) (r : Nat) : Nat × Nat :=
  let (k, rem, den) := inUnits m e 0
  let k' := if roundsUp mode neg k rem den r then k + 1 else k
  let lim := if neg then f.maxFinite + 1 else f.maxFinite
  let c := min k' lim
  let v := if neg then (2 ^ f.width - c) % 2 ^ f.width else c
  (v, if rem = 0 ∧ k' ≤ lim then 0 else flagInexact)

/-- A value converted to an output format that is not an MX format: the element and the flags that the
conversion raises (R95, R96). A finite value overflows where its rounded magnitude exceeds the largest finite; hashed
rounding overflows where nearest-even does, and stops at the largest finite otherwise. -/
def convert (f : Fmt) (mode : Rmode) (sat : Bool) (r : Nat) : Num → Nat × Nat
  | .nan => (quietNan f, 0)
  | .inf neg => (infOut f neg sat, 0)
  | .fin neg m e =>
    match f with
    | .int8 => roundInt f mode neg m e r
    | .int32 => roundInt f mode neg m e r
    | _ =>
      let (enc, exact) := roundMag f mode neg m e r
      if mode = .hashed ∧ (roundMag f .nearest neg m e 0).1 ≤ f.maxFinite then
        (signBit f neg + min enc f.maxFinite, if exact then 0 else flagInexact)
      else if mode ≠ .hashed ∧ enc ≤ f.maxFinite then (signBit f neg + enc, if exact then 0 else flagInexact)
      else (overflowOut f mode neg sat, flagInexact)

/-- `emax` of R97. -/
def mxEmax : Fmt → Int
  | .mxE4m3 => 8 | .mxE5m2 => 15 | .mxE2m3 => 2 | .mxE3m2 => 4 | .mxE2m1 => 2 | _ => 0

/-- The largest magnitude of a block has this floor log; none where every element is zero. -/
def blockExp (vs : List Num) : Option Int :=
  vs.foldl (fun acc v => match v with
    | .fin _ m e => if m = 0 then acc else
        some (match acc with | none => floorLog2 m e | some x => max x (floorLog2 m e))
    | _ => acc) none

/-- An MX element under the scale exponent `x`: rounded by the mode, clamped to the largest finite (R97). A value of
exactly zero gives +0 (R95). -/
def mxElem (f : Fmt) (mode : Rmode) (x : Int) (r : Nat) : Num → Nat × Nat
  | .fin _ 0 _ => (0, 0)
  | .fin neg m e =>
    let (enc, exact) := roundMag f mode neg m (e - x) r
    if enc ≤ f.maxFinite then (signBit f neg + enc, if exact then 0 else flagInexact)
    else (signBit f neg + f.maxFinite, flagInexact)
  | _ => (0, 0)

/-- One block of an MX output: the scale byte, the elements and the flags (R97). A NaN is an element that
meets the first row of R96. The spec gives no block for an infinite value: its scale, elements and flags come from
the free value `fv`. -/
def mxBlock (f : Fmt) (mode : Rmode) (fv : Nat) (vs : List (Num × Nat)) : Nat × List Nat × Nat :=
  let nums := vs.map (·.1)
  let zeros := vs.map (fun _ => 0)
  if nums.any isNanNum then (0xFF, zeros, 0)
  else if nums.any (fun v => match v with | .inf _ => true | _ => false) then
    (fv % 256, (List.range vs.length).map (fun k => fv / 2 ^ (16 + 8 * k) % 2 ^ f.width), fv / 256 % 4)
  else match blockExp nums with
    | none => (0, zeros, 0)
    | some l =>
      let x := l - mxEmax f
      if 127 < x then (0xFF, zeros, flagOver)
      else
        let x' : Int := max x (-127)
        let es := vs.map (fun p => mxElem f mode x' p.2 p.1)
        ((x' + 127).toNat, es.map (·.1), es.foldl (fun a p => a ||| p.2) 0)

/-! ### Hashed stochastic rounding (R98) -/

/-- `mix` of R98. -/
def hsrMix (x : BitVec 64) : BitVec 64 :=
  let x := (x ^^^ (x >>> 30)) * 0xBF58476D1CE4E5B9#64
  let x := (x ^^^ (x >>> 27)) * 0x94D049BB133111EB#64
  x ^^^ (x >>> 31)

/-- The 32 random bits of the element at logical coordinate `(i, j)` (R98). -/
def hsrBits (seed step : BitVec 64) (i j : Nat) : Nat :=
  let h := hsrMix (seed ^^^ (step * 0x9E3779B97F4A7C15#64))
  let h := hsrMix (h ^^^ ((BitVec.ofNat 64 i <<< 32) ||| BitVec.ofNat 64 j))
  (h >>> 32).toNat

/-! ### The accumulator (R81 to R88) -/

/-- The accumulator of one processing element in one bank: N, the flags and the term count; the anchor is the
bank's. -/
structure Accum where
  n : BitVec 128
  flags : Nat
  terms : Nat
deriving DecidableEq, Repr

def Accum.zero : Accum := ⟨0, 0, 0⟩

/-- `k` more terms in the count: it saturates and sets COUNT_SAT (R84), and beyond 2^24 sets LONG (R85). -/
def Accum.count (c : Accum) (k : Nat) : Accum :=
  let t := c.terms + k
  let f := c.flags ||| (if 0xFFFFFFFF < t then flagCountSat else 0) ||| (if 2 ^ 24 < t then flagLong else 0)
  { c with terms := min t 0xFFFFFFFF, flags := f }

/-- The truncated product added to N (R82): above the window top it adds 0 and sets OVER; discarded bits set
INEXACT. -/
def Accum.addFin (c : Accum) (anchor : Int) (neg : Bool) (m : Nat) (e : Int) : Accum :=
  let (t, rem, _) := inUnits m e anchor
  let fi := if rem = 0 then 0 else flagInexact
  if 2 ^ 96 ≤ t then { c with flags := c.flags ||| flagOver ||| fi }
  else { c with n := if neg then c.n - BitVec.ofNat 128 t else c.n + BitVec.ofNat 128 t,
                flags := c.flags ||| fi }

/-- One product of two operand values, block scales in `sa` and `sb` (raw bytes, 127 without scales), added to
the accumulator (R77, R78, R82, R84). -/
def Accum.addProduct (c : Accum) (anchor : Int) (a b : Num) (sa sb : Nat) : Accum :=
  let c := c.count 1
  if sa = 0xFF ∨ sb = 0xFF then { c with flags := c.flags ||| flagNan }
  else match a, b with
    | .nan, _ => { c with flags := c.flags ||| flagNan }
    | _, .nan => { c with flags := c.flags ||| flagNan }
    | .inf na, .inf nb => { c with flags := c.flags ||| (if na = nb then flagPinf else flagNinf) }
    | .inf na, .fin nb m _ =>
      { c with flags := c.flags ||| (if m = 0 then flagNan else if na = nb then flagPinf else flagNinf) }
    | .fin na m _, .inf nb =>
      { c with flags := c.flags ||| (if m = 0 then flagNan else if na = nb then flagPinf else flagNinf) }
    | .fin na ma ea, .fin nb mb eb =>
      c.addFin anchor (na != nb) (ma * mb) (ea + eb + (sa : Int) + (sb : Int) - 254)

/-- An FP32 value split as hi + mid + lo (R79); hi takes the leading significand bit and the 7 bits below it,
mid the next 8 bits. Non-finite values stand in hi. -/
def splitFp32 : Num → Num × Num
  | .fin neg m e =>
    if m = 0 then (.fin neg 0 0, .fin neg 0 0)
    else
      let w := Nat.log2 m + 1
      let hi := if w ≤ 8 then m else (m >>> (w - 8)) <<< (w - 8)
      let rest := m - hi
      let mid := if w ≤ 16 then rest else (rest >>> (w - 16)) <<< (w - 16)
      (.fin neg hi e, .fin neg mid e)
  | v => (v, v)

def isFinNum : Num → Bool
  | .fin _ _ _ => true
  | _ => false

/-- One K step of an MMA at one processing element: three passes for FP32 (R79), else one product. R79 gives no split
of a non-finite element: R78 is applied to the elements themselves, and three terms count (DEDUCED). -/
def Accum.step (c : Accum) (anchor : Int) (fp32 : Bool) (a b : Num) (sa sb : Nat) : Accum :=
  if fp32 && !(isFinNum a && isFinNum b) then (c.addProduct anchor a b sa sb).count 2
  else if fp32 then
    let (ha, ma) := splitFp32 a
    let (hb, mb) := splitFp32 b
    ((c.addProduct anchor ha hb 127 127).addProduct anchor ha mb 127 127).addProduct anchor ma hb 127 127
  else c.addProduct anchor a b sa sb

/-- The automatic anchor of R87. -/
def autoAnchor (ea eb : Int) (kSpan : Nat) : Int :=
  let s : Int := if kSpan ≤ 1 then 0 else (Nat.log2 (kSpan - 1) + 1 : Nat)
  max (-32768) (min 32767 (ea + eb + s + 2 - 96))

/-! ### The ledger word (R92 to R94) -/

/-- The ledger word: VALUE of 160 bits, the signed ANCHOR, FLAGS and TERMS (R92). -/
structure LWord where
  value : BitVec 160
  anchor : Int
  flags : Nat
  terms : Nat
deriving DecidableEq, Repr

/-- The 32 bytes of a ledger word, little-endian (R92). -/
def LWord.bytes (w : LWord) : List Byte :=
  leBytes 20 w.value.toNat ++ leBytes 2 ((w.anchor % 65536).toNat) ++ leBytes 2 w.flags ++
    leBytes 4 w.terms ++ leBytes 4 0

/-- The ledger word that 32 bytes hold; the reserved bits are ignored (R92). -/
def LWord.ofBytes (bs : List Byte) : LWord :=
  ⟨BitVec.ofNat 160 (leAt bs 0 20), sext 16 (leAt bs 20 2), leAt bs 22 2, leAt bs 24 4⟩

/-- A word with TERMS = 0 and FLAGS = 0 is empty (R93). -/
def LWord.isEmpty (w : LWord) : Bool := w.terms = 0 && w.flags = 0

/-- `ledger_add` of R94: `s` added into `d`. With different anchors the anchor and value of the result are
unspecified: `fv` stands for them, a free value. -/
def ledgerAdd (fv : Nat) (d s : LWord) : LWord :=
  if s.isEmpty then d
  else if d.isEmpty then s
  else
    let t := d.terms + s.terms
    let mixed := d.anchor ≠ s.anchor || d.flags.testBit 8 || s.flags.testBit 8
    { value := if mixed then BitVec.ofNat 160 fv else d.value + s.value
      anchor := if mixed then sext 16 (fv / 2 ^ 160) else d.anchor
      flags := d.flags ||| s.flags ||| (if d.anchor ≠ s.anchor then flagAnchorMix else 0)
        ||| (if 0xFFFFFFFF < t then flagCountSat else 0)
      terms := min t 0xFFFFFFFF }

/-- The word a raw drain writes for an accumulator: N sign-extended to 160 bits (R93). Once LONG is set, neither the
value nor the absence of OVER is guaranteed (R85): both come from the free value `fv`. -/
def Accum.toWord (c : Accum) (anchor : Int) (fv : Nat) : LWord :=
  if c.flags.testBit 6 then
    ⟨(BitVec.ofNat 128 fv).signExtend 160, anchor, c.flags ||| (if fv / 2 ^ 128 % 2 = 1 then flagOver else 0), c.terms⟩
  else ⟨c.n.signExtend 160, anchor, c.flags, c.terms⟩

/-- The value a rounding drain converts, and its flags: the check of |N| sets OVER first, then the rows of R96
choose (R95, R96). -/
def LWord.drainValue (w : LWord) : Num × Nat :=
  let n := w.value.toInt
  let fl := w.flags ||| (if 2 ^ 96 ≤ n.natAbs then flagOver else 0)
  let isNan := fl.testBit 2 || (fl.testBit 3 && fl.testBit 4) || fl.testBit 8 || fl.testBit 0
  (if isNan then .nan else if fl.testBit 3 then .inf false else if fl.testBit 4 then .inf true
   else .fin (n < 0) n.natAbs w.anchor, fl)

/-- The exponent that LOAD records for a ledger word (R114). -/
def LWord.metaExp (w : LWord) : Int :=
  let bad := w.flags &&& (flagNan ||| flagPinf ||| flagNinf ||| flagAnchorMix ||| flagOver)
  if w.isEmpty || bad ≠ 0 || w.value = 0 then -32768
  else max (-32768) (min 32767 (floorLog2 w.value.toInt.natAbs w.anchor))

/-! ### FP32 operations of the post unit (R118, R122) -/

/-- A value rounded to FP32, nearest-even, as a value again, with INEXACT where it changed. -/
def rnd32 (v : Num) : Num × Nat :=
  let (b, fl) := convert .fp32 .nearest false 0 v
  (decodeElem .fp32 b, fl)

/-- The FP32 bits of a value that is an FP32 value. -/
def toFp32 (v : Num) : BitVec 32 := BitVec.ofNat 32 (convert .fp32 .nearest false 0 v).1

/-- The signed magnitude of a finite value in units of `2^q`, `q` at most its exponent. -/
def scaled (neg : Bool) (m : Nat) (e q : Int) : Int :=
  let k : Int := (m * 2 ^ (e - q).toNat : Nat)
  if neg then -k else k

/-- The exact sum; cancellation gives +0, and equal zeros keep their sign. -/
def addNum : Num → Num → Num
  | .nan, _ => .nan
  | _, .nan => .nan
  | .inf a, .inf b => if a = b then .inf a else .nan
  | .inf a, .fin _ _ _ => .inf a
  | .fin _ _ _, .inf b => .inf b
  | .fin na ma ea, .fin nb mb eb =>
    if ma = 0 ∧ mb = 0 then .fin (na && nb) 0 0
    else
      let q := min ea eb
      let s := scaled na ma ea q + scaled nb mb eb q
      .fin (s < 0) s.natAbs q

def negNum : Num → Num
  | .fin n m e => .fin (!n) m e
  | .inf n => .inf (!n)
  | .nan => .nan

/-- The exact product. -/
def mulNum : Num → Num → Num
  | .nan, _ => .nan
  | _, .nan => .nan
  | .inf a, .inf b => .inf (a != b)
  | .inf a, .fin b m _ => if m = 0 then .nan else .inf (a != b)
  | .fin a m _, .inf b => if m = 0 then .nan else .inf (a != b)
  | .fin na ma ea, .fin nb mb eb => .fin (na != nb) (ma * mb) (ea + eb)

/-- Whether the first value, neither a NaN, is less than the second; -0 is less than +0 (R122). -/
def ltNum : Num → Num → Bool
  | .inf a, .inf b => a && !b
  | .inf a, .fin _ _ _ => a
  | .fin _ _ _, .inf b => !b
  | .fin na ma ea, .fin nb mb eb =>
    if ma = 0 ∧ mb = 0 then na && !nb
    else let q := min ea eb; decide (scaled na ma ea q < scaled nb mb eb q)
  | _, _ => false

/-- maxNum with the sign of zeros fixed (R122). -/
def maxNum (a b : Num) : Num :=
  if isNanNum a then b else if isNanNum b then a else if ltNum a b then b else a

/-- minNum with the sign of zeros fixed (R122). -/
def minNum (a b : Num) : Num :=
  if isNanNum a then b else if isNanNum b then a else if ltNum b a then b else a

/-- max(x, +0): a NaN stays a NaN, any negative value and -0 give +0 (R122). -/
def reluNum (x : Num) : Num :=
  match x with
  | .nan => .nan
  | .inf n => if n then .fin false 0 0 else .inf false
  | .fin n m e => if n then .fin false 0 0 else .fin false m e

/-- An op's rounded result and its flags: INEXACT by the rounding, NAN where a NaN arises from inputs that are
not NaN (R118). -/
def opResult (inputsNan : Bool) (v : Num) : Num × Nat :=
  let (r, fl) := rnd32 v
  (r, fl ||| (if isNanNum r && !inputsNan then flagNan else 0))

/-- Ops 0x07 to 0x0D (R122): a fixed algorithm the spec does not give. -/
def fnNum (op : Nat) (x : Num) : Num × Nat :=
  if isNanNum x then (.nan, 0)
  else
    let r := decodeElem .fp32 (Config.postFn op (toFp32 x)).toNat
    (r, (if Config.postExact op (toFp32 x) then 0 else flagInexact) ||| (if isNanNum r then flagNan else 0))

/-- The FP32 sum of a list by a fixed pairwise tree of `2^d` leaves, absent leaves as +0 (R123). -/
def pairSum : Nat → List Num → Num
  | 0, l => l.headD (.fin false 0 0)
  | d + 1, l => (rnd32 (addNum (pairSum d (l.take (2 ^ d))) (pairSum d (l.drop (2 ^ d))))).1

/-- Division of an FP32 sum by a count, rounded to nearest-even. -/
def divCount (v : Num) (n : Nat) : Num :=
  match v with
  | .fin neg m e =>
    if m = 0 ∨ n = 0 then v
    else
      -- 64 bits of quotient and a sticky bit decide the rounding exactly
      let q := m * 2 ^ 64 / n
      let st := if m * 2 ^ 64 % n = 0 then 0 else 1
      (rnd32 (.fin neg (2 * q + st) (e - 65))).1
  | _ => v

/-- The mean of a row (R123). -/
def meanNum (xs : List Num) : Num := divCount (pairSum 9 xs) xs.length

end Sys2Proof.Machine
end

