-- ==== Sys2Proof/Machine/State.lean ====
section
/-!
DEFINITION. The state of the module as plain data: every register, memory, queue, buffer, counter, mode and pin the
spec names, and the queue of waiting commands. Registers of the block maps are one table keyed by register-space
offset (RegMap.lean); what software does not see as a register stands in the structures of this file.
-/
namespace Sys2Proof.Machine

/-- What the module sends or answers: everything that leaves it, newest first in `State.out`. -/
inductive Out where
  /-- the value a read returns to its master -/
  | readData (m : Master) (v : Nat)
  /-- a posted write to host memory: function, address, PASID, bytes -/
  | hostWrite (f iova pasid : Nat) (bs : List Byte)
  /-- a read request to host memory: function, tag, address, length -/
  | hostRead (f tag iova len : Nat)
  /-- an MSI-X message: function and vector -/
  | msix (f vec : Nat)
  /-- a completion to the host: function, tag, status (0 successful, 1 Unsupported Request, 2 CRS,
  3 Completer Abort), EP, data -/
  | completion (f tag status : Nat) (ep : Bool) (bs : List Byte)
  /-- a PCIe message or side signal of the endpoint: 0 Device Readiness Status, 1 PME, 2 Invalidate Completion,
  3 FLR done, 4 Unexpected Completion report, 5 WAKE_N asserted, 6 link training started -/
  | pcie (kind f detail : Nat)
  /-- a packet injected into the router -/
  | inject (p : Packet)
  /-- a flit on the wire of a link -/
  | wire (n : Nat) (bs : List Byte)
  /-- training activity of a link: 0 a receiver detection, 1 negotiation content, 2 key exchange content, 3 a refusal of
  a far loop -/
  | train (n kind : Nat)
  /-- a packet that arrived on a link, handed to the router -/
  | arrive (n : Nat) (p : Packet)
  /-- a packet delivered to the local port -/
  | deliver (p : Packet)
  /-- a frame on the wire of a front port -/
  | frame (port : Nat) (bs : List Byte)
  /-- a RoCE packet of a front port, handed to the context that its BTH names -/
  | roce (port : Nat) (bs : List Byte)
  /-- a management message to a module: its code and its content -/
  | mgmt (dst code : Nat) (args : List Nat)
  /-- a message on the management port (I3C or MCTP): code and content -/
  | mctp (code : Nat) (args : List Nat)
  /-- a response of the dictionary to a session: abort code (0 success) and frame -/
  | dict (session code : Nat) (bs : List Byte)
  /-- an NVMe completion: controller, completion queue, command identifier, status, result -/
  | nvme (ctrl cq cid status result : Nat) (bs : List Byte)
  /-- a command to a local drive: drive, opcode, first block, blocks, data -/
  | drive (k op lba blocks : Nat) (bs : List Byte)
  /-- a chunk of the state stream of a VF that is moved (R505) -/
  | chunk (f : Nat) (bs : List Byte)
  /-- an SPDM response: requester, code and content -/
  | spdm (req code : Nat) (bs : List Byte)
deriving DecidableEq, Repr


/-- A step has no fault of its own in this model: every access the spec gives an outcome takes that outcome. -/
inductive Fault where
  /-- Raised by no meaning: the type of faults must not be empty. Safe. -/
  | none
deriving DecidableEq, Repr

/-- Why a command has no meaning. -/
inductive Refusal where
  /-- A command this model gives no meaning yet, by its mnemonic. Raised by the arms of exec alone. Safe. -/
  | notModelled (mnemonic : String)
deriving DecidableEq, Repr

/-! ### The log ring (R605, R606) -/

/-- An entry of the log before it takes its place in the ring: MASTER, TIME, SOURCE, CODE, OFFSET and DATA of
R605. -/
structure LogEntry where
  master : Word
  time : Nat
  block : Nat
  inst : Nat
  severity : Nat
  kind : Nat
  code : Nat
  off : Nat
  data : Nat
deriving DecidableEq, Repr

/-! ### LX cores (05_lx_instruction_set.md) -/

/-- The run state of a core (LXC_STS.STATE, R186; CALM is the tile's). -/
inductive CoreSt where
  | held | running | waiting | debug | stopped
deriving DecidableEq, Repr

/-- What a waiting core waits for: WFE, a full queue (the descriptor is copied when it is accepted), or a signal
counter (R163, R106, R178). -/
inductive Wait where
  | none | wfe | push (fromStaging : Bool) | twait
deriving DecidableEq, Repr

/-- A store in the store buffer (R169). -/
structure SbEntry where
  addr : Nat
  width : Nat
  data : Nat
deriving DecidableEq, Repr

/-- The units of compatibility mode (R181 to R184). -/
structure Compat where
  /-- G0 to G31 -/
  g : Tab Nat
  aluA : Nat
  aluR : Nat
  mulA : Nat
  mulR : Nat
  /-- Products not yet written, oldest first, each with the words left until it is (R184). -/
  mulQ : List (Nat × Nat)
  lsuAddr : Nat
  lsuData : Nat
  lsuR : Nat
  cond : Nat
  /-- The target of a jump whose delay word is still to run (R184). -/
  brTarget : Option Nat
deriving DecidableEq, Repr

/-- What a restart needs of a loaded image: its mode, its entry, and where its stack regions lie (R180, R187). -/
structure LoadedImage where
  compat : Bool
  entry : Nat
  dsBase : Nat
  dsLimit : Nat
  rsBase : Nat
  rsLimit : Nat
deriving DecidableEq, Repr

/-- One LX core: its state, its stacks, its special registers, its private memories (R149 to R170). The hardware
stacks list the top first. -/
structure Core where
  st : CoreSt
  wait : Wait
  frozen : Bool
  /-- LXC_CTRL.HALT holds the core in DEBUG (R187). -/
  halt : Bool
  pc : Nat
  ds : List LxCell
  rs : List LxCell
  dsBase : Nat
  dsLimit : Nat
  dsMem : Nat
  rsBase : Nat
  rsLimit : Nat
  rsMem : Nat
  priv : Bool
  ie : Bool
  we : Bool
  compat : Bool
  epc : Nat
  estatus : Nat
  cause : Nat
  tval : Nat
  vbase : Nat
  scratch0 : Nat
  scratch1 : Nat
  cycle : Nat
  timerCmp : Nat
  /-- Latched pulse sources (R175). -/
  irqLatch : Nat
  /-- Level sources 4 to 31, as their signals stand (R175). -/
  irqLevel : Nat
  irqEn : Nat
  watchAddr : Nat
  watchMask : Nat
  watchCtrl : Nat
  mlo : LxCell
  mhi : LxCell
  quo : LxCell
  rem : LxCell
  /-- Products in flight, oldest first: MLO and MHI (R164). -/
  mulQ : List (LxCell × LxCell)
  /-- The division in progress: QUO, REM and the cycle at whose end it writes (R165). -/
  divQ : Option (LxCell × LxCell × Nat)
  divLost : Bool
  sbuf : List SbEntry
  staging : List LxCell
  im : Tab Byte
  dm : Tab Byte
  /-- 64-bit words of IM and DM with an uncorrectable error, and with a correctable one (R149, R150). -/
  imUe : List Nat
  dmUe : List Nat
  imCe : List Nat
  dmCe : List Nat
  /-- The image that the core was loaded with, if it was: what a restart starts from (R180, R187). -/
  image : Option LoadedImage
  cmp : Compat
deriving DecidableEq, Repr

def Compat.init : Compat := ⟨[], 0, 0, 0, 0, [], 0, 0, 0, 0, none⟩

/-- A core before it is started: HELD (R186), every register zero. -/
def Core.init : Core :=
  { st := .held, wait := .none, frozen := false, halt := false, pc := 0, ds := [], rs := [], dsBase := 0,
    dsLimit := 0, dsMem := 0, rsBase := 0, rsLimit := 0, rsMem := 0, priv := false, ie := false, we := false,
    compat := false, epc := 0, estatus := 0, cause := 0, tval := 0, vbase := 0, scratch0 := 0, scratch1 := 0,
    cycle := 0, timerCmp := 0, irqLatch := 0, irqLevel := 0, irqEn := 0, watchAddr := 0, watchMask := 0,
    watchCtrl := 0, mlo := 0, mhi := 0, quo := 0, rem := 0, mulQ := [], divQ := none, divLost := false,
    sbuf := [], staging := List.replicate 8 0, im := [], dm := [], imUe := [], dmUe := [], imCe := [],
    dmCe := [], image := .none, cmp := Compat.init }

/-! ### Tiles (04_tensor_tile.md) -/

/-- The states of an accumulator bank (R102). -/
inductive BankSt where
  | free | opened | poisoned
deriving DecidableEq, Repr

/-- An accumulator bank: its state and anchor, and the accumulator of processing element (i, j) at 512 i + j;
an element that is not listed holds `base` (R81 to R86). -/
structure Bank where
  st : BankSt
  anchor : Int
  base : Accum
  cells : Tab Accum
deriving DecidableEq, Repr

def Bank.init : Bank := ⟨.free, 0, Accum.zero, []⟩

/-- A command in the queue: its descriptor, whether the core that pushed it was secure (R63), and, where RETRY put it
back after it had issued, the slot it holds: TIL_CMD_HEAD counted it already (R137). -/
structure TCmd where
  desc : BitVec 512
  secure : Bool
  slot : Option Nat
deriving DecidableEq, Repr

/-- An issued command that has not completed: its slot, whether its drain has read the bank's last row (R132),
the exponent a LOAD records (R114), the flags it adds when it completes OK (R119), the seed (bits 63:0) and step it
read when it issued (R99, R113), and the queue context and operation that perform it, where it is remote (R295); for a
remote LOAD, the source bytes that have arrived, by their place. -/
structure Issued where
  cmd : TCmd
  slot : Nat
  bankRead : Bool
  metaExp : Int
  flags : Nat
  hash : Nat
  remote : Option (Nat × Nat)
  buf : List (Nat × List Byte)
deriving DecidableEq, Repr

/-- The command that halted the tile, its slot, and whether it had issued (R137). -/
structure Failed where
  cmd : TCmd
  slot : Nat
  issued : Bool
deriving DecidableEq, Repr

/-- One tile (R100): the unissued queue, oldest first; issued commands, oldest first; the failed command of a
halt; the banks; calm; the SYNC held at the head. -/
structure Tile where
  queue : List TCmd
  issued : List Issued
  failed : Option Failed
  bank0 : Bank
  bank1 : Bank
  calmReq : Bool
  calm : Bool
  syncHeld : Bool
  /-- The SYNC at the head has made its barrier arrival, in this generation (R125, R327). -/
  syncArrived : Option Nat
  /-- A tile reset is running (R148). -/
  resetting : Bool
  /-- A tile clock stretched by droop (R403). -/
  stretched : Bool
deriving DecidableEq, Repr

def Tile.init : Tile :=
  ⟨[], [], none, Bank.init, Bank.init, false, false, false, none, false, false⟩

/-! ### PCIe functions, pools and virtual functions (13_host_endpoint.md, 14_virtual_functions.md) -/

/-- An event record before it takes its place in a ring (R472): SOURCE, CODE, OBJECT, DETAIL, TIME and the vector
of its source (R474). -/
structure EvRec where
  src : Nat
  code : Nat
  obj : Nat
  detail : Nat
  time : Nat
  vec : Nat
deriving DecidableEq, Repr

/-- The event ring of a function: address, PASID, 2^log2 records, records written and records consumed (R472). -/
structure EvRing where
  iova : Nat
  pasid : Nat
  log2 : Nat
  head : Nat
  consumed : Nat
deriving DecidableEq, Repr

/-- An MSI-X table entry. -/
structure MsixEnt where
  addr : Nat
  data : Nat
  masked : Bool
deriving DecidableEq, Repr

/-- What a master read of host memory is for. -/
inductive RdUse where
  /-- a descriptor of a queue context's ring in host memory (R291) -/
  | ctxRing (ctx : Nat)
deriving DecidableEq, Repr

/-- An outstanding master read (R470): its tag, its use, its address and PASID, its length, and the bytes that have arrived,
by offset. -/
structure RdReq where
  tag : Nat
  use : RdUse
  iova : Nat
  pasid : Nat
  len : Nat
  got : Tab Byte
  /-- BME was cleared or an FLR began: the completions are discarded (R475). -/
  dropped : Bool
deriving DecidableEq, Repr

/-- One PCIe function, by routing function number (R462): configuration bits, event ring and MSI-X, BAR 2 slots,
the mailbox or set-up page (R493), and its outstanding reads. -/
structure Fn where
  bme : Bool
  mse : Bool
  /-- 0 D0, 1 D3hot, 2 D3cold (R478) -/
  dstate : Nat
  pmeEn : Bool
  flr : Bool
  ring : Option EvRing
  lost : Nat
  held : List EvRec
  moderation : Nat
  modPend : List Nat
  fnMask : Bool
  msix : Tab MsixEnt
  pba : List Nat
  slots : Tab Nat
  mbGo : Bool
  mbDone : Bool
  /-- The request firmware works on: its CODE and SEQ; BUSY is 1 while there is one (R493). -/
  mbBusy : Option (Nat × Nat)
  mbReq : Tab Byte
  mbStatus : Nat
  mbRespSeq : Nat
  mbBody : List Byte
  reads : List RdReq
  /-- Tags reserved after a timeout, or issued before an FLR and not yet answered (R470, R477). -/
  staleTags : List Nat
  atsEnable : Bool
deriving DecidableEq, Repr

/-- A function after a conventional reset. The MSI-X vectors are masked when an entry is first used (R500). -/
def Fn.init : Fn :=
  { bme := false, mse := false, dstate := 0, pmeEn := false, flr := false, ring := none, lost := 0, held := [],
    moderation := 0, modPend := [], fnMask := false, msix := [], pba := [], slots := [],
    mbGo := false, mbDone := false, mbBusy := none, mbReq := [], mbStatus := 0, mbRespSeq := 0, mbBody := [],
    reads := [], staleTags := [], atsEnable := false }

/-- Where a pooled resource is (R486). -/
inductive Place where
  | pool | pf0 | vf (f : Nat) | firmware | parked
deriving DecidableEq, Repr

/-- Where each pooled resource is (R485, R486); one that is not listed is in the pool. -/
structure Pools where
  tiles : Tab Place
  hbm : Tab Place
  shelf : Tab Place
  ctxBlocks : Tab Place
  keys : Tab Place
  wins : Tab Place
  bars : Tab Place
  rings : Tab Place
  /-- Granules of HBM and shelf memory (shelf ones from 1,000) that a partition was created with -/
  partGran : Tab (List Nat)
  /-- NVMe I/O queue pairs of each VF of PF1 -/
  nvmeQp : Tab Nat
  /-- The resource set (R491 bytes 2 to 165) of each provisioned VF -/
  sets : Tab (List Byte)
deriving DecidableEq, Repr

def Pools.init : Pools := ⟨[], [(767, .firmware)], [], [], [], [], [], [], [], [], []⟩

/-- A translation of the ATS cache (R471): function, PASID and page. -/
structure AtsEnt where
  f : Nat
  pasid : Nat
  page : Nat
deriving DecidableEq, Repr

/-- An Invalidate Request not yet answered (R471): function, PASID (none: every PASID), first page, pages, and the tags of
the reads that used a matching entry. -/
structure AtsInv where
  f : Nat
  pasid : Option Nat
  page : Nat
  pages : Nat
  tags : List Nat
deriving DecidableEq, Repr

/-- A migration at this module (R503 to R508), by routing function of the VF. -/
structure Mig where
  source : Bool
  peerModule : Nat
  peerVf : Nat
  /-- The firmware key page that holds the migration key -/
  keyPage : Nat
  sent : Nat
  /-- COUNTERs received, and the chunk headers received by COUNTER (R507) -/
  counters : List Nat
  headers : Tab (List Byte)
  /-- Parts of tile state images received: tile, offset, bytes -/
  tileParts : List (Nat × Nat × List Byte)
  /-- What FUNCTION, CONTEXTS and KEYS chunks carried, to take effect at END: type, index, content -/
  held : List (Nat × Nat × List Byte)
  /-- HEADER has come, with the resource set that R502 asks for -/
  headed : Bool
  bytes : Nat
  /-- Module time at its start -/
  began : Nat
deriving DecidableEq, Repr

/-- The PCIe endpoint and everything per function. -/
structure Endpoint where
  fns : Tab Fn
  pools : Pools
  ats : List AtsEnt
  atsInv : List AtsInv
  vfEnable0 : Bool
  vfEnable1 : Bool
  numVfs0 : Nat
  numVfs1 : Nat
  /-- PERST_N is deasserted -/
  perstHigh : Bool
  ready : Bool
  moves : Tab Mig
  /-- The last 32 migrations, newest first: function, peer module, role (1 source), result, reason, bytes, start and end time -/
  moveLog : List (List Nat)
  /-- Contexts whose owner had an FLR and that await their reset (R476) -/
  flrCtx : List Nat
deriving DecidableEq, Repr

def Endpoint.init : Endpoint :=
  ⟨[], Pools.init, [], [], false, false, 0, 0, false, false, [], [], []⟩

/-! ### Queue contexts and the fabric endpoint (08_one_memory_space.md) -/

/-- STATE of a queue context (R289). -/
inductive CtxSt where
  | free | ready | waiting | error | frozen | lost
deriving DecidableEq, Repr

/-- A WAIT in progress (R317). -/
structure WaitSt where
  wctx : Nat
  arrive : Bool
  value : Nat
  timeout : Nat
deriving DecidableEq, Repr

/-- A region that an operation moves: rows of equal length, at a remote and a local address, with the distances between
rows. A ring descriptor moves one row. -/
structure XReg where
  remote : Nat
  localAddr : Nat
  rowBytes : Nat
  rows : Nat
  rstride : Nat
  lstride : Nat
deriving DecidableEq, Repr

/-- An operation of a context in issue order, from its start until COMP_CNT counts it (R299): its opcode, ring index
and TAG (or, for a tile command, the tile and slot); the regions it moves and their bytes in all; the bytes already cut
into messages; the bytes of its messages that completed OK; whether it failed; whether it waits for a condition or a
release; whether it is encrypted end to end; the request payload of an atomic, its log slot zero, or ALL of a REDUCE. -/
structure COp where
  op : Nat
  index : Nat
  tag : Nat
  notify : Bool
  tile : Option (Nat × Nat)
  regions : List XReg
  length : Nat
  sent : Nat
  okBytes : Nat
  failed : Bool
  waiting : Bool
  e2e : Bool
  aux : List Byte
deriving DecidableEq, Repr

/-- A send record: an outstanding message (R296, R297), the operation it belongs to by issue number, its place in
the operation, and what is needed to send it again; for a GET, the bitmap of the response packets placed (R298); the
packets refused with BUSY and not sent again yet (R311). -/
structure Msg where
  id : Nat
  opNo : Nat
  opcode : Nat
  pos : Nat
  localAddr : Nat
  remote : Nat
  len : Nat
  space : Nat
  repeats : Nat
  resends : Nat
  bitmap : Nat
  wire : List Byte
  busy : List Nat
deriving DecidableEq, Repr

/-- A reassembly tracker of an inbound message (R306): endpoint context, message, source, bitmap, byte count and the
total once known; the RESEND_REQs sent without progress; for an encrypted message, its packets (R449). -/
structure Tracker where
  ctx : Nat
  msgId : Nat
  opcode : Nat
  src : Nat
  srcCtx : Nat
  bitmap : Nat
  count : Nat
  total : Option Nat
  resends : Nat
  addr : Nat
  parts : List (Nat × List Byte)
deriving DecidableEq, Repr

/-- A queue context (R288, R565): the fields of the entry, the operations and messages in progress, the next
issue number and the number of operations counted, and whether the cache holds it. The RoCE fields are those of
TYPE 1. -/
structure Ctx where
  st : CtxSt
  typ : Nat
  secure : Bool
  pin : Bool
  rreg : Bool
  flagBlock : Bool
  owner : Nat
  maxOut : Nat
  peerModule : Nat
  peerCtx : Nat
  policy : Nat
  keyPage : Nat
  e2e : Bool
  ringHost : Bool
  ringBase : Nat
  ringLog2 : Nat
  pasid : Nat
  producer : Nat
  consumer : Nat
  compCnt : Nat
  arriveCnt : Nat
  nextMsg : Nat
  expMsg : Nat
  done : Nat
  wait : Option WaitSt
  parked : Option Packet
  errCode : Nat
  errOp : Nat
  errIndex : Nat
  errRemote : Nat
  /-- ATOMIC_LOG: slot to MSG_ID and old value -/
  atomicLog : Tab (Nat × Nat)
  /-- Descriptors fetched and not yet started, oldest first: index and descriptor -/
  fetched : List (Nat × Nat)
  ops : Tab COp
  nextOp : Nat
  msgs : List Msg
  /-- Packets on the hold shelf for this context, oldest first, with their router half (R314) -/
  holding : List (Packet × Nat)
  vec : Nat
  /-- RoCE: next send PSN, expected PSN, oldest unacknowledged PSN; send rate in Mbit/s; retries left; the
  rkey, region and receive slots of R565; receive slots the owner has returned -/
  psnSend : Nat
  psnRecv : Nat
  psnAck : Nat
  rate : Nat
  retries : Nat
  destQpn : Nat
  port : Nat
  pmtu : Nat
  rkey : Nat
  regionBase : Nat
  regionLen : Nat
  remWrite : Bool
  remRead : Bool
  recvBase : Nat
  slotLog2 : Nat
  recvLog2 : Nat
  recvConsumed : Nat
  retryCnt : Nat
  egressQ : Nat
  peerIp : Nat
  localIp : Nat
  /-- Next-hop MAC, VID, PCP and VLAN, as R565 packs them; DSCP; TIMEOUT -/
  l2 : Nat
  dscp : Nat
  timeout : Nat
  /-- The address that an inbound RoCE message is being placed at, and the bytes of it placed -/
  rxAddr : Nat
  rxLen : Nat
  /-- The inbound RoCE message in progress (0 none, 1 SEND, 2 WRITE), its length where RETH gave it, its wire bytes under
  end-to-end encryption, messages completed (MSN), a NAK sent for a gap, and the module time of the last CNP sent (plus 1) -/
  rxOp : Nat
  rxTotal : Nat
  rxBuf : List Byte
  msn : Nat
  gapNak : Bool
  cnpAt : Nat
  /-- RoCE packets on the hold shelf for this context, oldest first, with their port (R568) -/
  roceHold : List (Nat × List Byte)
deriving DecidableEq, Repr

/-- A context that was never created: FREE (R289). -/
def Ctx.init : Ctx :=
  { st := .free, typ := 0, secure := false, pin := false, rreg := false, flagBlock := false, owner := 0,
    maxOut := 0, peerModule := 0, peerCtx := 0, policy := 0, keyPage := 0, e2e := false, ringHost := false,
    ringBase := 0, ringLog2 := 0, pasid := 0, producer := 0, consumer := 0, compCnt := 0, arriveCnt := 0,
    nextMsg := 0, expMsg := 0, done := 0, wait := none, parked := none, errCode := 0, errOp := 0,
    errIndex := 0, errRemote := 0, atomicLog := [], fetched := [], ops := [], nextOp := 0, msgs := [],
    holding := [], vec := 0, psnSend := 0, psnRecv := 0, psnAck := 0,
    rate := 0, retries := 0, destQpn := 0, port := 0, pmtu := 0, rkey := 0, regionBase := 0, regionLen := 0,
    remWrite := false, remRead := false, recvBase := 0, slotLog2 := 0, recvLog2 := 0, recvConsumed := 0,
    retryCnt := 0, egressQ := 0, peerIp := 0, localIp := 0, l2 := 0, dscp := 0, timeout := 0, rxAddr := 0, rxLen := 0,
    rxOp := 0, rxTotal := 0, rxBuf := [], msn := 0, gapNak := false, cnpAt := 0, roceHold := [] }

/-- A reduction that a member buffers (R329): LENGTH once known, the sums by ledger word number, the contributions of
children by packet number, the local contributions given, the result address and ALL of the local REDUCE, and the
packets forwarded and received from the parent. -/
structure Reduction where
  length : Option Nat
  sums : Tab LWord
  got : Tab Nat
  localGiven : Bool
  resultAddr : Nat
  all : Bool
  sentUp : List Nat
  down : List Nat
deriving DecidableEq, Repr

def Reduction.init : Reduction := ⟨none, [], [], false, 0, false, [], []⟩

/-- A barrier group beyond its registers (R326 to R328): arrivals held for the next generation, child links that have
arrived, whether this generation's arrival went to the parent, REDUCE operations that wait (generation, context,
operation), those of them that have contributed, and the reduction of this generation. -/
structure Bar where
  heldArr : Nat
  children : List Nat
  upSent : Bool
  reduces : List (Nat × Nat × Nat)
  given : List (Nat × Nat)
  red : Option Reduction
deriving DecidableEq, Repr

def Bar.init : Bar := ⟨0, [], false, [], [], none⟩

/-- A violation in the log of 0x3022:01: inbound or not, endpoint, peer module, code, opcode, offset, address, time
(R343). -/
structure Viol where
  inbound : Bool
  endpoint : Nat
  peer : Nat
  code : Nat
  opcode : Nat
  offset : Nat
  addr : Nat
  time : Nat
deriving DecidableEq, Repr

/-- Global memory access: contexts; the cached ones, most recently used first, and the fetches asked for, oldest first
(R312 to R314); trackers; barrier groups; and the last 64 violations, newest first (R343). -/
structure Gma where
  ctxs : Tab Ctx
  cache : List Nat
  fetches : List Nat
  trackers : List Tracker
  bars : Tab Bar
  violLog : List Viol
deriving DecidableEq, Repr

def Gma.init : Gma := ⟨[], [], [], [], [], []⟩



/-! ### Keys, cipher jobs and attestation (12_trust_and_ciphers.md) -/

/-- What a key page holds beside KEY_PAGE_STS: the key bytes, the NONCE drawn at loading and the message counter of
R448. -/
structure KeyPage where
  key : List Nat
  nonce : List Nat
  counter : Nat
deriving DecidableEq, Repr

/-- A cipher job that started and has no completion record yet: its descriptor number and descriptor, the tag or digest to be
written when it completes OK, the key page it uses, and its outcome of R444. -/
structure CipJob where
  index : Nat
  desc : Nat
  tail : List Byte
  page : Option Nat
  status : Nat
deriving DecidableEq, Repr

/-- A cipher job ring (R446): owner, descriptor ring and its size, completion area, PRODUCER, CONSUMER (jobs started),
completion records written, the jobs in progress, oldest first, and its event vector. -/
structure CipRing where
  owner : Nat
  base : Nat
  log2 : Nat
  cpl : Nat
  producer : Nat
  consumer : Nat
  written : Nat
  jobs : List CipJob
  vec : Nat
deriving DecidableEq, Repr

/-- An SPDM session (R440, R451): its requester transport, the public key its requester authenticated with, whether
FINISH has completed, and its export master secret. -/
structure Session where
  req : Nat
  key : Option (List Byte)
  finished : Bool
  secret : List Nat
deriving DecidableEq, Repr

/-- One IDE stream (R454): its programmed key sets, the one in use, whether it is in the secure state, and the functions that a
selective stream covers. -/
structure IdeStream where
  keys : Tab (List Byte)
  keySet : Nat
  secure : Bool
  fns : List Nat
deriving DecidableEq, Repr

/-- The reading room: key pages that are not FREE, bindings of an OWNER to a requester's public key, sealed granules
(by granule number, the partition they belong to), cipher job rings, SPDM connections (by requester: 1 after
GET_VERSION, 2 after GET_CAPABILITIES, 3 after NEGOTIATE_ALGORITHMS) and sessions, chunks received, engines in
self-test, IDE streams (0 the link stream, 1 to 8 selective), and measurements as last computed, with the image digests of
each partition. Response chunks of a requester stand at 2 req + 1, request chunks at 2 req. -/
structure Trust where
  pages : Tab KeyPage
  binds : Tab (List Byte)
  sealed : Tab Nat
  rings : Tab CipRing
  conns : Tab Nat
  sessions : Tab Session
  chunks : Tab (List Byte)
  selfTest : List Nat
  ide : Tab IdeStream
  measures : Tab (List Nat)
  images : Tab (List Nat)
  /-- Security events, newest first (0x5012:01): time, the master as its OWNER, page, link or unit, and code -/
  secLog : List (Nat × Nat × Nat × Nat)
deriving DecidableEq, Repr

def Trust.init : Trust := ⟨[], [], [], [], [], [], [], [], [], [], [], []⟩

/-! ### Power (11_power_thermal.md) -/

/-- A lull that filler work holds (R400, R401): its key, its start, its HOLD in µs, and whether the draw decays. -/
structure Lull where
  key : Nat
  start : Nat
  hold : Nat
  decays : Bool
deriving DecidableEq, Repr

/-- What the power and thermal controllers hold beside their registers: the tiles whose arrays run at a squall's duty and
that duty in 1/256 (R399); the samples of the 1 ms window in µW and their number, and the last 1,000 windows in mW, newest
first (R385); the thermal and droop terms of each die, its stretches in this window (R403, R411), the budget term of each
tile (R396); reads since a die's sensors were hot, and since any junction was (R411); dies with a failed sensor; HBM stacks
at half rate; the tiles the controller holds calm, the calm slices of each in this frame, the slice, the rotation, and the
ticks that the stage below has fitted (R398); stage 3 forced by an emergency or a leak; the lull in progress and the last
durations of each key (R401); consecutive low flows and inlets out of range (R412); the lowest voltage and the start of the
warning (R407); the power log, newest first: time, cause, value (0x2013); and whether a power-fail, an incomplete flush or
a trip is to be shown at the next start (R409, R411). -/
structure Power where
  paced : List Nat
  duty : Nat
  acc : Nat
  samples : Nat
  wins : List Nat
  thermal : List Nat
  droop : List Nat
  stretch : List Nat
  budget : List Nat
  coolMs : List Nat
  coldMs : Nat
  sensorBad : List Nat
  hbmSlow : List Nat
  calmed : List Nat
  slices : List Nat
  slice : Nat
  rotate : Nat
  fit : Nat
  forced : Bool
  lull : Option Lull
  lulls : Tab (List Nat)
  flowLow : Nat
  inletOut : Nat
  lowV : Nat
  warnAt : Nat
  log : List (Nat × Nat × Nat)
  failing : Bool
  incomplete : Bool
  trip : Bool
deriving DecidableEq, Repr

def Power.init : Power :=
  { paced := [], duty := 256, acc := 0, samples := 0, wins := [], thermal := List.replicate 8 15,
    droop := List.replicate 8 15, stretch := List.replicate 8 0, budget := List.replicate 16 15,
    coolMs := List.replicate 8 0, coldMs := 0, sensorBad := [], hbmSlow := [], calmed := [],
    slices := List.replicate 16 0, slice := 0, rotate := 0, fit := 0, forced := false, lull := none, lulls := [],
    flowLow := 0, inletOut := 0, lowV := 0, warnAt := 0, log := [], failing := false, incomplete := false,
    trip := false }

/-! ### Links and the router (07_myven_links.md) -/

/-- A packet held by a fault injector (R269): the packet, and how many packets of its VC must pass (none: held for a
time). -/
structure FinHeld where
  pkt : Packet
  left : Option Nat
deriving DecidableEq, Repr

/-- A sequenced flit of an open frame: its control word with ACK zero, its body as sent, and whether it is DATA. -/
structure FrameFlit where
  ctrl : Nat
  body : List Nat
  isData : Bool
deriving DecidableEq, Repr

/-- One Myven link beyond its registers (R230 to R249): attempts since it left ACTIVE and the bandwidth of its last
ACTIVE mode in MB/s; the partner's offer and the candidate modes left (rate code, width code); the FEC mode; the link
master secret of each direction and the one that takes effect at its next epoch; sequence numbers, the replay buffer, the
acknowledgement this side reports; the open frame of each direction with its counter; flits of each VC that the partner
still holds, and credits owed to it; packets that wait for the transmitter, and its round robin; packets under assembly,
by VC; the RETRY outstanding, with its repeats, and the one the partner repeats; the first SEQ of a frame that failed
its tag; the KEY_SWITCH not acknowledged yet, and whether another is to follow; and its fault injector. -/
structure Link where
  attempts : Nat
  lastBw : Nat
  partner : Option Offer
  cands : List (Nat × Nat)
  fec : Nat
  txSecret : List Nat
  rxSecret : List Nat
  txNext : Option (List Nat)
  rxNext : Option (List Nat)
  txSeq : Nat
  rxSeq : Nat
  ackOut : Nat
  replay : List (Nat × List Byte)
  txFrame : List FrameFlit
  txCount : Nat
  rxFrame : List FrameFlit
  rxFirst : Nat
  rxCount : Nat
  used : List Nat
  owed : List Nat
  txq : List Packet
  deficit : List Nat
  rxPkt : Tab (List Byte)
  retry : Option (Nat × Nat)
  asked : Option (Nat × Nat)
  tagFailed : Option Nat
  switchSeq : Option Nat
  forceAgain : Bool
  finFired : Nat
  finTag : Bool
  finHeld : Option FinHeld
  /-- The link loops back for its partner (R267) -/
  farLoop : Bool
deriving DecidableEq, Repr

def Link.init : Link :=
  { attempts := 0, lastBw := 0, partner := none, cands := [], fec := 0, txSecret := [], rxSecret := [],
    txNext := none, rxNext := none, txSeq := 0, rxSeq := 0, ackOut := 4095, replay := [], txFrame := [], txCount := 0,
    rxFrame := [], rxFirst := 0, rxCount := 0, used := List.replicate 8 0, owed := List.replicate 8 0, txq := [],
    deficit := List.replicate 8 0, rxPkt := [], retry := none, asked := none, tagFailed := none, switchSeq := none,
    forceAgain := false, finFired := 0, finTag := false, finHeld := none, farLoop := false }


/-! ### Partitions, job slots and streams (09_jobs_partitions_phases.md) -/

/-- An entry of a straggler table (R352). -/
structure StragEnt where
  module : Nat
  op : Nat
  reason : Nat
  seq : Nat
  time : Nat
deriving DecidableEq, Repr

/-- A JOIN that a coordinator holds: JOB_ID, sender, member count and digest (R349). -/
structure JoinRec where
  job : Nat
  src : Nat
  count : Nat
  digest : Nat
deriving DecidableEq, Repr

/-- A job slot beyond its registers: the member list in ascending order, the straggler table, the notice number of this
member, and the REASON of its notice while it is throttled (R348 to R352). -/
structure JobSlot where
  members : List Nat
  strag : List StragEnt
  seq : Nat
  throttle : Option Nat
deriving DecidableEq, Repr

def JobSlot.init : JobSlot := ⟨[], [], 0, none⟩

/-- A record of a missed or late frame (R357): frame, reason, partition, value, start time; and whether its value still
waits for the input or the lead tile. -/
structure MissRec where
  frame : Nat
  reason : Nat
  part : Nat
  value : Nat
  start : Nat
  waits : Bool
deriving DecidableEq, Repr

/-- A stream entry beyond its registers (R354 to R357): the start tick, the undecided frame, the counter captured at
enable, the number and admission time of the frame in progress, the run times of the last 8 completed frames, and when the
owner was last told of a miss. -/
structure Stream where
  t0 : Nat
  next : Nat
  base : Nat
  frame : Nat
  admitted : Nat
  runs : List Nat
  told : Option Nat
deriving DecidableEq, Repr

def Stream.init : Stream := ⟨0, 0, 0, 0, 0, [], none⟩

/-- Job groups, partitions and streams: slots, JOINs held, streams, the last 256 miss records (newest first), step values
whose HI half is not written yet (R381). -/
structure Jobs where
  slots : Tab JobSlot
  joins : List JoinRec
  streams : Tab Stream
  missLog : List MissRec
  stepLo : Tab Nat
deriving DecidableEq, Repr

def Jobs.init : Jobs := ⟨[], [], [], [], []⟩

/-! ### Storage (15_storage.md) -/

/-- A namespace: what the label holds, its state of R520 (0 READY, 1 NO_KEY, 2 FOREIGN, 3 FAILED), the key page bound to
it, and whether a delete waits for its commands (R521), with the dictionary requests that wait
(session × 2^32 + SEQ). -/
structure Ns where
  r : NsRec
  st : Nat
  page : Option Nat
  deleting : Bool
  waiters : List Nat
deriving DecidableEq, Repr

/-- A drive that answers: its extents, its description, and its label copies that verify (R516, R517). -/
structure Drive where
  extents : Nat
  info : List Byte
  labels : List DrvLabel
deriving DecidableEq, Repr

/-- A buffered block (R523): its place in the write buffer, its version, whether a destage of it is under way, and the
attempts that failed. -/
structure WbEnt where
  slot : Nat
  ver : Nat
  busy : Bool
  tries : Nat
deriving DecidableEq, Repr

/-- What a drive command serves: an NVMe command, a destage (buffer key and version), a feed (ring and number), or a
checkpoint or restore of a job slot (slot and part), or nothing that waits. -/
inductive DrvUse where
  | cmd (n : Nat)
  | destage (key ver : Nat)
  | feed (p n : Nat)
  | shard (j part : Nat)
  | other
deriving DecidableEq, Repr

/-- A command sent to a drive and not answered: drive, opcode (0 read, 1 write, 2 write with FUA, 3 Flush, 4 Deallocate),
first namespace block and blocks, namespace, and use. -/
structure DrvOp where
  drive : Nat
  op : Nat
  first : Nat
  blocks : Nat
  ns : Nat
  use : DrvUse
deriving DecidableEq, Repr

/-- An NVMe completion: its submission queue, CID, status (SCT, SC, and DNR as bit 14), result and data. -/
structure NvCpl where
  sq : Nat
  cid : Nat
  status : Nat
  result : Nat
  data : List Byte
deriving DecidableEq, Repr

/-- A submission queue: entries, head, tail, its completion queue and its priority class (0 urgent to 3 low). -/
structure NvSq where
  size : Nat
  head : Nat
  tail : Nat
  cq : Nat
  prio : Nat
deriving DecidableEq, Repr

/-- A completion queue: entries, head, tail, vector, whether interrupts are enabled, completions that wait for an entry,
oldest first, and completions not signalled yet (Interrupt Coalescing). -/
structure NvCq where
  size : Nat
  head : Nat
  tail : Nat
  vec : Nat
  ien : Bool
  held : List NvCpl
  agg : Nat
deriving DecidableEq, Repr

/-- An NVMe command in progress: controller, queue and CID; its opcode (the admin delete of a namespace: 0x10D); its
blocks; drive commands not answered; the status of a failure (0: none yet); encrypted blocks that wait for room; plaintext
blocks that have arrived; buffered blocks (key and version) and drives that a Flush still covers; and the
buffered copies (key and version) that a write to the medium replaces. -/
structure NvCmd where
  ctrl : Nat
  sq : Nat
  cid : Nat
  op : Nat
  ns : Nat
  slba : Nat
  nlb : Nat
  ops : Nat
  status : Nat
  waits : List (List Byte)
  got : Tab (List Byte)
  need : List (Nat × Nat)
  flush : List Nat
  copies : List (Nat × Nat)
deriving DecidableEq, Repr

/-- An NVMe controller (R513 to R515): CC.EN, CSTS.RDY, CC.AMS = 001b, CSTS.SHST; the queue pairs granted; features by
identifier (Interrupt Vector Configuration of vector v at 0x900 + v); queues by identifier (0: admin); Asynchronous Event
Requests that wait, and events that wait for one; the error log, newest first (queue, CID, status, LBA); namespaces of the
Changed Namespace List; and pieces of a firmware image (offset, bytes). -/
structure NvCtrl where
  en : Bool
  rdy : Bool
  wrr : Bool
  shst : Nat
  granted : Nat
  feats : Tab Nat
  sqs : Tab NvSq
  cqs : Tab NvCq
  aers : List Nat
  events : List Nat
  errLog : List (Nat × Nat × Nat × Nat)
  changed : List Nat
  image : List (Nat × List Byte)
deriving DecidableEq, Repr

def NvCtrl.init : NvCtrl := ⟨false, false, false, 0, 0, [], [], [], [], [], [], [], []⟩

/-- A feed in progress (R537): its descriptor, drive commands not answered, and its status once it is known to fail. -/
structure Feed where
  desc : Nat
  ops : Nat
  status : Nat
deriving DecidableEq, Repr

/-- A feed ring beyond its registers: PRODUCER, descriptors fetched, records written, the feeds that run, by number. -/
structure FeedRing where
  producer : Nat
  consumer : Nat
  written : Nat
  feeds : Tab Feed
deriving DecidableEq, Repr

def FeedRing.init : FeedRing := ⟨0, 0, 0, []⟩

/-- The storage controller: controllers by controller ID, namespaces by NSID, drives, the write buffer's granule and its
blocks (NSID × 2^64 + block) with the next version, drive commands in progress, NVMe commands in progress, feed rings, and
the generation of the label. -/
structure Store where
  ctrls : Tab NvCtrl
  ns : Tab Ns
  drives : Tab Drive
  wbBase : Option Nat
  wb : Tab WbEnt
  wbVer : Nat
  ops : Tab DrvOp
  nextOp : Nat
  cmds : Tab NvCmd
  nextCmd : Nat
  feeds : Tab FeedRing
  gen : Nat
deriving DecidableEq, Repr

def Store.init : Store := ⟨[], [], [], none, [], 0, [], 0, [], 0, [], 0⟩


/-! ### Checkpoint and restore (10_checkpoint_restore.md) -/

/-- A generation found committed: its number, step and slot (R372). -/
structure CkGen where
  gen : Nat
  step : Nat
  idx : Nat
deriving DecidableEq, Repr

/-- A round of a job slot at its coordinator (R366 to R375): whether one is in progress and its stage (0 quiescing, 1 writing,
2 manifest, 3 replica), generation and slot index, repeats after TOO_LATE; members that quiesced, reported steps, shard
entries by member, and the manifest with its drive writes not answered. -/
structure CkRound where
  active : Bool
  stage : Nat
  gen : Nat
  target : Nat
  idx : Nat
  repeats : Nat
  quiesced : List Nat
  late : List (Nat × Nat)
  entries : Tab (List (List Byte))
  manifest : List Byte
  ops : Nat
  bad : Bool
deriving DecidableEq, Repr

def CkRound.init : CkRound := ⟨false, 0, 0, 0, 0, 0, [], [], [], [], 0, false⟩

/-- A manifest found at the source holders: generation, step, and its bytes (R377). -/
structure RsCand where
  gen : Nat
  step : Nat
  bytes : List Byte
deriving DecidableEq, Repr

/-- A restore of a job slot (R377): the request of 0x9013, candidates not tried yet, newest first, the one in progress; at
the coordinator the members that are done; at a member the shelfmarks of the candidate in manifest order, and the parts
asked for and not received: writer, LBA, payload offset and length. -/
structure Restore where
  job : Nat
  coord : Nat
  replica : Nat
  gen : Nat
  staging : Nat
  length : Nat
  cands : List RsCand
  cur : Option RsCand
  done : List Nat
  marks : List (Nat × Nat × List Byte)
  parts : List (Nat × Nat × Nat × Nat)
deriving DecidableEq, Repr

/-- A record of 0x9014: generation, step, result, reason, failing member, time (R384). -/
structure CkLog where
  gen : Nat
  step : Nat
  result : Nat
  reason : Nat
  member : Nat
  time : Nat
deriving DecidableEq, Repr

/-- Checkpointing of a job slot beyond its registers: the round it coordinates; at a member the slot geometry of the round
(index and RETAIN), its shard entries, its drive writes not answered, and the first reason of a failure; generations found
committed, newest first, the highest generation attempted or found, triggers SKIPPED, when the last round ended, the restore
in progress, and the last 32 records, newest first. -/
structure Ckpt where
  round : CkRound
  idx : Nat
  retain : Nat
  shards : List (List Byte)
  ops : Nat
  failed : Nat
  gens : List CkGen
  high : Nat
  skipped : Nat
  ended : Nat
  restore : Option Restore
  log : List CkLog
deriving DecidableEq, Repr

def Ckpt.init : Ckpt := ⟨CkRound.init, 0, 0, [], 0, 0, [], 0, 0, 0, none, []⟩



/-! ### Front ports and telemetry (16_front_ports.md) -/

/-- A ring of a front port beyond its entry: PRODUCER (of a transmit ring), packets or descriptors taken, records written. -/
structure PortRing where
  producer : Nat
  consumer : Nat
  written : Nat
deriving DecidableEq, Repr

def PortRing.init : PortRing := ⟨0, 0, 0⟩

/-- A front port beyond its registers: its egress queues, oldest packet first, without FCS; priorities paused by PFC; the queue that the
round robin serves and what is left of its turn; receive rings (consumer: what the owner reported) and transmit rings;
the tokens of the policers, in 2^-20. -/
structure Port where
  queues : Tab (List (List Byte))
  paused : List Nat
  turn : Nat
  left : Nat
  rx : Tab PortRing
  tx : Tab PortRing
  tokens : Tab Nat
deriving DecidableEq, Repr

def Port.init : Port := ⟨[], [], 2, 0, [], [], []⟩

/-- The telemetry sampler: records written and consumed, samples lost and not reported yet, and the newest sample of each
entry (queue ID, depth, delay, time). -/
structure Tel where
  head : Nat
  consumed : Nat
  lost : Nat
  last : Tab (Nat × Nat × Nat × Nat)
  /-- Samples taken in the µs of the last sample. -/
  inUs : Nat
  us : Nat
deriving DecidableEq, Repr

def Tel.init : Tel := ⟨0, 0, 0, [], 0, 0⟩



/-! ### Management: start, firmware, dictionary (17_startup.md to 20_module_hardware.md) -/

/-- A bundle or a catalogue as a slot or copy of boot flash holds it (R609): VERSION, SVN, COMPAT, DIGEST, payload. -/
structure FwImg where
  version : Nat
  svn : Nat
  compat : Nat
  digest : List Byte
  payload : List Byte
deriving DecidableEq, Repr

/-- Boot flash (R608): the slots and the catalogue copies that hold an image; the boot record's fields; a deferred
activation with its due time, which stands while EMERGENCY is 0 (R614); which areas hold an image that is staged and not
marked; the stop code of R586; the fused minimum SVN (R617); whether the last activation fell back (FAILED, R615); and whether
the trial in progress can no longer be confirmed (R617). -/
structure Flash where
  slots : Tab FwImg
  cats : Tab FwImg
  active : Nat
  pending : Option Nat
  trial : Bool
  catActive : Nat
  catPending : Option Nat
  catTrial : Bool
  deferred : Bool
  due : Option Nat
  staged : Bool
  catStaged : Bool
  stop : Nat
  fusedMin : Nat
  failed : Bool
  trialBad : Bool
deriving DecidableEq, Repr

/-- The image that a module leaves manufacture with: its VERSION is not given; it stands in SLOT_A and in catalogue copy 0. -/
def FwImg.factory : FwImg := ⟨Config.factoryVersion, 0, 0, [], []⟩

def Flash.init : Flash :=
  ⟨[(0, FwImg.factory)], [(0, FwImg.factory)], 0, none, false, 0, none, false, false, none, false, false, 0, 0, false, false⟩

/-- A dictionary session (R629 to R632): its transport (0 PF0 mailbox, 1 management port, 2 I3C); its role (0 none, 1
operator, 2 installer, 3 maker) with the key slot, identity and maker rights; the latest nonce; a write transfer (index,
subindex, TOTAL, bytes so far) and a read snapshot (index, subindex, value); and when it opened. -/
structure Sess where
  transport : Nat
  role : Nat
  slot : Nat
  ident : List Byte
  rights : Nat
  nonce : Option (List Byte)
  xfer : Option (Nat × Nat × Nat × List Byte)
  snap : Option (Nat × Nat × List Byte)
  opened : Nat
deriving DecidableEq, Repr

def Sess.init : Sess := ⟨0, 0, 0, List.replicate 32 0, 0, none, none, none, 0⟩

/-- What firmware holds for management: sessions by number; the audit journal, newest first, and its record count (R641);
failed LOGINs of each transport, and the transports barred (R637); boot flash; the park list with reasons and times
(R590); the report of a start in progress, and its step at which it waits for a limit; the stop code of a held module
(R586); the CAUSE of the next start; whether a start found FLUSH_INCOMPLETE (R526); whether a PWR_EN cycle is owed (R411); LEAK_N low; circulation cores under restart,
times of restarts (8: the librarian), the librarian under reset, cores that wait for it, and what it owes on its return
(R601 to R604): job slots that it coordinated and slots whose restore it must fail; the debug port (R662); the dynamic I3C
address (R661); clock holdover (R652); SLOT_ID; the controller of the last dictionary scrub (R226); whether MODULE_TIME was
written; the route tables of 0x3013; and the areas an operator may not name: the firmware granule (R584). -/
structure Mgmt where
  sessions : Tab Sess
  audit : List (List Byte)
  auditSeq : Nat
  fails : Tab (List Nat)
  bars : List Nat
  flash : Flash
  parkList : List (ModUnit × Nat × Nat)
  start : Option StartReport
  held : Nat
  cause : Nat
  lostFlush : Bool
  needCycle : Bool
  leakLow : Bool
  coreDown : List Nat
  restarts : Tab (List Nat)
  libDown : Bool
  waiting : List (Nat × Nat)
  owed : List Nat
  owedRestore : List Nat
  debugOn : Bool
  i3cAddr : Option Nat
  holdover : Bool
  slotId : Nat
  scrub : Option (Bool × Nat)
  timeSet : Bool
  tables : Option (List (Bool × Nat × Nat))
deriving DecidableEq, Repr

def Mgmt.init : Mgmt :=
  { sessions := [], audit := [], auditSeq := 0, fails := [], bars := [], flash := Flash.init, parkList := [], start := none,
    held := 0, cause := 0, lostFlush := false, needCycle := false, leakLow := false, coreDown := [], restarts := [], libDown := false,
    waiting := [], owed := [], owedRestore := [], debugOn := false, i3cAddr := none, holdover := false, slotId := 0,
    scrub := none, timeSet := false, tables := none }

/-- The machine. -/
structure State where
  /-- Commands that wait, first in, first out. -/
  pending : List Instr
  /-- Registers by register-space offset; one that is not listed holds its reset value (RegMap.lean). -/
  regs : Tab Word
  /-- _HI halves captured by a read of _LO, by the offset of _HI (R47). -/
  pairCap : Tab Word
  /-- Registers whose WOL fields have taken their one write (R65). -/
  wolDone : List Nat
  /-- Memory of the local address map (R35): a byte that is not listed reads zero (R212). -/
  mem : List Host.Cell
  /-- ECC units, by first address, that hold an uncorrectable error (R203, R205), and that hold a correctable
  one (R202). -/
  ue : List Nat
  ce : List Nat
  /-- The carrels have been zero-filled (R212). -/
  carrelInit : Bool
  /-- Scrub passes in progress of the HBM and shelf controllers, by block base: zeroing, start, length,
  destination (R207 to R211). -/
  scrubs : Tab (Bool × Nat × Nat × Nat)
  /-- Error counter sets whose CE_THRESH event of this window is posted (R222). -/
  ceEvent : List Nat
  /-- The FIFO before the log ring, oldest first, the ring, and the flash journal, oldest first (R606). -/
  logFifo : List LogEntry
  logRing : Tab LogEntry
  journal : List (Nat × LogEntry)
  /-- Module time in µs (R605). -/
  time : Nat
  /-- The model's own: how many free values have been drawn. -/
  freeCtr : Nat
  /-- What has left the module, newest first. -/
  out : List Out
  cores : Tab Core
  tiles : Tab Tile
  host : Endpoint
  gma : Gma
  /-- Keys, cipher jobs and attestation. -/
  trust : Trust
  /-- Values of the dictionary's objects, by index and sub-index; one that is not listed holds its default. -/
  dict : Tab (List Byte)
  /-- The power and thermal controllers. -/
  power : Power
  /-- The 48 links, by number. -/
  links : Tab Link
  /-- The router's round robin: the link it took last (R259). -/
  lastLink : Nat
  /-- Packets at a router head with no eligible link, oldest first, with their arrival link (R262). -/
  unreach : List (Packet × Option Nat)
  /-- Partitions, job groups and streams. -/
  jobs : Jobs
  /-- The storage controller. -/
  store : Store
  /-- Checkpoint and restore, by job slot. -/
  ckpt : Tab Ckpt
  /-- Module time less the µs since the start, from the last write of 0x1002:01. -/
  epoch : Int
  /-- The front ports. -/
  ports : Tab Port
  /-- The telemetry sampler. -/
  tel : Tel
  /-- Start-up, firmware and the dictionary. -/
  mgmt : Mgmt
deriving DecidableEq, Repr

/-- The machine right after reset: input absent, module OFF (R579), every register at its reset value. -/
def State.reset : State :=
  { pending := [], regs := [], pairCap := [], wolDone := [], mem := [], ue := [], ce := [], carrelInit := false,
    scrubs := [], ceEvent := [], logFifo := [], logRing := [], journal := [], time := 0, freeCtr := 0, out := [], cores := [],
    tiles := [], host := Endpoint.init, gma := Gma.init,
    trust := Trust.init,
    dict := [],
    power := Power.init,
    links := [],
    lastLink := 47,
    unreach := [],
    jobs := Jobs.init,
    store := Store.init,
    ckpt := [],
    epoch := 0,
    ports := [],
    tel := Tel.init,
    mgmt := Mgmt.init }

end Sys2Proof.Machine
end

