-- ==== Sys2Proof/Machine/Flags.lean ====
section
/-!
DEFINITION. Registers, their fields and the error flags: where a register lies (R45), what it holds, how hardware
sets a field or a counter, and how an error bit sets, is captured and is posted to the log ring
(02_register_model.md R45 to R54; R605, R606, R667).
-/
namespace Sys2Proof.Machine

/-! ### Blocks and offsets (R45) -/

/-- First offset of a block, its number of instances, and the size of an instance (R45). -/
def blockPlace : BlockKind → Nat × Nat × Nat
  | .mod => (0x0, 1, 0x10000) | .pwr => (0x10000, 1, 0x10000) | .thm => (0x20000, 1, 0x10000)
  | .fwm => (0x30000, 1, 0x10000) | .log => (0x40000, 1, 0x10000) | .tel => (0x50000, 1, 0x10000)
  | .fin => (0x60000, 1, 0x10000) | .key => (0x70000, 1, 0x10000) | .til => (0x100000, 16, 0x10000)
  | .lxc => (0x200000, 16, 0x10000) | .shf => (0x300000, 8, 0x10000) | .hbc => (0x400000, 16, 0x10000)
  | .myl => (0x800000, 48, 0x10000) | .myr => (0xC00000, 1, 0x200000) | .gma => (0x1000000, 1, 0x1000000)
  | .pce => (0x2000000, 1, 0x100000) | .vfn => (0x2100000, 1, 0x100000) | .nvc => (0x2200000, 1, 0x100000)
  | .rtp => (0x2300000, 4, 0x10000) | .fpp => (0x2400000, 2, 0x100000) | .fps => (0x2600000, 2, 0x10000)
  | .cip => (0x2800000, 1, 0x100000)

/-- The blocks in the order of R45. -/
def blockKinds : List BlockKind :=
  [.mod, .pwr, .thm, .fwm, .log, .tel, .fin, .key, .til, .lxc, .shf, .hbc, .myl, .myr, .gma, .pce, .vfn, .nvc,
   .rtp, .fpp, .fps, .cip]

/-- The row of a block in the table of R45. -/
def blockRowOf (k : BlockKind) : Nat := blockKinds.findIdx (· = k)

/-- The three letters of a block's prefix, A = 1 to Z = 26 (R49). -/
def blockLetters : BlockKind → Nat × Nat × Nat
  | .mod => (13, 15, 4) | .pwr => (16, 23, 18) | .thm => (20, 8, 13) | .fwm => (6, 23, 13)
  | .log => (12, 15, 7) | .tel => (20, 5, 12) | .fin => (6, 9, 14) | .key => (11, 5, 25)
  | .til => (20, 9, 12) | .lxc => (12, 24, 3) | .shf => (19, 8, 6) | .hbc => (8, 2, 3)
  | .myl => (13, 25, 12) | .myr => (13, 25, 18) | .gma => (7, 13, 1) | .pce => (16, 3, 5)
  | .vfn => (22, 6, 14) | .nvc => (14, 22, 3) | .rtp => (18, 20, 16) | .fpp => (6, 16, 16)
  | .fps => (6, 16, 19) | .cip => (3, 9, 16)

/-- The BLOCK code of R49. -/
def blockCode (k : BlockKind) : Nat :=
  let (a, b, c) := blockLetters k
  a * 1024 + b * 32 + c

end Sys2Proof.Machine

namespace Sys2Proof

open Machine

/-- The first offset of an instance (R45). -/
def Blk.base (b : Blk) : Nat :=
  let (o, _, n) := blockPlace b.kind
  o + b.inst * n

/-! ### The common header (R49 to R53) -/

def Blk.idOff (b : Blk) : Nat := b.base + 0xFF00
def Blk.ctrlOff (b : Blk) : Nat := b.base + 0xFF04
def Blk.errOff (b : Blk) : Nat := b.base + 0xFF08
def Blk.errMasterOff (b : Blk) : Nat := b.base + 0xFF0C
def Blk.errAddrOff (b : Blk) : Nat := b.base + 0xFF10
def Blk.cfgRefOff (b : Blk) : Nat := b.base + 0xFF14
def Blk.cfgCrcOff (b : Blk) : Nat := b.base + 0xFF18
def Blk.enable (b : Blk) : Fld := ⟨b.ctrlOff, 0, 0⟩
def Blk.crcCheck (b : Blk) : Fld := ⟨b.ctrlOff, 1, 1⟩
def Blk.crcStop (b : Blk) : Fld := ⟨b.ctrlOff, 2, 2⟩
def Blk.active (b : Blk) : Fld := ⟨b.ctrlOff, 8, 8⟩
def Blk.lock (b : Blk) : Fld := ⟨b.ctrlOff, 31, 31⟩
def Blk.err (b : Blk) (bit : Nat) : Fld := ⟨b.errOff, bit, bit⟩

/-! ### Master IDs (R52, R54) -/

def MClass.code : MClass → Nat
  | .librarian => 0 | .circulation => 1 | .lectern => 2 | .tileDma => 3 | .hostPf => 4 | .hostVf => 5
  | .remoteQueue => 6 | .debug => 7 | .none => 15

/-- An event that no master raised (R54). -/
def Master.noMaster : Master := ⟨.none, 0, false⟩

def Master.firmware : Master := ⟨.librarian, 0, true⟩

/-- A master ID in the layout of BLK_ERR_MASTER (R52). -/
def Master.word (m : Master) : Word :=
  BitVec.ofNat 32 (m.cls.code * 2 ^ 28 + ofBool m.secure * 2 ^ 27 + m.index % 2 ^ 24)

end Sys2Proof

namespace Sys2Proof.Machine

/-- The instance that holds an offset, and the offset within it (R45). -/
def blockAt (off : Nat) : Option (Blk × Nat) :=
  blockKinds.findSome? (fun k =>
    let (o, c, n) := blockPlace k
    if o ≤ off ∧ off < o + c * n then some (⟨k, (off - o) / n⟩, (off - o) % n) else none)

/-- Whether a row of a register map covers the offset `rel` of its block. -/
def RegRow.covers (r : RegRow) (rel : Nat) : Bool :=
  let d := rel - r.off
  decide (r.off ≤ rel) && decide (d / r.stride < r.count) && decide (d % r.stride / r.stride2 < r.count2) &&
    (if r.stride = 0 then d = 0 else d % r.stride % r.stride2 = 0 || (r.stride2 = 0 && d % r.stride = 0))

/-- The register at an offset of register space: its block, its offset there, and its row. -/
def regAt (off : Nat) : Option (Blk × Nat × RegRow) :=
  match blockAt off with
  | none => none
  | some (b, rel) =>
    match (blockRows b.kind).find? (fun r => r.covers rel) with
    | none => none
    | some r => some (b, rel, r)

/-- The reset value of a register: the reset values of its fields. -/
def RegRow.resetValue (r : RegRow) : Nat := r.fields.foldl (fun a f => a + f.reset * 2 ^ f.lo) 0

/-- The reset value at an offset; zero where there is no register. -/
def resetAt (off : Nat) : Word :=
  match regAt off with
  | some (_, _, r) => BitVec.ofNat 32 r.resetValue
  | none => 0

/-! ### Reading and setting a field -/

/-- The value of a register as hardware holds it. -/
def State.reg (s : State) (off : Nat) : Word := (Tab.find? s.regs off).getD (resetAt off)

/-- A register takes a value. -/
def State.setReg (s : State) (off : Nat) (v : Word) : State := { s with regs := Tab.set s.regs off v }

/-- The value of a field. -/
def State.fld (s : State) (f : Fld) : Nat := bits (s.reg f.off).toNat f.hi f.lo

/-- Whether a field is not zero. -/
def State.flag (s : State) (f : Fld) : Bool := decide (s.fld f ≠ 0)

/-- Hardware sets a field; the rest of the register stays. -/
def State.setFld (s : State) (f : Fld) (v : Nat) : State :=
  s.setReg f.off (BitVec.ofNat 32 (setBits (s.reg f.off).toNat f.hi f.lo v))

/-- Hardware sets a one-bit field. -/
def State.setFlag (s : State) (f : Fld) (b : Bool) : State := s.setFld f (ofBool b)

/-- Hardware sets one bit of a field that holds a mask. -/
def State.setMaskBit (s : State) (f : Fld) (i : Nat) (on : Bool) : State := s.setFld f (putBit (s.fld f) i on)

/-- A counter in the layout of R276 counts `n` more; it saturates. -/
def State.countBy (s : State) (f : Fld) (n : Nat) : State := s.setFld f (satAdd32 (s.fld f) n)

/-- A saturating counter counts one more. -/
def State.count (s : State) (f : Fld) : State := s.countBy f 1

/-- A counter that wraps at 2^32 counts one more (R142, R143). -/
def State.countWrap (s : State) (f : Fld) : State := s.setFld f ((s.fld f + 1) % 2 ^ 32)

/-- The bits of BLK_ERR that every block has (R51). -/
def errLateWrite : Nat := 1
def errLockedWrite : Nat := 2
def errCfgCrc : Nat := 3
def errGuard : Nat := 4
def errBadAccess : Nat := 5

/-! ### The log ring (R605, R606) -/

/-- An entry enters the FIFO before the log ring. With 64 entries waiting it is dropped and counted; a trace entry
is dropped and counted when more than half are taken (R606). -/
def State.postLog (s : State) (e : LogEntry) : State :=
  if e.kind = 2 then
    if 32 < s.logFifo.length then s.count F.LOG_TRACE_DROPPED
    else { s with logFifo := s.logFifo ++ [e] }
  else if 64 ≤ s.logFifo.length then
    (s.count F.LOG_DROPPED).setFlag ((Blk.mk .log 0).err 16) true
  else { s with logFifo := s.logFifo ++ [e] }

/-- Module time in µs (R472, R605, R642). -/
def State.modTime (s : State) : Nat := (s.time + s.epoch).toNat

/-- The log entry of bit `bit` of a block's BLK_ERR (R51, R605). -/
def State.postErr (s : State) (b : Blk) (bit : Nat) (m : Master) (off data : Nat) : State :=
  s.postLog ⟨m.word, s.modTime, blockCode b.kind, b.inst, Config.eventSeverity (blockCode b.kind) bit, 0, bit, off, data⟩

/-- An event that firmware logs (KIND 1): its code, offset and data. -/
def State.postFw (s : State) (code off data : Nat) : State :=
  s.postLog ⟨Master.noMaster.word, s.modTime, blockCode .fwm, 0, Config.eventSeverity (blockCode .fwm) (256 + code), 1,
    code, off, data⟩

/-- A block-specific error bit sets and posts its event (R51). BLOCK_ERR never loads the first-error registers
(R52). -/
def State.raise (s : State) (b : Blk) (bit : Nat) (m : Master := Master.noMaster) (off : Nat := 0)
    (data : Nat := 0) : State :=
  (s.setFlag (b.err bit) true).postErr b bit m off data

/-- An access sets one of BLK_ERR[5:1]: the first-error registers capture it where all of those bits were clear
(R52); it posts its event unless `silent` (R64). -/
def State.raiseAccess (s : State) (b : Blk) (bit : Nat) (m : Master) (off : Nat) (data : Nat := 0)
    (silent : Bool := false) : State :=
  let fresh := bits (s.reg b.errOff).toNat 5 1 = 0
  let s := if fresh then (s.setReg b.errMasterOff m.word).setReg b.errAddrOff (BitVec.ofNat 32 (off % 2 ^ 26)) else s
  let s := s.setFlag (b.err bit) true
  if silent then s else s.postErr b bit m off data

/-! ### Outputs and free values -/

/-- The module sends or answers something. -/
def State.emit (s : State) (o : Out) : State := { s with out := o :: s.out }

/-- A value the spec leaves open is drawn: fresh at every drawing. -/
def State.freeNat (s : State) : Nat := Config.freeNat s.freeCtr

def State.freeBool (s : State) : Bool := Config.freeBool s.freeCtr

/-- The counter of drawn values moves on. -/
def State.drew (s : State) : State := { s with freeCtr := s.freeCtr + 1 }

end Sys2Proof.Machine
end

