-- ==== Sys2Proof/Machine/Ops.lean ====
section
/-!
DEFINITION. Named operations that several commands share: the units of the state, the local address map and its
memories with their error correction (R35 to R39, R202 to R206, R213, R222), event rings and MSI-X (R472 to R475),
and what follows a guard violation (R63, R64, R499).
-/
namespace Sys2Proof.Machine

/-! ### Units of the state -/

def State.core (s : State) (c : Nat) : Core := Tab.getD s.cores c Core.init
def State.setCore (s : State) (c : Nat) (x : Core) : State := { s with cores := Tab.set s.cores c x }
def State.modCore (s : State) (c : Nat) (f : Core → Core) : State := s.setCore c (f (s.core c))
def State.tile (s : State) (t : Nat) : Tile := Tab.getD s.tiles t Tile.init
def State.setTile (s : State) (t : Nat) (x : Tile) : State := { s with tiles := Tab.set s.tiles t x }
def State.modTile (s : State) (t : Nat) (f : Tile → Tile) : State := s.setTile t (f (s.tile t))
def State.fn (s : State) (f : Nat) : Fn := Tab.getD s.host.fns f Fn.init
def State.setFn (s : State) (f : Nat) (x : Fn) : State := { s with host := { s.host with fns := Tab.set s.host.fns f x } }
def State.modFn (s : State) (f : Nat) (g : Fn → Fn) : State := s.setFn f (g (s.fn f))
def State.ctx (s : State) (c : Nat) : Ctx := Tab.getD s.gma.ctxs c Ctx.init
def State.setCtx (s : State) (c : Nat) (x : Ctx) : State := { s with gma := { s.gma with ctxs := Tab.set s.gma.ctxs c x } }
def State.modCtx (s : State) (c : Nat) (f : Ctx → Ctx) : State := s.setCtx c (f (s.ctx c))
def State.bar (s : State) (g : Nat) : Bar := Tab.getD s.gma.bars g Bar.init
def State.modBar (s : State) (g : Nat) (f : Bar → Bar) : State :=
  { s with gma := { s.gma with bars := Tab.set s.gma.bars g (f (s.bar g)) } }

/-- The blocks, for short. -/
def blkMod : Blk := ⟨.mod, 0⟩
def blkTil (t : Nat) : Blk := ⟨.til, t⟩
def blkLxc (t : Nat) : Blk := ⟨.lxc, t⟩
def blkHbc (i : Nat) : Blk := ⟨.hbc, i⟩
def blkShf (i : Nat) : Blk := ⟨.shf, i⟩
def blkGma : Blk := ⟨.gma, 0⟩
def blkPce : Blk := ⟨.pce, 0⟩
def blkVfn : Blk := ⟨.vfn, 0⟩
def blkFwm : Blk := ⟨.fwm, 0⟩

/-! ### Dictionary values -/

/-- The dictionary key of an object and sub-index. -/
def dictKey (idx sub : Nat) : Nat := idx * 256 + sub

/-- The value of an object, its default where it was never written. -/
def State.dictVal (s : State) (idx sub dflt : Nat) : Nat :=
  match Tab.find? s.dict (dictKey idx sub) with
  | some bs => ofLe bs
  | none => dflt

/-! ### The local address map (R35) -/

/-- What a local address reaches (R35). -/
inductive Region where
  | hbm (i : Nat)
  | shelf (d k : Nat)
  | carrel (t : Nat)
  | regs (off : Nat)
  | bitAlias (a : Nat)
  | reserved
deriving DecidableEq, Repr

def shelfBase : Nat := 0xC000000000
def carrelBase : Nat := 0xC800000000
def regBase : Nat := 0xF000000000
def aliasBase : Nat := 0xF800000000
def stackSize : Nat := 0x0C00000000
def shelfDieSize : Nat := 0x50000000
def carrelSize : Nat := 0x04000000

/-- The region of a local address (R35). -/
def regionOf (a : Nat) : Region :=
  if a < shelfBase then .hbm (a / stackSize)
  else if a < shelfBase + 8 * (3 * shelfDieSize) then
    .shelf ((a - shelfBase) / (3 * shelfDieSize)) ((a - shelfBase) % (3 * shelfDieSize) / shelfDieSize)
  else if carrelBase ≤ a ∧ a < carrelBase + 16 * carrelSize then .carrel ((a - carrelBase) / carrelSize)
  else if regBase ≤ a ∧ a < regBase + 2 ^ 32 then .regs (a - regBase)
  else if aliasBase ≤ a ∧ a < aliasBase + 2 ^ 31 then .bitAlias (a - aliasBase)
  else .reserved

/-- The local address of carrel offset `o` of tile `t` (R35). -/
def carrelAddr (t o : Nat) : Nat := carrelBase + t * carrelSize + o

/-- Librarian and circulation cores run firmware (R29). -/
def isFirmware (m : Master) : Bool := m.cls = .librarian || m.cls = .circulation

/-! ### Partitions and sealed memory (R63, R344, R432) -/

/-- Whether partition `p` exists and holds tile `t` (R344). -/
def State.partHasTile (s : State) (p t : Nat) : Bool :=
  (s.flag (F.MOD_PART_CFG_ENABLE p) || s.flag (F.MOD_PART_CFG_ACTIVE p)) &&
    (s.fld (F.MOD_PART_TILES_TILES p)).testBit t

/-- The partition that holds a tile. -/
def State.partOf (s : State) (t : Nat) : Option Nat := (List.range 16).find? (fun p => s.partHasTile p t)

/-- Partition `p` as an OWNER (R288). -/
def partOwner (p : Nat) : Nat := 0x8000 + p

/-- The granule of an address (R432, R485): HBM granules of 1 GiB from 0, shelf granules of 256 MiB from 1,000. -/
def granuleOf (a : Nat) : Nat :=
  if a < shelfBase then a / 2 ^ 30 else 1000 + (a - shelfBase) / 2 ^ 28

/-- First address and size of a granule. -/
def granuleRange (g : Nat) : Nat × Nat :=
  if g < 1000 then (g * 2 ^ 30, 2 ^ 30) else (shelfBase + (g - 1000) * 2 ^ 28, 2 ^ 28)

/-- The sealed partition that an address of memory belongs to (R432). -/
def State.sealedBy (s : State) (a : Nat) : Option Nat :=
  match regionOf a with
  | .carrel t => (s.partOf t).filter (fun p => s.flag (F.MOD_PART_CFG_SEALED p))
  | .hbm _ => Tab.find? s.trust.sealed (granuleOf a)
  | .shelf _ _ => Tab.find? s.trust.sealed (granuleOf a)
  | _ => none

/-- Whether a master may not reach an address because its granule is sealed (R432): the lectern cores and tile DMA of
the owning partition, the contexts it owns, and the librarian may. -/
def State.sealedAgainst (s : State) (m : Master) (a : Nat) : Bool :=
  match s.sealedBy a with
  | none => false
  | some p =>
    match m.cls with
    | .librarian => false
    | .lectern => !s.partHasTile p m.index
    | .tileDma => !s.partHasTile p m.index
    | .remoteQueue => (s.ctx m.index).owner ≠ partOwner p
    | _ => true

/-- The granule that firmware withholds for the context backing table and its working memory: the top one of the
highest-numbered unparked stack (R584, R598). -/
def State.fwGranule (s : State) : Nat :=
  48 * (((List.range 16).filter (fun i => !(s.fld F.MOD_PARKED0_STACKS).testBit i)).getLastD 15) + 47

/-- Whether a memory address is there for a master: its unit is not parked and has been filled (R37, R213), and it
is not firmware working memory reached by another master (R598). -/
def State.memPresent (s : State) (m : Master) (a : Nat) : Bool :=
  !s.sealedAgainst m a && match regionOf a with
  | .hbm i =>
    s.flag (F.HBC_STS_INIT_DONE i) && !(s.fld F.MOD_PARKED0_STACKS).testBit i &&
      (isFirmware m || decide (a / 2 ^ 30 ≠ s.fwGranule) || decide (0x3C000000 ≤ a % 2 ^ 30))
  | .shelf d k => s.flag (F.SHF_STS_INIT_DONE d) && !(s.fld F.MOD_PARKED1_SHELVES).testBit (3 * d + k)
  | .carrel t => s.carrelInit && !(s.fld F.MOD_PARKED0_TILES).testBit t
  | _ => false

/-- A range of memory is there, wholly. The ends and every region between decide. -/
def State.rangePresent (s : State) (m : Master) (a n : Nat) : Bool :=
  decide (0 < n) && s.memPresent m a && s.memPresent m (a + n - 1) &&
    (List.range ((a + n - 1) / 0x4000000 - a / 0x4000000)).all
      (fun i => s.memPresent m ((a / 0x4000000 + i + 1) * 0x4000000))

/-- An access to a hole or reserved address sets ADDR_HOLE, is captured where the capture is free, and is logged
(R38, R39). -/
def State.hole (s : State) (m : Master) (a : Nat) (write : Bool) : State :=
  let s := s.raise blkMod 18 m (a % 2 ^ 32) (bits a 39 32)
  if s.flag F.MOD_HOLE_CAP2_CAPTURED then s
  else
    let s := s.setReg F.MOD_HOLE_CAP0_CLASS.off m.word
    let s := s.setFld F.MOD_HOLE_CAP1_ADDR_LO (a % 2 ^ 32)
    let s := s.setFld F.MOD_HOLE_CAP2_ADDR_HI (bits a 39 32)
    (s.setFlag F.MOD_HOLE_CAP2_WRITE write).setFlag F.MOD_HOLE_CAP2_CAPTURED true

/-- Whether the circulation core with a duty runs: not under a restart (R602). With die B parked, cores 0 to 3 have the duties
of cores 4 to 7 (R30). -/
def State.coreUp (s : State) (k : Nat) : Bool :=
  decide ((if s.flag F.MOD_PARKED2_CIRC_B then k % 4 else k) ∉ s.mgmt.coreDown)

/-- What the librarian core serves waits while it is under reset (R604). -/
def State.lib (s : State) (f : State → State) : State := if s.mgmt.libDown then s else f s

/-! ### Memory and its error correction -/

/-- Bytes of an ECC unit: 64 in HBM, 8 in a shelf or carrel (R193). -/
def unitSize (a : Nat) : Nat := if a < shelfBase then 64 else 8

def unitOf (a : Nat) : Nat := a / unitSize a * unitSize a

/-- The units of `z` bytes that a range touches, by first address, rising. -/
def unitsBy (z a n : Nat) : List Nat :=
  if n = 0 then [] else (List.range ((a + n - 1) / z - a / z + 1)).map (fun i => (a / z + i) * z)

/-- The ECC units of a range, by first address, rising; HBM ends where the shelves begin (R35, R193). -/
def unitsOf (a n : Nat) : List Nat :=
  if a < shelfBase then unitsBy 64 a (min n (shelfBase - a)) ++ unitsBy 8 shelfBase (a + n - shelfBase)
  else unitsBy 8 a n

/-- One byte of memory. -/
def State.readByte (s : State) (a : Nat) : Byte := Tab.getD s.mem a 0

/-- One byte of memory takes a value; a byte that reads zero is not listed. -/
def State.writeByte (s : State) (a : Nat) (b : Byte) : State := { s with mem := Tab.put s.mem a b 0 }

def State.readBytes (s : State) (a n : Nat) : List Byte := (List.range n).map (fun i => s.readByte (a + i))

/-- Bytes stored from `a` upward. -/
def State.storeBytes : List Byte → Nat → State → State
  | [], _, s => s
  | b :: bs, a, s => State.storeBytes bs (a + 1) (s.writeByte a b)

/-- The error counters of an address's owner: correctable and uncorrectable counts (R206, R221, R225), the window,
the capture, and the block that posts. -/
structure EccOwner where
  blk : Blk
  ce : Fld
  uec : Fld
  window : Option Fld
  capLo : Option Fld
  capHi : Option Fld
  captured : Option Fld
  thresh : Option Fld
deriving DecidableEq, Repr

def eccOwner (a : Nat) : Option EccOwner :=
  match regionOf a with
  | .hbm i => some ⟨blkHbc i, F.HBC_CE_CNT i, F.HBC_UE_CNT i, some (F.HBC_CE_WINDOW i),
      some (F.HBC_UE_ADDR_LO i), some (F.HBC_UE_ADDR_HI_ADDR i), some (F.HBC_UE_ADDR_HI_CAPTURED i),
      some (F.HBC_CE_THRESH i)⟩
  | .shelf d k => some ⟨blkShf d, F.SHF_CE_CNT d k, F.SHF_UE_CNT d k, some (F.SHF_CE_WINDOW d k),
      some (F.SHF_UE_ADDR_LO d k), some (F.SHF_UE_ADDR_HI_ADDR d k), some (F.SHF_UE_ADDR_HI_CAPTURED d k),
      some (F.SHF_CE_THRESH d)⟩
  | .carrel t => some ⟨blkTil t, F.TIL_CARREL_CE_CNT t, F.TIL_CARREL_UE_CNT t, none, none, none, none, none⟩
  | _ => none

/-- The bits UE and PARTIAL_UE of an owner's BLK_ERR (R147, R224). -/
def ueBit (b : Blk) (partly : Bool) : Nat :=
  match b.kind with
  | .til => if partly then 19 else 18
  | _ => if partly then 18 else 17

/-- A correctable detection counts; the window that reaches THRESH sets CE_THRESH and posts one event (R202, R206,
R222). -/
def State.detectCe (s : State) (a : Nat) : State :=
  match eccOwner a with
  | none => s
  | some o =>
    let s := s.count o.ce
    match o.window, o.thresh with
    | some w, some th =>
      let s := s.count w
      if s.fld th ≠ 0 ∧ s.fld w ≥ s.fld th ∧ w.off ∉ s.ceEvent then
        { s.raise o.blk 16 Master.noMaster w.off with ceEvent := w.off :: s.ceEvent }
      else s
    | _, _ => s

/-- An uncorrectable detection counts, captures its address where the capture is free, sets UE (or PARTIAL_UE for a
discarded partial write) and posts an event with the reader or writer and the address (R203, R206, R667). -/
def State.detectUe (s : State) (m : Master) (a : Nat) (partly : Bool := false) : State :=
  match eccOwner a with
  | none => s
  | some o =>
    let s := s.count o.uec
    let s := match o.captured, o.capLo, o.capHi with
      | some c, some lo, some hi =>
        if s.flag c then s else ((s.setFld lo (a % 2 ^ 32)).setFld hi (bits a 39 32)).setFlag c true
      | _, _, _ => s
    s.raise o.blk (ueBit o.blk partly) m (a % 2 ^ 32) (bits a 39 32)

/-- The units of a range are read in ascending order: each correctable one counts, and the first uncorrectable one
is detected and ends the reading (R205, R206). -/
def State.checkUnits (m : Master) : List Nat → State → State × Option Nat
  | [], s => (s, none)
  | u :: us, s =>
    if u ∈ s.ue then (s.detectUe m u, some u)
    else State.checkUnits m us (if u ∈ s.ce then s.detectCe u else s)

/-- A range is read: the state with the detections counted, and the first uncorrectable unit. -/
def State.readCheck (s : State) (m : Master) (a n : Nat) : State × Option Nat := State.checkUnits m (unitsOf a n) s

/-- A unit is stored whole with fresh check bits (R203). -/
def State.cure (s : State) (u : Nat) : State := { s with ue := s.ue.erase u, ce := s.ce.erase u }

/-- One ECC unit of a write: whole, or a read-modify-write that corrects a correctable unit and is discarded where
the unit is uncorrectable (R198, R201, R203). The flag says that it was discarded. -/
def State.writeUnit (s : State) (m : Master) (u a : Nat) (bs : List Byte) : State × Bool :=
  let z := unitSize u
  let lo := max u a
  let hi := min (u + z) (a + bs.length)
  let part := (bs.drop (lo - a)).take (hi - lo)
  if hi - lo = z then ((State.storeBytes part lo s).cure u, false)
  else if u ∈ s.ue then (s.detectUe m u true, true)
  else
    let s := if u ∈ s.ce then (s.detectCe u).cure u else s
    (State.storeBytes part lo s, false)

/-- Bytes are written to memory, each ECC unit under its own rule (R203); the flag says that some unit discarded
its part. -/
def State.writeMem (s : State) (m : Master) (a : Nat) (bs : List Byte) : State × Bool :=
  (unitsOf a bs.length).foldl (fun (r : State × Bool) u =>
    let (s, d) := r.1.writeUnit m u a bs
    (s, r.2 || d)) (s, false)

/-- The write of one read-modify-write, an atomic or a ledger addition: its read has counted the detections and found no
uncorrectable unit, and its units are stored whole (R201, R203). -/
def State.rmwStore (s : State) (a : Nat) (bs : List Byte) : State :=
  (unitsOf a bs.length).foldl State.cure (State.storeBytes bs a s)

/-- Bytes that firmware or the module's own hardware writes to memory. -/
def State.putMem (s : State) (a : Nat) (bs : List Byte) : State := (s.writeMem Master.firmware a bs).1

/-- Admission stops in stage 3 of a cap and from the start of a power-fail (R398, R408). -/
def State.admits (s : State) : Bool := decide (s.fld F.PWR_STS_CAP_STAGE ≠ 3) && !s.power.failing

/-! ### Owners and functions (R54, R288, R462) -/

/-- The routing function of a host VF of R54: [6] PF, [5:0] VF number. -/
def vfFunction (index : Nat) : Nat := if index < 64 then 1 + index else 64 + index % 64

/-- The index of R54 of routing function `f` of a VF. -/
def vfIndex (f : Nat) : Nat := if f < 65 then f - 1 else 64 + (f - 64)

/-- The master of a host function (R54, R462). -/
def fnMaster (f : Nat) : Master :=
  if f < 2 then ⟨.hostPf, f, false⟩ else ⟨.hostVf, vfIndex f, false⟩

/-- The OWNER of R288 that names a function. -/
def fnOwner (f : Nat) : Nat := if f < 2 then f else 0x4000 + vfIndex f

/-- Firmware as an OWNER (R288). -/
def fwOwner : Nat := 0xC000

/-- The function that an OWNER's events go to: a partition's go to its own owner (R288, R472); firmware has none. -/
def State.ownerFn (s : State) (owner : Nat) : Option Nat :=
  let direct := fun o : Nat =>
    match o / 0x4000 with
    | 0 => some (o % 2)
    | 1 => some (vfFunction (o % 128))
    | _ => none
  if owner / 0x4000 = 2 then direct (s.fld (F.MOD_PART_CFG_OWNER (owner % 16))) else direct owner

/-! ### Event rings and MSI-X (R472 to R475) -/

/-- The physical function whose power state and enables a function follows (R462, R478). -/
def pfOf (f : Nat) : Nat := if f < 2 then f else if f < 65 then 0 else 1

/-- A stream in the secure state covers a function: the link stream covers every one (R454, R455). -/
def State.ideSecure (s : State) (f : Nat) : Bool :=
  s.trust.ide.any (fun p => p.2.secure && (decide (p.1 = 0) || decide (f ∈ p.2.fns)))

/-- A function may issue requests: Bus Master Enable, its PF in D0, no FLR under way, and an IDE stream in the secure state
that covers it (R455, R475, R476, R478). -/
def State.busMaster (s : State) (f : Nat) : Bool :=
  (s.fn f).bme && (s.fn (pfOf f)).dstate = 0 && !(s.fn f).flr && s.ideSecure f && !s.power.failing

/-- A message for a vector: pending under a mask, under Function Mask or without Bus Master Enable; lost where the
entry's address is zero; else sent (R474, R475). -/
def State.sendMsix (s : State) (f vec : Nat) : State :=
  let fn := s.fn f
  let e := Tab.getD fn.msix vec ⟨0, 0, true⟩
  if !s.busMaster f || fn.fnMask || e.masked then
    s.modFn f (fun x => { x with pba := if vec ∈ x.pba then x.pba else x.pba ++ [vec] })
  else if e.addr = 0 then s.count F.PCE_MSIX_LOST
  else s.emit (.msix f vec)

/-- The message that follows a record: at once, or merged until the moderation timer expires (R474). -/
def State.signalVec (s : State) (f vec : Nat) : State :=
  if (s.fn f).moderation = 0 then s.sendMsix f vec
  else s.modFn f (fun x => { x with modPend := if vec ∈ x.modPend then x.modPend else x.modPend ++ [vec] })

/-- The 16 bytes of record number `k` of a ring (R472). -/
def evBytes (k log2 : Nat) (e : EvRec) : List Byte :=
  leBytes 1 e.src ++ leBytes 1 e.code ++ leBytes 1 ((Config.firstPhase + k / 2 ^ log2) % 2) ++ leBytes 1 0 ++
    leBytes 4 e.obj ++ leBytes 4 e.detail ++ leBytes 4 e.time

/-- A record is written to the ring and signalled (R472, R474). -/
def State.writeEvent (s : State) (f : Nat) (r : EvRing) (e : EvRec) : State :=
  let s := s.emit (.hostWrite f (r.iova + 16 * (r.head % 2 ^ r.log2)) r.pasid (evBytes r.head r.log2 e))
  (s.modFn f (fun x => { x with ring := some { r with head := r.head + 1 } })).signalVec f e.vec

/-- An event that finds no place is counted, and sets EVENT_OVERFLOW where the ring is full (R473, R475). -/
def State.loseEvent (s : State) (f : Nat) (full : Bool) : State :=
  let s := s.modFn f (fun x => { x with lost := x.lost + 1 })
  if full then s.raise blkPce 20 else s

/-- A VF is being moved and has been stopped (R504, R509). -/
def State.moving (s : State) (f : Nat) : Bool :=
  decide (2 ≤ f) && decide (s.fld (F.VFN_STS_STATE f) = 3) && decide (s.fld (F.VFN_STS_MOVE_PHASE f) ≠ 0)

/-- The owner of an object is a VF that is being moved. -/
def State.ownerMoving (s : State) (owner : Nat) : Bool :=
  match s.ownerFn owner with
  | some f => s.moving f
  | none => false

/-- A function of a PF outside D0 with PME_En set signals an event: PME in D3hot, WAKE_N in D3cold (R478). -/
def State.wake (s : State) (f : Nat) : State :=
  let p := s.fn (pfOf f)
  if !p.pmeEn then s
  else if !s.host.perstHigh ∨ p.dstate = 2 then s.emit (.pcie 5 (pfOf f) 0)
  else if p.dstate = 1 then s.emit (.pcie 1 (pfOf f) 0)
  else s

/-- An event goes to a function's ring: held without Bus Master Enable, outside D0 or while the VF is moved, up to 256
records, lost without a ring or on a full ring, else written (R472 to R475, R478, R500, R505). -/
def State.postEvent (s : State) (f : Nat) (e : EvRec) : State :=
  let s := s.wake f
  let fn := s.fn f
  match fn.ring with
  | none => s.loseEvent f false
  | some r =>
    if !s.busMaster f ∨ s.moving f then
      if fn.held.length < 256 then s.modFn f (fun x => { x with held := x.held ++ [e] })
      else s.loseEvent f false
    else if fn.lost ≠ 0 ∨ 2 ^ r.log2 ≤ r.head - r.consumed then s.loseEvent f true
    else s.writeEvent f r e

/-- An event to the owner of an object; firmware's own objects log it (R472). -/
def State.postOwner (s : State) (owner src code obj detail vec : Nat) : State :=
  match s.ownerFn owner with
  | some f => s.postEvent f ⟨src, code, obj, detail, s.modTime % 2 ^ 32, vec⟩
  | none => s.postFw (Config.logCode 472) 0 obj

/-! ### Partitions, security and guard violations (R63, R64) -/

/-- The OWNER that a tile works for (R495). -/
def State.tileOwner (s : State) (t : Nat) : Option Nat := (s.partOf t).map partOwner

/-- A lectern core is secure at the privileged level while its tile belongs to a sealed context (R63). The librarian
always is; a circulation core is at the privileged level. -/
def State.coreSecure (s : State) (c : Nat) : Bool :=
  if c = 24 then true
  else if 16 ≤ c then (s.core c).priv
  else (s.core c).priv && (match s.partOf c with | some p => s.flag (F.MOD_PART_CFG_SEALED p) | none => false)

/-- The master that LX core `c` is (R29, R54), with its present secure attribute. -/
def State.coreMaster (s : State) (c : Nat) : Master :=
  if c = 24 then ⟨.librarian, 0, true⟩
  else if 16 ≤ c then ⟨.circulation, c - 16, s.coreSecure c⟩
  else ⟨.lectern, c, s.coreSecure c⟩

/-- The secure attribute of an access (R63): librarian and debug always, a host function never, a lectern core by its
level and seal; the others as the access carries it. -/
def State.isSecure (s : State) (m : Master) : Bool :=
  match m.cls with
  | .librarian => true
  | .debug => true
  | .hostPf => false
  | .hostVf => false
  | .lectern => s.coreSecure m.index
  | _ => m.secure

/-- A lectern core is frozen: it retires no further instruction (R64, R186, R192). -/
def State.freezeCore (s : State) (t : Nat) : State :=
  (s.modCore t (fun x => { x with frozen := true, st := .stopped, wait := .none })).raise (blkLxc t) 18
    Master.noMaster (F.LXC_STS_FROZEN t).off

/-- A VF is frozen: its FROZEN bit sets, the freeze is counted, and PF0 learns of it (R499). -/
def State.freezeVf (s : State) (f : Nat) : State :=
  let s := s.setFlag (F.VFN_STS_FROZEN f) true
  let s := (s.count F.VFN_VF_FREEZES).raise blkVfn 16 Master.noMaster (F.VFN_STS_FROZEN f).off
  s.postEvent 0 ⟨7, 0, f, 0, s.modTime % 2 ^ 32, 0⟩

/-- Whether a master is frozen already (R64). -/
def State.isFrozen (s : State) (m : Master) : Bool :=
  match m.cls with
  | .lectern => (s.core m.index).frozen
  | .hostVf => s.flag (F.VFN_STS_FROZEN (vfFunction m.index))
  | _ => false

/-- A guard violation: GUARD sets with the capture and the log entry (its DATA gives the direction); a lectern core or
a VF is frozen; a host PF or a circulation core is logged only; a master that is frozen already is neither logged nor
handled again (R63, R64). -/
def State.guardViolation (s : State) (b : Blk) (m : Master) (off : Nat) (write : Bool) : State :=
  if s.isFrozen m then s.raiseAccess b errGuard m off (ofBool write) true
  else
    let s := s.raiseAccess b errGuard m off (ofBool write)
    match m.cls with
    | .lectern => s.freezeCore m.index
    | .hostVf => s.freezeVf (vfFunction m.index)
    | _ => s

/-- An access to memory that is not there for its master: a hole (R38); a sealed granule of another's is in addition a
guard violation (R432, R64). -/
def State.memRefuse (s : State) (m : Master) (a : Nat) (write : Bool) : State :=
  let s' := s.hole m a write
  if s.sealedAgainst m a then
    match eccOwner a with
    | some o => s'.guardViolation o.blk m 0 write
    | none => s'
  else s'

/-! ### Transfers (R38, R136, R203, R205) -/

/-- The first address of a range that is not there for a master; presence changes only at multiples of 64 MiB. -/
def State.firstHole (s : State) (m : Master) (a n : Nat) : Option Nat :=
  (a :: (List.range ((a + n - 1) / 0x4000000 - a / 0x4000000)).map (fun i => (a / 0x4000000 + i + 1) * 0x4000000)).find?
    (fun x => !s.memPresent m x)

/-- What stops a transfer: a hole, or an uncorrectable unit, at an address. -/
inductive MemFault where
  | hole (a : Nat)
  | ue (a : Nat)
deriving DecidableEq, Repr

/-- A range is read in ascending order: the bytes before the first fault, and the fault. -/
def State.dmaRead (s : State) (m : Master) (a n : Nat) : State × List Byte × Option MemFault :=
  if n = 0 then (s, [], none)
  else
    match s.firstHole m a n with
    | some h =>
      let (s, u) := s.readCheck m a (h - a)
      match u with
      | some u => (s, s.readBytes a (u - a), some (.ue u))
      | none => (s.memRefuse m h false, s.readBytes a (h - a), some (.hole h))
    | none =>
      let (s, u) := s.readCheck m a n
      match u with
      | some u => (s, s.readBytes a (u - a), some (.ue u))
      | none => (s, s.readBytes a n, none)

/-- Bytes are written in ascending order up to the first hole; a unit whose partial write is discarded is a fault too,
and the other units are written (R203). -/
def State.dmaWrite (s : State) (m : Master) (a : Nat) (bs : List Byte) : State × Option MemFault :=
  if bs = [] then (s, none)
  else
    match s.firstHole m a bs.length with
    | some h =>
      let (s, _) := s.writeMem m a (bs.take (h - a))
      (s.memRefuse m h true, some (.hole h))
    | none =>
      let bad := ((unitsOf a bs.length).filter (fun u => decide (u ∈ s.ue))).find?
        (fun u => decide (u < a ∨ a + bs.length < u + unitSize u))
      let (s, _) := s.writeMem m a bs
      (s, bad.map .ue)

/-- A number takes its place in a rising list. -/
def insertNat (n : Nat) : List Nat → List Nat
  | [] => [n]
  | m :: ms => if n < m then n :: m :: ms else if n = m then m :: ms else m :: insertNat n ms

/-- The units of a range that are in error, rising. -/
def State.badUnits (s : State) (a n : Nat) : List Nat :=
  ((s.ue ++ s.ce).filter (fun u => decide (a ≤ u ∧ u < a + n))).foldl (fun l u => insertNat u l) []

/-- A checking pass over a range: each unit in error counts once (R208). -/
def State.checkPass (s : State) (m : Master) (a n : Nat) : State :=
  (s.badUnits a n).foldl (fun s u => if u ∈ s.ue then s.detectUe m u else s.detectCe u) s

/-- The scrub summary record of R210. -/
def State.scrubRecord (s : State) (status a n done : Nat) : List Byte :=
  let bad := if status = 2 then [] else s.badUnits a done
  let entries := (bad.take 16).map (fun u => u + if u ∈ s.ue then 2 ^ 63 else 0)
  leBytes 1 1 ++ leBytes 1 status ++ leBytes 2 entries.length ++ leBytes 4 0 ++ leBytes 8 a ++ leBytes 8 n ++
    leBytes 8 done ++ leBytes 8 (bad.filter (fun u => decide (u ∉ s.ue))).length ++
    leBytes 8 (bad.filter (fun u => decide (u ∈ s.ue))).length ++ leBytes 16 0 ++
    (List.range 16).flatMap (fun i => leBytes 8 (entries.getD i 0))

/-- A range is zeroed with correct check bits: no byte of it is listed, and no unit of it is in error (R209). -/
def State.zeroRange (s : State) (a n : Nat) : State :=
  let out := fun x : Nat => decide (x < a ∨ a + n ≤ x)
  { s with mem := s.mem.filter (fun c => out c.1), ue := s.ue.filter out, ce := s.ce.filter out }

end Sys2Proof.Machine
end

