-- ==== Sys2Proof/Machine/RegIO.lean ====
section
/-!
DEFINITION. Access to the registers of a block: reads and what they do, the checks of a write in the order of R67,
the bit-alias region (R69 to R71), and the configuration CRC (R58 to R62).
-/
namespace Sys2Proof.Machine

/-! ### What hardware shows (R128, R141, R186, R189, R49, R606) -/

/-- STATE of TIL_STS (R128). -/
def State.tileState (s : State) (t : Nat) : Nat :=
  let x := s.tile t
  let b := blkTil t
  if (s.fld F.MOD_PARKED0_TILES).testBit t then 7
  else if x.calm then 6
  else if !s.flag b.active then 0
  else if !s.flag b.enable then 5
  else if x.failed.isSome then 4
  else if x.syncHeld then 3
  else if x.queue ≠ [] ∨ x.issued ≠ [] then 2
  else 1

/-- Commands in the queue: (TAIL − HEAD) modulo 128 (R139). -/
def State.tileQueued (s : State) (t : Nat) : Nat :=
  (s.fld (F.TIL_CMD_TAIL_TAIL t) + 128 - s.fld (F.TIL_CMD_HEAD_HEAD t)) % 128

/-- The opcode of a descriptor (R110). -/
def opcodeOf (d : BitVec 512) : Nat := d.toNat % 256

def BankSt.code : BankSt → Nat
  | .free => 0 | .opened => 1 | .poisoned => 2

/-- TIL_STS as hardware shows it (R141). -/
def State.tilSts (s : State) (t : Nat) : Nat :=
  let x := s.tile t
  let busy := fun ops : List Nat => ofBool (x.issued.any (fun i => opcodeOf i.cmd.desc ∈ ops))
  x.bank1.st.code * 2 ^ 26 + x.bank0.st.code * 2 ^ 24 + s.tileQueued t * 2 ^ 16 + busy [3, 4] * 2 ^ 11 +
    busy [2] * 2 ^ 10 + busy [1, 5, 8] * 2 ^ 9 + ofBool x.syncHeld * 2 ^ 8 + s.tileState t

/-- STATE of LXC_STS (R186): a frozen core reads STOPPED; a core in a calm tile reads CALM. -/
def State.coreStCode (s : State) (c : Nat) : Nat :=
  let x := s.core c
  if x.frozen then 4
  else if c < 16 && (s.tile c).calm then 5
  else match x.st with
    | .held => 0 | .running => 1 | .waiting => 2 | .debug => 3 | .stopped => 4

/-- LXC_STS as hardware shows it (R186). -/
def State.lxcSts (s : State) (t : Nat) : Nat :=
  let x := s.core t
  ofBool x.frozen * 2 ^ 8 + ofBool x.compat * 2 ^ 5 + ofBool x.priv * 2 ^ 4 + s.coreStCode t

/-- The 32 bytes of log entry number `n` (R605). -/
def LogEntry.bytes (e : LogEntry) (n : Nat) : List Byte :=
  leBytes 4 n ++ leBytes 4 e.master.toNat ++ leBytes 8 e.time ++
    leBytes 4 (e.block + e.inst % 256 * 2 ^ 16 + e.severity % 16 * 2 ^ 24 + e.kind % 16 * 2 ^ 28) ++
    leBytes 4 e.code ++ leBytes 4 e.off ++ leBytes 4 e.data

/-- The word of the log ring at offset `rel` of the LOG block; entry n lies at 0x4000 + 32 (n mod 1,024) (R606). A
slot that holds no entry yet reads zero. -/
def State.logWord (s : State) (rel : Nat) : Nat :=
  let slot := (rel - 0x4000) / 32
  let head := s.fld F.LOG_HEAD
  match Tab.find? s.logRing slot with
  | some e => leAt (e.bytes (head - 1 - (head - 1 - slot) % 1024)) ((rel - 0x4000) % 32) 4
  | none => 0

/-- BLK_ID (R49). -/
def blkId (b : Blk) : Nat := blockCode b.kind * 2 ^ 16 + b.inst * 2 ^ 8 + Config.blkVersion (blockCode b.kind) % 256

/-- MOD_PART_STS: the calm and the halted tiles of a partition (R358). -/
def State.partSts (s : State) (p : Nat) : Nat :=
  let mask := fun f : Nat → Bool =>
    (List.range 16).foldl (fun a t => if s.partHasTile p t && f t then a + 2 ^ t else a) 0
  mask (fun t => (s.tile t).calm) * 2 ^ 16 + mask (fun t => s.tileState t = 4)

/-- A register as hardware shows it: most are as they were set; some show the state of their unit. -/
def State.view (s : State) (b : Blk) (rel : Nat) : Nat :=
  let plain := (s.reg (b.base + rel)).toNat
  if rel = 0xFF00 then blkId b
  else match b.kind with
    | .til => if rel = 0xC then s.tilSts b.inst else plain
    | .lxc =>
      if rel = 0 then s.lxcSts b.inst
      else if rel = 0xC then (s.core b.inst).pc % 2 ^ 32
      else plain
    | .mod =>
      if 0x1000 ≤ rel ∧ rel < 0x1400 ∧ rel % 0x40 = 8 then s.partSts ((rel - 0x1000) / 0x40) else plain
    | .fwm =>
      if rel = 0 ∧ s.mgmt.flash.deferred then
        setBits plain 15 0 (match s.mgmt.flash.due with
          | some t => min 0xFFFE ((t - s.time) / 1000000)
          | none => 0xFFFF)
      else plain
    | .vfn =>
      if 0x1000 ≤ rel ∧ rel < 0x1200 ∧ (s.fn ((rel - 0x1000) / 4)).flr then
        putBit plain 3 true
      else plain
    | _ => plain

/-! ### Reading -/

/-- The counter pairs _LO and _HI of R47: the port counters and the DROPS of the policers (R557, R575). -/
def isPairLo (b : Blk) (rel : Nat) : Bool :=
  b.kind = .fpp &&
    ((decide (0xB0000 ≤ rel ∧ rel < 0xC0000) && rel % 8 = 0) ||
      (decide (0xA0000 ≤ rel ∧ rel < 0xA4000) && rel % 16 = 8))

def isPairHi (b : Blk) (rel : Nat) : Bool := decide (4 ≤ rel) && isPairLo b (rel - 4)

/-- The bits of a register that have the given access code. -/
def RegRow.maskOf (r : RegRow) (a : AccCode) : Nat :=
  r.fields.foldl (fun m f => if f.acc = a then setBits m f.hi f.lo (2 ^ (f.hi + 1 - f.lo) - 1) else m) 0

/-- The bits of `v` outside `mask`. -/
def clearBits (v mask : Nat) : Nat := v - (v &&& mask)

/-- A read of a register by a master: the guard (R63), the capture of a counter pair (R47), RC fields cleared, WO
fields read as zero. -/
def State.regRead (s : State) (m : Master) (off : Nat) : State × Nat :=
  match regAt (off / 4 * 4) with
  | none =>
    if 0x44000 ≤ off ∧ off < 0x4C000 then (s, s.logWord (off / 4 * 4 - 0x40000))
    else (s.hole m (regBase + off) false, 0)
  | some (b, rel, r) =>
    if r.guarded && !s.isSecure m then (s.guardViolation b m (b.base + rel) false, 0)
    else
      let o := b.base + rel
      let v := clearBits (s.view b rel) (r.maskOf .wo)
      if isPairLo b rel then ({ s with pairCap := Tab.set s.pairCap (o + 4) (BitVec.ofNat 32 (s.view b (rel + 4))) }, v)
      else if isPairHi b rel then
        match Tab.find? s.pairCap o with
        | some c => ({ s with pairCap := Tab.erase s.pairCap o }, c.toNat)
        | none => (s, v)
      else if r.maskOf .rc = 0 then (s, v)
      else (s.setReg o (BitVec.ofNat 32 (clearBits (s.reg o).toNat (r.maskOf .rc))), v)

/-! ### Writing (R55 to R57, R65 to R67) -/

/-- A pass at enable is running: ENABLE is 1, ACTIVE is not yet, and CRC_CHECK is 1 (R62). -/
def State.passRunning (s : State) (b : Blk) : Bool := s.flag b.enable && !s.flag b.active && s.flag b.crcCheck

/-- Whether the gate of a register's RWG fields is closed (R55, R62); for a register gated per entry, by its entry
(R58); for a route table bank, while the bank is in use (R263); for a checkpoint entry, also while a round runs
(R382). -/
def State.gateClosed (s : State) (b : Blk) (rel : Nat) (r : RegRow) : Bool :=
  match r.gate with
  | .block => s.flag b.active || s.passRunning b
  | .entry ctl n =>
    let i := if r.stride = 0 then 0 else (rel - r.off) / r.stride
    ((s.reg (b.base + ctl + i * r.stride)).toNat.testBit n) ||
      (b.kind = .mod && ctl = 0x4000 && s.flag (F.MOD_CKPT_STS_PHASE i))
  | .bank k => s.fld F.MYR_ROUTE_CTRL_ACTIVE_BANK = k

/-- What a write does to one field: the field's value afterwards, and whether it met a reserved encoding, a lock or
the gate; whether a WOL field was taken; whether a command of its own starts. -/
structure FieldWrite where
  val : Nat
  bad : Bool := false
  lockedErr : Bool := false
  late : Bool := false
  wol : Bool := false
  trig : Bool := false
deriving DecidableEq, Repr

/-- One field of a write that passed the guard (R48, R55, R65, R67). -/
def fieldWrite (f : FieldRow) (old x : Nat) (locked wolTaken closed : Bool) : FieldWrite :=
  match f.acc with
  | .ro => { val := old }
  | .rc => { val := old }
  | a =>
    if x < f.least ∨ f.greatest < x then { val := old, bad := true }
    else match a with
      | .w1c => { val := clearBits old x }
      | .w1s => if f.trig then { val := old, trig := decide (x ≠ 0) } else { val := old ||| x }
      | .rwg =>
        if locked then { val := old, lockedErr := decide (x ≠ old) }
        else if closed then { val := old, late := decide (x ≠ old) }
        else { val := x }
      | .wol => if locked || wolTaken then { val := old, lockedErr := decide (x ≠ old) } else { val := x, wol := true }
      | .wo => { val := old, trig := f.trig }
      | _ => if f.trig then { val := old, trig := true } else { val := x }

/-- A field of a register whose write starts a command of its own: the field's low bit and the value written. -/
abbrev Trigger := Nat × Nat

/-- Fields of a write, one after another: the register's value, the errors met, and the triggers. -/
def writeFields (old v : Nat) (locked wolTaken closed : Bool) :
    List FieldRow → Nat × FieldWrite × List Trigger
  | [] => (old, { val := 0 }, [])
  | f :: fs =>
    let (acc, e, ts) := writeFields old v locked wolTaken closed fs
    let x := bits v f.hi f.lo
    let w := fieldWrite f (bits old f.hi f.lo) x locked wolTaken closed
    (setBits acc f.hi f.lo w.val,
      { val := 0, bad := e.bad || w.bad, lockedErr := e.lockedErr || w.lockedErr, late := e.late || w.late,
        wol := e.wol || w.wol },
      if w.trig then (f.lo, x) :: ts else ts)

/-- The fields of a write that passed the guard and the width check take effect, each under its own rule, and the
refusals are reported (R48, R57, R66, R67). -/
def State.applyFields (s : State) (b : Blk) (m : Master) (rel : Nat) (r : RegRow) (fs : List FieldRow) (v : Nat) :
    State × List Trigger :=
  let o := b.base + rel
  let (nv, e, ts) := writeFields (s.reg o).toNat v (s.flag b.lock) (decide (o ∈ s.wolDone)) (s.gateClosed b rel r) fs
  let s := s.setReg o (BitVec.ofNat 32 nv)
  let s := if e.wol then { s with wolDone := o :: s.wolDone } else s
  let s := if e.bad then s.raiseAccess b errBadAccess m o else s
  let s := if e.lockedErr then s.raiseAccess b errLockedWrite m o else s
  let s := if e.late then s.raiseAccess b errLateWrite m o else s
  (s, ts)

/-- A write of a register by a master (R67): the guard, the width, then every field. The triggers are the commands
that the write starts. -/
def State.regWrite (s : State) (m : Master) (off width : Nat) (v : Nat) : State × List (Blk × Nat × Trigger) :=
  match regAt (off / 4 * 4) with
  | none => (s.hole m (regBase + off) true, [])
  | some (b, rel, r) =>
    if r.guarded && !s.isSecure m then (s.guardViolation b m (b.base + rel) true, [])
    else if width < 4 then (s.raiseAccess b errBadAccess m (b.base + rel), [])
    else
      let (s, ts) := s.applyFields b m rel r r.fields v
      (s, ts.map (fun t => (b, rel, t)))

/-- A command that is a write of one register by a master: a guarded register refuses a master without the right (R63,
R64). -/
def State.viaReg (s : State) (m : Master) (off : Nat) (f : State → State) : State :=
  match regAt (off / 4 * 4) with
  | some (b, rel, r) => if r.guarded && !s.isSecure m then s.guardViolation b m (b.base + rel) true else f s
  | none => f s

/-! ### The bit-alias region (R69 to R71) -/

/-- An alias read: the bit, with no side effect (R70). -/
def State.aliasRead (s : State) (m : Master) (a : Nat) : State × Nat :=
  match regAt (a / 128 * 4) with
  | none => (s.hole m (aliasBase + a) false, 0)
  | some (b, rel, r) =>
    if r.guarded && !s.isSecure m then (s.guardViolation b m (b.base + rel) false, 0)
    else (s, ofBool ((clearBits (s.view b rel) (r.maskOf .wo)).testBit (a / 4 % 32)))

/-- An alias write acts on one bit, under the rules of its field (R70, R71). -/
def State.aliasWrite (s : State) (m : Master) (a : Nat) (v : Nat) : State × List (Blk × Nat × Trigger) :=
  match regAt (a / 128 * 4) with
  | none => (s.hole m (aliasBase + a) true, [])
  | some (b, rel, r) =>
    let n := a / 4 % 32
    let on := v % 2
    if r.guarded && !s.isSecure m then (s.guardViolation b m (b.base + rel) true, [])
    else match r.fields.find? (fun f => decide (f.lo ≤ n ∧ n ≤ f.hi)) with
      | none => (s, [])
      | some f =>
        if f.lo < f.hi then (s.raiseAccess b errBadAccess m (b.base + rel), [])
        else if f.acc = .ro || f.acc = .rc || ((f.acc = .w1c || f.acc = .w1s) && on = 0) then (s, [])
        else
          let (s, ts) := s.applyFields b m rel r [f] (on * 2 ^ n)
          (s, ts.map (fun t => (b, rel, t)))

/-! ### The configuration CRC (R58 to R62) -/

/-- One bit of CRC-32C, reflected (R59). -/
def crcBit (c : Nat) : Nat := if c % 2 = 1 then (c / 2) ^^^ 0x82F63B78 else c / 2

/-- One byte of CRC-32C. -/
def crcByte (c : Nat) (b : Byte) : Nat := Nat.repeat crcBit 8 (c ^^^ b.toNat)

/-- CRC-32C of a byte string (R59). -/
def crc32c (bs : List Byte) : Nat := bs.foldl crcByte 0xFFFFFFFF ^^^ 0xFFFFFFFF

/-- Offsets within the block of a row's registers. -/
def RegRow.offsets (r : RegRow) : List Nat :=
  (List.range r.count).flatMap (fun i => (List.range r.count2).map (fun j => r.off + i * r.stride + j * r.stride2))

/-- The gated configuration image of a block instance: its registers that hold an RWG field gated by the block,
outside the header, in ascending order, other bits zero (R58). The rows of a map stand in ascending order. -/
def State.cfgImage (s : State) (b : Blk) : List Byte :=
  (blockRows b.kind).flatMap (fun r =>
    if 0xFF00 ≤ r.off ∧ r.off ≤ 0xFF18 then []
    else if r.gate = .block ∧ r.maskOf .rwg ≠ 0 then
      r.offsets.flatMap (fun o => leBytes 4 ((s.reg (b.base + o)).toNat &&& r.maskOf .rwg))
    else [])

/-- A pass ends: its result goes to BLK_CFG_CRC; the flag says whether it matches BLK_CFG_REF (R60). -/
def State.crcPass (s : State) (b : Blk) : State × Bool :=
  let c := crc32c (s.cfgImage b)
  (s.setReg b.cfgCrcOff (BitVec.ofNat 32 c), c = (s.reg b.cfgRefOff).toNat)

/-- CFG_CRC sets with no master, at the offset of BLK_CFG_CRC, with the CRC that the pass computed (R52, R61, R667). -/
def State.crcMismatch (s : State) (b : Blk) : State :=
  s.raiseAccess b errCfgCrc Master.noMaster b.cfgCrcOff (s.reg b.cfgCrcOff).toNat

end Sys2Proof.Machine
end

