-- ==== Sys2Proof/Machine/TileOps.lean ====
section
/-!
DEFINITION. What several tile commands share: the queue and its pointers, completion, halts and the error record, and
the entry into DRAINING (R106, R109, R130, R137 to R144).
-/
namespace Sys2Proof.Machine

/-- Field `hi:lo` of a descriptor (R110). -/
def dfld (d : BitVec 512) (hi lo : Nat) : Nat := bits d.toNat hi lo

/-- The DMA of tile `t` as a master (R54, R63). -/
def tileMaster (t : Nat) (secure : Bool) : Master := ⟨.tileDma, t, secure⟩

/-- An interrupt source of a core is latched (R175). -/
def State.latchIrq (s : State) (c n : Nat) : State := s.modCore c (fun x => { x with irqLatch := putBit x.irqLatch n true })

def irqTimer : Nat := 0
def irqTileDone : Nat := 1
def irqTileFault : Nat := 2
def irqDoorbell : Nat := 3

/-- The next command leaves the unissued part of the queue (R138). -/
def State.headNext (s : State) (t : Nat) : State :=
  s.setFld (F.TIL_CMD_HEAD_HEAD t) ((s.fld (F.TIL_CMD_HEAD_HEAD t) + 1) % 128)

/-- The slot of the head command: HEAD modulo 64, or the slot that a retried command holds (R138, R137). -/
def State.headSlot (s : State) (t : Nat) (c : TCmd) : Nat := c.slot.getD (s.fld (F.TIL_CMD_HEAD_HEAD t) % 64)

/-- A command leaves the unissued part of the queue; one that was counted before is not counted again (R137, R138). -/
def State.countHead (s : State) (t : Nat) (c : TCmd) : State := if c.slot.isSome then s else s.headNext t

/-- Room for a push: 64 entries, one of them held by a failed command until its action (R106, R137). -/
def State.queueRoom (s : State) (t : Nat) : Bool :=
  decide ((s.tile t).queue.length + ofBool (s.tile t).failed.isSome < 64)

/-- A push of a descriptor: 1 where the block is not enabled, 2 where the queue is full, 0 where it is queued (R106,
R179). -/
def State.tilePush (s : State) (t : Nat) (d : BitVec 512) (secure : Bool) : State × Nat :=
  if !s.flag (blkTil t).enable then (s.raise (blkTil t) 17 (s.coreMaster t), 1)
  else if !s.queueRoom t then (s, 2)
  else
    let s := s.modTile t (fun x => { x with queue := x.queue ++ [⟨d, secure, none⟩] })
    (s.setFld (F.TIL_CMD_TAIL_TAIL t) ((s.fld (F.TIL_CMD_TAIL_TAIL t) + 1) % 128), 0)

/-- A command that did not complete OK is counted (R109, R142). -/
def State.countAbort (s : State) (t : Nat) : State := s.countWrap (F.TIL_CMD_ABORTS t)

/-- Flags are added to TIL_ARITH_FLAGS (R99, R119). -/
def State.addFlags (s : State) (t fl : Nat) : State :=
  let o := (F.TIL_ARITH_FLAGS_OVER t).off
  s.setReg o (BitVec.ofNat 32 ((s.reg o).toNat ||| fl % 512))

/-- An issued command completes OK: its flags, the signal counter and the event (R109, R114, R119, R145). -/
def State.completeOk (s : State) (t : Nat) (i : Issued) : State :=
  let d := i.cmd.desc
  let op := opcodeOf d
  let s := s.addFlags t i.flags
  let s :=
    if op = 3 then
      (s.setFld (F.TIL_DRAIN_LAST_TAG t) (dfld d 31 16)).setFld (F.TIL_DRAIN_LAST_FLAGS t) (i.flags % 512)
    else s
  let s :=
    if op = 1 ∧ dfld d 46 46 = 1 then s.setFld (F.TIL_META t (dfld d 52 47)) (i.metaExp % 2 ^ 16).toNat else s
  let s := if dfld d 10 10 = 1 then s.countWrap (F.TIL_SIG_CNT t (dfld d 12 11)) else s
  if dfld d 9 9 = 1 then s.latchIrq t irqTileDone else s

/-- The unit of a command, for the error record (R144): 1 DMA, 2 MMA, 3 vector. -/
def unitOfOp : Nat → Nat
  | 1 => 1 | 5 => 1 | 8 => 1 | 2 => 2 | 3 => 3 | 4 => 3 | _ => 0

/-- A fault: its code, unit, descriptor word, address and progress (R144). -/
structure Fail where
  code : Nat
  unit : Nat := 0
  word : Nat := 0
  addr : Nat := 0
  progress : Nat := 0
deriving DecidableEq, Repr

/-- TIL_ERR_REC0 of a fault (R144). -/
def errRec0 (c : TCmd) (slot : Nat) (f : Fail) : Nat :=
  f.code % 256 * 2 ^ 24 + opcodeOf c.desc * 2 ^ 16 + f.unit % 4 * 2 ^ 14 + f.word % 32 * 2 ^ 9 + slot % 64

/-- A command fails. The first failure halts the tile: the error record, HALT with its event, the fault event of the
lectern core, and the host's event; a failure met while the tile is HALTED or DRAINING completes the command FAILED and
is logged alone (R137, R144, R667). -/
def State.tileFail (s : State) (t : Nat) (c : TCmd) (slot : Nat) (issued : Bool) (f : Fail) : State :=
  let r0 := errRec0 c slot f
  let off := (F.TIL_ERR_REC0_CODE t).off
  let m := tileMaster t c.secure
  if (s.tile t).failed.isSome ∨ !s.flag (blkTil t).enable then
    let s := if issued then s else s.countHead t c
    (s.countAbort t).postErr (blkTil t) 16 m off r0
  else
    let s := s.setReg off (BitVec.ofNat 32 r0)
    let s := s.setFld (F.TIL_ERR_REC1_TAG t) (dfld c.desc 31 16)
    let s := s.setFld (F.TIL_ERR_REC2 t) (f.addr % 2 ^ 32)
    let s := s.setFld (F.TIL_ERR_REC3 t) (f.addr / 2 ^ 32 % 2 ^ 32)
    let s := s.setFld (F.TIL_ERR_REC4 t) (f.progress % 2 ^ 32)
    let s := s.modTile t (fun x => { x with failed := some ⟨c, slot, issued⟩, syncHeld := false })
    let s := (s.raise (blkTil t) 16 m off r0).latchIrq t irqTileFault
    match s.tileOwner t with
    | some o => s.postOwner o 1 f.code t (Config.eventDetail 1 f.code t) 0
    | none => s

/-- The issued commands without the oldest one of a slot. -/
def dropSlot (slot : Nat) : List Issued → List Issued
  | [] => []
  | i :: is => if i.slot = slot then is else i :: dropSlot slot is

/-- A bank takes a state. -/
def Tile.setBank (x : Tile) (b : Nat) (k : Bank) : Tile := if b = 0 then { x with bank0 := k } else { x with bank1 := k }

def Tile.bank (x : Tile) (b : Nat) : Bank := if b = 0 then x.bank0 else x.bank1

def Tile.poison (x : Tile) (b : Nat) : Tile := x.setBank b { x.bank b with st := .poisoned }

/-- An issued command fails during execution: it leaves the issued commands, an MMA or drain poisons its bank, and the
tile halts (R102, R136, R137). -/
def State.failIssued (s : State) (t : Nat) (i : Issued) (f : Fail) : State :=
  let d := i.cmd.desc
  let s := s.modTile t (fun x => { x with issued := dropSlot i.slot x.issued })
  let s :=
    match opcodeOf d with
    | 2 => s.modTile t (fun x => x.poison (dfld d 42 42))
    | 3 => s.modTile t (fun x => x.poison (dfld d 32 32))
    | _ => s
  s.tileFail t i.cmd i.slot true f

/-- Every unissued command completes ABORTED (R109, R130, R137). -/
def State.abortQueue (s : State) (t : Nat) : State :=
  let s := (s.tile t).queue.foldl (fun s c => (s.countHead t c).countAbort t) s
  s.modTile t (fun x => { x with queue := [], syncHeld := false, syncArrived := none })

/-- The failed command of a halt completes FAILED (R130, R137). -/
def State.finishFailed (s : State) (t : Nat) : State :=
  match (s.tile t).failed with
  | none => s
  | some f =>
    let s := if f.issued then s else s.countHead t f.cmd
    (s.countAbort t).modTile t (fun x => { x with failed := none })

/-- ENABLE falls: the failed command completes FAILED and every unissued command ABORTED (R130). -/
def State.tileDrain (s : State) (t : Nat) : State := (s.finishFailed t).abortQueue t

end Sys2Proof.Machine
end

