-- ==== Sys2Proof/Machine/JobBase.lean ====
section
/-!
DEFINITION. Job slots: what the barrier groups need of them (R348 to R350), and the phases of a checkpoint round that end
with a slot (R368, R370).
-/
namespace Sys2Proof.Machine

def State.modJobs (s : State) (f : Jobs → Jobs) : State := { s with jobs := f s.jobs }
def State.slot (s : State) (j : Nat) : JobSlot := Tab.getD s.jobs.slots j JobSlot.init
def State.modSlot (s : State) (j : Nat) (f : JobSlot → JobSlot) : State :=
  s.modJobs (fun x => { x with slots := Tab.set x.slots j (f (s.slot j)) })

/-- STATE of a job slot (R349). -/
def slotIdle : Nat := 0
def slotForming : Nat := 1
def slotActive : Nat := 2
def slotBroken : Nat := 3

/-- Partitions that name a job slot (R348). -/
def State.partsOf (s : State) (j : Nat) : List Nat :=
  (List.range 16).filter (fun p => s.flag (F.MOD_PART_CFG_ENABLE p) && s.flag (F.MOD_PART_CFG_JOB_VALID p) &&
    s.fld (F.MOD_PART_CFG_JOB_SLOT p) = j)

/-- TRAIN partitions of a slot (R347, R365). -/
def State.trainParts (s : State) (j : Nat) : List Nat := (s.partsOf j).filter (fun p => s.fld (F.MOD_PART_CFG_ROLE p) = 3)

/-- Tiles of the partitions of a slot. -/
def State.slotTiles (s : State) (j : Nat) : List Nat :=
  (List.range 16).filter (fun t => (s.partsOf j).any (fun p => s.partHasTile p t))

/-- MOD_JOB_STRAG shows the slowest entry in force: the lowest OP, and among equals the lowest module (R352). -/
def State.showStrag (s : State) (j : Nat) : State :=
  let l := (s.slot j).strag
  let s := s.setFld (F.MOD_JOB_STRAG_CNT_IN_FORCE j) l.length
  let worst := l.foldl (fun (a : Option StragEnt) e => match a with
    | none => some e
    | some b => if e.op < b.op ∨ (e.op = b.op ∧ e.module < b.module) then some e else a) none
  match worst with
  | none => s.setReg (F.MOD_JOB_STRAG_VALID j).off 0
  | some e =>
    let s := (s.setFlag (F.MOD_JOB_STRAG_VALID j) true).setFld (F.MOD_JOB_STRAG_REASON j) e.reason
    (s.setFld (F.MOD_JOB_STRAG_OP j) e.op).setFld (F.MOD_JOB_STRAG_MODULE j) e.module

/-- The straggler table is cleared (R350). -/
def State.clearStrag (s : State) (j : Nat) : State :=
  ((s.modSlot j (fun x => { x with strag := [] })).setFlag (F.MOD_JOB_STRAG_CNT_OVERFLOW j) false).showStrag j

/-- An event to the owner of each partition that names a slot (R350, R383). -/
def State.slotEvent (s : State) (j code : Nat) : State :=
  (s.partsOf j).foldl (fun s p =>
    s.postOwner (s.fld (F.MOD_PART_CFG_OWNER p)) 5 code j (Config.eventDetail 5 code j) 0) s

/-- A member ends its part of a round: HOLD clears and the held lectern cores are woken by their doorbells; with no cut
held any more the module leaves QUIESCED (R368). -/
def State.endCut (s : State) (j : Nat) : State :=
  let held := s.flag (F.MOD_CKPT_STS_HOLD j)
  let s := (s.setFlag (F.MOD_CKPT_STS_HOLD j) false).setFld (F.MOD_CKPT_STS_PHASE j) 0
  let tiles := (List.range 16).filter (fun t => (s.trainParts j).any (fun p => s.partHasTile p t))
  let s := if held then tiles.foldl (fun s t => s.latchIrq t irqDoorbell) s else s
  let cut := (List.range 16).any (fun k => decide (2 ≤ s.fld (F.MOD_CKPT_STS_PHASE k) ∧ s.fld (F.MOD_CKPT_STS_PHASE k) ≤ 4))
  if s.fld F.MOD_STS_STATE = 7 ∧ !cut then s.setFld F.MOD_STS_STATE 6 else s

/-- A slot enters BROKEN: its straggler table is cleared, the owners learn of it, and its part of a round ends (R350,
R370). -/
def State.breakSlot (s : State) (j reason : Nat) : State :=
  let s := (s.setFld (F.MOD_JOB_STS_STATE j) slotBroken).setFld (F.MOD_JOB_STS_REASON j) reason
  let s := ((s.clearStrag j).raise blkMod 26 Master.noMaster (F.MOD_JOB_STS_STATE j).off).slotEvent j reason
  if s.fld (F.MOD_CKPT_STS_PHASE j) = 0 then s else s.endCut j

/-- The slots whose notice group breaks (R350). -/
def State.breakSlots (s : State) (g : Nat) : State :=
  ((List.range 16).filter (fun j => s.flag (F.MOD_JOB_CFG_ENABLE j) && s.fld (F.MOD_JOB_CFG_NOTICE_GROUP j) = g &&
    s.fld (F.MOD_JOB_STS_STATE j) ≠ slotBroken)).foldl (fun s j => s.breakSlot j 3) s

end Sys2Proof.Machine
end

