-- ==== Sys2Proof/Machine/Crypto.lean ====
section
/-!
DEFINITION. The public algorithms that the spec names (R435, R441, R442): AES-256 (FIPS 197), GCM (SP 800-38D), XTS
(IEEE 1619, without stealing), CMAC (SP 800-38B) and the key derivation of R435, AES key wrap (SP 800-38F), SHA-384
and HMAC (FIPS 180-4, FIPS 198-1). Bytes are numbers below 256 here. PRESUMED: the spec names these standards and does
not repeat them.
-/
namespace Sys2Proof.Machine

/-! ### AES-256 -/

def xtime (a : Nat) : Nat := if a < 128 then a * 2 else (a * 2) ^^^ 0x11B

/-- Multiplication in the field of AES. -/
def gmul (a b : Nat) : Nat :=
  ((List.range 8).foldl (fun (r : Nat × Nat) i =>
    (if b.testBit i then r.1 ^^^ r.2 else r.1, xtime r.2)) (0, a)).1

def gpow (a : Nat) : Nat → Nat
  | 0 => 1
  | n + 1 => gmul a (gpow a n)

def rotl8 (x n : Nat) : Nat := (x * 2 ^ n + x / 2 ^ (8 - n)) % 256

/-- The S-box: the affine image of the inverse, which is the 254th power. -/
def sbox (x : Nat) : Nat :=
  let b := gpow x 254
  b ^^^ rotl8 b 1 ^^^ rotl8 b 2 ^^^ rotl8 b 3 ^^^ rotl8 b 4 ^^^ 0x63

def invSbox (y : Nat) : Nat := gpow (rotl8 y 1 ^^^ rotl8 y 3 ^^^ rotl8 y 6 ^^^ 0x05) 254

def xorBytes (a b : List Nat) : List Nat := List.zipWith (· ^^^ ·) a b

/-- The next word of the AES-256 key schedule after `ws`, newest first. -/
def nextKeyWord (ws : List (List Nat)) (i : Nat) : List Nat :=
  let prev := ws.headD []
  let t :=
    if i % 8 = 0 then xorBytes ((prev.drop 1 ++ prev.take 1).map sbox) [gpow 2 (i / 8 - 1), 0, 0, 0]
    else if i % 8 = 4 then prev.map sbox
    else prev
  xorBytes t (ws.getD 7 [])

/-- The 15 round keys of a 32-byte key. -/
def aesRoundKeys (key : List Nat) : List (List Nat) :=
  let w0 := (List.range 8).map (fun i => (key.drop (4 * i)).take 4)
  let ws := ((List.range 52).foldl (fun ws i => nextKeyWord ws (i + 8) :: ws) w0.reverse).reverse
  (List.range 15).map (fun r => ((ws.drop (4 * r)).take 4).flatten)

def shiftRows (st : List Nat) : List Nat :=
  (List.range 16).map (fun k => st.getD (k % 4 + 4 * ((k / 4 + k % 4) % 4)) 0)

def invShiftRows (st : List Nat) : List Nat :=
  (List.range 16).map (fun k => st.getD (k % 4 + 4 * ((k / 4 + 4 - k % 4) % 4)) 0)

/-- Columns multiplied by the circulant matrix of `m`. -/
def mixWith (m st : List Nat) : List Nat :=
  (List.range 16).map (fun k =>
    (List.range 4).foldl (fun a j => a ^^^ gmul (m.getD ((j + 4 - k % 4) % 4) 0) (st.getD (4 * (k / 4) + j) 0)) 0)

def aesEncWith (rk : List (List Nat)) (b : List Nat) : List Nat :=
  let st := (List.range 13).foldl (fun st r =>
    xorBytes (mixWith [2, 3, 1, 1] (shiftRows (st.map sbox))) (rk.getD (r + 1) [])) (xorBytes b (rk.getD 0 []))
  xorBytes (shiftRows (st.map sbox)) (rk.getD 14 [])

def aesDecWith (rk : List (List Nat)) (b : List Nat) : List Nat :=
  let st := (invShiftRows (xorBytes b (rk.getD 14 []))).map invSbox
  let st := (List.range 13).foldl (fun st r =>
    (invShiftRows (mixWith [14, 11, 13, 9] (xorBytes st (rk.getD (13 - r) [])))).map invSbox) st
  xorBytes st (rk.getD 0 [])

def aesEnc (key b : List Nat) : List Nat := aesEncWith (aesRoundKeys key) b
def aesDec (key b : List Nat) : List Nat := aesDecWith (aesRoundKeys key) b

/-! ### Numbers and byte strings -/

/-- The `n` low bytes of `v`, most significant first. -/
def beBytes (n v : Nat) : List Nat := ((List.range n).map (fun i => v / 256 ^ i % 256)).reverse

def ofBe (bs : List Nat) : Nat := bs.foldl (fun a b => a * 256 + b) 0

def leNats (n v : Nat) : List Nat := (List.range n).map (fun i => v / 256 ^ i % 256)

def ofLeNats : List Nat → Nat
  | [] => 0
  | b :: bs => b + 256 * ofLeNats bs

def natsOf (bs : List Byte) : List Nat := bs.map BitVec.toNat
def bytesOf (ns : List Nat) : List Byte := ns.map (BitVec.ofNat 8)

/-- Chunks of `n` bytes; the last may be shorter. -/
def chunksAux (n : Nat) : Nat → List Nat → List (List Nat)
  | 0, _ => []
  | _, [] => []
  | k + 1, l => l.take n :: chunksAux n k (l.drop n)

def chunks (n : Nat) (l : List Nat) : List (List Nat) := chunksAux n l.length l

def padTo (n : Nat) (l : List Nat) : List Nat := l ++ List.replicate ((n - l.length % n) % n) 0

/-! ### GCM -/

/-- Multiplication in the field of GHASH; bit 127 of a number is the first bit of a block. -/
def ghashMul (x y : Nat) : Nat :=
  ((List.range 128).foldl (fun (r : Nat × Nat) i =>
    (if x.testBit (127 - i) then r.1 ^^^ r.2 else r.1,
      if r.2 % 2 = 1 then (r.2 / 2) ^^^ (0xE1 * 2 ^ 120) else r.2 / 2)) (0, y)).1

def ghash (h : Nat) (l : List Nat) : Nat := (chunks 16 l).foldl (fun a b => ghashMul (a ^^^ ofBe b) h) 0

/-- Counter mode from counter 2 of a 12-byte IV. -/
def gcmCtr (key iv l : List Nat) : List Nat :=
  let rk := aesRoundKeys key
  (((chunks 16 l).zipIdx).map (fun (p : List Nat × Nat) => xorBytes p.1 (aesEncWith rk (iv ++ beBytes 4 (p.2 + 2))))).flatten

/-- The tag of a ciphertext. -/
def gcmTag (key iv aad ct : List Nat) : List Nat :=
  let rk := aesRoundKeys key
  let h := ofBe (aesEncWith rk (List.replicate 16 0))
  let g := ghash h (padTo 16 aad ++ padTo 16 ct ++ beBytes 8 (8 * aad.length) ++ beBytes 8 (8 * ct.length))
  xorBytes (beBytes 16 g) (aesEncWith rk (iv ++ beBytes 4 1))

/-! ### XTS -/

/-- The tweak of the next block: multiplication by x, little-endian. -/
def xtsNext (t : Nat) : Nat := if t < 2 ^ 127 then t * 2 else (t * 2 % 2 ^ 128) ^^^ 0x87

/-- One data unit, encrypted or decrypted, under a 64-byte key pair. -/
def xtsUnit (enc : Bool) (key : List Nat) (n : Nat) (l : List Nat) : List Nat :=
  let k1 := aesRoundKeys (key.take 32)
  let t0 := ofLeNats (aesEnc (key.drop 32) (leNats 16 n))
  (((chunks 16 l).foldl (fun (r : List (List Nat) × Nat) b =>
    let t := leNats 16 r.2
    let x := xorBytes b t
    (xorBytes (if enc then aesEncWith k1 x else aesDecWith k1 x) t :: r.1, xtsNext r.2)) ([], t0)).1.reverse).flatten

/-- Data units of `du` bytes, the first of number `n`. -/
def xtsRange (enc : Bool) (key : List Nat) (du n : Nat) (l : List Nat) : List Nat :=
  (((chunks du l).zipIdx).map (fun (p : List Nat × Nat) => xtsUnit enc key (n + p.2) p.1)).flatten

/-! ### CMAC and the key derivation of R435 -/

def cmacDouble (x : Nat) : Nat := if x < 2 ^ 127 then x * 2 else (x * 2 % 2 ^ 128) ^^^ 0x87

def cmacAes256 (key m : List Nat) : List Nat :=
  let rk := aesRoundKeys key
  let k1 := cmacDouble (ofBe (aesEncWith rk (List.replicate 16 0)))
  let whole := m.length % 16 = 0 ∧ m ≠ []
  let bs := if m = [] then [[]] else chunks 16 m
  let last := bs.getLastD []
  let fin :=
    if whole then xorBytes last (beBytes 16 k1)
    else xorBytes (padTo 16 (last ++ [0x80])) (beBytes 16 (cmacDouble k1))
  let x := bs.dropLast.foldl (fun x b => aesEncWith rk (xorBytes x b)) (List.replicate 16 0)
  aesEncWith rk (xorBytes x fin)

/-- A derived key of `l` bits (R435). -/
def deriveKey (ki label : List Nat) (l : Nat) : List Nat :=
  (((List.range ((l + 127) / 128)).map (fun i =>
    cmacAes256 ki (beBytes 4 (i + 1) ++ label ++ [0] ++ beBytes 4 l))).flatten).take (l / 8)

/-- A label of 64 bytes: the purpose code, two zero bytes, the identifiers, zeros (R436). -/
def keyLabel (c1 c2 : Nat) (ids : List Nat) : List Nat :=
  ([c1, c2, 0, 0] ++ ids ++ List.replicate 64 0).take 64

/-! ### AES key wrap -/

/-- One unwrapping step: the register A and the blocks R, for step t on block number i (from 1). -/
def kwStep (rk : List (List Nat)) (n : Nat) (a : List Nat) (rs : List (List Nat)) (t : Nat) :
    List Nat × List (List Nat) :=
  let i := (t - 1) % n
  let b := aesDecWith rk (xorBytes a (beBytes 8 t) ++ rs.getD i [])
  (b.take 8, listSet rs i (b.drop 8))

/-- AES key unwrap: none where the integrity check fails. -/
def kwUnwrap (key c : List Nat) : Option (List Nat) :=
  let rk := aesRoundKeys key
  let bs := chunks 8 c
  let n := bs.length - 1
  if n < 2 ∨ c.length % 8 ≠ 0 then none
  else
    let (a, rs) := (List.range (6 * n)).foldl (fun (r : List Nat × List (List Nat)) k =>
      kwStep rk n r.1 r.2 (6 * n - k)) (bs.headD [], bs.tail)
    if a = List.replicate 8 0xA6 then some rs.flatten else none

/-! ### SHA-384 and HMAC -/

/-- The greatest r with r^k ≤ v, among numbers below 2^n. -/
def rootBelow (k v : Nat) : Nat → Nat → Nat
  | 0, acc => acc
  | n + 1, acc => rootBelow k v n (if (acc + 2 ^ n) ^ k ≤ v then acc + 2 ^ n else acc)

def isPrime (n : Nat) : Bool := decide (2 ≤ n) && (List.range n).all (fun d => decide (d < 2) || n % d ≠ 0)

/-- The first 80 primes: those up to 409. -/
def shaPrimes : List Nat := (List.range 410).filter isPrime

/-- First 64 fraction bits of the cube roots of the first 80 primes. -/
def shaK : List Nat := shaPrimes.map (fun p => rootBelow 3 (p * 2 ^ 192) 70 0 % 2 ^ 64)

/-- First 64 fraction bits of the square roots of the ninth to sixteenth primes. -/
def sha384Init : List Nat := ((shaPrimes.drop 8).take 8).map (fun p => rootBelow 2 (p * 2 ^ 128) 70 0 % 2 ^ 64)

def rotr64 (x n : Nat) : Nat := (x / 2 ^ n) + (x % 2 ^ n) * 2 ^ (64 - n)

/-- The message schedule, newest word first. -/
def shaNext (ws : List Nat) : Nat :=
  let w := fun i => ws.getD i 0
  let s0 := rotr64 (w 14) 1 ^^^ rotr64 (w 14) 8 ^^^ (w 14 / 2 ^ 7)
  let s1 := rotr64 (w 1) 19 ^^^ rotr64 (w 1) 61 ^^^ (w 1 / 2 ^ 6)
  (w 15 + s0 + w 6 + s1) % 2 ^ 64

def shaRound (h : List Nat) (kw : Nat × Nat) : List Nat :=
  match h with
  | [a, b, c, d, e, f, g, hh] =>
    let s1 := rotr64 e 14 ^^^ rotr64 e 18 ^^^ rotr64 e 41
    let ch := (e &&& f) ^^^ ((2 ^ 64 - 1 - e) &&& g)
    let t1 := hh + s1 + ch + kw.1 + kw.2
    let s0 := rotr64 a 28 ^^^ rotr64 a 34 ^^^ rotr64 a 39
    let mj := (a &&& b) ^^^ (a &&& c) ^^^ (b &&& c)
    [(t1 + s0 + mj) % 2 ^ 64, a, b, c, (d + t1) % 2 ^ 64, e, f, g]
  | _ => h

def shaBlock (h blk : List Nat) : List Nat :=
  let w0 := ((chunks 8 blk).map ofBe).reverse
  let ws := ((List.range 64).foldl (fun ws _ => shaNext ws :: ws) w0).reverse
  List.zipWith (fun x y => (x + y) % 2 ^ 64) h ((shaK.zip ws).foldl shaRound h)

/-- SHA-384 of a byte string. -/
def sha384 (m : List Nat) : List Nat :=
  let z := (111 + 128 - m.length % 128) % 128
  let p := m ++ [0x80] ++ List.replicate z 0 ++ beBytes 16 (8 * m.length)
  (((chunks 128 p).foldl shaBlock sha384Init).flatMap (beBytes 8)).take 48

/-- HMAC-SHA-384. -/
def hmac384 (key m : List Nat) : List Nat :=
  let k := (if 128 < key.length then sha384 key else key) ++ List.replicate 128 0
  let pad := fun x => (k.take 128).map (· ^^^ x)
  sha384 (pad 0x5C ++ sha384 (pad 0x36 ++ m))

end Sys2Proof.Machine
end

