-- ==== Sys2Proof/Machine/Keys.lean ====
section
/-!
DEFINITION. Key pages, derived keys and the payloads of end-to-end messages (R435 to R441, R448, R449), and security
events.
-/
namespace Sys2Proof.Machine

def blkCip : Blk := ⟨.cip, 0⟩

def State.modTrust (s : State) (f : Trust → Trust) : State := { s with trust := f s.trust }

/-- A security event: the security log of 0x5012:01 keeps the last 256, the log ring takes an entry, and the owner of
the object learns of it (R443, R460). -/
def State.secEvent (s : State) (owner obj code : Nat) : State :=
  let s := s.modTrust (fun t => { t with secLog := ((s.modTime, owner, obj, code) :: t.secLog).take 256 })
  (s.postFw (Config.logCode 460) 0 obj).postOwner owner 7 code obj 0 0

/-! ### Key pages (R437 to R439) -/

/-- States of a key page (R438). -/
def pageFree : Nat := 0
def pageLoaded : Nat := 2
def pageQuarantined : Nat := 3
def pageZeroising : Nat := 4

def State.pageSt (s : State) (i : Nat) : Nat := s.fld (F.KEY_PAGE_STS_STATE i)
def State.page (s : State) (i : Nat) : KeyPage := Tab.getD s.trust.pages i ⟨[], [], 0⟩

/-- Usage bits, as KEY_PAGE_STS holds them from bit 8 (R459). -/
def useEnc : Nat := 1
def useDec : Nat := 2
def useMac : Nat := 4
def useKdf : Nat := 8

/-- The usage bits a TYPE allows (R439). -/
def typeUsage : Nat → Nat
  | 0 => 3 | 1 => 3 | 2 => 4 | 3 => 8 | _ => 0

/-- Bytes of key material of a TYPE (R439). -/
def typeBytes : Nat → Nat
  | 0 => 32 | 1 => 64 | 2 => 48 | _ => 32

/-- Whether a page has a usage bit. -/
def State.pageUse (s : State) (i u : Nat) : Bool :=
  decide (((s.reg (F.KEY_PAGE_STS_STATE i).off).toNat / 2 ^ 8 % 16) &&& u = u)

/-- A key is loaded into a FREE page: attributes, material, a fresh NONCE, the message counter at 0 (R438, R448). -/
def State.loadPage (s : State) (i owner typ usage : Nat) (sealedOnly : Bool) (key : List Nat) : State :=
  let s := s.setReg (F.KEY_PAGE_STS_STATE i).off
    (BitVec.ofNat 32 (owner % 2 ^ 16 * 2 ^ 16 + ofBool sealedOnly * 2 ^ 15 + usage % 16 * 2 ^ 8 + typ % 8 * 8 + pageLoaded))
  let s := s.setFld F.KEY_FREE (s.fld F.KEY_FREE - 1)
  (s.modTrust (fun t => { t with pages := Tab.set t.pages i ⟨key, beBytes 16 s.freeNat, 0⟩ })).drew

/-- A release: no new job is taken, and the page waits in ZEROISING for the jobs on it (R438). -/
def State.releasePage (s : State) (i : Nat) : State :=
  if s.pageSt i = pageLoaded ∨ s.pageSt i = pageQuarantined then s.setFld (F.KEY_PAGE_STS_STATE i) pageZeroising else s

/-- A page is overwritten with zeros and becomes FREE (R438). -/
def State.freePage (s : State) (i : Nat) : State :=
  if s.pageSt i = pageFree then s
  else
    let s := s.setReg (F.KEY_PAGE_STS_STATE i).off 0
    (s.setFld F.KEY_FREE (s.fld F.KEY_FREE + 1)).modTrust (fun t => { t with pages := Tab.erase t.pages i })

/-- A reference to a page is allowed to an owner, or to firmware acting for the page's owner, with the usage that
the job needs, and, for a page with SEALED_ONLY, on sealed plaintext alone (R439). -/
def State.pageAllows (s : State) (i owner u : Nat) (plainSealed : Bool) : Bool :=
  (owner = s.fld (F.KEY_PAGE_STS_OWNER i) || owner = fwOwner) && s.pageUse i u &&
    (!s.flag (F.KEY_PAGE_STS_SEALED_ONLY i) || plainSealed)

/-- Every byte of a range lies in sealed granules of an owner. -/
def State.rangeSealed (s : State) (owner a n : Nat) : Bool :=
  (List.range ((a + n - 1) / 2 ^ 26 - a / 2 ^ 26 + 1)).all (fun i =>
    match s.sealedBy (if i = 0 then a else (a / 2 ^ 26 + i) * 2 ^ 26) with
    | some p => owner = partOwner p
    | none => false)

/-- A refused reference: counted, reported and handled as a guard violation; the referrer's owner, where it is a VF, is
frozen (R439, R64). -/
def State.keyRefused (s : State) (owner page : Nat) : State :=
  let s := (s.count F.CIP_KEY_REFUSED_CNT).raise blkCip 20
  let s := s.secEvent owner page 3
  if owner / 0x4000 = 1 then s.guardViolation blkCip (fnMaster (vfFunction (owner % 128))) 0 false
  else s.raiseAccess blkCip errGuard Master.noMaster 0

/-! ### A page leaves LOADED (R438, R443, R520) -/

/-- Namespaces bound to a page that leaves LOADED enter NO_KEY (R520). -/
def State.pageLeft (s : State) (i : Nat) : State :=
  { s with store := { s.store with ns := s.store.ns.map (fun p =>
      (p.1, if p.2.page = some i ∧ p.2.st = 0 then { p.2 with st := 1, page := none } else p.2)) } }

/-- A page is quarantined after a mismatch on it: every other job that runs on it completes KEY_STATE (R443). -/
def State.quarantine (s : State) (i : Nat) : State :=
  if s.pageSt i ≠ pageLoaded then s
  else
    let s := (s.setFld (F.KEY_PAGE_STS_STATE i) pageQuarantined).count F.CIP_QUARANTINE_CNT
    let s := (s.raise blkCip 18 Master.noMaster (F.KEY_PAGE_STS_STATE i).off i).secEvent (s.fld (F.KEY_PAGE_STS_OWNER i)) i 2
    let s := s.modTrust (fun t => { t with rings := t.rings.map (fun p =>
      (p.1, { p.2 with jobs := p.2.jobs.map (fun j => if j.page = some i ∧ j.status = 0 then { j with status := 4 } else j) })) })
    s.pageLeft i

/-- The two datapaths of engine `e` differ: counted, reported, the page quarantined, the engine in its self-test (R443). -/
def State.engineFault (s : State) (e : Nat) (page : Option Nat) : State :=
  let s := (s.count F.CIP_MISMATCH_CNT).raise blkCip 16 Master.noMaster 0 e
  let s := s.modTrust (fun t => { t with selfTest := if e ∈ t.selfTest then t.selfTest else t.selfTest ++ [e] })
  match page with
  | some i => s.quarantine i
  | none => s

/-! ### Derived keys (R436) -/

/-- TN, use 0x01: the import wrap key of a session, page and OWNER. -/
def tnImport (secret : List Nat) (sess page owner : Nat) : List Nat :=
  deriveKey secret (keyLabel 0x54 0x4E ([1] ++ leNats 4 sess ++ leNats 2 page ++ leNats 2 owner)) 256

/-- TN, use 0x02: a child key for a tenant context. -/
def tnChild (ki ctx : List Nat) (bits : Nat) : List Nat := deriveKey ki (keyLabel 0x54 0x4E ([2] ++ ctx)) bits

/-- TN, use 0x03: the key of end-to-end messages of a sending module and NONCE. -/
def tnMessage (ki : List Nat) (src : Nat) (nonce : List Nat) : List Nat :=
  deriveKey ki (keyLabel 0x54 0x4E ([3] ++ leNats 4 src ++ nonce)) 256

/-- NS: the XTS pair of a namespace. -/
def nsKey (ki : List Nat) (nsid : Nat) (nonce : List Nat) : List Nat :=
  deriveKey ki (keyLabel 0x4E 0x53 (leNats 4 nsid ++ nonce)) 512

/-- LK: the 256-bit GCM key and the 32-bit salt of one direction of a link at an epoch. -/
def lkKey (secret : List Nat) (lo loLink hi hiLink dir epoch : Nat) : List Nat :=
  deriveKey secret (keyLabel 0x4C 0x4B (leNats 4 lo ++ [loLink] ++ leNats 4 hi ++ [hiLink] ++ [dir] ++ leNats 4 epoch)) 288

/-- CK: use 0x01 the MAC key, use 0x02 the XTS pair of a job's checkpoints. -/
def ckKey (ki : List Nat) (job use : Nat) : List Nat :=
  deriveKey ki (keyLabel 0x43 0x4B (leNats 4 job ++ [use])) (if use = 1 then 384 else 512)

def rootKeyBytes : List Nat := leNats 32 Config.rootKey.toNat

/-- MG: the key of context entries in host memory. -/
def mgKey : List Nat := deriveKey rootKeyBytes (keyLabel 0x4D 0x47 [1]) 256

/-- FW: use 0x01 flash, 0x02 firmware image, with the slot. -/
def fwKey (use slot : Nat) : List Nat := deriveKey rootKeyBytes (keyLabel 0x46 0x57 [use, slot]) 256

/-! ### End-to-end messages (R448, R449) -/

/-- The AAD of a message: its bytes 0 to 31, the destination module and the destination address. -/
def e2eAad (hdr : List Nat) (dst addr : Nat) : List Nat := hdr ++ leNats 4 dst ++ leNats 8 addr

/-- The wire bytes of one segment (R448), and the state with the page's counter advanced; none where the page refuses
further messages. -/
def State.e2eSeal (s : State) (page src dst addr : Nat) (data : List Byte) : State × Option (List Byte) :=
  let p := s.page page
  if s.pageSt page ≠ pageLoaded ∨ 2 ^ 48 ≤ p.counter then (s, none)
  else
    let hdr := p.nonce ++ leNats 8 p.counter ++ leNats 4 data.length ++ leNats 4 0
    let key := tnMessage p.key src p.nonce
    let iv := leNats 4 0 ++ leNats 8 p.counter
    let ct := gcmCtr key iv (natsOf data)
    let tag := gcmTag key iv (e2eAad hdr dst addr) ct
    (s.modTrust (fun t => { t with pages := Tab.set t.pages page { p with counter := p.counter + 1 } }),
      some (bytesOf (hdr ++ ct ++ tag)))

/-- The plaintext of a whole message, where its tag matches (R449). -/
def State.e2eOpen (s : State) (page src dst addr : Nat) (msg : List Byte) : Option (List Byte) :=
  let p := s.page page
  let hdr := natsOf (msg.take 32)
  let n := ofLeNats ((hdr.drop 24).take 4)
  let ct := natsOf ((msg.drop 32).take n)
  let key := tnMessage p.key src (hdr.take 16)
  let iv := leNats 4 0 ++ (hdr.drop 16).take 8
  if s.pageSt page = pageLoaded ∧ gcmTag key iv (e2eAad hdr dst addr) ct = natsOf ((msg.drop (32 + n)).take 16) then
    some (bytesOf (gcmCtr key iv ct))
  else none

end Sys2Proof.Machine
end

