-- ==== Sys2Proof/Machine/LinkTx.lean ====
section
/-!
DEFINITION. Packets and flits as bytes, and the transmitter of a link: frames, credits, the replay buffer, its scheduler
and its fault injector (R236 to R256, R268, R269).
-/
namespace Sys2Proof.Machine

def blkMyl (n : Nat) : Blk := ⟨.myl, n⟩
def blkMyr : Blk := ⟨.myr, 0⟩
def State.lnk (s : State) (n : Nat) : Link := Tab.getD s.links n Link.init
def State.modLink (s : State) (n : Nat) (f : Link → Link) : State := { s with links := Tab.set s.links n (f (s.lnk n)) }

/-! ### The packet header (R254) -/

/-- The header as a number. -/
def pktHeader (p : Packet) : Nat :=
  p.dst % 2 ^ 20 + p.src % 2 ^ 20 * 2 ^ 20 + p.endpoint % 2 ^ 18 * 2 ^ 40 + p.vc % 8 * 2 ^ 58 + p.hops % 8 * 2 ^ 61 +
    p.opcode % 256 * 2 ^ 64 + p.msgId % 2 ^ 24 * 2 ^ 72 + p.offset % 2 ^ 32 * 2 ^ 96 + p.length % 2 ^ 13 * 2 ^ 128 +
    ofBool p.first * 2 ^ 141 + ofBool p.last * 2 ^ 142 + ofBool p.flag * 2 ^ 143 + ofBool p.encrypted * 2 ^ 144 +
    p.policy % 4 * 2 ^ 145 + ofBool p.viaValid * 2 ^ 147 + p.viaGroup % 2 ^ 20 * 2 ^ 148 + p.addr % 2 ^ 40 * 2 ^ 168 +
    p.space % 16 * 2 ^ 208 + p.srcCtx % 2 ^ 18 * 2 ^ 212 + p.reserved % 2 ^ 26 * 2 ^ 230

/-- The packet that a header and a payload spell. -/
def pktOfHeader (h : Nat) (payload : List Byte) : Packet :=
  { dst := bits h 19 0, src := bits h 39 20, endpoint := bits h 57 40, vc := bits h 60 58, hops := bits h 63 61,
    opcode := bits h 71 64, msgId := bits h 95 72, offset := bits h 127 96, length := bits h 140 128,
    first := bit h 141, last := bit h 142, flag := bit h 143, encrypted := bit h 144, policy := bits h 146 145,
    viaValid := bit h 147, viaGroup := bits h 167 148, addr := bits h 207 168, space := bits h 211 208,
    srcCtx := bits h 229 212, reserved := bits h 255 230, payload := payload }

/-- The bytes of a packet: 32 of header, then its payload. -/
def pktBytes (p : Packet) : List Byte := leBytes 32 (pktHeader p) ++ p.payload

/-- DATA flits of a packet with `n` payload bytes (R237). -/
def flitsFor (n : Nat) : Nat := (32 + n + 55) / 56

/-- The bodies of a packet's DATA flits, the last padded with zeros (R237). -/
def pktBodies (p : Packet) : List (List Nat) := (chunksOf 56 (natsOf (pktBytes p))).map (padTo 56)

/-- A packet from the bytes of its DATA bodies. The padding is cut where the flit count agrees with LENGTH; else the
payload keeps every byte, so that it disagrees with LENGTH (R256). -/
def pktOfBytes (bs : List Byte) : Packet :=
  let h := leAt bs 0 32
  let n := bits h 140 128
  let body := bs.drop 32
  pktOfHeader h (if flitsFor n * 56 = bs.length then body.take n else body)

/-! ### Flits (R237 to R239) -/

/-- A control word (R238), ACK apart. -/
def ctrlWord (type vc : Nat) (sop eop abort : Bool) (seq : Nat) : Nat :=
  type * 2 ^ 30 + vc * 2 ^ 27 + ofBool sop * 2 ^ 26 + ofBool eop * 2 ^ 25 + ofBool abort * 2 ^ 24 + seq % 4096 * 2 ^ 12

/-- A flit: control word, 56 bytes of body, CRC-32C over both (R237). -/
def flitBytes (ctrl : Nat) (body : List Nat) : List Byte :=
  let b := leBytes 4 ctrl ++ bytesOf (padTo 56 body)
  b ++ leBytes 4 (crc32c b)

/-- The key, then the salt, of a direction of a link at an epoch (R248): direction 0 runs from the lower module ID to the
higher. -/
def State.linkKey (s : State) (n : Nat) (tx : Bool) (secret : List Nat) (epoch : Nat) : List Nat × List Nat :=
  let own := s.fld F.MYR_FABRIC_ID_MODULE_ID
  let other := s.fld (F.MYL_PARTNER_MODULE n)
  let ol := s.fld (F.MYL_PARTNER_LINK n)
  let low := decide (own < other)
  let dir := ofBool (low != tx)
  let k := if low then lkKey secret own n other ol dir epoch else lkKey secret other ol own n dir epoch
  (k.take 32, k.drop 32)

/-- Key and IV of the frame that is open in a direction (R245). -/
def State.txKeyIv (s : State) (n : Nat) : List Nat × List Nat :=
  let l := s.lnk n
  let (k, salt) := s.linkKey n true l.txSecret (s.fld (F.MYL_TX_EPOCH n))
  (k, salt ++ leNats 8 l.txCount)

def State.rxKeyIv (s : State) (n : Nat) : List Nat × List Nat :=
  let l := s.lnk n
  let (k, salt) := s.linkKey n false l.rxSecret (s.fld (F.MYL_RX_EPOCH n))
  (k, salt ++ leNats 8 l.rxCount)

/-- DATA bodies of a frame. -/
def dataOf (fr : List FrameFlit) : List Nat := (fr.filter (·.isData)).flatMap (·.body)

/-- The bytes of a TAG body that the AAD holds: all but the tag (R239, R245). -/
def tagBodyAad (body : List Nat) : List Nat := body.take 12 ++ body.drop 28

/-- The AAD of a frame: its control words, then its CONTROL bodies; `tag` is the TAG flit (R245). -/
def frameAad (fr : List FrameFlit) (tag : FrameFlit) : List Nat :=
  (fr ++ [tag]).flatMap (fun f => leNats 4 f.ctrl) ++ ((fr.filter (fun f => !f.isData)).flatMap (·.body)) ++
    tagBodyAad tag.body

/-! ### Transmission (R240, R244) -/

/-- A sequenced flit takes the next SEQ, enters the replay buffer and goes out; `spoil` inverts a body bit on the wire
alone (R268). -/
def State.sendSeq (s : State) (n : Nat) (f : FrameFlit) (spoil : Option Nat) : State :=
  let l := s.lnk n
  let bs := flitBytes (f.ctrl + l.ackOut) f.body
  let s := s.modLink n (fun l => { l with
    txSeq := (l.txSeq + 1) % 4096, replay := l.replay ++ [(l.txSeq, bs)], txFrame := l.txFrame ++ [f] })
  match spoil with
  | none => s.emit (.wire n bs)
  | some b => s.emit (.wire n (listSet bs (4 + b / 8 % 56) ((bs.getD (4 + b / 8 % 56) 0) ^^^ BitVec.ofNat 8 (2 ^ (b % 8)))))

/-- The body of a TAG flit: frame counter, tag, credit returns (R239). -/
def tagBody (count : Nat) (tag : List Nat) (owed : List Nat) : List Nat :=
  [1, 0, 0, 0] ++ leNats 8 count ++ padTo 16 tag ++ owed.flatMap (leNats 2) ++ List.replicate 12 0

/-- The open frame is closed by its TAG flit, which returns the credits owed (R244, R245). -/
def State.closeFrame (s : State) (n : Nat) : State :=
  let l := s.lnk n
  let (key, iv) := s.txKeyIv n
  let c := ctrlWord 1 0 false false false l.txSeq
  let bare : FrameFlit := ⟨c, tagBody l.txCount (List.replicate 16 0) l.owed, false⟩
  let tag := gcmTag key iv (frameAad l.txFrame bare) (dataOf l.txFrame)
  let good : FrameFlit := ⟨c, tagBody l.txCount tag l.owed, false⟩
  let s := s.sendSeq n good none
  let s :=
    if l.finTag then
      -- the wire carried a tag with one bit inverted; the stored flit is the good one
      let bad := flitBytes (c + l.ackOut) (tagBody l.txCount (listSet tag 0 (tag.headD 0 ^^^ 1)) l.owed)
      { s with out := .wire n bad :: s.out.drop 1 }
    else s
  s.modLink n (fun l => { l with txFrame := [], txCount := l.txCount + 1, owed := List.replicate 8 0, finTag := false })

/-- A frame of 31 sequenced flits is closed at once (R244). -/
def State.closeFull (s : State) (n : Nat) : State := if 31 ≤ (s.lnk n).txFrame.length then s.closeFrame n else s

/-- A DATA flit: its body is encrypted at its place among the frame's DATA bodies (R245). -/
def State.sendData (s : State) (n vc : Nat) (sop eop abort : Bool) (body : List Nat) (spoil : Option Nat) : State :=
  let l := s.lnk n
  let (key, iv) := s.txKeyIv n
  let k := 56 * (l.txFrame.filter (·.isData)).length
  let ct := (gcmCtr key iv (List.replicate k 0 ++ body)).drop k
  (s.sendSeq n ⟨ctrlWord 0 vc sop eop abort l.txSeq, ct, true⟩ spoil).closeFull n

/-- A CONTROL flit that ends its frame: KEY_SWITCH or DOWN, followed by its TAG (R244). -/
def State.sendControl (s : State) (n : Nat) (body : List Nat) : State :=
  (s.sendSeq n ⟨ctrlWord 1 0 false false false (s.lnk n).txSeq, padTo 56 body, false⟩ none).closeFrame n

/-- A flit without SEQ: RETRY or IDLE (R239, R241). -/
def State.sendPlain (s : State) (n type seq : Nat) : State :=
  s.emit (.wire n (flitBytes (ctrlWord type 0 false false false seq + (s.lnk n).ackOut) (List.replicate 56 0)))

/-- A RETRY for a SEQ: sent and counted (R241). -/
def State.sendRetry (s : State) (n seq : Nat) : State := (s.sendPlain n 2 seq).count (F.MYL_REPLAY n)

/-! ### Credits and the scheduler (R251, R253) -/

/-- Flits of the shared pool in use. -/
def sharedUse (used : List Nat) : Nat := (used.map (fun u => u - 80)).foldl (· + ·) 0

/-- Whether a packet may start: credits for all its flits, reserve first, and space in the replay buffer. -/
def Link.canSend (l : Link) (p : Packet) : Bool :=
  let f := flitsFor p.payload.length
  decide (sharedUse (listSet l.used p.vc (l.used.getD p.vc 0 + f)) ≤ 2432) && decide (l.replay.length + f + f / 31 + 2 ≤ 3072)

/-- The packet's flits go out on its VC, one after another. -/
def State.sendPacket (s : State) (n : Nat) (p : Packet) (spoil : Option Nat) : State :=
  let bs := pktBodies p
  let s := s.modLink n (fun l => { l with used := listSet l.used p.vc (l.used.getD p.vc 0 + bs.length) })
  (bs.zipIdx).foldl (fun s b =>
    s.sendData n p.vc (b.2 = 0) (b.2 + 1 = bs.length) false b.1 (if b.2 = 0 then spoil else none)) s

/-! ### Fault injection (R268, R269) -/

/-- Whether a packet's event fires the injector of a link; a COUNT run ends by clearing ARM. -/
def State.finFires (s : State) (n : Nat) (p : Packet) : State × Bool :=
  let op := s.fld (F.FIN_LINK_CTRL_OPCODE n)
  if !s.flag (F.FIN_LINK_CTRL_ARM n) then (s.modLink n (fun l => { l with finFired := 0 }), false)
  else if !(s.fld (F.FIN_LINK_CTRL_VC_MASK n)).testBit p.vc ∨ (op ≠ 0 ∧ op ≠ p.opcode) then (s, false)
  else if 3 ≤ s.fld (F.FIN_LINK_CTRL_ACTION n) ∧ (s.lnk n).finHeld.isSome then (s, false)
  else if s.flag (F.FIN_LINK_CTRL_MODE n) then
    let k := (s.lnk n).finFired + 1
    if s.fld (F.FIN_LINK_PARAM_PARAM_P n) ≤ k then
      ((s.modLink n (fun l => { l with finFired := 0 })).setFlag (F.FIN_LINK_CTRL_ARM n) false, true)
    else (s.modLink n (fun l => { l with finFired := k }), true)
  else (s.drew, decide (s.freeNat % 65536 < s.fld (F.FIN_LINK_PARAM_PARAM_P n)))

/-- A held packet goes out. -/
def State.finRelease (s : State) (n : Nat) : State :=
  match (s.lnk n).finHeld with
  | none => s
  | some h => (s.modLink n (fun l => { l with finHeld := none })).sendPacket n h.pkt none

/-- A packet of a VC has passed: a REORDER hold that its count ends is sent. -/
def State.finPassed (s : State) (n vc : Nat) : State :=
  match (s.lnk n).finHeld with
  | some ⟨q, some k⟩ =>
    if q.vc ≠ vc then s
    else if k ≤ 1 then s.finRelease n
    else s.modLink n (fun l => { l with finHeld := some ⟨q, some (k - 1)⟩ })
  | _ => s

/-- A packet is sent past the injector: discarded, spoilt, held or sent (R268). -/
def State.transmit (s : State) (n : Nat) (p : Packet) : State :=
  let (s, fires) := s.finFires n p
  let go := fun (s : State) (spoil : Option Nat) => (s.sendPacket n p spoil).finPassed n p.vc
  if !fires then go s none
  else match s.fld (F.FIN_LINK_CTRL_ACTION n) with
    | 0 => s
    | 1 => go s.drew (some (s.freeNat % 448))
    | 2 => go (s.modLink n (fun l => { l with finTag := true })) none
    | 3 => s.modLink n (fun l => { l with finHeld := some ⟨p, some (s.fld (F.FIN_LINK_PARAM_PARAM n))⟩ })
    | _ => s.modLink n (fun l => { l with finHeld := some ⟨p, none⟩ })

/-- Scheduler weight of a VC: 1 for requests, 2 for responses and collectives (R253). -/
def vcWeight (v : Nat) : Nat := if v < 3 then 1 else 2

/-- The head of a VC is sent where it may be and, except on VC 7, where the VC's deficit covers it. -/
def State.pumpHead (s : State) (n v : Nat) : State :=
  let l := s.lnk n
  match l.txq.find? (fun p => p.vc = v) with
  | none => s.modLink n (fun l => { l with deficit := listSet l.deficit v 0 })
  | some p =>
    let f := flitsFor p.payload.length
    if !l.canSend p ∨ (v ≠ 7 ∧ l.deficit.getD v 0 < f) then s
    else
      (s.modLink n (fun l => { l with
        txq := l.txq.erase p, deficit := listSet l.deficit v (l.deficit.getD v 0 - f) })).transmit n p

/-- One round of the scheduler: VC 7 first, then the others by deficit round robin; a VC's turn adds its weight times the
74 flits of a full packet. -/
def State.pumpRound (s : State) (n : Nat) : State :=
  let k := (s.lnk n).txq.length
  let s := Nat.repeat (fun s => s.pumpHead n 7) k s
  (List.range 7).foldl (fun s v =>
    let s := s.modLink n (fun l => { l with deficit := listSet l.deficit v (l.deficit.getD v 0 + 74 * vcWeight v) })
    Nat.repeat (fun s => s.pumpHead n v) k s) s

/-- The transmitter sends what credits and the replay buffer allow. -/
def State.pumpLink (s : State) (n : Nat) : State := Nat.repeat (fun s => s.pumpRound n) (s.lnk n).txq.length s

/-- A packet is queued for a link and sent as soon as it may be. -/
def State.linkSend (s : State) (n : Nat) (p : Packet) : State :=
  (s.modLink n (fun l => { l with txq := l.txq ++ [p] })).pumpLink n

end Sys2Proof.Machine
end

