-- ==== Sys2Proof/Machine/TileConv.lean ====
section
/-!
DEFINITION. Packed elements, conversion to an output format, and the rows of a LOAD (R75, R76, R95 to R98, R112 to
R114, R136).
-/
namespace Sys2Proof.Machine

/-! ### Packing (R76) -/

/-- Bytes of `n` packed elements. -/
def packedBytes (f : Fmt) (n : Nat) : Nat := (n * f.width + 7) / 8

/-- Element `k` of a packed row: elements follow one another from the lowest bit up. -/
def elemAt (w : Nat) (bs : List Byte) (k : Nat) : Nat :=
  leAt bs (k * w / 8) (w / 8 + 2) / 2 ^ (k * w % 8) % 2 ^ w

/-- Elements that fill whole bytes together: 2 of 4 bits, 4 of 6 bits, else one. -/
def packGroup (w : Nat) : Nat := if w = 4 then 2 else if w = 6 then 4 else 1

/-- Elements packed into bytes. -/
def packElems (w : Nat) (vs : List Nat) : List Byte :=
  (chunksOf (packGroup w) vs).flatMap (fun g =>
    leBytes ((g.length * w + 7) / 8) (g.foldr (fun v a => v % 2 ^ w + 2 ^ w * a) 0))

/-- The value of an MX element under its scale byte; 0xFF makes it a NaN (R77, R78). -/
def scaledNum (scale : Nat) : Num → Num
  | .fin neg m e => if scale = 0xFF then .nan else .fin neg m (e + (scale : Int) - 127)
  | v => if scale = 0xFF then .nan else v

/-! ### Output rows (R95 to R98) -/

/-- Values with their hash bits, converted to an output format: elements, block scales, and flags. `fv` are the free
values of the blocks. -/
def toFormat (f : Fmt) (mode : Rmode) (sat : Bool) (fv : Nat → Nat) (vs : List (Num × Nat)) :
    List Nat × List Nat × Nat :=
  if f.isMx then
    let bs := (chunksOf 32 vs).zipIdx.map (fun (p : List (Num × Nat) × Nat) => mxBlock f mode (fv p.2) p.1)
    (bs.flatMap (·.2.1), bs.map (·.1), orAll (bs.map (·.2.2)))
  else
    let es := vs.map (fun p => convert f mode sat p.2 p.1)
    (es.map (·.1), [], orAll (es.map (·.2)))

/-- The hash bits of an element under a rounding mode (R98); `hash` holds the seed in bits 63:0 and the step above. -/
def hashBits (mode : Rmode) (hash i j : Nat) : Nat :=
  if mode = .hashed then hsrBits (BitVec.ofNat 64 hash) (BitVec.ofNat 64 (hash / 2 ^ 64)) (i % 2 ^ 32) (j % 2 ^ 32) else 0

/-- Seed and step as the registers hold them (R99). -/
def State.hashNow (s : State) (t : Nat) : Nat :=
  s.fld (F.TIL_HSR_SEED_LO_SEED t) + s.fld (F.TIL_HSR_SEED_HI_SEED t) * 2 ^ 32 + s.fld (F.TIL_HSR_STEP t) * 2 ^ 64

/-! ### LOAD rows (R112 to R114) -/

/-- What a LOAD does to each row. -/
structure LoadP where
  sf : Fmt
  df : Fmt
  mode : Rmode
  sat : Bool
  hash : Nat
  rows : Nat
  elems : Nat
  row0 : Nat
  col0 : Nat
deriving DecidableEq, Repr

/-- The row parameters of a LOAD descriptor; a reserved code never issues (R111). -/
def loadP (hash : Nat) (d : BitVec 512) : LoadP :=
  { sf := (Fmt.ofCode (dfld d 36 32)).getD .fp32, df := (Fmt.ofCode (dfld d 41 37)).getD .fp32,
    mode := (Rmode.ofCode (dfld d 44 42)).getD .nearest, sat := dfld d 45 45 = 1, hash := hash,
    rows := dfld d 271 256, elems := dfld d 287 272, row0 := dfld d 415 384, col0 := dfld d 447 416 }

/-- Bytes of a source row, of its scales, and of a destination row and its scales. -/
def LoadP.srcBytes (p : LoadP) : Nat := packedBytes p.sf p.elems
def LoadP.srcScales (p : LoadP) : Nat := if p.sf.isMx then p.elems / 32 else 0
def LoadP.dstBytes (p : LoadP) : Nat := packedBytes p.df p.elems
def LoadP.dstScales (p : LoadP) : Nat := if p.df.isMx then p.elems / 32 else 0

/-- The source value of element `k` of a row, and the flags that reading it adds (R119). -/
def LoadP.source (p : LoadP) (src sc : List Byte) (k : Nat) : Num × Nat :=
  if p.sf = .ledger then (LWord.ofBytes ((src.drop (32 * k)).take 32)).drainValue
  else
    let v := decodeElem p.sf (elemAt p.sf.width src k)
    (if p.sf.isMx then scaledNum (leAt sc (k / 32) 1) v else v, 0)

/-- The exponent that an element of the destination counts with (R114). -/
def LoadP.elemExp (p : LoadP) (dat sc : List Byte) (k : Nat) : Int :=
  if p.df = .ledger then (LWord.ofBytes ((dat.drop (32 * k)).take 32)).metaExp
  else
    let v := decodeElem p.df (elemAt p.df.width dat k)
    match (if p.df.isMx then scaledNum (leAt sc (k / 32) 1) v else v) with
    | .fin _ m e => if m = 0 then -32768 else floorLog2 m e
    | _ => -32768

/-- The first `n` elements of row `r`, converted or copied: bytes, scale bytes and flags. -/
def LoadP.convRow (p : LoadP) (fv : Nat → Nat) (r n : Nat) (src sc : List Byte) : List Byte × List Byte × Nat :=
  if p.sf = p.df then (src, sc.take (n / 32), 0)
  else
    let vs := (List.range n).map (fun k => p.source src sc k)
    let (es, scs, fl) := toFormat p.df p.mode p.sat fv
      (vs.zipIdx.map (fun (v : (Num × Nat) × Nat) => (v.1.1, hashBits p.mode p.hash (p.row0 + r) (p.col0 + v.2))))
    (packElems p.df.width es, scs.map (BitVec.ofNat 8), fl ||| orAll (vs.map (·.2)))

/-- The largest exponent of the first `n` elements that a row wrote. -/
def LoadP.rowExp (p : LoadP) (n : Nat) (dat sc : List Byte) : Int :=
  (List.range n).foldl (fun a k => max a (p.elemExp dat sc k)) (-32768)

/-- Elements of a row that come wholly from its first `got` source bytes and its first `gotSc` scale bytes; an MX
destination takes whole blocks. -/
def LoadP.usable (p : LoadP) (got gotSc : Nat) : Nat :=
  let n := min p.elems (got * 8 / p.sf.width)
  let n := if p.sf.isMx then min n (32 * gotSc) else n
  if p.df.isMx ∧ p.sf ≠ p.df then n / 32 * 32 else n

/-- The part of a row that is written where its source goes bad: bytes from `got` good source bytes and `gotSc` good
scale bytes, up to the last whole destination 64-byte unit where `whole64`, and the scales of the blocks whose 32
elements are all written (R136). -/
def LoadP.partRow (p : LoadP) (fv : Nat → Nat) (r got gotSc : Nat) (src sc : List Byte) (whole64 : Bool) :
    List Byte × List Byte :=
  let n := p.usable got gotSc
  let (dat, scs, _) := p.convRow fv r n src sc
  let len := if p.sf = p.df then (if p.sf.isMx then min got (n * p.sf.width / 8) else got) else n * p.df.width / 8
  let len := if whole64 then len / 64 * 64 else len
  (dat.take len, if p.df.isMx then scs.take (len * 8 / p.df.width / 32) else [])

/-- Free values one after another, and the counter moved past them. -/
def State.freeAt (s : State) (i : Nat) : Nat := Config.freeNat (s.freeCtr + i)
def State.drewMany (s : State) (n : Nat) : State := { s with freeCtr := s.freeCtr + n }

/-- Carrel addresses of row `r` of a LOAD and of its scales. -/
def loadDst (t : Nat) (d : BitVec 512) (r : Nat) : Nat := carrelAddr t (dfld d 217 192 + r * dfld d 351 320)
def loadScaleDst (t : Nat) (d : BitVec 512) (r : Nat) : Nat := carrelAddr t (dfld d 249 224 + r * dfld d 383 368)

/-- One whole row is written to the carrel: the state, the flags, the largest exponent, and a discarded partial
write. -/
def State.loadRow (s : State) (m : Master) (t : Nat) (d : BitVec 512) (p : LoadP) (r : Nat) (src sc : List Byte) :
    State × Nat × Int × Option MemFault :=
  let (dat, scs, fl) := p.convRow s.freeAt r p.elems src sc
  let s := s.drewMany (if p.df.isMx then p.dstScales else 0)
  let (s, f) := s.dmaWrite m (loadDst t d r) dat
  let (s, g) := s.dmaWrite m (loadScaleDst t d r) scs
  (s, fl, p.rowExp p.elems dat scs, f.or g)

/-! ### The source bytes of a remote LOAD (R295, R298) -/

/-- Byte `pos` of the buffered source, where it has arrived. -/
def bufByte (buf : List (Nat × List Byte)) (pos : Nat) : Option Byte :=
  buf.findSome? (fun b => if b.1 ≤ pos ∧ pos < b.1 + b.2.length then b.2[pos - b.1]? else none)

/-- Bytes of the buffered source, where all have arrived. -/
def bufBytes (buf : List (Nat × List Byte)) (pos n : Nat) : Option (List Byte) :=
  (List.range n).mapM (fun i => bufByte buf (pos + i))

/-- Rows of a remote LOAD from number `r` on whose data and scales have arrived are written, up to the first that has
not: the state, flags and exponent. -/
def State.loadRemoteRows (m : Master) (t : Nat) (d : BitVec 512) (p : LoadP) (buf : List (Nat × List Byte)) :
    Nat → Nat → State × Nat × Int → State × Nat × Int
  | 0, _, a => a
  | k + 1, r, (s, fl, ex) =>
    match bufBytes buf (r * p.srcBytes) p.srcBytes,
        bufBytes buf (p.rows * p.srcBytes + r * p.srcScales) p.srcScales with
    | some dat, some sc =>
      let (s, fl', ex', _) := s.loadRow m t d p r dat sc
      State.loadRemoteRows m t d p buf k (r + 1) (s, fl ||| fl', max ex ex')
    | _, _ => (s, fl, ex)

/-- A remote LOAD writes the rows that have arrived, and the issued command records its flags and exponent. -/
def State.loadRemote (s : State) (t : Nat) (i : Issued) : State × Issued :=
  let p := loadP i.hash i.cmd.desc
  let (s, fl, ex) := State.loadRemoteRows (tileMaster t i.cmd.secure) t i.cmd.desc p i.buf p.rows 0 (s, 0, -32768)
  (s, { i with flags := fl, metaExp := ex })

end Sys2Proof.Machine
end

