-- ==== Sys2Proof/Machine/GmaOps.lean ====
section
/-!
DEFINITION. Queue contexts and barrier groups: operations cut into messages and packets, completion, failures, the
context cache, waits, barriers and reductions (R287 to R331).
-/
namespace Sys2Proof.Machine

/-! ### Modules, links and packets (R44, R254, R280) -/

def State.ownModule (s : State) : Nat := s.fld F.MYR_FABRIC_ID_MODULE_ID

/-- Links that are ACTIVE, as a mask (R280). -/
def State.upMask (s : State) : Nat := s.fld F.MYR_UP_LO + s.fld F.MYR_UP_HI * 2 ^ 32

def State.linkUp (s : State) (n : Nat) : Bool := s.upMask.testBit n

/-- A packet enters the router at the local port. -/
def State.inject (s : State) (p : Packet) : State := s.emit (.inject p)

/-- The opcodes of R255. -/
def opPut : Nat := 1
def opPutFlag : Nat := 2
def opGetReq : Nat := 3
def opAtomicReq : Nat := 4
def opLedgerAdd : Nat := 5
def opResendReq : Nat := 6
def opGetRsp : Nat := 8
def opAtomicRsp : Nat := 9
def opCompletion : Nat := 0xA
def opNack : Nat := 0xB
def opBarArrive : Nat := 0x10
def opBarRelease : Nat := 0x11
def opReduceUp : Nat := 0x12
def opReduceDown : Nat := 0x13
def opPace : Nat := 0x20
def opMgmt : Nat := 0x21

/-- Codes shared by NACK records and ERR_REC (R322). -/
def ceNoEndpoint : Nat := 1
def ceWindow : Nat := 2
def ceRegRefused : Nat := 3
def ceFlagBlocked : Nat := 4
def ceEndpointState : Nat := 5
def ceBusy : Nat := 6
def ceMemError : Nat := 7
def ceAddrHole : Nat := 8
def ceBadPacket : Nat := 9
def ceTimeout : Nat := 0xA
def ceBadDesc : Nat := 0xB
def ceLocalFault : Nat := 0xC
def ceWaitTimeout : Nat := 0xD
def ceCtxLost : Nat := 0xE
def ceReduceFail : Nat := 0xF

/-- A packet with every field zero. -/
def pktZero : Packet :=
  { dst := 0, src := 0, endpoint := 0, vc := 0, hops := 0, opcode := 0, msgId := 0, offset := 0, length := 0,
    first := false, last := false, flag := false, encrypted := false, policy := 0, viaValid := false, viaGroup := 0,
    addr := 0, space := 0, srcCtx := 0, reserved := 0, payload := [] }

/-- Flits of a packet: 56 bytes of header and payload each (R237). -/
def flitsOf (p : Packet) : Nat := (32 + p.length + 55) / 56

/-- The parts of a global address (R40). -/
def gSpace (a : Nat) : Nat := bits a 63 60
def gModule (a : Nat) : Nat := bits a 59 40
def gLocal (a : Nat) : Nat := bits a 39 0

def mkGlobal (space module loc : Nat) : Nat := space * 2 ^ 60 + module % 2 ^ 20 * 2 ^ 40 + loc % 2 ^ 40

/-! ### Contexts -/

/-- A context as a master (R54, R63). -/
def State.ctxMaster (s : State) (c : Nat) : Master := ⟨.remoteQueue, c, (s.ctx c).secure⟩

/-- The OWNER that a master acts for (R288); firmware has its own. -/
def State.masterOwner (s : State) (m : Master) : Option Nat :=
  match m.cls with
  | .hostPf => some m.index
  | .hostVf => some (0x4000 + m.index)
  | .lectern => s.tileOwner m.index
  | .tileDma => s.tileOwner m.index
  | .librarian => some fwOwner
  | .circulation => some fwOwner
  | _ => none

/-- Whether a master is an object's owner or firmware (R292). -/
def State.ownsOrFw (s : State) (m : Master) (owner : Nat) : Bool :=
  isFirmware m || decide (s.masterOwner m = some owner)

/-- An event to the owner of a context (R472). -/
def State.ctxEvent (s : State) (c code : Nat) : State :=
  s.postOwner (s.ctx c).owner 2 code c (Config.eventDetail 2 code c) (s.ctx c).vec

/-- The place of byte `pos` of a list of regions: remote and local address, its place in the row, and the row's length
(R112, R124, R296). -/
def locate : List XReg → Nat → Nat × Nat × Nat × Nat
  | [], _ => (0, 0, 0, 0)
  | r :: rs, pos =>
    if pos < r.rowBytes * r.rows then
      let k := pos / r.rowBytes
      let i := pos % r.rowBytes
      (r.remote + k * r.rstride + i, r.localAddr + k * r.lstride + i, i, r.rowBytes)
    else locate rs (pos - r.rowBytes * r.rows)

def remoteAt (o : COp) (pos : Nat) : Nat := (locate o.regions pos).1
def localAt (o : COp) (pos : Nat) : Nat := (locate o.regions pos).2.1

/-- The remote address that ERR_REC records: that of the operation (R288). -/
def opRemote (o : COp) : Nat := match o.regions with | r :: _ => r.remote | [] => 0

/-- The bytes of the next message: to the end of the row, and to the next 262,144-byte boundary of it (R296); an
encrypted segment holds at most 262,096 (R448). -/
def nextLen (o : COp) : Nat :=
  let z := if o.e2e then 262096 else 262144
  let (_, _, i, n) := locate o.regions o.sent
  min (n - i) (z - i % z)

/-- Whether an operation of a context is complete (R299). -/
def Ctx.opDone (x : Ctx) (n : Nat) (o : COp) : Bool :=
  o.sent = o.length && !o.failed && !o.waiting && x.msgs.all (fun m => m.opNo ≠ n)

/-- COMP_CNT counts leading operations that are complete, and each NOTIFY posts its event (R293, R299). -/
def State.ctxAdvanceN (s : State) (c : Nat) : Nat → State
  | 0 => s
  | k + 1 =>
    let x := s.ctx c
    match x.ops with
    | [] => s
    | (n, o) :: rest =>
      if x.opDone n o then
        let s := s.setCtx c { x with ops := rest, compCnt := (x.compCnt + 1) % 2 ^ 48 }
        State.ctxAdvanceN (if o.notify then s.ctxEvent c 0 else s) c k
      else s

def State.ctxAdvance (s : State) (c : Nat) : State := s.ctxAdvanceN c (s.ctx c).ops.length

/-- The halt code of a tile command that fails through its context (R324). -/
def tileCodeOf (opcode code : Nat) (ue : Bool) : Nat :=
  if code = ceMemError then (if opcode = opGetReq then 0x0B else 0x09)
  else if code = ceAddrHole then 0x08
  else if code = ceLocalFault then (if ue then 0x0A else 0x08)
  else 0x09

/-- A tile command that a context operation performs halts its tile, with the bytes of its messages that completed OK;
a LOAD leaves the whole rows that had arrived (R135, R324). -/
def State.failTileOp (s : State) (c n : Nat) (o : COp) (code addr : Nat) : State :=
  match o.tile with
  | none => s
  | some (t, slot) =>
    match (s.tile t).issued.find? (fun i => decide (i.slot = slot ∧ i.remote = some (c, n))) with
    | none => s
    | some i =>
      let (s, i) := if opcodeOf i.cmd.desc = 1 then s.loadRemote t i else (s, i)
      s.failIssued t i { code := code, unit := 1, addr := addr, progress := o.okBytes }

/-- When a context leaves READY and WAITING, each tile command not wholly sent halts its tile with REMOTE_REFUSED at the
first byte not sent; `but` is the operation whose failure it was (R324). -/
def State.failUnsent (s : State) (c but : Nat) : State :=
  (s.ctx c).ops.foldl (fun s (p : Nat × COp) =>
    if p.1 ≠ but ∧ p.2.sent < p.2.length ∧ !p.2.failed then
      let s := s.modCtx c (fun x => { x with ops := Tab.set x.ops p.1 { p.2 with failed := true } })
      s.failTileOp c p.1 p.2 0x09 (remoteAt p.2 p.2.sent)
    else s) s

/-- The context records a failure that is not a violation: ERROR with ERR_REC, QUEUE_ERROR and an event; where it is no
longer READY or WAITING, state and ERR_REC stay (R324). -/
def State.ctxError (s : State) (c code op index remote : Nat) : State :=
  let x := s.ctx c
  if x.st = .ready ∨ x.st = .waiting then
    let s := s.setCtx c { x with st := .error, wait := none, errCode := code, errOp := op, errIndex := index,
                                 errRemote := remote }
    (s.raise blkGma 18 (s.ctxMaster c)).ctxEvent c code
  else s

/-- A violation that the target reported freezes the context, unless it is FROZEN or LOST already (R324). -/
def State.ctxFreeze (s : State) (c code op index remote : Nat) : State :=
  let x := s.ctx c
  let s := s.count (F.GMA_CNT 6)
  if x.st = .frozen ∨ x.st = .lost then s
  else
    let s := s.setCtx c { x with st := .frozen, wait := none, errCode := code, errOp := op, errIndex := index,
                                 errRemote := remote }
    (s.raise blkGma 17 (s.ctxMaster c)).secEvent x.owner c code

/-- An operation fails: its code, the remote address, and whether local data was uncorrectable; a violation freezes
(R299, R324). -/
def State.failOp (s : State) (c n code addr : Nat) (violation ue : Bool) : State :=
  match Tab.find? (s.ctx c).ops n with
  | none => s
  | some o =>
    if o.failed then s
    else
      let s := s.modCtx c (fun x => { x with ops := Tab.set x.ops n { o with failed := true, waiting := false } })
      let s := if violation then s.ctxFreeze c code o.op o.index (opRemote o) else s.ctxError c code o.op o.index (opRemote o)
      let opcode := if o.op = 3 then opGetReq else o.op
      (s.failTileOp c n o (tileCodeOf opcode code ue) addr).failUnsent c n

/-! ### Messages and packets (R296 to R298) -/

/-- The packets of a message of `bytes`, cut at 4,096-byte boundaries (R296). -/
def cutPackets (h : Packet) (bytes : List Byte) : List Packet :=
  let n := (bytes.length + 4095) / 4096
  (List.range n).map (fun i =>
    let part := (bytes.drop (4096 * i)).take 4096
    { h with offset := 4096 * i, length := part.length, first := i = 0, last := i + 1 = n, payload := part })

/-- The header of a request of a context (R254, R296). -/
def State.reqHeader (s : State) (c : Nat) (x : Ctx) (m : Msg) (o : COp) : Packet :=
  { pktZero with
    dst := x.peerModule, src := s.ownModule, endpoint := x.peerCtx, opcode := m.opcode, msgId := m.id,
    policy := x.policy, addr := m.remote, space := m.space, srcCtx := c, encrypted := o.e2e,
    flag := m.opcode = opPutFlag, first := true, last := true }

/-- The packets of a message, read from their source where they carry data (R296, R298, R310). DESIGN CHOICE (log 127): a
message whose data cannot be read whole sends nothing. -/
def State.msgPackets (s : State) (c : Nat) (m : Msg) : State × List Packet × Option MemFault :=
  let x := s.ctx c
  match Tab.find? x.ops m.opNo with
  | none => (s, [], none)
  | some o =>
    let h := s.reqHeader c x m o
    if m.opcode = opGetReq then (s, [{ h with offset := m.len }], none)
    else if m.wire ≠ [] then (s, cutPackets h m.wire, none)
    else
      let (s, bs, f) := s.dmaRead (s.ctxMaster c) m.localAddr m.len
      (s, if f.isNone then cutPackets h bs else [], f)

/-- Outstanding messages of the module: send records taken (R297). -/
def State.sendRecords (s : State) : Nat := s.gma.ctxs.foldl (fun a p => a + p.2.msgs.length) 0

/-- Reassembly trackers taken: inbound messages and outstanding GETs (R298, R306). -/
def State.trackersUsed (s : State) : Nat :=
  s.gma.trackers.length +
    s.gma.ctxs.foldl (fun a p => a + (p.2.msgs.filter (fun m => m.opcode = opGetReq)).length) 0

/-- The request payload of an atomic: its log slot is the first that no outstanding atomic of the context has (R300). -/
def Ctx.atomicWire (x : Ctx) (aux : List Byte) : List Byte :=
  let used := (x.msgs.filter (fun m => m.opcode = opAtomicReq)).map (fun m => leAt m.wire 1 1)
  let slot := ((List.range 4).find? (fun k => decide (k ∉ used))).getD 0
  aux.take 1 ++ leBytes 1 slot ++ aux.drop 2

/-- The next message of operation `n` is sent, where the context may send one, and once the operations before it are wholly
sent; a fault on local data fails the operation (R294, R296, R297, R298, R448). -/
def State.sendNext (s : State) (c n : Nat) : State :=
  let x := s.ctx c
  match Tab.find? x.ops n with
  | none => s
  | some o =>
    if o.failed ∨ o.length ≤ o.sent ∨ x.maxOut ≤ x.msgs.length ∨ 131072 ≤ s.sendRecords ∨
        ¬ (x.st = .ready ∨ x.st = .waiting) ∨ x.ops.any (fun p => p.1 < n ∧ p.2.sent < p.2.length ∧ !p.2.failed) then s
    else
      let len := nextLen o
      let opcode := if o.op = 3 then opGetReq else o.op
      if opcode = opGetReq ∧ 65536 ≤ s.trackersUsed then s
      else if opcode = opAtomicReq ∧ 4 ≤ (x.msgs.filter (fun m => m.opcode = opAtomicReq)).length then s
      else
        let m : Msg := { id := x.nextMsg, opNo := n, opcode := opcode, pos := o.sent, localAddr := localAt o o.sent,
                         remote := gLocal (remoteAt o o.sent), len := len, space := gSpace (opRemote o), repeats := 0,
                         resends := 0, bitmap := 0, busy := []
                         wire := if opcode = opAtomicReq then x.atomicWire o.aux else [] }
        let (s, m, bad) :=
          if o.e2e then
            let (s, bs, f) := s.dmaRead (s.ctxMaster c) m.localAddr len
            match f with
            | some g => (s, m, some g)
            | none =>
              let (s, w) := s.e2eSeal x.keyPage s.ownModule x.peerModule m.remote bs
              match w with
              | some w => (s, { m with wire := w }, none)
              | none => (s, m, some (.hole 0))
          else (s, m, none)
        match bad with
        | some g => s.failOp c n ceLocalFault (remoteAt o o.sent) false (match g with | .ue _ => true | _ => false)
        | none =>
          match s.msgPackets c m with
          | (s, _, some g) =>
            s.failOp c n ceLocalFault (remoteAt o o.sent) false (match g with | .ue _ => true | _ => false)
          | (s, ps, none) =>
            let s := s.modCtx c (fun x => { x with
              nextMsg := (x.nextMsg + 1) % 2 ^ 24
              msgs := x.msgs ++ [m]
              ops := Tab.set x.ops n { o with sent := o.sent + len } })
            ps.foldl State.inject s

/-- As many messages of an operation are sent as may be outstanding. -/
def State.pump (s : State) (c n : Nat) : State := Nat.repeat (fun s => s.sendNext c n) (s.ctx c).maxOut s

/-- The operations of a context, in issue order, send what they may. -/
def State.pumpCtx (s : State) (c : Nat) : State := (s.ctx c).ops.foldl (fun s p => s.pump c p.1) s

/-- The operations of every context send what they may. -/
def State.pumpAll (s : State) : State := s.gma.ctxs.foldl (fun s p => s.pumpCtx p.1) s

/-- A message of a context has ended: its operations go on, and those of other contexts that waited for a send record or a
tracker (R296, R297, R298). -/
def State.msgFreed (s : State) (c : Nat) : State :=
  if s.sendRecords + 1 < 131072 ∧ s.trackersUsed + 1 < 65536 then s.pumpCtx c else (s.pumpCtx c).pumpAll

/-- An operation starts and sends what it may; the number is its place in issue order. -/
def State.startOp (s : State) (c : Nat) (o : COp) : State × Nat :=
  let x := s.ctx c
  let n := x.nextOp
  let s := s.setCtx c { x with ops := Tab.set x.ops n o, nextOp := n + 1 }
  ((s.pump c n).ctxAdvance c, n)

/-- A message ends with every byte performed: the operations go on, and COMP_CNT may advance (R299). -/
def State.endMsgOk (s : State) (c : Nat) (m : Msg) : State :=
  let s := s.modCtx c (fun x => { x with
    msgs := x.msgs.filter (fun k => k.id ≠ m.id)
    ops := match Tab.find? x.ops m.opNo with
      | some o => Tab.set x.ops m.opNo { o with okBytes := o.okBytes + m.len }
      | none => x.ops })
  (s.msgFreed c).ctxAdvance c

/-- A message ends by failing (R324). -/
def State.endMsgFail (s : State) (c : Nat) (m : Msg) (code addr : Nat) (violation : Bool) : State :=
  ((s.modCtx c (fun x => { x with msgs := x.msgs.filter (fun k => k.id ≠ m.id) })).failOp c m.opNo code addr violation
    false).msgFreed c

/-- The outstanding message of a context with an ID. -/
def State.msgOf (s : State) (c id : Nat) : Option Msg := (s.ctx c).msgs.find? (fun m => m.id = id)

def State.setMsg (s : State) (c : Nat) (m : Msg) : State :=
  s.modCtx c (fun x => { x with msgs := x.msgs.map (fun k => if k.id = m.id then m else k) })

/-! ### The context cache (R312 to R314) -/

/-- A fetch of a context that is not cached is asked for, and counted as a miss. -/
def State.startFetch (s : State) (c : Nat) : State :=
  if c ∈ s.gma.cache ∨ c ∈ s.gma.fetches then s
  else
    let s := { s with gma := { s.gma with fetches := s.gma.fetches ++ [c] } }
    (s.count (F.GMA_CNT 0)).setFld F.GMA_CACHE_STS_FETCHING (min 32 s.gma.fetches.length)

/-- A cached context is used. -/
def State.touch (s : State) (c : Nat) : State :=
  if c ∈ s.gma.cache then { s with gma := { s.gma with cache := c :: s.gma.cache.erase c } } else s

/-- A busy context is never evicted (R313). -/
def State.ctxBusy (s : State) (c : Nat) : Bool :=
  let x := s.ctx c
  x.msgs ≠ [] || s.gma.trackers.any (fun t => t.ctx = c) || x.parked.isSome || x.wait.isSome || x.fetched ≠ []

/-- A doorbell of a context: the owner or firmware sets PRODUCER within the ring's size (R292). -/
def State.ctxDoorbell (s : State) (m : Master) (c v : Nat) : State :=
  let x := s.ctx c
  let off := 0x04000000 + 8 * c
  if !s.ownsOrFw m x.owner then s.guardViolation blkGma m off true
  else if 2 ^ x.ringLog2 < (v + 2 ^ 32 - x.consumer) % 2 ^ 32 then s.raise blkGma 23 m off v
  else ((s.setCtx c { x with producer := v % 2 ^ 32 }).startFetch c).touch c

/-- A reset of a context (R290). -/
def State.ctxReset (s : State) (c msgId : Nat) : State :=
  s.modCtx c (fun x => { x with
    st := .ready, consumer := x.producer, nextMsg := msgId, expMsg := msgId, done := 0, flagBlock := false,
    parked := none, atomicLog := [], errCode := 0, errOp := 0, errIndex := 0, errRemote := 0, fetched := [],
    ops := [], wait := none })

/-! ### Waits (R125, R317) -/

/-- A counter has reached a value, modulo 2^w (R125). -/
def reached (w counter value : Nat) : Bool := decide ((counter + 2 ^ w - value % 2 ^ w) % 2 ^ w < 2 ^ (w - 1))

/-- The condition of a WAIT (R317). -/
def State.waitMet (s : State) (w : WaitSt) : Bool :=
  reached 48 (if w.arrive then (s.ctx w.wctx).arriveCnt else (s.ctx w.wctx).compCnt) w.value

/-- A WAIT whose condition holds completes, and the context goes on (R317). -/
def State.waitTest (s : State) (c : Nat) : State :=
  let x := s.ctx c
  match x.wait with
  | none => s
  | some w =>
    if x.st = .waiting ∧ s.waitMet w then
      (s.setCtx c { x with
        st := .ready, wait := none,
        ops := x.ops.map (fun p => if p.2.op = 6 then (p.1, { p.2 with waiting := false }) else p) }).ctxAdvance c
    else s

/-! ### Barrier groups (R325 to R328) -/

/-- STATE of GMA_BAR_STS (R341). -/
def barIdle : Nat := 0
def barGather : Nat := 1
def barReleasing : Nat := 2
def barBroken : Nat := 3

/-- The child links of a group (R341). -/
def State.barChildren (s : State) (g : Nat) : List Nat :=
  setBitsOf 48 (s.fld (F.GMA_BAR_CHILD_LO_CHILD g) + s.fld (F.GMA_BAR_CHILD_HI_CHILD g) * 2 ^ 32)

/-- A collective packet on a link: its partner, the group and generation in MSG_ID, OFFSET bit 0 for BROKEN (R325). -/
def State.collective (s : State) (g n opcode offset : Nat) (last : Bool) (payload : List Byte) : State :=
  s.linkSend n ({ pktZero with
    dst := s.fld (F.MYL_PARTNER_MODULE n), src := s.ownModule, vc := 6, opcode := opcode,
    msgId := g + s.fld (F.GMA_BAR_STS_GEN g) * 2 ^ 12, offset := offset, length := payload.length, first := true,
    last := last, payload := payload } : Packet)

/-- The arrivals of a generation are complete (R327). -/
def State.barComplete (s : State) (g : Nat) : Bool :=
  s.flag (F.GMA_BAR_CFG_ENABLE g) && decide (s.fld (F.GMA_BAR_STS_STATE g) ≠ barBroken) &&
    decide (s.fld (F.GMA_BAR_CFG_LOCAL_EXPECT g) ≤ s.fld (F.GMA_BAR_STS_ARRIVED g)) &&
    (s.barChildren g).all (fun n => decide (n ∈ (s.bar g).children))

/-- The REDUCE operations of a generation end with the release (R329). -/
def State.endReduces (s : State) (g gen : Nat) : State :=
  let b := s.bar g
  let s := s.modBar g (fun b => { b with reduces := b.reduces.filter (fun r => r.1 ≠ gen), given := [], red := none })
  (b.reduces.filter (fun r => r.1 = gen)).foldl (fun s r =>
    (s.modCtx r.2.1 (fun x => { x with
      ops := match Tab.find? x.ops r.2.2 with
        | some o => Tab.set x.ops r.2.2 { o with waiting := false }
        | none => x.ops })).ctxAdvance r.2.1) s

/-- The release of this member: local waiters go on, GEN advances, held arrivals count (R327). `forward` sends the
release to the children. -/
def State.barRelease (s : State) (g : Nat) (forward : Bool) : State :=
  let gen := s.fld (F.GMA_BAR_STS_GEN g)
  let s := if forward then (s.barChildren g).foldl (fun s n => s.collective g n opBarRelease 0 true []) s else s
  let s := s.endReduces g gen
  let held := (s.bar g).heldArr
  let s := s.setFld (F.GMA_BAR_STS_GEN g) ((gen + 1) % 256)
  let s := s.setFld (F.GMA_BAR_STS_ARRIVED g) held
  let s := s.setFld (F.GMA_BAR_STS_CHILD_ARRIVED g) 0
  let s := s.setFld (F.GMA_BAR_STS_STATE g) (if held = 0 then barIdle else barGather)
  s.modBar g (fun b => { b with heldArr := 0, children := [], upSent := false })

/-- Failure of a REDUCE that waits (R328). -/
def State.failReduces (s : State) (g : Nat) : State :=
  let b := s.bar g
  let s := s.modBar g (fun b => { b with reduces := [], given := [], red := none })
  b.reduces.foldl (fun s r => s.failOp r.2.1 r.2.2 ceReduceFail 0 false false) s

/-- The SYNC at the head of a tile leaves the queue and fails (R125, R328). -/
def State.failSync (s : State) (t code : Nat) : State :=
  match (s.tile t).queue with
  | [] => s
  | c :: q =>
    let slot := s.headSlot t c
    (s.modTile t (fun x => { x with queue := q, syncHeld := false, syncArrived := none })).tileFail t c slot false
      { code := code }

/-- Whether the head of a tile is a SYNC that has arrived at a group (R326). -/
def State.syncWaits (s : State) (t g : Nat) : Bool :=
  match (s.tile t).queue with
  | c :: _ =>
    (s.tile t).syncHeld && (s.tile t).syncArrived.isSome && opcodeOf c.desc = 6 && dfld c.desc 34 32 = 2 &&
      dfld c.desc 171 160 = g
  | [] => false

/-- A group enters BROKEN: the neighbours that remain learn of it, local waiters fail, and job slots that use it break
(R328, R350). `but` is the link it
came from. -/
def State.barBreak (s : State) (g : Nat) (but : Option Nat) : State :=
  if !s.flag (F.GMA_BAR_CFG_ENABLE g) ∨ s.fld (F.GMA_BAR_STS_STATE g) = barBroken then s
  else
    let s := (s.setFld (F.GMA_BAR_STS_STATE g) barBroken).raise blkGma 21 Master.noMaster (F.GMA_BAR_STS_STATE g).off
    let parent := if s.flag (F.GMA_BAR_CFG_ROOT g) then [] else [s.fld (F.GMA_BAR_CFG_PARENT g)]
    let tell := fun (op : Nat) (s : State) (n : Nat) =>
      if but = some n ∨ !s.linkUp n then s else s.collective g n op 1 true []
    let s := parent.foldl (tell opBarArrive) s
    let s := (s.barChildren g).foldl (tell opBarRelease) s
    let s := s.failReduces g
    ((List.range 16).foldl (fun s t => if s.syncWaits t g then s.failSync t 0x0C else s) s).breakSlots g

/-! ### Reductions (R329, R330) -/

/-- The words of a byte string of ledger words. -/
def wordsOf (bs : List Byte) : List LWord := (List.range (bs.length / 32)).map (fun i => LWord.ofBytes ((bs.drop (32 * i)).take 32))

/-- An empty ledger word. -/
def LWord.empty : LWord := ⟨0, 0, 0, 0⟩

/-- Words are added into the sums of a reduction from word number `first` on; sums start empty. Where anchors mix, the
value of the result is a free value (R94). -/
def addSums (fv : Nat → Nat) (sums : Tab LWord) (first : Nat) (ws : List LWord) : Tab LWord :=
  (ws.zipIdx).foldl (fun t (p : LWord × Nat) =>
    Tab.set t (first + p.2) (ledgerAdd (fv p.2) (Tab.getD t (first + p.2) LWord.empty) p.1)) sums


/-- Bytes `k` of the total: packet number `k` of the reduction. -/
def Reduction.packet (r : Reduction) (k len : Nat) : List Byte :=
  (List.range ((min 4096 (len - 4096 * k)) / 32)).flatMap (fun i =>
    (Tab.getD r.sums (128 * k + i) LWord.empty).bytes)

/-- The packets of a reduction whose contributions are all present: every child's, and the local arrivals complete. -/
def State.redReady (s : State) (g : Nat) (r : Reduction) (len : Nat) : List Nat :=
  if s.fld (F.GMA_BAR_STS_ARRIVED g) < s.fld (F.GMA_BAR_CFG_LOCAL_EXPECT g) then []
  else (List.range ((len + 4095) / 4096)).filter (fun k => decide ((s.barChildren g).length ≤ Tab.getD r.got k 0))

/-- A member's result is written at its own address (R329). A write that fails breaks the group (DEDUCED, as R330 for a
read). -/
def State.redWrite (s : State) (g a : Nat) (bs : List Byte) : State :=
  let m := match (s.bar g).reduces.find? (fun r => r.1 = s.fld (F.GMA_BAR_STS_GEN g)) with
    | some r => s.ctxMaster r.2.1
    | none => Master.firmware
  let (s, f) := s.dmaWrite m a bs
  if f.isSome then s.barBreak g none else s

/-- The local REDUCEs of the present generation that have not contributed yet: each is read whole and added; another
length than the first one received, or a read that fails, breaks the group (R329, R330). -/
def State.redLocal (s : State) (g : Nat) : State :=
  let gen := s.fld (F.GMA_BAR_STS_GEN g)
  ((s.bar g).reduces.filter (fun r => decide (r.1 = gen ∧ r.2 ∉ (s.bar g).given))).foldl (fun s r =>
    match (if s.fld (F.GMA_BAR_STS_STATE g) = barBroken then none else Tab.find? (s.ctx r.2.1).ops r.2.2) with
    | none => s
    | some o =>
      let red := (s.bar g).red.getD Reduction.init
      let (s, bs, f) := s.dmaRead (s.ctxMaster r.2.1) (localAt o 0) o.length
      if f.isSome ∨ (red.length.isSome ∧ red.length ≠ some o.length) then s.barBreak g none
      else
        let red := { red with
          length := some o.length, localGiven := true, resultAddr := gLocal (opRemote o), all := o.aux ≠ []
          sums := addSums s.freeAt red.sums 0 (wordsOf bs) }
        (s.drewMany (o.length / 32)).modBar g (fun b => { b with given := b.given ++ [r.2], red := some red })) s

/-- A reduction moves on: ready packets go to the parent; at the root the total is written and goes down, or the bare
release does (R329). -/
def State.redFlow (s : State) (g : Nat) : State :=
  match (s.bar g).red with
  | none => s
  | some r =>
    match r.length with
    | none => s
    | some len =>
      let ready := s.redReady g r len
      let n := (len + 4095) / 4096
      if s.flag (F.GMA_BAR_CFG_ROOT g) then
        if ready.length < n ∨ !s.barComplete g then s
        else
          let total := (List.range n).flatMap (fun k => r.packet k len)
          let s := if r.localGiven then s.redWrite g r.resultAddr total else s
          if s.fld (F.GMA_BAR_STS_STATE g) = barBroken then s
          else if r.all then
            let s := (List.range n).foldl (fun s k =>
              (s.barChildren g).foldl (fun s l => s.collective g l opReduceDown (4096 * k) (k + 1 = n) (r.packet k len)) s) s
            s.barRelease g false
          else s.barRelease g true
      else
        let new := ready.filter (fun k => decide (k ∉ r.sentUp))
        let s := new.foldl (fun s k =>
          s.collective g (s.fld (F.GMA_BAR_CFG_PARENT g)) opReduceUp (4096 * k) (k + 1 = n) (r.packet k len)) s
        s.modBar g (fun b => { b with red := some { r with sentUp := r.sentUp ++ new } })

/-- A generation whose arrivals are complete: a member sends its arrival to its parent, once; the root releases, after
the total where a reduction runs (R327, R329). -/
def State.barCheck1 (s : State) (g : Nat) : State :=
  let s := (s.redLocal g).redFlow g
  if !s.barComplete g then s
  else if s.flag (F.GMA_BAR_CFG_ROOT g) then
    if (s.bar g).red.isSome then s else s.barRelease g true
  else if (s.bar g).upSent then s
  else (s.collective g (s.fld (F.GMA_BAR_CFG_PARENT g)) opBarArrive 0 true []).modBar g (fun b => { b with upSent := true })

/-- As above; held arrivals may complete the next generation at once. -/
def State.barCheck (s : State) (g : Nat) : State := (s.barCheck1 g).barCheck1 g

/-- A local arrival (R326): counted in this generation, held for the next, or discarded with BAR_OVERRUN. The answer is
the generation whose release the arriver waits for. -/
def State.barArrive (s : State) (g : Nat) : State × Nat :=
  let gen := s.fld (F.GMA_BAR_STS_GEN g)
  let n := s.fld (F.GMA_BAR_STS_ARRIVED g)
  let lim := s.fld (F.GMA_BAR_CFG_LOCAL_EXPECT g)
  if !s.flag (F.GMA_BAR_CFG_ENABLE g) ∨ s.fld (F.GMA_BAR_STS_STATE g) = barBroken then (s, gen)
  else if n < lim then
    ((s.setFld (F.GMA_BAR_STS_ARRIVED g) (n + 1)).setFld (F.GMA_BAR_STS_STATE g) barGather, gen)
  else if (s.bar g).heldArr < lim then
    (s.modBar g (fun b => { b with heldArr := b.heldArr + 1 }), (gen + 1) % 256)
  else (s.raise blkGma 22 Master.noMaster (F.GMA_BAR_STS_STATE g).off, gen)

/-- A write of GMA_BAR_ARRIVE by a master of the group's OWNER is an arrival; by another it is discarded and logged
(R326). -/
def State.barArriveWrite (s : State) (m : Master) (g : Nat) : State :=
  if s.masterOwner m = some (s.fld (F.GMA_BAR_CHILD_HI_OWNER g)) then (s.barArrive g).1.barCheck g
  else s.postFw (Config.logCode 326) F.GMA_BAR_ARRIVE_GROUP.off g

/-- ENABLE of a barrier group is written: 0 to 1 sets GEN and ARRIVED to 0 (R328, R341). -/
def State.barEnable (s : State) (g : Nat) (on : Bool) : State :=
  if on ∧ !s.flag (F.GMA_BAR_CFG_ENABLE g) then
    ((s.setFlag (F.GMA_BAR_CFG_ENABLE g) true).setReg (F.GMA_BAR_STS_STATE g).off 0).modBar g (fun _ => Bar.init)
  else s.setFlag (F.GMA_BAR_CFG_ENABLE g) on

/-! ### Inbound windows (R318, R319) -/

/-- The 20 bytes of a window's entry check: the gated bits of CTRL, LO, HI, SRC and SRCMASK (R319). -/
def State.winImage (s : State) (w : Nat) : List Byte :=
  leBytes 4 ((s.reg (F.GMA_WIN_CTRL_ENABLE w).off).toNat &&& 0x0F00FFFF) ++
    leBytes 4 (s.fld (F.GMA_WIN_LO w)) ++ leBytes 4 (s.fld (F.GMA_WIN_HI w)) ++ leBytes 4 (s.fld (F.GMA_WIN_SRC w)) ++
    leBytes 4 (s.fld (F.GMA_WIN_SRCMASK w))

def State.winMatches (s : State) (w : Nat) : Bool := crc32c (s.winImage w) = s.fld (F.GMA_WIN_REF w)

/-- ENABLE of a window is written: with CRC_CHECK the entry is checked first; clearing it stops admission, and no accepted
packet is left to drain (R319). -/
def State.winEnable (s : State) (w : Nat) (on : Bool) : State :=
  if !on then (s.setFlag (F.GMA_WIN_CTRL_ENABLE w) false).setFlag (F.GMA_WIN_CTRL_ACTIVE w) false
  else if s.flag (F.GMA_WIN_CTRL_ENABLE w) then s
  else if s.flag blkGma.crcCheck ∧ !s.winMatches w then s.raise blkGma 20 Master.noMaster (F.GMA_WIN_CTRL_ENABLE w).off
  else (s.setFlag (F.GMA_WIN_CTRL_ENABLE w) true).setFlag (F.GMA_WIN_CTRL_ACTIVE w) true

/-- The periodic check of a window (R319). -/
def State.winCheck (s : State) (w : Nat) : State :=
  if s.flag blkGma.crcCheck ∧ s.flag (F.GMA_WIN_CTRL_ENABLE w) ∧ !s.winMatches w then
    (s.winEnable w false).raise blkGma 20 Master.noMaster (F.GMA_WIN_CTRL_ENABLE w).off
  else s

end Sys2Proof.Machine
end

