-- ==== Sys2Proof/Machine/Page.lean ====
section
/-!
DEFINITION. The emulated set-up pages: their registers and buffers (R493, R600), and how a request is taken and answered
(R494, R499).
-/
namespace Sys2Proof.Machine

/-- A function has a set-up page: PF0, and every VF (R493, R599). -/
def hasPage (f : Nat) : Bool := decide (f = 0 ∨ (2 ≤ f ∧ f < 128))

/-- The number of a VF under its PF, and its PF (R462). -/
def suId (f : Nat) : Nat := if f < 2 then 0 else if f < 65 then f - 1 else 2 ^ 8 + (f - 64)

/-- VFN_SU_STS (R493). -/
def State.suSts (s : State) (f : Nat) : Nat :=
  ofBool (s.fn f).flr * 2 ^ 5 + ofBool (s.flag (F.VFN_STS_FROZEN f)) * 2 ^ 4 + s.fld (F.VFN_STS_STATE f)

/-- The 256 bytes of the response buffer: STATUS, SEQ, body (R493). -/
def Fn.response (x : Fn) : List Byte := leBytes 4 x.mbStatus ++ leBytes 4 x.mbRespSeq ++ x.mbBody.take 248

/-- A 32-bit read of a set-up page, from its shadow (R493, R600). -/
def State.pageRead (s : State) (f off : Nat) : Nat :=
  let x := s.fn f
  if off = 0 then suId f
  else if off = 4 then s.suSts f
  else if off = 0x10 then ofBool x.mbDone * 4 + ofBool x.mbBusy.isSome * 2 + ofBool x.mbGo
  else if 0x100 ≤ off ∧ off < 0x200 then ofLe ((List.range 4).map (fun i => Tab.getD x.mbReq (off - 0x100 + i) 0))
  else if 0x200 ≤ off ∧ off < 0x300 then leAt x.response (off - 0x200) 4
  else 0

/-- Offsets of a page that hold something; the others are reserved (R493). -/
def pageHas (off : Nat) : Bool := decide (off = 0 ∨ off = 4 ∨ off = 0x10 ∨ (0x100 ≤ off ∧ off < 0x300))

/-- Bytes of the request buffer. -/
def State.mbReqBytes (s : State) (f : Nat) : List Byte := (List.range 256).map (fun i => Tab.getD (s.fn f).mbReq i 0)

/-- The source of mailbox events (R472). -/
def srcMailbox : Nat := 8

/-- A response is written, DONE sets, and an event goes to the function (R494). -/
def State.mbDone (s : State) (f seq status : Nat) (body : List Byte) : State :=
  let s := s.modFn f (fun x => { x with mbBusy := none, mbDone := true, mbStatus := status, mbRespSeq := seq, mbBody := body.take 248 })
  s.postEvent f ⟨srcMailbox, Config.eventCode srcMailbox status, f, Config.eventDetail srcMailbox status f, s.modTime % 2 ^ 32, 0⟩

/-! ### Abort codes (R634) -/

def abMalformed : Nat := 0x00010001
def abUnknownService : Nat := 0x00010002
def abSequence : Nat := 0x00010003
def abTooLong : Nat := 0x00010004
def abNoObject : Nat := 0x00020001
def abNoSub : Nat := 0x00020002
def abType : Nat := 0x00020003
def abReadOnly : Nat := 0x00020004
def abWriteOnly : Nat := 0x00020005
def abNotAuth : Nat := 0x00030001
def abRole : Nat := 0x00030002
def abAuthFail : Nat := 0x00030003
def abTokenInvalid : Nat := 0x00030004
def abTokenExpired : Nat := 0x00030005
def abRange : Nat := 0x00040001
def abReserved : Nat := 0x00040002
def abInconsistent : Nat := 0x00040003
def abImage : Nat := 0x00040004
def abModuleState : Nat := 0x00050001
def abBusy : Nat := 0x00050002
def abMoving : Nat := 0x00050003
def abHoldup : Nat := 0x00050004
def abLocked : Nat := 0x00050005
def abCut : Nat := 0x00050006
def abSealed : Nat := 0x00050007
def abNothing : Nat := 0x00050008
def abNoResource : Nat := 0x00060001
def abNotOwned : Nat := 0x00060002
def abParked : Nat := 0x00060003
def abLimit : Nat := 0x00060004
def abFailed : Nat := 0x00070001
def abStorage : Nat := 0x00070002

/-- Request codes (R494). -/
def mailboxCodes : List Nat :=
  [0x01, 0x10, 0x11, 0x20, 0x21, 0x22, 0x23, 0x30, 0x31, 0x32, 0x33, 0x40, 0x41, 0x50, 0x100, 0x101, 0x102, 0x103, 0x110,
   0x111, 0x112, 0x113, 0x114, 0x115, 0x200]

/-- GO: the request buffer is taken, and BUSY is 1 while firmware works on it; while BUSY is 1 it is ignored. A frozen VF's
request is refused, and so is one of a VF that is moved or that is not provisioned, unless it asks for its resources (R489,
R493, R494, R499, R504). -/
def State.mbTake (s : State) (f : Nat) : State :=
  if !hasPage f ∨ (s.fn f).mbBusy.isSome then s
  else if !s.coreUp 0 then s.modFn f (fun x => { x with mbGo := true })
  else
    let code := leAt (s.mbReqBytes f) 0 2
    let seq := leAt (s.mbReqBytes f) 4 4
    let s := s.modFn f (fun x => { x with mbBusy := some (code, seq), mbGo := false })
    if 2 ≤ f ∧ s.flag (F.VFN_STS_FROZEN f) then s.mbDone f seq abModuleState []
    else if s.moving f then s.mbDone f seq abMoving []
    else if 2 ≤ f ∧ s.fld (F.VFN_STS_STATE f) < 2 ∧ code ≠ 1 then s.mbDone f seq abModuleState []
    else if code ∉ mailboxCodes then s.mbDone f seq abUnknownService []
    else if code = 0x200 ∧ f ≠ 0 then s.mbDone f seq abRole []
    else s

/-- A 32-bit write of a set-up page under the access codes of its map (R493, R600). -/
def State.pageWrite (s : State) (f off v : Nat) : State :=
  if off = 0x10 then
    let s := if v.testBit 2 then s.modFn f (fun x => { x with mbDone := false }) else s
    if v.testBit 0 then s.mbTake f else s
  else if 0x100 ≤ off ∧ off < 0x200 then
    s.modFn f (fun x => { x with mbReq := (List.range 4).foldl (fun t i =>
      Tab.put t (off - 0x100 + i) (BitVec.ofNat 8 (v / 256 ^ i)) 0) x.mbReq })
  else s

/-! ### Responses of the dictionary (R629, R630) -/

/-- A response frame (R630). -/
def dictFrame (service seq off abort total : Nat) (bs : List Byte) : List Byte :=
  leBytes 4 service ++ leBytes 4 seq ++ leBytes 4 abort ++ leBytes 4 off ++ leBytes 4 bs.length ++ leBytes 4 total ++ bs

/-- A response goes to its session: session 0 is the PF0 mailbox, whose response body the frame fills (R629). -/
def State.dictAnswer (s : State) (service sess seq off abort total : Nat) (bs : List Byte) : State :=
  let fr := dictFrame service seq off abort total bs
  if sess ≠ 0 then s.emit (.dict sess abort fr)
  else match (s.fn 0).mbBusy with
    | some (code, q) => if code = 0x200 then s.mbDone 0 q abort fr else s
    | none => s

end Sys2Proof.Machine
end

