-- ==== Sys2Proof/Machine/StoreOps.lean ====
section
/-!
DEFINITION. Storage: namespaces and their placement on the drives, the label, the write buffer, commands to the drives,
and NVMe completions (R513 to R534).
-/
namespace Sys2Proof.Machine

def blkNvc : Blk := ⟨.nvc, 0⟩

def State.modStore (s : State) (f : Store → Store) : State := { s with store := f s.store }
def State.ns? (s : State) (n : Nat) : Option Ns := Tab.find? s.store.ns n
def State.modNs (s : State) (n : Nat) (f : Ns → Ns) : State :=
  match s.ns? n with
  | some x => s.modStore (fun t => { t with ns := Tab.set t.ns n (f x) })
  | none => s
def State.nvCtrl (s : State) (c : Nat) : NvCtrl := Tab.getD s.store.ctrls c NvCtrl.init
def State.modCtrl (s : State) (c : Nat) (f : NvCtrl → NvCtrl) : State :=
  s.modStore (fun t => { t with ctrls := Tab.set t.ctrls c (f (s.nvCtrl c)) })
def State.feedRing (s : State) (p : Nat) : FeedRing := Tab.getD s.store.feeds p FeedRing.init
def State.modFeeds (s : State) (p : Nat) (f : FeedRing → FeedRing) : State :=
  s.modStore (fun t => { t with feeds := Tab.set t.feeds p (f (s.feedRing p)) })

/-- The function of a controller: PF1 is controller 1, VF v of PF1 controller 1 + v (R513). -/
def ctrlFn (c : Nat) : Nat := if c = 1 then 1 else 63 + c

/-! ### Drives and the label (R516, R517) -/

/-- A drive that is used: it answers, is ready and has not failed. -/
def State.driveUp (s : State) (k : Nat) : Bool := s.flag (F.NVC_DRIVE_STS_UP k) && !s.flag (F.NVC_DRIVE_STS_FAILED k)

/-- Extents of a drive that namespaces hold. -/
def State.driveTaken (s : State) (k : Nat) : List Nat :=
  s.store.ns.flatMap (fun p => (p.2.r.stripe.zip p.2.r.extents).flatMap (fun q => if q.1 = k then q.2 else []))

/-- Free extents of a drive, from 1 upward (R517). -/
def State.driveFree (s : State) (k : Nat) : List Nat :=
  match Tab.find? s.store.drives k with
  | none => []
  | some d => let used := s.driveTaken k
    ((List.range d.extents).map (· + 1)).filter (fun e => decide (e ∉ used))

/-- EXTENTS_FREE of every drive as its namespaces leave it (R540). -/
def State.showExtents (s : State) : State :=
  s.store.drives.foldl (fun t p => t.setFld (F.NVC_DRIVE_STS_EXTENTS_FREE p.1) (s.driveFree p.1).length) s

/-- Every change to the namespace table writes the copy with the older generation on every drive, FUA set (R517). -/
def State.writeLabel (s : State) : State :=
  let l : DrvLabel := ⟨s.store.gen + 1, s.store.ns.map (fun p => (p.1, p.2.r))⟩
  let ks := (s.store.drives.map (·.1)).filter (fun k => s.driveUp k && !s.flag (F.NVC_DRIVE_STS_BLANK k))
  let s := s.modStore (fun t => { t with
    gen := t.gen + 1
    drives := t.drives.map (fun p => (p.1, if p.1 ∈ ks then { p.2 with labels := (l :: p.2.labels).take 2 } else p.2)) })
  let s := ks.foldl (fun s k => s.emit (.drive k 2 0 1 [])) s
  s.showExtents

/-! ### Namespaces (R519 to R522) -/

/-- Blocks of a namespace (R519). -/
def nsSize (r : NsRec) : Nat := r.stripe.length * (r.extents.headD []).length * 262144

/-- Where block `l` lies: its drive and the drive's block (R522). -/
def nsPlace (r : NsRec) (l : Nat) : Nat × Nat :=
  let w := r.stripe.length
  let u := l / 32
  let o := u / w * 32 + l % 32
  (r.stripe.getD (u % w) 0, ((r.extents.getD (u % w) []).getD (o / 2 ^ 18) 0) * 262144 + o % 2 ^ 18)

/-- The pieces of a range of blocks that lie together on a drive: first block and count, one piece for each stripe unit
(R522). -/
def pieces (slba nlb : Nat) : List (Nat × Nat) :=
  if nlb = 0 then []
  else (List.range ((slba + nlb - 1) / 32 - slba / 32 + 1)).map (fun i =>
    let lo := max slba ((slba / 32 + i) * 32)
    (lo, min (slba + nlb) ((slba / 32 + i + 1) * 32) - lo))

/-- The XTS key pair of a namespace (R436, R519): derived from the root key, the bound page itself, or derived from the bound
job key page; none where no LOADED page is bound. -/
def State.nsKeyPair (s : State) (n : Nat) (x : Ns) : Option (List Nat) :=
  if x.r.keySource = 0 then some (nsKey rootKeyBytes n (leNats 16 x.r.nonce))
  else match x.page with
    | none => none
    | some i =>
      if s.pageSt i ≠ pageLoaded then none
      else if x.r.keySource = 1 then some (s.page i).key
      else some (ckKey (s.page i).key x.r.job 2)

/-- KCV under a key: the first 8 bytes of a zero block at data unit 2^64 − 1 (R519). -/
def kcvOf (key : List Nat) : List Nat := (xtsUnit true key (2 ^ 64 - 1) (List.replicate 4096 0)).take 8

/-- A namespace takes the state that its key gives (R520); FAILED stays. -/
def State.judgeNs (s : State) (n : Nat) : State :=
  match s.ns? n with
  | none => s
  | some x =>
    let st := if x.st = 3 then 3 else match s.nsKeyPair n x with
      | none => 1
      | some k => if kcvOf k = x.r.kcv then 0 else 2
    s.modNs n (fun x => { x with st := st })

/-- A namespace serves I/O: READY, and its drives answer (R520, R585). -/
def State.nsServes (s : State) (x : Ns) : Bool := x.st = 0 && x.r.stripe.all s.driveUp

/-- The bound page is one that the namespace's owner may use for its TYPE (R439, R520). -/
def State.nsKeyAllowed (s : State) (x : Ns) (u : Nat) (plainSealed : Bool) : Bool :=
  match x.page with
  | none => true
  | some i => s.pageAllows i x.r.owner (if x.r.keySource = 2 then useKdf else u) plainSealed

/-- A block under its namespace's key at data unit `l` (R522). -/
def cipherBlock (key : List Nat) (l : Nat) (bs : List Byte) : List Byte := bytesOf (xtsUnit true key l (natsOf bs))
def plainBlock (key : List Nat) (l : Nat) (bs : List Byte) : List Byte := bytesOf (xtsUnit false key l (natsOf bs))

def zeroBlock : List Byte := List.replicate 4096 0

/-! ### NVMe completions (R513, R514, R528, R529) -/

/-- SCT and SC of R529 as one number; DNR is bit 14. -/
def nvInvalidOpcode : Nat := 0x01
def nvInvalidField : Nat := 0x02
def nvTransfer : Nat := 0x04
def nvInternal : Nat := 0x06
def nvAborted : Nat := 0x07
def nvSqDeleted : Nat := 0x08
def nvInvalidNs : Nat := 0x0B
def nvLbaRange : Nat := 0x80
def nvNotReady : Nat := 0x82
def nvWriteFault : Nat := 0x280
def nvReadError : Nat := 0x281
def nvDenied : Nat := 0x286
def nvDnr : Nat := 0x4000

/-- An interrupt of a completion queue: at once, or merged under Interrupt Coalescing, which spares the admin queue and
the vectors that disable it (R514). -/
def State.nvSignal (s : State) (c q : Nat) : State :=
  let x := s.nvCtrl c
  match Tab.find? x.cqs q with
  | none => s
  | some cq =>
    if !cq.ien then s
    else
      let thr := Tab.getD x.feats 8 0 % 256
      if q = 0 ∨ thr = 0 ∨ (Tab.getD x.feats (0x900 + cq.vec) 0).testBit 16 ∨ thr < cq.agg + 1 then
        (s.modCtrl c (fun x => { x with cqs := Tab.set x.cqs q { cq with agg := 0 } })).sendMsix (ctrlFn c) cq.vec
      else s.modCtrl c (fun x => { x with cqs := Tab.set x.cqs q { cq with agg := cq.agg + 1 } })

/-- Free entries of a completion queue; one stays empty. -/
def NvCq.room (q : NvCq) : Bool := decide ((q.tail + 1) % q.size ≠ q.head)

/-- A completion entry is written, after the command's data (R469, R528). -/
def State.nvWrite (s : State) (c q : Nat) (e : NvCpl) : State :=
  match Tab.find? (s.nvCtrl c).cqs q with
  | none => s
  | some cq =>
    let s := s.emit (.nvme c q e.cid e.status e.result e.data)
    (s.modCtrl c (fun x => { x with cqs := Tab.set x.cqs q { cq with tail := (cq.tail + 1) % cq.size } })).nvSignal c q

/-- A command completes: its entry waits behind earlier ones where the queue is full; without Bus Master Enable it is
discarded (R528, R534). A failure goes to the Error Information log with its LBA (R529). -/
def State.nvPost (s : State) (c : Nat) (e : NvCpl) (lba : Nat) : State :=
  let x := s.nvCtrl c
  let s := if e.status = 0 then s
    else s.modCtrl c (fun x => { x with errLog := ((e.sq, e.cid, e.status, lba) :: x.errLog).take 256 })
  let q := match Tab.find? x.sqs e.sq with | some sq => sq.cq | none => 0
  match Tab.find? x.cqs q with
  | none => s
  | some cq =>
    if !s.busMaster (ctrlFn c) then s
    else if cq.held ≠ [] ∨ !cq.room then
      s.modCtrl c (fun x => { x with cqs := Tab.set x.cqs q { cq with held := cq.held ++ [e] } })
    else s.nvWrite c q e

/-- A command that has no drive work completes. -/
def State.nvDone (s : State) (h : NvHdr) (status : Nat) (result : Nat := 0) (data : List Byte := []) : State :=
  s.nvPost h.ctrl ⟨h.sq, h.cid, status, result, data⟩ 0

/-- An asynchronous event: it completes the oldest request, or waits for one; one of a kind waits (R514). -/
def State.nvEvent (s : State) (c v : Nat) : State :=
  let x := s.nvCtrl c
  match x.aers with
  | [] => if v ∈ x.events then s else s.modCtrl c (fun x => { x with events := x.events ++ [v] })
  | cid :: rest => (s.modCtrl c (fun x => { x with aers := rest })).nvPost c ⟨0, cid, 0, v, []⟩ 0

/-- Asynchronous events: SMART / Health with reliability degraded (R526), and a changed namespace list (R534). -/
def evReliability : Nat := 0x020001
def evNsChanged : Nat := 0x040002

/-- A controller learns that a namespace of its list changed (R534). -/
def State.nsChanged (s : State) (c n : Nat) : State :=
  if c = 0 then s
  else (s.modCtrl c (fun x => { x with changed := if n ∈ x.changed then x.changed else x.changed ++ [n] })).nvEvent c evNsChanged

/-! ### The write buffer (R523 to R526) -/

def wbKey (n l : Nat) : Nat := n * 2 ^ 64 + l

/-- BLOCKS and DESTAGING as the buffer stands (R539). -/
def State.showWb (s : State) : State :=
  (s.setFld F.NVC_WB_STS_BLOCKS s.store.wb.length).setFlag F.NVC_WB_STS_DESTAGING (s.store.wb.any (fun p => p.2.busy))

/-- The lowest place of the buffer that holds no block. -/
def Store.freeSlot (t : Store) : Nat :=
  ((List.range (t.wb.length + 1)).find? (fun i => t.wb.all (fun p => decide (p.2.slot ≠ i)))).getD 0

/-- Whether `nlb` blocks from `slba` find room (R524). -/
def State.wbRoom (s : State) (n slba nlb : Nat) : Bool :=
  decide (s.store.wb.length + ((List.range nlb).filter (fun i =>
    (Tab.find? s.store.wb (wbKey n (slba + i))).isNone)).length ≤ 262144)

/-- An encrypted block takes its place in the buffer, over an older copy (R523). -/
def State.wbPut (s : State) (n l : Nat) (bs : List Byte) : State :=
  let t := s.store
  let (slot, busy) := match Tab.find? t.wb (wbKey n l) with | some e => (e.slot, e.busy) | none => (t.freeSlot, false)
  let s := s.modStore (fun t => { t with wb := Tab.set t.wb (wbKey n l) ⟨slot, t.wbVer, busy, 0⟩, wbVer := t.wbVer + 1 })
  (s.putMem (t.wbBase.getD 0 + 4096 * slot) bs).showWb

/-- The buffered copy of a block, and whether it reads without an uncorrectable error (R529). -/
def State.wbGet (s : State) (e : WbEnt) : State × List Byte × Bool :=
  let (s, bs, f) := s.dmaRead Master.firmware (s.store.wbBase.getD 0 + 4096 * e.slot) 4096
  (s, bs, f.isNone)

/-- A namespace is marked LOST_WRITES (R526). -/
def State.markLost (s : State) (n : Nat) : State :=
  match s.ns? n with
  | none => s
  | some x =>
    let s := (s.modNs n (fun x => { x with r := { x.r with lost := true } })).writeLabel
    let s := (s.count F.NVC_LOST_WRITE_MARKS).raise blkNvc 18 Master.noMaster 0 n
    if x.r.ctrl = 0 then s else s.nvEvent x.r.ctrl evReliability

/-! ### Commands to the drives -/

/-- A command goes to a drive, for `blocks` blocks of namespace `n` from `first`; its data follow it (R522). -/
def State.drvSend (s : State) (op n first blocks : Nat) (use : DrvUse) (bs : List Byte) : State :=
  match s.ns? n with
  | none => s
  | some x =>
    let (k, lba) := nsPlace x.r first
    (s.modStore (fun t => { t with ops := Tab.set t.ops t.nextOp ⟨k, op, first, blocks, n, use⟩, nextOp := t.nextOp + 1 })).emit
      (.drive k op lba blocks bs)

/-- Flush goes to a drive (R533). -/
def State.drvFlush (s : State) (k n : Nat) (use : DrvUse) : State :=
  (s.modStore (fun t => { t with ops := Tab.set t.ops t.nextOp ⟨k, 3, 0, 0, n, use⟩, nextOp := t.nextOp + 1 })).emit
    (.drive k 3 0 0 [])

/-! ### The progress of a command -/

def State.modCmd (s : State) (n : Nat) (f : NvCmd → NvCmd) : State :=
  match Tab.find? s.store.cmds n with
  | some c => s.modStore (fun t => { t with cmds := Tab.set t.cmds n (f c) })
  | none => s

/-- A delete whose namespace has no command and no feed left takes effect: buffered blocks go, nonce and KCV with the
label entry, and the extents are free (R521). -/
def State.settleNs (s : State) (n : Nat) : State :=
  match s.ns? n with
  | none => s
  | some x =>
    let cmds := s.store.cmds.filter (fun p => decide (p.2.ns = n))
    let feeds := s.store.feeds.any (fun p => p.2.feeds.any (fun q => bits q.2.desc 63 32 = n))
    if !x.deleting ∨ feeds ∨ cmds.any (fun p => p.2.op ≠ 0x10D) then s
    else
      let s := (s.modStore (fun t => { t with
        ns := Tab.erase t.ns n, wb := t.wb.filter (fun p => decide (p.1 / 2 ^ 64 ≠ n)),
        cmds := t.cmds.filter (fun p => decide (p.2.ns ≠ n)) })).showWb.writeLabel
      let s := cmds.foldl (fun s p => s.nvPost p.2.ctrl ⟨p.2.sq, p.2.cid, 0, 0, []⟩ 0) s
      x.waiters.foldl (fun s w => s.dictAnswer 2 (w / 2 ^ 32) (w % 2 ^ 32) 0 0 0 []) s

/-- A command whose drive work has ended: Flush goes on to the drives, any other completes (R524, R529, R533). -/
def State.cmdStep (s : State) (n : Nat) : State :=
  match Tab.find? s.store.cmds n with
  | none => s
  | some c =>
    if c.op = 0x10D ∨ c.ops ≠ 0 ∨ c.waits ≠ [] ∨ c.need ≠ [] then s
    else if c.flush ≠ [] then
      c.flush.foldl (fun s k => s.drvFlush k c.ns (.cmd n)) (s.modCmd n (fun c => { c with ops := c.flush.length, flush := [] }))
    else
      let data := if c.op = 2 then (List.range c.nlb).flatMap (fun i => Tab.getD c.got i zeroBlock) else []
      let s := s.modStore (fun t => { t with cmds := Tab.erase t.cmds n })
      (s.nvPost c.ctrl ⟨c.sq, c.cid, c.status, 0, data⟩ c.slba).settleNs c.ns

/-- The blocks of a buffered write enter the buffer, and a clean namespace is marked DIRTY first (R524). -/
def State.bufferBlocks (s : State) (n slba : Nat) (blocks : List (List Byte)) : State :=
  let s := match s.ns? n with
    | some x => if x.r.dirty then s else (s.modNs n (fun x => { x with r := { x.r with dirty := true } })).writeLabel
    | none => s
  (blocks.zipIdx).foldl (fun s b => s.wbPut n (slba + b.2) b.1) s

/-- Writes that wait for room enter the buffer as far as there is room, in the order of their fetch (R524). -/
def State.wbWake (s : State) : State :=
  (s.store.cmds.filter (fun p => decide (p.2.waits ≠ []))).foldl (fun s p =>
    match Tab.find? s.store.cmds p.1 with
    | none => s
    | some c =>
      if s.wbRoom c.ns c.slba c.nlb then
        ((s.modCmd p.1 (fun c => { c with waits := [] })).bufferBlocks c.ns c.slba c.waits).cmdStep p.1
      else s) s

/-- A version of a buffered block needs no destage any more: flushes that cover it go on. -/
def State.wbGone (s : State) (key ver : Nat) : State :=
  let s := s.modStore (fun t => { t with cmds := t.cmds.map (fun p =>
    (p.1, { p.2 with need := p.2.need.filter (fun k => decide (k.1 ≠ key ∨ ver < k.2)) })) })
  s.store.cmds.foldl (fun s p => if p.2.op = 0 then s.cmdStep p.1 else s) s

/-- A buffered block leaves the buffer. -/
def State.wbDrop (s : State) (key ver : Nat) : State :=
  ((s.modStore (fun t => { t with wb := Tab.erase t.wb key })).showWb.wbGone key ver).wbWake

/-- A buffered block goes to its drive (R524); one that cannot be read is lost (R526). -/
def State.destage (s : State) (n l : Nat) : State :=
  match Tab.find? s.store.wb (wbKey n l), s.ns? n with
  | some e, some x =>
    if e.busy ∨ !s.driveUp (nsPlace x.r l).1 ∨ !(s.coreUp 4 || s.power.failing) then s
    else
      let (s, bs, ok) := s.wbGet e
      if ok then
        ((s.modStore (fun t => { t with wb := Tab.set t.wb (wbKey n l) { e with busy := true } })).drvSend 1 n l 1
          (.destage (wbKey n l) e.ver) bs).showWb
      else ((s.wbDrop (wbKey n l) e.ver).raise blkNvc 17 Master.noMaster 0 n).markLost n
  | _, _ => s

/-- The buffered blocks of a namespace, by their key. -/
def State.wbOf (s : State) (n : Nat) : List (Nat × WbEnt) := s.store.wb.filter (fun p => decide (p.1 / 2 ^ 64 = n))

/-- Every buffered block of a namespace goes to its drive. -/
def State.destageNs (s : State) (n : Nat) : State := (s.wbOf n).foldl (fun s p => s.destage n (p.1 % 2 ^ 64)) s

/-- The mode of the write buffer (R525): on leaving ON every buffered block is destaged. -/
def State.judgeWbMode (s : State) : State :=
  let m := if s.store.wbBase.isNone then 0
    else if !s.flag F.PWR_STS_HOLDUP_OK ∨ s.fld F.PWR_STS_BROWNOUT ≠ 0 then 2 else 1
  let old := s.fld F.NVC_WB_STS_MODE
  let s := s.setFld F.NVC_WB_STS_MODE m
  if m ≠ 1 ∧ m ≠ old then s.store.ns.foldl (fun s p => s.destageNs p.1) s else s

/-- A destage ends: the block leaves the buffer unless a newer write replaced it; a failure is tried three times, and then
the write is lost (R524, R526). -/
def State.destaged (s : State) (n key ver : Nat) (ok : Bool) : State :=
  match Tab.find? s.store.wb key with
  | none => s
  | some e =>
    if ok then
      if e.ver = ver then s.wbDrop key ver
      else ((s.modStore (fun t => { t with wb := Tab.set t.wb key { e with busy := false } })).showWb).wbGone key ver
    else if e.ver = ver ∧ 2 ≤ e.tries then
      ((s.wbDrop key ver).raise blkNvc 17 Master.noMaster 0 n).markLost n
    else
      let s := s.modStore (fun t => { t with wb := Tab.set t.wb key { e with busy := false, tries := e.tries + 1 } })
      (s.count F.NVC_DESTAGE_RETRIES).destage n (key % 2 ^ 64)

/-- The first failure of a command stays its status. -/
def NvCmd.fail (c : NvCmd) (status : Nat) : NvCmd := { c with status := if c.status = 0 then status else c.status }

/-- A plaintext block goes to its place in local memory; the flag says that it could. -/
def State.placeBlock (s : State) (dst : Nat) (bs : List Byte) : State × Bool :=
  let (s, f) := s.dmaWrite Master.firmware dst bs
  (s, f.isNone)

/-- A drive command of an NVMe command ends (R522, R529). -/
def State.cmdDrive (s : State) (n : Nat) (o : DrvOp) (ok : Bool) (data : List Byte) : State :=
  match Tab.find? s.store.cmds n, s.ns? o.ns with
  | some c, some x =>
    let s := if ok then s else s.count F.NVC_MEDIA_ERRORS
    let s := s.modCmd n (fun c => { c with ops := c.ops - 1 })
    let s :=
      if !ok then s.modCmd n (fun c => c.fail (if o.op = 0 then nvReadError else nvWriteFault))
      else if o.op = 0 then
        match s.nsKeyPair o.ns x with
        | none => s.modCmd n (fun c => c.fail nvNotReady)
        | some k => s.modCmd n (fun c => { c with got := (List.range o.blocks).foldl (fun g i =>
            Tab.set g (o.first + i - c.slba) (plainBlock k (o.first + i) ((data.drop (4096 * i)).take 4096))) c.got })
      else if o.op = 2 then
        (c.copies.filter (fun k => decide (wbKey o.ns o.first ≤ k.1 ∧ k.1 < wbKey o.ns (o.first + o.blocks)))).foldl (fun s k =>
          match Tab.find? s.store.wb k.1 with
          | some e => if e.ver = k.2 ∧ !e.busy then s.wbDrop k.1 k.2 else s
          | none => s) s
      else s
    s.cmdStep n
  | some _, none => (s.modCmd n (fun c => { c with ops := c.ops - 1 })).cmdStep n
  | none, _ => s

end Sys2Proof.Machine
end

