-- ==== Sys2Proof/Machine/Feeds.lean ====
section
/-!
DEFINITION. Feeds: namespace blocks that a partition reads straight into local memory (R536 to R538, R542).
-/
namespace Sys2Proof.Machine

/-! ### Where allocated memory lies (R486, R537) -/

/-- The place that holds the resources of an owner (R486). -/
def State.ownerPlace (s : State) (owner : Nat) : Place :=
  match s.ownerFn owner with
  | some 0 => .pf0
  | some 1 => .pool
  | some f => .vf f
  | none => .firmware

/-- The place of a granule (R485). -/
def State.granulePlace (s : State) (g : Nat) : Place :=
  if g < 1000 then Tab.getD s.host.pools.hbm g .pool else Tab.getD s.host.pools.shelf (g - 1000) .pool

/-- Whether an address lies in memory that is allocated to an owner, or in a carrel of one of its partition's tiles. -/
def State.addrAllocated (s : State) (owner p a : Nat) : Bool :=
  match regionOf a with
  | .carrel t => s.partHasTile p t
  | .hbm _ => decide (s.granulePlace (granuleOf a) = s.ownerPlace owner)
  | .shelf _ _ => decide (s.granulePlace (granuleOf a) = s.ownerPlace owner)
  | _ => false

/-- A range lies in such memory; what decides changes only at multiples of 64 MiB. -/
def State.rangeAllocated (s : State) (owner p a n : Nat) : Bool :=
  s.addrAllocated owner p a && s.addrAllocated owner p (a + n - 1) &&
    (List.range ((a + n - 1) / 0x4000000 - a / 0x4000000)).all
      (fun i => s.addrAllocated owner p ((a / 0x4000000 + i + 1) * 0x4000000))

/-! ### The ring (R536, R542) -/

def feedRange : Nat := 0x01
def feedRefused : Nat := 0x02
def feedMedium : Nat := 0x03
def feedAddr : Nat := 0x04
def feedCipher : Nat := 0x05
def feedBadDesc : Nat := 0x06
def feedAborted : Nat := 0x07

/-- Masters that may use the ring of partition `p`: its lectern cores and firmware (R536). -/
def State.feedMaster (s : State) (m : Master) (p : Nat) : Bool :=
  isFirmware m || (m.cls = .lectern && s.partHasTile p m.index)

def State.feedBase (s : State) (p : Nat) : Nat := s.fld (F.NVC_FEED_BASE_HI p) * 2 ^ 32 + s.fld (F.NVC_FEED_BASE_LO p)
def State.feedCpl (s : State) (p : Nat) : Nat := s.fld (F.NVC_FEED_CPL_HI p) * 2 ^ 32 + s.fld (F.NVC_FEED_CPL_LO p)

/-- ACTIVE of a ring: enabled, or feeds still running (R542). -/
def State.showFeeds (s : State) (p : Nat) : State :=
  s.setFlag (F.NVC_FEED_CTRL_ACTIVE p) (s.flag (F.NVC_FEED_CTRL_ENABLE p) || !(s.feedRing p).feeds.isEmpty)

/-- A doorbell of a feed ring: PRODUCER, within the ring's size; another master's is discarded as a violation (R64, R292,
R536). -/
def State.feedDoorbell (s : State) (m : Master) (p v : Nat) : State :=
  let r := s.feedRing p
  if !s.feedMaster m p then s.guardViolation blkNvc m (0x04A00000 + 8 * p) true
  else if !s.flag (F.NVC_FEED_CTRL_ENABLE p) ∨
      2 ^ s.fld (F.NVC_FEED_CTRL_RING_LOG2 p) < (v + 2 ^ 32 - r.consumer % 2 ^ 32) % 2 ^ 32 then s
  else s.modFeeds p (fun x => { x with producer := v })

def execFeedDoorbell (m : Master) (p v : Nat) (s : State) : Host.Outcome State Fault Refusal := .next (s.feedDoorbell m p v)

/-- The next descriptor leaves the ring as feed number CONSUMER, with the status known so far (R537). -/
def State.feedTake (s : State) (p status : Nat) : State × Nat × Nat :=
  let r := s.feedRing p
  let a := s.feedBase p + 64 * (r.consumer % 2 ^ s.fld (F.NVC_FEED_CTRL_RING_LOG2 p))
  let (s, bs, f) := s.dmaRead Master.firmware a 64
  let d := ofLe bs
  let st := if status = 0 ∧ f.isSome then feedAddr else status
  let s := s.modFeeds p (fun x => { x with consumer := (x.consumer + 1) % 2 ^ 32, feeds := Tab.set x.feeds x.consumer ⟨d, 0, st⟩ })
  ((s.setFld (F.NVC_FEED_CTRL_CONSUMER p) ((r.consumer + 1) % 2 ^ 14)).showFeeds p, d, r.consumer)

/-- ENABLE of a ring is cleared: feeds not yet started complete ABORTED (R536). -/
def State.feedOff (s : State) (p : Nat) : State :=
  let r := s.feedRing p
  let n := (r.producer + 2 ^ 32 - r.consumer) % 2 ^ 32
  let s := (List.range n).foldl (fun s _ => (s.feedTake p feedAborted).1) s
  (s.setFlag (F.NVC_FEED_CTRL_ENABLE p) false).showFeeds p

/-- ENABLE of a ring is set; its numbers begin anew at 0. -/
def State.feedOn (s : State) (p : Nat) : State :=
  if s.flag (F.NVC_FEED_CTRL_ENABLE p) then s
  else
    let s := if s.flag (F.NVC_FEED_CTRL_ACTIVE p) then s else s.modFeeds p (fun _ => FeedRing.init)
    ((s.setFlag (F.NVC_FEED_CTRL_ENABLE p) true).setFld (F.NVC_FEED_CTRL_CONSUMER p) ((s.feedRing p).consumer % 2 ^ 14)).showFeeds p

/-! ### A feed (R537, R538) -/

/-- The status that stops a feed before its reads (R538). -/
def State.feedStop (s : State) (p d : Nat) : Nat :=
  let nlb := bits d 159 128
  let owner := s.fld (F.MOD_PART_CFG_OWNER p)
  if bits d 7 0 ≠ 1 ∨ bits d 15 15 ≠ 0 ∨ bits d 511 200 ≠ 0 ∨ nlb = 0 ∨ 2 ^ 20 < nlb ∨ bits d 199 160 % 64 ≠ 0 ∨
      (bits d 8 8 = 1 ∧ !s.partHasTile p (bits d 14 11)) then feedBadDesc
  else match s.ns? (bits d 63 32) with
    | none => feedRefused
    | some x =>
      if !s.nsServes x ∨ x.deleting ∨ x.r.feedOwner ≠ some owner then feedRefused
      else if nsSize x.r < bits d 127 64 + nlb then feedRange
      else if !s.rangeAllocated owner p (bits d 199 160) (4096 * nlb) ∨
          (s.firstHole Master.firmware (bits d 199 160) (4096 * nlb)).isSome then feedAddr
      else if !(match x.page with
          | none => true
          | some i => s.pageAllows i owner (if x.r.keySource = 2 then useKdf else useDec)
              (s.rangeSealed (partOwner p) (bits d 199 160) (4096 * nlb))) then feedCipher
      else 0

def State.modFeed (s : State) (p n : Nat) (f : Feed → Feed) : State :=
  s.modFeeds p (fun x => match Tab.find? x.feeds n with
    | some y => { x with feeds := Tab.set x.feeds n (f y) }
    | none => x)

def Feed.fail (x : Feed) (st : Nat) : Feed := { x with status := if x.status = 0 then st else x.status }

/-- A block of a feed goes to its place (R537). -/
def State.feedBlock (s : State) (p n i : Nat) (bs : List Byte) : State :=
  match Tab.find? (s.feedRing p).feeds n with
  | none => s
  | some x =>
    let (s, ok) := s.placeBlock (bits x.desc 199 160 + 4096 * i) bs
    if ok then s else s.modFeed p n (fun x => x.fail feedAddr)

/-- A feed starts: at most 64 of a ring run. What has a buffered copy is placed at once; the rest is read from the drives
(R524, R537). -/
def State.feedStart (s : State) (p : Nat) (engine : Option Nat) : State :=
  let r := s.feedRing p
  if !s.flag (F.NVC_FEED_CTRL_ENABLE p) ∨ r.producer = r.consumer ∨ 64 ≤ r.feeds.length ∨ !s.flag blkNvc.enable ∨ !s.admits then s
  else
    let (s, d, n) := s.feedTake p 0
    let st := match Tab.find? (s.feedRing p).feeds n with | some x => x.status | none => 0
    let st := if st = 0 then s.feedStop p d else st
    let ns := bits d 63 32
    match s.ns? ns, st with
    | some x, 0 =>
      match engine, s.nsKeyPair ns x with
      | some e, _ => (s.engineFault e x.page).modFeed p n (fun x => x.fail feedCipher)
      | none, none => s.modFeed p n (fun x => x.fail feedRefused)
      | none, some k =>
        let slba := bits d 127 64
        let nlb := bits d 159 128
        let held := (s.wbOf ns).filter (fun q => decide (slba ≤ q.1 % 2 ^ 64 ∧ q.1 % 2 ^ 64 < slba + nlb))
        let s := held.foldl (fun s q =>
          let l := q.1 % 2 ^ 64
          let (s, bs, ok) := s.wbGet q.2
          if ok then s.feedBlock p n (l - slba) (plainBlock k l bs) else s.modFeed p n (fun x => x.fail feedMedium)) s
        let ps := (pieces slba nlb).flatMap (fun q => ((List.range q.2).map (q.1 + ·)).filter
          (fun l => held.all (fun h => decide (h.1 % 2 ^ 64 ≠ l))) |> fun ls => ls.foldr (fun l acc => match acc with
            | (b, c) :: rest => if l + 1 = b then (l, c + 1) :: rest else (l, 1) :: (b, c) :: rest
            | [] => [(l, 1)]) [])
        let s := s.modFeed p n (fun x => { x with ops := ps.length })
        ps.foldl (fun s q => s.drvSend 0 ns q.1 q.2 (.feed p n) []) s
    | _, st => s.modFeed p n (fun x => x.fail (if st = 0 then feedRefused else st))

def execFeedRead (p : Nat) (engine : Option Nat) (s : State) : Host.Outcome State Fault Refusal := .next (s.feedStart p engine)

/-- A drive command of a feed ends (R537, R538). -/
def State.feedDrive (s : State) (p n : Nat) (o : DrvOp) (ok : Bool) (data : List Byte) : State :=
  match Tab.find? (s.feedRing p).feeds n with
  | none => s
  | some x =>
    let s := s.modFeed p n (fun x => { x with ops := x.ops - 1 })
    if !ok then (s.count F.NVC_MEDIA_ERRORS).modFeed p n (fun x => x.fail feedMedium)
    else match s.ns? o.ns with
      | none => s.modFeed p n (fun x => x.fail feedRefused)
      | some y =>
        match s.nsKeyPair o.ns y with
        | none => s.modFeed p n (fun x => x.fail feedCipher)
        | some k => (List.range o.blocks).foldl (fun s i =>
            s.feedBlock p n (o.first + i - bits x.desc 127 64) (plainBlock k (o.first + i) ((data.drop (4096 * i)).take 4096))) s

/-- A feed whose reads have ended writes its record; one that failed leaves zeros in its range; one that completed counts
its signal counter (R537, R538, R541). -/
def State.feedEnd (s : State) (p n : Nat) : State :=
  match Tab.find? (s.feedRing p).feeds n with
  | none => s
  | some x =>
    if x.ops ≠ 0 then s
    else
      let d := x.desc
      let len := 4096 * bits d 159 128
      let s := if x.status ∈ [feedMedium, feedCipher, feedRange, feedRefused, feedAborted] ∧
          s.rangeAllocated (s.fld (F.MOD_PART_CFG_OWNER p)) p (bits d 199 160) len then
        s.zeroRange (bits d 199 160) len else s
      let w := (s.feedRing p).written
      let s := s.putMem (s.feedCpl p + 8 * (w % 2 ^ s.fld (F.NVC_FEED_CTRL_RING_LOG2 p)))
        (leBytes 4 x.status ++ leBytes 4 (bits d 31 16))
      let s := s.modFeeds p (fun y => { y with written := y.written + 1, feeds := Tab.erase y.feeds n })
      let s := if x.status = 0 then s.count F.NVC_FEEDS_DONE else s.count F.NVC_FEEDS_FAILED
      let s := if x.status = feedRefused then s.raise blkNvc 20 Master.noMaster (F.NVC_FEED_CTRL_ENABLE p).off n else s
      let s := if x.status = 0 ∧ bits d 8 8 = 1 then s.countWrap (F.TIL_SIG_CNT (bits d 14 11) (bits d 10 9)) else s
      (s.showFeeds p).settleNs (bits d 63 32)

def execFeedComplete (p n : Nat) (s : State) : Host.Outcome State Fault Refusal := .next (s.feedEnd p n)

end Sys2Proof.Machine
end

