-- ==== Sys2Proof/Machine/Cipher.lean ====
section
/-!
DEFINITION. The stream engines and the cipher job rings (R442 to R447).
-/
namespace Sys2Proof.Machine

/-! ### Statuses (R444) and descriptors (R447) -/

def cjOk : Nat := 0
def cjLength : Nat := 1
def cjTag : Nat := 2
def cjRefused : Nat := 3
def cjState : Nat := 4
def cjEngine : Nat := 5
def cjMem : Nat := 6
def cjAddr : Nat := 7
def cjBadDesc : Nat := 8

/-- The fields of a cipher job descriptor (R447). -/
structure CipDesc where
  op : Nat
  notify : Bool
  page : Nat
  ivWords : Nat
  tag : Nat
  src : Nat
  dst : Nat
  aad : Nat
  aadLen : Nat
  len : Nat
  du : Nat
  iv : Nat
  reserved : Nat
deriving DecidableEq, Repr

def cipDesc (d : Nat) : CipDesc :=
  { op := bits d 7 0, notify := d.testBit 8, page := bits d 27 16, ivWords := bits d 31 28, tag := bits d 63 32,
    src := bits d 103 64, dst := bits d 167 128, aad := bits d 231 192, aadLen := bits d 248 232, len := bits d 319 256,
    du := bits d 351 320, iv := bits d 479 384
    reserved := bits d 15 9 + bits d 127 104 + bits d 191 168 + bits d 255 249 + bits d 383 352 + bits d 511 480 }

def opGcmEnc : Nat := 1
def opGcmDec : Nat := 2
def opXtsEnc : Nat := 3
def opXtsDec : Nat := 4
def opSha : Nat := 5

def CipDesc.isGcm (d : CipDesc) : Bool := decide (d.op = opGcmEnc ∨ d.op = opGcmDec)
def CipDesc.isXts (d : CipDesc) : Bool := decide (d.op = opXtsEnc ∨ d.op = opXtsDec)
def CipDesc.isDec (d : CipDesc) : Bool := decide (d.op = opGcmDec ∨ d.op = opXtsDec)

/-- Reserved OP, reserved bits and reserved encodings (R444, R447). -/
def CipDesc.bad (d : CipDesc) : Bool :=
  decide (d.op = 0 ∨ 5 < d.op ∨ d.reserved ≠ 0) || (d.isXts && decide (d.iv / 2 ^ 64 ≠ 0))

/-- The limits of R445. -/
def CipDesc.badLength (d : CipDesc) : Bool :=
  if d.isGcm then decide (d.ivWords ≠ 3 ∨ 68719476704 < d.len ∨ 65536 < d.aadLen)
  else if d.isXts then
    decide (d.du < 4096 ∨ 65536 < d.du ∨ d.du % 16 ≠ 0 ∨ d.len = 0 ∨ d.len % d.du ≠ 0 ∨ d.ivWords ≠ 0 ∨ d.aadLen ≠ 0)
  else decide (d.ivWords ≠ 0 ∨ d.aadLen ≠ 0)

/-- The ranges that a job reads, and the range it writes (R447). -/
def CipDesc.reads (d : CipDesc) : List (Nat × Nat) :=
  [(d.src, d.len + if d.op = opGcmDec then 16 else 0)] ++ if d.isGcm then [(d.aad, d.aadLen)] else []

def CipDesc.writes (d : CipDesc) : Nat × Nat :=
  (d.dst, if d.op = opGcmEnc then d.len + 16 else if d.op = opSha then 48 else d.len)

/-- SRC and DST overlap without being equal, which R447 forbids and for which it gives no result. -/
def CipDesc.overlaps (d : CipDesc) : Bool :=
  let n := (d.writes).2
  d.src ≠ d.dst && decide (d.src < d.dst + n ∧ d.dst < d.src + d.len) && d.op ≠ opSha

/-! ### Rings -/

def State.cipRing (s : State) (r : Nat) : Option CipRing := Tab.find? s.trust.rings r
def State.modRing (s : State) (r : Nat) (f : CipRing → CipRing) : State :=
  match s.cipRing r with
  | some x => s.modTrust (fun t => { t with rings := Tab.set t.rings r (f x) })
  | none => s

/-- The partition whose carrels an OWNER may name; 16 stands for none. -/
def ownerPart (owner : Nat) : Nat := if owner / 0x4000 = 2 then owner % 16 else 16

/-- An engine may reach an address of memory: it is there, and a sealed granule belongs to the partition that owns the
job's key page (R38, R432, R447). -/
def State.cipReach (s : State) (d : CipDesc) (a : Nat) : Bool :=
  s.memPresent Master.firmware a &&
    match s.sealedBy a with
    | none => true
    | some p => d.op ≠ opSha && decide (s.fld (F.KEY_PAGE_STS_OWNER d.page) = partOwner p)

/-- A range of a job is good: in memory of the ring's owner, or anywhere for a firmware ring, and reachable. -/
def State.cipRangeOk (s : State) (owner : Nat) (d : CipDesc) (r : Nat × Nat) : Bool :=
  if r.2 = 0 then true
  else
    (owner = fwOwner || s.rangeAllocated owner (ownerPart owner) r.1 r.2) && s.cipReach d r.1 &&
      s.cipReach d (r.1 + r.2 - 1) &&
      (List.range ((r.1 + r.2 - 1) / 0x4000000 - r.1 / 0x4000000)).all
        (fun i => s.cipReach d ((r.1 / 0x4000000 + i + 1) * 0x4000000))

/-- A job's key is refused: another owner's page, a usage it lacks, a TYPE that does not serve the algorithm, or plaintext
outside sealed memory under SEALED_ONLY (R439). -/
def State.cipKeyBad (s : State) (owner : Nat) (d : CipDesc) : Bool :=
  let plain := if d.isDec then d.writes else (d.src, d.len)
  let pageOwner := s.fld (F.KEY_PAGE_STS_OWNER d.page)
  decide (s.fld (F.KEY_PAGE_STS_TYPE d.page) ≠ if d.isGcm then 0 else 1) ||
    !s.pageAllows d.page owner (if d.isDec then useDec else useEnc)
      (decide (plain.2 = 0) || s.rangeSealed pageOwner plain.1 plain.2)

/-- The checks of a job before its first read; 0 where it may start (R439, R444, R445). -/
def State.cipCheck (s : State) (owner : Nat) (d : CipDesc) : Nat :=
  if d.bad then cjBadDesc
  else if d.badLength then cjLength
  else if !((d.writes :: d.reads).all (s.cipRangeOk owner d)) then cjAddr
  else if d.op = opSha then cjOk
  else if s.pageSt d.page ≠ pageLoaded then cjState
  else if s.cipKeyBad owner d then cjRefused
  else cjOk

/-- What a job's engine comes to: its status, the output bytes released to the destination, and the tag or digest. -/
structure CipOut where
  status : Nat
  out : List Byte
  tail : List Byte
deriving DecidableEq, Repr

/-- Whole 64-byte units of a byte string. -/
def cipUnits (bs : List Byte) : List Byte := bs.take (bs.length / 64 * 64)

/-- The output of the algorithm over input bytes (R447): data, and the tag or digest. -/
def cipAlgorithm (d : CipDesc) (key : List Nat) (aad data : List Byte) : List Byte × List Byte :=
  let iv := leNats 12 d.iv
  let x := natsOf data
  if d.op = opGcmEnc then
    let ct := gcmCtr key iv x
    (bytesOf ct, bytesOf (gcmTag key iv (natsOf aad) ct))
  else if d.op = opGcmDec then (bytesOf (gcmCtr key iv x), bytesOf (gcmTag key iv (natsOf aad) x))
  else if d.isXts then (bytesOf (xtsRange (d.op = opXtsEnc) key d.du (d.iv % 2 ^ 64) x), [])
  else ([], bytesOf (sha384 x))

/-- A job runs on its engine: an uncorrectable read ends it with the units before it; a mismatch with those that matched
(R443, R444). -/
def State.cipRun (s : State) (d : CipDesc) (bad : Option (Nat × Nat)) : State × CipOut :=
  let m := Master.firmware
  let key := if d.op = opSha then [] else (s.page d.page).key
  let (s, aad, e1) := if d.isGcm then s.dmaRead m d.aad d.aadLen else (s, [], none)
  let (s, data, e2) := s.dmaRead m d.src d.len
  let (s, want, e3) := if d.op = opGcmDec then s.dmaRead m (d.src + d.len) 16 else (s, [], none)
  let (out, tail) := cipAlgorithm d key aad data
  let (s, out) := if d.overlaps then (s.drew, leBytes out.length s.freeNat) else (s, out)
  match bad with
  | some (_, n) => (s, ⟨cjEngine, out.take (64 * n), []⟩)
  | none =>
    if e1.isSome then (s, ⟨cjMem, [], []⟩)
    else if e2.isSome ∨ e3.isSome then (s, ⟨cjMem, cipUnits out, []⟩)
    else if d.op = opGcmDec ∧ tail ≠ want then (s, ⟨cjTag, out, []⟩)
    else (s, ⟨cjOk, out, if d.op = opGcmDec then [] else tail⟩)

/-- What follows a status at its job's start: the counters, the security events, the quarantine (R439, R443, R445). -/
def State.cipOutcome (s : State) (owner : Nat) (d : CipDesc) (bad : Option (Nat × Nat)) (status : Nat) : State :=
  let page := if d.op = opSha then none else some d.page
  if status = cjLength then s.count F.CIP_LENGTH_CNT
  else if status = cjTag then (s.count F.CIP_TAG_FAIL_CNT).secEvent owner d.page 4
  else if status = cjRefused then s.keyRefused owner d.page
  else if status = cjEngine then
    match bad with
    | some (e, _) =>
      let s := s.engineFault e page
      if page.isNone then s.secEvent owner e 1 else s
    | none => s
  else s

/-- Jobs of a ring that may be in progress at once (R446). -/
def cipDepth : Nat := 8

/-- A ring may start its next job. -/
def State.cipReady (s : State) (x : CipRing) : Bool :=
  decide (x.jobs.length < cipDepth) && decide (x.producer ≠ x.consumer) && !s.ownerMoving x.owner && !s.power.failing &&
    decide (s.fld F.CIP_ENGINE_STS_PARKED ≠ 0xFFFFFFFF)

/-- The next job of ring `r` starts, where its OP is the command's, or is reserved (R446, R447). -/
def State.cipStart (s : State) (r op : Nat) (bad : Option (Nat × Nat)) : State :=
  match s.cipRing r with
  | none => s
  | some x =>
    if !s.cipReady x then s
    else
      let (s, bs, e) := s.dmaRead Master.firmware (x.base + 64 * (x.consumer % 2 ^ x.log2)) 64
      let w := ofLe bs
      let d := cipDesc w
      let known := decide (1 ≤ d.op ∧ d.op ≤ 5)
      if known && decide (d.op ≠ op) && e.isNone then s
      else
        let st := if e.isSome then cjMem else s.cipCheck x.owner d
        let (s, o) := if st = cjOk then s.cipRun d bad else (s, ⟨st, [], []⟩)
        let s := if o.out = [] then s else (s.dmaWrite Master.firmware d.dst o.out).1
        let s := s.modRing r (fun x => { x with
          consumer := (x.consumer + 1) % 2 ^ 32
          jobs := x.jobs ++ [⟨x.consumer, w, o.tail, if d.op = opSha then none else some d.page, o.status⟩] })
        s.cipOutcome x.owner d bad o.status

/-- A decryption with these outcomes leaves its destination zeroed (R444). -/
def cjZeroes (status : Nat) : Bool := decide (status = cjTag ∨ status = cjState ∨ status = cjEngine ∨ status = cjMem)

/-- The oldest job of a ring completes: its tag or digest is written, or the destination of a failed decryption is zeroed,
and then its record and its event are posted (R444, R446, R472). -/
def State.cipComplete (s : State) (r : Nat) : State :=
  match s.cipRing r with
  | none => s
  | some x =>
    match x.jobs with
    | [] => s
    | j :: rest =>
      let d := cipDesc j.desc
      let m := Master.firmware
      let s :=
        if j.status = cjOk ∧ j.tail ≠ [] then
          (s.dmaWrite m (if d.op = opSha then d.dst else d.dst + d.len) j.tail).1
        else if d.isDec && cjZeroes j.status then (s.dmaWrite m d.dst (List.replicate d.len 0)).1
        else s
      let s := (s.dmaWrite m (x.cpl + 8 * (x.written % 2 ^ x.log2)) (leBytes 4 j.status ++ leBytes 4 d.tag)).1
      let s := s.modRing r (fun x => { x with jobs := rest, written := x.written + 1 })
      if d.notify then s.postOwner x.owner 3 j.status r (Config.eventDetail 3 j.status r) x.vec else s

/-- Register-space offset of a ring's doorbell (R446). -/
def cipDoorbellOff (r : Nat) : Nat := 0x04800000 + 8 * r

/-- A doorbell of a ring, by the rules of R292: the owner or firmware sets PRODUCER within the ring's size. -/
def State.cipDoorbell (s : State) (m : Master) (r v : Nat) : State :=
  match s.cipRing r with
  | none => if isFirmware m then s else s.guardViolation blkCip m (cipDoorbellOff r) true
  | some x =>
    if !s.ownsOrFw m x.owner then s.guardViolation blkCip m (cipDoorbellOff r) true
    else if 2 ^ x.log2 < (v + 2 ^ 32 - x.consumer) % 2 ^ 32 then s
    else s.modRing r (fun x => { x with producer := v % 2 ^ 32 })

/-- The self-test of an engine ends: it returns, or is parked until the next start (R443). -/
def State.selfTestDone (s : State) (e : Nat) (ok : Bool) : State :=
  if e ∉ s.trust.selfTest then s
  else
    let s := s.modTrust (fun t => { t with selfTest := t.selfTest.erase e })
    if ok then s else (s.setMaskBit F.CIP_ENGINE_STS_PARKED e true).raise blkCip 17 Master.noMaster F.CIP_ENGINE_STS_PARKED.off e

/-! ### The commands -/

/-- CIPHER_DOORBELL (R446). -/
def execCipherDoorbell (m : Master) (r v : Nat) (s : State) : Host.Outcome State Fault Refusal := .next (s.cipDoorbell m r v)
/-- GCM_ENC (R447). -/
def execGcmEnc (r : Nat) (bad : Option (Nat × Nat)) (s : State) : Host.Outcome State Fault Refusal := .next (s.cipStart r opGcmEnc bad)
/-- GCM_DEC (R447). -/
def execGcmDec (r : Nat) (bad : Option (Nat × Nat)) (s : State) : Host.Outcome State Fault Refusal := .next (s.cipStart r opGcmDec bad)
/-- XTS_ENC (R447). -/
def execXtsEnc (r : Nat) (bad : Option (Nat × Nat)) (s : State) : Host.Outcome State Fault Refusal := .next (s.cipStart r opXtsEnc bad)
/-- XTS_DEC (R447). -/
def execXtsDec (r : Nat) (bad : Option (Nat × Nat)) (s : State) : Host.Outcome State Fault Refusal := .next (s.cipStart r opXtsDec bad)
/-- SHA384 (R447). -/
def execSha384Job (r : Nat) (bad : Option (Nat × Nat)) (s : State) : Host.Outcome State Fault Refusal := .next (s.cipStart r opSha bad)
/-- CIPHER_JOB_COMPLETE (R446). -/
def execCipherJobComplete (r : Nat) (s : State) : Host.Outcome State Fault Refusal := .next (s.cipComplete r)
/-- ENGINE_SELF_TEST_DONE (R443). -/
def execEngineSelfTestDone (e : Nat) (ok : Bool) (s : State) : Host.Outcome State Fault Refusal := .next (s.selfTestDone e ok)

end Sys2Proof.Machine
end

