-- ==== Sys2Proof/Machine/BlockOps.lean ====
section
/-!
DEFINITION. Enabling and disabling a block, and the drain of the tiles of a partition (R56, R62, R130, R346).
-/
namespace Sys2Proof.Machine

/-- ENABLE is written 1: a drain is cancelled; else ACTIVE sets, after a pass where CRC_CHECK is 1 (R56, R62). -/
def State.blockOn (s : State) (b : Blk) : State :=
  if s.flag b.enable then s
  else
    let s := s.setFlag b.enable true
    if s.flag b.active ∨ s.flag b.crcCheck then s else s.setFlag b.active true

/-- ENABLE is written 0 at a tile: its unissued commands end, and it drains (R130). -/
def State.tileOff (s : State) (t : Nat) : State :=
  if s.flag (blkTil t).enable then (s.setFlag (blkTil t).enable false).tileDrain t else s

/-- A lectern core is held (R344, R346). -/
def State.holdCore (s : State) (t : Nat) : State := s.modCore t (fun x => { x with st := .held, wait := .none })

def maskTiles (m : Nat) : List Nat := setBitsOf 16 m

/-- ACTIVE of a disabled partition falls when its last tile is OFF, and its lectern cores are held (R346). -/
def State.partSettle (s : State) (p : Nat) : State :=
  let ts := maskTiles (s.fld (F.MOD_PART_TILES_TILES p))
  if s.flag (F.MOD_PART_CFG_ENABLE p) ∨ !s.flag (F.MOD_PART_CFG_ACTIVE p) ∨ ts.any (fun t => s.flag (blkTil t).active) then s
  else ts.foldl State.holdCore (s.setFlag (F.MOD_PART_CFG_ACTIVE p) false)

/-- A tile that has drained reaches OFF (R128, R130). -/
def State.tileDrained (s : State) (t : Nat) : State :=
  if s.flag (blkTil t).enable ∨ (s.tile t).issued ≠ [] then s
  else (List.range 16).foldl State.partSettle (s.setFlag (blkTil t).active false)

end Sys2Proof.Machine
end

