-- ==== Sys2Proof/Machine/LinkOps.lean ====
section
/-!
DEFINITION. The router's choice of an egress, and what several commands of a link share: leaving ACTIVE, failing to train,
the receiver's sequence and frames (R230 to R249, R256 to R263).
-/
namespace Sys2Proof.Machine

/-! ### The router (R256 to R262) -/

/-- Classes of R255: 0 request, 1 response, 2 collective, 3 control; none for a reserved opcode. -/
def opClass (op : Nat) : Option Nat :=
  if 1 ≤ op ∧ op ≤ 6 then some 0
  else if 8 ≤ op ∧ op ≤ 0xB then some 1
  else if 0x10 ≤ op ∧ op ≤ 0x13 then some 2
  else if op = 0x20 ∨ op = 0x21 then some 3
  else none

/-- Whether a VC belongs to a class (R250). -/
def vcInClass (vc : Nat) : Nat → Bool
  | 0 => decide (vc < 3)
  | 1 => decide (3 ≤ vc ∧ vc < 6)
  | 2 => decide (vc = 6)
  | _ => decide (vc = 7)

/-- The level of a request or response VC (R250). -/
def vcLevel (vc : Nat) : Nat := if vc < 6 then vc % 3 else 0

/-- A header that a router discards (R256). The header does not carry the hall-class links crossed: a level is refused
where it exceeds the links crossed, or is 0 after a hall-class link. -/
def State.badHeader (s : State) (p : Packet) (arr : Option Nat) : Bool :=
  match opClass p.opcode with
  | none => true
  | some c =>
    !vcInClass p.vc c || decide (4096 < p.length) || decide (p.payload.length ≠ p.length) || decide (p.reserved ≠ 0) ||
      (c < 2 && (decide (p.hops < vcLevel p.vc) ||
        (match arr with
         | some n => s.fld (F.MYL_CFG_LINK_CLASS n) = 2 && vcLevel p.vc = 0
         | none => false)))

/-- A discard is counted; HOP_LIMIT, LEVEL_LIMIT and UNREACHABLE, and a bad header, set their bit and post an event
(R256, R262, R667). -/
def State.discard (s : State) (reason : Nat) (p : Packet) (arr : Option Nat) : State :=
  let s := s.count (F.MYR_DISC_CNT reason)
  let off := (F.MYR_DISC_CNT reason).off
  if reason = 4 then s
  else s.raise blkMyr (16 + reason) Master.noMaster off (p.dst % 2 ^ 20 + (arr.getD 0x3F) % 64 * 2 ^ 20)

/-- Word `w` of entry `e` of a table of the bank in use; the local table lies 0x4_0000 above the group table (R263,
R283). -/
def State.routeWord (s : State) (localTable : Bool) (e w : Nat) : Nat :=
  let j := (if localTable then 0x10000 else 0) + 4 * e + w
  s.fld (if s.flag F.MYR_ROUTE_CTRL_ACTIVE_BANK then F.MYR_BANK1 j else F.MYR_BANK0 j)

/-- The eligible links of an entry: its mask where it is VALID, and the up mask (R258, R259). -/
def State.entryLinks (s : State) (localTable : Bool) (e : Nat) : List Nat :=
  let w1 := s.routeWord localTable e 1
  if w1.testBit 16 then
    (setBitsOf 48 (s.routeWord localTable e 0 + w1 % 2 ^ 16 * 2 ^ 32)).filter (fun n => s.linkUp n)
  else []

/-- The group of a module (R258). -/
def State.groupOf (s : State) (m : Nat) : Nat := m / 2 ^ s.fld F.MYR_ROUTE_CTRL_GROUP_SHIFT

/-- VIA_VALID is cleared in the intermediate group (R259). -/
def State.clearVia (s : State) (p : Packet) : Packet :=
  if p.viaValid && decide (s.groupOf s.ownModule = p.viaGroup) then { p with viaValid := false } else p

/-- The eligible links of a packet (R259). -/
def State.eligible (s : State) (p : Packet) : List Nat :=
  let g := s.groupOf p.dst
  if p.viaValid then s.entryLinks false p.viaGroup
  else if g = s.groupOf s.ownModule then s.entryLinks true (p.dst % 2 ^ s.fld F.MYR_ROUTE_CTRL_GROUP_SHIFT)
  else s.entryLinks false g

/-- Flits queued on a link for a VC. -/
def State.queuedFlits (s : State) (n vc : Nat) : Nat :=
  (((s.lnk n).txq.filter (fun p => p.vc = vc)).map (fun p => flitsFor p.payload.length)).foldl (· + ·) 0

/-- Free credits of a link for a VC (R251). -/
def State.freeCredits (s : State) (n vc : Nat) : Nat :=
  let l := s.lnk n
  (80 - min (l.used.getD vc 0) 80) + (2432 - min (sharedUse l.used) 2432)

/-- The links a packet prefers: those on its arrival half, unless each holds more than CROSS_THRESH flits for the VC; a
packet from this module has no arrival half (R259). -/
def State.preferred (s : State) (p : Packet) (arr : Option Nat) (el : List Nat) : List Nat :=
  match arr with
  | none => el
  | some a =>
    let half := el.filter (fun n => decide (n / 24 = a / 24))
    if half = [] ∨ half.all (fun n => decide (s.fld F.MYR_CFG_CROSS_THRESH < s.queuedFlits n p.vc)) then el else half

/-- The link with the most free credits, ties by round robin after the link taken last (R259). -/
def State.mostCredits (s : State) (vc : Nat) (l : List Nat) : Option Nat :=
  let best := l.foldl (fun a n => max a (s.freeCredits n vc)) 0
  let ties := l.filter (fun n => decide (s.freeCredits n vc = best))
  match ties.find? (fun n => decide (s.lastLink < n)) with
  | some n => some n
  | none => ties.head?

/-- The minimal egress of a packet (R259). -/
def State.minimalEgress (s : State) (p : Packet) (arr : Option Nat) : Option Nat :=
  let pref := s.preferred p arr (s.eligible p)
  if p.policy = 2 then pref[Config.routeHash p.src p.msgId % pref.length]? else s.mostCredits p.vc pref

/-- The packet and its egress; a POLICY 1 packet of this module to another group may take an intermediate group
(R259, R260). -/
def State.egress (s : State) (p : Packet) (arr : Option Nat) : Packet × Option Nat :=
  let p := s.clearVia p
  match s.minimalEgress p arr with
  | none => (p, none)
  | some n =>
    let k := s.fld F.MYR_CFG_VIA_CNT
    if p.policy = 1 ∧ arr = none ∧ s.groupOf p.dst ≠ s.groupOf s.ownModule ∧ k ≠ 0 ∧
        s.fld F.MYR_CFG_NONMIN_THRESH < s.queuedFlits n p.vc then
      let g := s.fld (F.MYR_VIA_LIST_GROUP (Config.viaHash p.src p.msgId p.offset % k))
      let q := s.clearVia { p with viaValid := true, viaGroup := g }
      (q, s.minimalEgress q arr)
    else (p, some n)

/-- A packet leaves over a link: HOPS rises, and over a hall-class link its level and VC (R260, R262). -/
def State.leaveOver (s : State) (p : Packet) (arr : Option Nat) (n : Nat) : State :=
  let hall := s.fld (F.MYL_CFG_LINK_CLASS n) = 2 ∧ p.vc < 6
  if hall ∧ vcLevel p.vc = 2 then s.discard 2 p arr
  else
    let q := { p with hops := (p.hops + 1) % 8, vc := if hall then p.vc + 1 else p.vc }
    { s with lastLink := n }.linkSend n q

/-- A packet at a router head: checked, delivered, routed, or held while no link is eligible (R256, R259, R262). -/
def State.route (s : State) (p : Packet) (arr : Option Nat) : State :=
  if s.badHeader p arr then s.discard 0 p arr
  else if p.dst = s.ownModule then s.emit (.deliver p)
  else if arr.isSome ∧ p.hops = 7 then s.discard 1 p arr
  else
    match s.egress p arr with
    | (q, some n) => s.leaveOver q arr n
    | (q, none) => { s with unreach := s.unreach ++ [(q, arr)] }

/-- Packets that waited for a link choose again (R262). -/
def State.routeWaiting (s : State) : State :=
  s.unreach.foldl (fun s p => s.route p.1 p.2) { s with unreach := [] }

/-! ### Link states (R230, R234) -/

def linkDisabled : Nat := 0
def linkDetect : Nat := 1
def linkNegotiate : Nat := 2
def linkTrain : Nat := 3
def linkKeyx : Nat := 4
def linkActive : Nat := 5
def linkRetrain : Nat := 6
def linkFault : Nat := 7
def linkEddy : Nat := 8

def State.linkSt (s : State) (n : Nat) : Nat := s.fld (F.MYL_STS_STATE n)
def State.setLinkSt (s : State) (n v : Nat) : State := s.setFld (F.MYL_STS_STATE n) v
def State.setReason (s : State) (n v : Nat) : State := s.setFld (F.MYL_STS_REASON n) v

/-- Bit `n` of the up mask (R280). -/
def State.setUp (s : State) (n : Nat) (on : Bool) : State :=
  if n < 32 then s.setMaskBit F.MYR_UP_LO n on else s.setMaskBit F.MYR_UP_HI (n - 32) on

/-- Bandwidth of the mode in use, in Gbit/s (R227, R228). -/
def State.linkBw (s : State) (n : Nat) : Nat :=
  let r := s.fld (F.MYL_STS_RATE n)
  let w := s.fld (F.MYL_STS_WIDTH n)
  if r = 0 ∨ w = 0 then 0 else 50 * 2 ^ (r - 1) * 2 ^ (w - 1)

/-- Transmitter and receiver start afresh; the partner and the attempts stay. -/
def Link.fresh (l : Link) : Link :=
  { Link.init with attempts := l.attempts, lastBw := l.lastBw, partner := l.partner, cands := l.cands, fec := l.fec,
                   finFired := l.finFired, farLoop := l.farLoop }

/-- Barrier groups whose parent or child link this is break (R328). -/
def State.breakGroups (s : State) (n : Nat) : State :=
  (List.range 4096).foldl (fun s g =>
    if !s.flag (F.GMA_BAR_CFG_ENABLE g) then s
    else if (!s.flag (F.GMA_BAR_CFG_ROOT g) && decide (s.fld (F.GMA_BAR_CFG_PARENT g) = n)) || decide (n ∈ s.barChildren g) then
      s.barBreak g (some n)
    else s) s

/-- A link leaves ACTIVE into `st`: out of the up mask in the same cycle, its buffers discarded, truncated packets ended
and counted, and packets that had not begun transmission choose again (R243, R262, R269). -/
def State.dropLink (s : State) (n st : Nat) : State :=
  let s := s.finRelease n
  let l := s.lnk n
  let s := (s.setUp n false).modLink n (fun l => { l.fresh with lastBw := s.linkBw n })
  let s := ((s.count (F.MYL_DOWN_CNT n)).setLinkSt n st)
  let s := (l.rxPkt.filter (fun p => decide (p.2 ≠ []))).foldl (fun s _ => s.count (F.MYR_DISC_CNT 4)) s
  let s := s.breakGroups n
  l.txq.foldl (fun s p => s.route p none) s

/-- An event of R234: the link leaves ACTIVE for RETRAIN, or for FAULT without AUTO_RETRAIN. -/
def State.leaveActive (s : State) (n reason : Nat) : State :=
  if s.linkSt n ≠ linkActive then s
  else
    let auto := s.flag (F.MYL_CFG_AUTO_RETRAIN n)
    let s := (s.setReason n reason).raise (blkMyl n) 16
    let s := s.dropLink n (if auto then linkRetrain else linkFault)
    s.modLink n (fun l => { l with attempts := ofBool auto })

/-- Training fails: an attempt to come back goes to RETRAIN again, else the link is in FAULT (R230, R234). -/
def State.trainFail (s : State) (n reason : Nat) : State :=
  let s := s.setReason n reason
  if (s.lnk n).attempts = 0 then s.setLinkSt n linkFault
  else (s.setLinkSt n linkRetrain).modLink n (fun l => { l with attempts := l.attempts + 1 })

/-- ENABLE of a link is written 1: DETECT, or EDDY with a MODE (R230, R266). -/
def State.linkEnable (s : State) (n : Nat) : State :=
  let s := s.modLink n (fun _ => Link.init)
  if s.fld (F.MYL_EDDY_MODE n) = 0 then s.setLinkSt n linkDetect else s.setLinkSt n linkEddy

/-- ENABLE of a link is written 0: an ACTIVE link is no longer selected and drains; any other is DISABLED (R235). The
flag says that it drains. -/
def State.linkDisable (s : State) (n : Nat) : State × Bool :=
  if s.linkSt n = linkActive then (s.setUp n false, true)
  else ((s.setLinkSt n linkDisabled).modLink n (fun _ => Link.init), false)

/-! ### The receiver (R240 to R246) -/

/-- A flit is discarded, and RETRY asks for the next SEQ once (R241). -/
def State.rxBad (s : State) (n : Nat) : State :=
  let l := s.lnk n
  if l.retry.isSome then s
  else (s.modLink n (fun l => { l with retry := some (l.rxSeq, 1) })).sendRetry n l.rxSeq

/-- ACK covers the replay buffer up to its SEQ; a KEY_SWITCH that is covered ends the pending switch (R240, R248). -/
def State.rxAck (s : State) (n ack : Nat) : State :=
  let l := s.lnk n
  if l.replay.any (fun r => r.1 = ack) then
    let rest := (l.replay.dropWhile (fun r => decide (r.1 ≠ ack))).drop 1
    let sw := l.switchSeq.filter (fun q => rest.any (fun r => r.1 = q))
    (s.modLink n (fun l => { l with replay := rest, switchSeq := sw })).pumpLink n
  else s

/-- The control word and body of received bytes. -/
def rxCtrl (bs : List Byte) : Nat := leAt bs 0 4
def rxBody (bs : List Byte) : List Nat := natsOf ((bs.drop 4).take 56)

/-- A sequenced flit is received on an ACTIVE link: the CRC (a reserved type or subtype counts as a failure of it), then
the sequence; an accepted flit joins the open frame (R239 to R241). `ok` says whether the bytes are of the kind that the
command names; else nothing happens. -/
def State.rxSeqFlit (s : State) (n : Nat) (bs : List Byte) (ok : Bool) (k : State → FrameFlit → State) : State :=
  if s.linkSt n ≠ linkActive then s
  else
    let c := rxCtrl bs
    let good := decide (crc32c (bs.take 60) = leAt bs 60 4) && decide (bits c 31 30 ≠ 3) &&
      !(bits c 31 30 = 1 && decide (4 < leAt bs 4 1))
    if !good then (s.count (F.MYL_CRC_ERR n)).rxBad n
    else if !ok then s
    else if bits c 23 12 ≠ (s.lnk n).rxSeq then s.rxBad n
    else
      let f : FrameFlit := ⟨c - c % 4096, rxBody bs, bits c 31 30 = 0⟩
      let s := s.modLink n (fun l => { l with
        rxFirst := if l.rxFrame = [] then l.rxSeq else l.rxFirst, rxSeq := (l.rxSeq + 1) % 4096, retry := none })
      (k s f).rxAck n (c % 4096)

/-- A flit of the open frame waits for its TAG. -/
def State.rxHold (s : State) (n : Nat) (f : FrameFlit) : State :=
  s.modLink n (fun l => { l with rxFrame := l.rxFrame ++ [f] })

/-- A DATA body of an authenticated frame joins its packet; the last one hands the packet to the router, or ends an aborted
one (R237, R262). -/
def State.rxRelease (s : State) (n : Nat) (c : Nat) (body : List Nat) : State :=
  let vc := bits c 29 27
  let l := s.lnk n
  let bs := (if bit c 26 then [] else Tab.getD l.rxPkt vc []) ++ bytesOf body
  let s := s.modLink n (fun l => { l with owed := listSet l.owed vc (l.owed.getD vc 0 + 1) })
  if !bit c 25 then s.modLink n (fun l => { l with rxPkt := Tab.set l.rxPkt vc bs })
  else
    let s := s.modLink n (fun l => { l with rxPkt := Tab.erase l.rxPkt vc })
    if bit c 24 then s.count (F.MYR_DISC_CNT 4) else s.emit (.arrive n (pktOfBytes bs))

/-- Credits return: flits of each VC that the partner has given back (R239, R251). -/
def Link.returned (l : Link) (body : List Nat) : Link :=
  { l with used := l.used.zipIdx.map (fun u => u.1 - ofLeNats ((body.drop (28 + 2 * u.2)).take 2)) }

/-- The receiver moves to an epoch, with the new master secret where one waits (R248, R249). -/
def State.rxSwitch (s : State) (n epoch : Nat) : State :=
  (s.setFld (F.MYL_RX_EPOCH n) epoch).modLink n (fun l => { l with
    rxCount := 0, rxSecret := l.rxNext.getD l.rxSecret, rxNext := none })

/-- What the CONTROL flits of an authenticated frame do: KEY_SWITCH and DOWN (R239, R245). -/
def State.rxControl (s : State) (n : Nat) (f : FrameFlit) : State :=
  match f.body.headD 0 with
  | 2 => s.rxSwitch n (ofLeNats ((f.body.drop 4).take 4))
  | 3 => s.leaveActive n 11
  | _ => s

/-- A TAG closes the frame: authentic, it is released with its credits and acknowledged; else it is discarded whole and
asked for again, and a second failure of the same frame retrains (R240, R245, R246). -/
def State.rxTag (s : State) (n : Nat) (tag : FrameFlit) : State :=
  let l := s.lnk n
  let (key, iv) := s.rxKeyIv n
  let fr := l.rxFrame
  let want := gcmTag key iv (frameAad fr tag) (dataOf fr)
  if want = (tag.body.drop 12).take 16 then
    let plain := chunksOf 56 (gcmCtr key iv (dataOf fr))
    let s := s.modLink n (fun l => { l.returned tag.body with
      rxFrame := [], rxCount := l.rxCount + 1, tagFailed := none, ackOut := bits tag.ctrl 23 12 })
    let s := (((fr.filter (·.isData)).map (·.ctrl)).zip plain).foldl (fun s p => s.rxRelease n p.1 p.2) s
    let s := (fr.filter (fun f => !f.isData)).foldl (fun s f => s.rxControl n f) s
    let s := s.pumpLink n
    let owed : Nat := (s.lnk n).owed.foldl (fun a b => a + b) 0
    if decide (s.linkSt n = linkActive) && (s.lnk n).txFrame.isEmpty && decide (64 ≤ owed) then s.closeFrame n else s
  else
    let s := ((s.count (F.MYL_TAG_FAIL n)).raise (blkMyl n) 18).secEvent fwOwner n 9
    if l.tagFailed = some l.rxFirst then s.leaveActive n 9
    else
      let first := if fr = [] then bits tag.ctrl 23 12 else l.rxFirst
      (s.modLink n (fun l => { l with
        rxFrame := [], rxSeq := first, tagFailed := some first, retry := some (first, 1) })).sendRetry n first

/-! ### Epochs (R248) -/

/-- The transmitter moves to the next epoch: KEY_SWITCH in the last frame of the old one; no switch while one is
pending (R248). -/
def State.txSwitch (s : State) (n : Nat) : State :=
  let l := s.lnk n
  if l.switchSeq.isSome then s
  else
    let e := (s.fld (F.MYL_TX_EPOCH n) + 1) % 2 ^ 32
    let s := s.modLink n (fun l => { l with switchSeq := some l.txSeq, forceAgain := false })
    let s := s.sendControl n ([2, 0, 0, 0] ++ leNats 4 e)
    let s := s.setFld (F.MYL_TX_EPOCH n) e
    let s := s.modLink n (fun l => { l with txCount := 0, txSecret := l.txNext.getD l.txSecret, txNext := none })
    s.setFlag (F.MYL_REKEY_FORCE n) false

/-- FORCE is written 1: a switch now, or one more after the pending one (R248, R275). -/
def State.rekeyForce (s : State) (n : Nat) : State :=
  if s.linkSt n ≠ linkActive then s.setFlag (F.MYL_REKEY_FORCE n) true
  else if (s.lnk n).switchSeq.isSome then
    (s.setFlag (F.MYL_REKEY_FORCE n) true).modLink n (fun l => { l with forceAgain := true })
  else s.txSwitch n

/-- The switch that waited for the pending one. -/
def State.switchAgain (s : State) (n : Nat) : State :=
  if (s.lnk n).forceAgain ∧ (s.lnk n).switchSeq.isNone then s.txSwitch n else s

end Sys2Proof.Machine
end

