-- ==== Sys2Proof/Machine/Objects.lean ====
section
/-!
DEFINITION. The objects of the dictionary (R624 to R628), written from the tables of the chapters: R226, R286, R343, R362,
R384, R431, R460, R484, R512, R544, R578, R596, R623, R642, R666.
-/
namespace Sys2Proof.Machine

/-- The types of values (R626). -/
inductive ObjTy where
  | bool | u8 | u16 | u32 | u64 | i32 | i64 | f32 | str | octets (n : Nat) | domain
deriving DecidableEq, Repr

/-- The type's code. -/
def ObjTy.code : ObjTy → Nat
  | .bool => 1 | .u8 => 2 | .u16 => 3 | .u32 => 4 | .u64 => 5 | .i32 => 6 | .i64 => 7 | .f32 => 8 | .str => 9
  | .octets _ => 10 | .domain => 11

/-- Bytes of a type with a fixed length. -/
def ObjTy.size : ObjTy → Option Nat
  | .bool => some 1 | .u8 => some 1 | .u16 => some 2 | .u32 => some 4 | .u64 => some 8 | .i32 => some 4 | .i64 => some 8
  | .f32 => some 4 | .octets n => some n | .str => none | .domain => none

/-- The greatest length of a type. -/
def ObjTy.most (t : ObjTy) : Nat := match t with | .str => 255 | .domain => 67108864 | t => t.size.getD 0

/-- Objects of one index with the same row: index, first and last subindex, type, the roles that may read and write (bit 0
operator, 1 installer, 2 maker), whether it may be read without a role, persistence (0 volatile, 1 persistent, 2 fixed), and
the default. -/
structure ObjRow where
  idx : Nat
  lo : Nat
  hi : Nat
  ty : ObjTy
  rd : Nat
  wr : Nat
  noRole : Bool
  pers : Nat
  dflt : List Byte
deriving DecidableEq, Repr

/-- A text of ASCII characters. -/
def textBytes (t : String) : List Byte := t.toList.map (fun c => BitVec.ofNat 8 c.toNat)

/-- Identity, state, time and capacity: VENDOR, PRODUCT, ORDERING_CODE, STEPPING, SERIAL, MANUFACTURED, DICT_VERSION, DEVICEID_DIGEST, DSN, MODULE_STATE, READY, START_RECORD, MODULE_TIME, TIME_VALID, TILES, HBM_GIB, SHELF_MIB, LINKS, FRONT_PORTS, ROOT_PORTS, ENGINES, PEAK_FP8, SLOT_ID. -/
def idObjects : List ObjRow :=
  [ ⟨0x1000, 0x1, 0x1, .str, 7, 0, true, 2, (textBytes "Zainrex Microsystems")⟩,
    ⟨0x1000, 0x2, 0x2, .str, 7, 0, true, 2, (textBytes "RZL-3216")⟩,
    ⟨0x1000, 0x3, 0x3, .str, 7, 0, true, 2, []⟩,
    ⟨0x1000, 0x4, 0x4, .u8, 7, 0, true, 2, (leBytes 1 176)⟩,
    ⟨0x1000, 0x5, 0x5, (.octets 16), 7, 0, true, 2, []⟩,
    ⟨0x1000, 0x6, 0x6, .u64, 7, 0, true, 2, []⟩,
    ⟨0x1000, 0x7, 0x7, .u16, 7, 0, true, 2, (leBytes 2 256)⟩,
    ⟨0x1000, 0x8, 0x8, (.octets 48), 7, 0, true, 2, []⟩,
    ⟨0x1000, 0x9, 0x9, .u64, 7, 0, true, 2, []⟩,
    ⟨0x1001, 0x1, 0x1, .u8, 7, 0, false, 0, (leBytes 1 0)⟩,
    ⟨0x1001, 0x2, 0x2, .bool, 7, 0, false, 0, (leBytes 1 0)⟩,
    ⟨0x1001, 0x3, 0x3, .u32, 7, 0, false, 0, (leBytes 4 0)⟩,
    ⟨0x1002, 0x1, 0x1, .u64, 7, 3, false, 0, (leBytes 8 0)⟩,
    ⟨0x1002, 0x2, 0x2, .bool, 7, 0, false, 0, (leBytes 1 0)⟩,
    ⟨0x1003, 0x1, 0x2, .u8, 7, 0, false, 0, (leBytes 1 16)⟩,
    ⟨0x1003, 0x3, 0x4, .u16, 7, 0, false, 0, (leBytes 2 768)⟩,
    ⟨0x1003, 0x5, 0x6, .u32, 7, 0, false, 0, (leBytes 4 30720)⟩,
    ⟨0x1003, 0x7, 0x7, .u8, 7, 0, false, 0, (leBytes 1 48)⟩,
    ⟨0x1003, 0x8, 0x8, .u8, 7, 0, false, 0, (leBytes 1 2)⟩,
    ⟨0x1003, 0x9, 0x9, .u8, 7, 0, false, 0, (leBytes 1 4)⟩,
    ⟨0x1003, 0xa, 0xa, .u8, 7, 0, false, 0, (leBytes 1 32)⟩,
    ⟨0x1003, 0xb, 0xb, .f32, 7, 0, false, 0, (leBytes 4 1181478400)⟩,
    ⟨0x1004, 0x1, 0x1, .u8, 7, 0, false, 0, (leBytes 1 0)⟩ ]

/-- Power and thermal: POWER_CAP, FLOOR, SLEW_LIMIT, BROWNOUT_WARN, LULL_MAX_HOLD, THROTTLE_C, LEAK_ACTION, COOLANT_CV, INPUT, SENSORS, TILE_CEILING, POWER_LOG. -/
def pwObjects : List ObjRow :=
  [ ⟨0x2001, 0x1, 0x1, .u16, 7, 1, false, 1, (leBytes 2 0)⟩,
    ⟨0x2001, 0x2, 0x2, .u16, 7, 0, false, 0, (leBytes 2 0)⟩,
    ⟨0x2002, 0x1, 0x1, .u8, 7, 2, false, 1, (leBytes 1 8)⟩,
    ⟨0x2002, 0x2, 0x2, .u16, 7, 2, false, 1, (leBytes 2 380)⟩,
    ⟨0x2002, 0x3, 0x3, .u8, 7, 2, false, 1, (leBytes 1 20)⟩,
    ⟨0x2003, 0x1, 0x1, .u8, 7, 2, false, 1, (leBytes 1 100)⟩,
    ⟨0x2003, 0x2, 0x2, .u8, 7, 2, false, 1, (leBytes 1 2)⟩,
    ⟨0x2003, 0x3, 0x3, .u16, 7, 2, false, 1, (leBytes 2 4180)⟩,
    ⟨0x2010, 0x1, 0x5, .u32, 7, 0, false, 0, (leBytes 4 0)⟩,
    ⟨0x2011, 0x1, 0x40, .i32, 7, 0, false, 0, (leBytes 4 0)⟩,
    ⟨0x2012, 0x1, 0x10, .u8, 7, 0, false, 1, []⟩,
    ⟨0x2013, 0x1, 0x1, .domain, 7, 0, false, 1, []⟩ ]

/-- Fabric and front ports: MODULE_ID, LINK_CFG, LINK_EXPECT, LINK_STATE, ROUTE_TABLES, CTX_BACKING, MSG_TIMEOUT, RREG_BLOCKS, GMA_COUNTS, VIOL_LOG, FP_PORT_CFG, FP_COUNTS. -/
def fabObjects : List ObjRow :=
  [ ⟨0x3001, 0x1, 0x1, .u32, 7, 2, false, 1, (leBytes 4 0)⟩,
    ⟨0x3010, 0x1, 0x30, .u32, 7, 2, false, 1, (leBytes 4 4245263)⟩,
    ⟨0x3011, 0x1, 0x30, .u32, 7, 2, false, 1, (leBytes 4 0)⟩,
    ⟨0x3012, 0x1, 0x30, .u64, 7, 0, false, 0, (leBytes 8 0)⟩,
    ⟨0x3013, 0x1, 0x1, .domain, 7, 2, false, 1, []⟩,
    ⟨0x3020, 0x1, 0x1, .u8, 7, 2, false, 1, (leBytes 1 0)⟩,
    ⟨0x3020, 0x2, 0x2, .u32, 7, 2, false, 1, (leBytes 4 4000)⟩,
    ⟨0x3020, 0x3, 0x3, .u32, 7, 2, false, 1, (leBytes 4 0)⟩,
    ⟨0x3021, 0x1, 0x8, .u64, 7, 0, false, 0, (leBytes 8 0)⟩,
    ⟨0x3022, 0x1, 0x1, .domain, 7, 0, false, 0, []⟩,
    ⟨0x3040, 0x1, 0x2, .u64, 7, 2, false, 1, (leBytes 8 30378659840)⟩,
    ⟨0x3041, 0x1, 0x2, .domain, 7, 0, false, 0, []⟩ ]

/-- Storage: WB_ENABLE, WB_STATE, DRIVES, DRIVE_FORMAT, NS_CREATE, NS_DELETE, NS_ATTACH, NS_TABLE, NS_KEY_BIND, NS_FEED_OWNER, NS_CLEAR_LOST, NVC_COUNTS, ROOT_PORT. -/
def stoObjects : List ObjRow :=
  [ ⟨0x4001, 0x1, 0x1, .bool, 7, 2, false, 1, (leBytes 1 1)⟩,
    ⟨0x4001, 0x2, 0x2, .u32, 7, 0, false, 0, (leBytes 4 0)⟩,
    ⟨0x4002, 0x1, 0x8, .domain, 7, 0, false, 0, []⟩,
    ⟨0x4003, 0x1, 0x1, .u8, 0, 2, false, 0, (leBytes 1 0)⟩,
    ⟨0x4010, 0x1, 0x1, .domain, 0, 3, false, 0, []⟩,
    ⟨0x4010, 0x2, 0x2, .u32, 0, 3, false, 0, (leBytes 4 0)⟩,
    ⟨0x4010, 0x3, 0x3, .domain, 0, 1, false, 0, []⟩,
    ⟨0x4011, 0x1, 0x1, .domain, 7, 0, false, 0, []⟩,
    ⟨0x4012, 0x1, 0x1, .domain, 0, 1, false, 0, []⟩,
    ⟨0x4012, 0x2, 0x2, .domain, 0, 1, false, 1, []⟩,
    ⟨0x4012, 0x3, 0x3, .u32, 0, 1, false, 0, (leBytes 4 0)⟩,
    ⟨0x4013, 0x1, 0x6, .u64, 7, 0, false, 1, (leBytes 8 0)⟩,
    ⟨0x4020, 0x1, 0x4, .u8, 7, 2, false, 1, (leBytes 1 12)⟩ ]

/-- Security, roles, audit: SPDM_SESSIONS, BOUND_OWNERS, KEY_PAGES, CIPHER_COUNTS, ENGINES_PARKED, LINK_MIN_SVN, LINK_ALLOW, IDE_STATE, SECURITY_LOG, OPERATOR_KEYS, INSTALLER_KEYS, AUDIT_JOURNAL, SESSIONS. -/
def secObjects : List ObjRow :=
  [ ⟨0x5001, 0x1, 0x1, .u8, 7, 0, false, 0, (leBytes 1 0)⟩,
    ⟨0x5001, 0x2, 0x2, .domain, 7, 0, false, 0, []⟩,
    ⟨0x5002, 0x1, 0x1, .domain, 7, 0, false, 0, []⟩,
    ⟨0x5003, 0x1, 0x6, .u64, 7, 0, false, 1, (leBytes 8 0)⟩,
    ⟨0x5003, 0x7, 0x7, .u32, 7, 0, false, 0, (leBytes 4 0)⟩,
    ⟨0x5010, 0x1, 0x1, .u32, 7, 2, false, 1, (leBytes 4 0)⟩,
    ⟨0x5010, 0x2, 0x2, .domain, 7, 2, false, 1, []⟩,
    ⟨0x5011, 0x1, 0x1, .domain, 7, 0, false, 0, []⟩,
    ⟨0x5012, 0x1, 0x1, .domain, 7, 0, false, 1, []⟩,
    ⟨0x5020, 0x1, 0x8, (.octets 128), 7, 2, false, 1, (List.replicate 128 0)⟩,
    ⟨0x5021, 0x1, 0x8, (.octets 128), 7, 2, false, 1, (List.replicate 128 0)⟩,
    ⟨0x5022, 0x1, 0x1, .domain, 7, 0, false, 1, []⟩,
    ⟨0x5023, 0x1, 0x1, .domain, 7, 0, false, 0, []⟩ ]

/-- Pools, VFs, endpoint: POOL_FREE, VF_STATE, VF_CREATE, VF_DESTROY, PF0_WEIGHTS, MOVE_LOG, BAR2_LOG2, VF_BAR2_LOG2, MAX_SPEED, LINK_STATE, PCE_COUNTS. -/
def vfObjects : List ObjRow :=
  [ ⟨0x6001, 0x1, 0x1, .domain, 7, 0, false, 0, []⟩,
    ⟨0x6002, 0x1, 0x7e, .domain, 7, 0, false, 0, []⟩,
    ⟨0x6003, 0x1, 0x1, .domain, 0, 1, false, 0, []⟩,
    ⟨0x6003, 0x2, 0x2, .u8, 0, 1, false, 0, (leBytes 1 0)⟩,
    ⟨0x6004, 0x1, 0x2, .u8, 7, 1, false, 1, (leBytes 1 16)⟩,
    ⟨0x6005, 0x1, 0x1, .domain, 7, 0, false, 1, []⟩,
    ⟨0x6080, 0x1, 0x1, .u8, 7, 2, false, 1, (leBytes 1 36)⟩,
    ⟨0x6080, 0x2, 0x2, .u8, 7, 2, false, 1, (leBytes 1 32)⟩,
    ⟨0x6080, 0x3, 0x3, .u8, 7, 2, false, 1, (leBytes 1 6)⟩,
    ⟨0x6080, 0x4, 0x4, .u32, 7, 0, false, 0, (leBytes 4 0)⟩,
    ⟨0x6080, 0x5, 0xc, .u64, 7, 0, false, 0, (leBytes 8 0)⟩ ]

/-- Firmware: BUNDLE_IMAGE, CATALOGUE_IMAGE, COMMIT, ACTIVATE, CANCEL, FW_STATUS, UPDATE_LOCK, CORE_STATE, LOG_JOURNAL, TRACE_MASK. -/
def fwObjects : List ObjRow :=
  [ ⟨0x7001, 0x1, 0x1, .domain, 0, 2, false, 0, []⟩,
    ⟨0x7001, 0x2, 0x2, .domain, 0, 2, false, 0, []⟩,
    ⟨0x7001, 0x3, 0x3, .u8, 0, 2, false, 0, (leBytes 1 0)⟩,
    ⟨0x7001, 0x4, 0x4, .bool, 0, 2, false, 0, (leBytes 1 0)⟩,
    ⟨0x7001, 0x5, 0x5, .bool, 0, 2, false, 0, (leBytes 1 0)⟩,
    ⟨0x7002, 0x1, 0x1, .domain, 7, 0, false, 0, []⟩,
    ⟨0x7003, 0x1, 0x1, .bool, 7, 1, false, 1, (leBytes 1 0)⟩,
    ⟨0x7010, 0x1, 0x9, .u32, 7, 0, false, 0, (leBytes 4 0)⟩,
    ⟨0x7020, 0x1, 0x1, .domain, 7, 0, false, 1, []⟩,
    ⟨0x7030, 0x1, 0x9, (.octets 32), 7, 6, false, 0, (List.replicate 32 0)⟩ ]

/-- Telemetry: TEL_SELECT, TEL_LAST. -/
def telObjects : List ObjRow :=
  [ ⟨0x8001, 0x1, 0x1, .domain, 7, 1, false, 1, []⟩,
    ⟨0x8002, 0x1, 0x1, .domain, 7, 0, false, 0, []⟩ ]

/-- Jobs and checkpoint: JOB_GROUP, PARTITION, STREAM_MISS_LOG, STRAGGLER_TABLE, CKPT_POLICY, CKPT_TRIGGER, CKPT_STATUS, RESTORE, CKPT_LOG. -/
def jobObjects : List ObjRow :=
  [ ⟨0x9001, 0x1, 0x10, .domain, 7, 1, false, 0, []⟩,
    ⟨0x9002, 0x1, 0x10, .domain, 7, 1, false, 0, []⟩,
    ⟨0x9003, 0x1, 0x1, .domain, 7, 0, false, 0, []⟩,
    ⟨0x9004, 0x1, 0x10, .domain, 7, 0, false, 0, []⟩,
    ⟨0x9010, 0x1, 0x10, .domain, 7, 1, false, 0, []⟩,
    ⟨0x9011, 0x1, 0x10, .bool, 0, 1, false, 0, (leBytes 1 0)⟩,
    ⟨0x9012, 0x1, 0x10, .domain, 7, 0, false, 0, []⟩,
    ⟨0x9013, 0x1, 0x1, .domain, 0, 1, false, 0, []⟩,
    ⟨0x9014, 0x1, 0x10, .domain, 7, 0, false, 0, []⟩ ]

/-- Diagnostics and fault injection: HBM_CE_TOTAL, HBM_UE_TOTAL, SHELF_CE_TOTAL, SHELF_UE_TOTAL, CARREL_CE_TOTAL, CARREL_UE_TOTAL, CE_THRESH, SCRUB_SHARE, SCRUB_START, SCRUB_LENGTH, SCRUB_MODE, SCRUB_GO, SCRUB_RESULT, FAULT_INJECT, EDDY, PARK_LIST, RETEST, SERVICE_NEXT, RESTART, CORE_RESTART. -/
def diagObjects : List ObjRow :=
  [ ⟨0xa100, 0x1, 0x10, .u64, 7, 0, false, 1, (leBytes 8 0)⟩,
    ⟨0xa101, 0x1, 0x10, .u64, 7, 0, false, 1, (leBytes 8 0)⟩,
    ⟨0xa102, 0x1, 0x18, .u64, 7, 0, false, 1, (leBytes 8 0)⟩,
    ⟨0xa103, 0x1, 0x18, .u64, 7, 0, false, 1, (leBytes 8 0)⟩,
    ⟨0xa104, 0x1, 0x10, .u64, 7, 0, false, 1, (leBytes 8 0)⟩,
    ⟨0xa105, 0x1, 0x10, .u64, 7, 0, false, 1, (leBytes 8 0)⟩,
    ⟨0xa110, 0x1, 0x1, .u32, 7, 2, false, 1, (leBytes 4 1000)⟩,
    ⟨0xa110, 0x2, 0x2, .u8, 7, 2, false, 1, (leBytes 1 1)⟩,
    ⟨0xa111, 0x1, 0x1, .u64, 7, 2, false, 0, (leBytes 8 0)⟩,
    ⟨0xa111, 0x2, 0x2, .u64, 7, 2, false, 0, (leBytes 8 0)⟩,
    ⟨0xa111, 0x3, 0x3, .u8, 7, 2, false, 0, (leBytes 1 0)⟩,
    ⟨0xa111, 0x4, 0x4, .bool, 0, 2, false, 0, (leBytes 1 0)⟩,
    ⟨0xa111, 0x5, 0x5, .domain, 7, 0, false, 0, []⟩,
    ⟨0xa200, 0x1, 0x30, .u64, 6, 6, false, 0, (leBytes 8 0)⟩,
    ⟨0xa201, 0x1, 0x30, .u8, 6, 6, false, 0, (leBytes 1 0)⟩,
    ⟨0xa300, 0x1, 0x1, .domain, 7, 0, false, 1, []⟩,
    ⟨0xa300, 0x2, 0x2, .domain, 7, 2, false, 1, []⟩,
    ⟨0xa300, 0x3, 0x3, .bool, 7, 2, false, 1, (leBytes 1 0)⟩,
    ⟨0xa300, 0x4, 0x4, .bool, 0, 2, false, 0, (leBytes 1 0)⟩,
    ⟨0xa320, 0x1, 0x1, .u8, 0, 6, false, 0, (leBytes 1 0)⟩ ]

/-- Maker: DEBUG_ENABLE, CREDENTIAL_RESET. -/
def mkObjects : List ObjRow :=
  [ ⟨0xf001, 0x1, 0x1, .bool, 0, 4, false, 0, (leBytes 1 0)⟩,
    ⟨0xf001, 0x2, 0x2, .bool, 0, 4, false, 0, (leBytes 1 0)⟩ ]

/-- Every object, in rising order. -/
def objects : List ObjRow :=
  idObjects ++ pwObjects ++ fabObjects ++ stoObjects ++ secObjects ++ vfObjects ++ fwObjects ++ telObjects ++ jobObjects ++ diagObjects ++ mkObjects

/-- The row of an object. -/
def objRow (idx sub : Nat) : Option ObjRow := objects.find? (fun r => decide (r.idx = idx ∧ r.lo ≤ sub ∧ sub ≤ r.hi))

/-- An index with an object at some subindex (R624). -/
def indexExists (idx : Nat) : Bool := objects.any (fun r => decide (r.idx = idx))

/-- The value of subindex 0 of an index: how many entries follow it (R15, R624). -/
def entryCount (idx : Nat) : Byte :=
  BitVec.ofNat 8 (((objects.filter (fun r => decide (r.idx = idx))).map (fun r => r.hi + 1 - r.lo)).foldl (· + ·) 0)

/-- Every existing pair of index and subindex, subindex 0 of each index included, in rising order (R624, R631). -/
def objectPairs : List (Nat × Nat) :=
  objects.flatMap (fun r =>
    (if objects.find? (fun x => decide (x.idx = r.idx)) = some r then [(r.idx, 0)] else []) ++
      (List.range (r.hi + 1 - r.lo)).map (fun i => (r.idx, r.lo + i)))

end Sys2Proof.Machine
end

