-- ==== Sys2Proof/Machine/Audit.lean ====
section
/-!
DEFINITION. Values of the dictionary as configuration flash and firmware hold them, and the audit journal (R628, R641).
-/
namespace Sys2Proof.Machine

def State.modMgmt (s : State) (f : Mgmt → Mgmt) : State := { s with mgmt := f s.mgmt }
def State.modFlash (s : State) (f : Flash → Flash) : State := s.modMgmt (fun g => { g with flash := f g.flash })

/-- The stored value of an object, or its default. -/
def State.stored (s : State) (idx sub : Nat) : List Byte :=
  match Tab.find? s.dict (dictKey idx sub) with
  | some v => v
  | none => match objRow idx sub with
    | some r => r.dflt
    | none => []

def State.storedNat (s : State) (idx sub : Nat) : Nat := ofLe (s.stored idx sub)

/-- An object takes a value; one at its default is not listed. -/
def State.setObj (s : State) (idx sub : Nat) (v : List Byte) : State :=
  { s with dict :=
      if (objRow idx sub).any (fun r => r.dflt = v) then Tab.erase s.dict (dictKey idx sub)
      else Tab.set s.dict (dictKey idx sub) v }

/-- Who does what the journal records: role, transport, identity (R641). -/
structure Actor where
  role : Nat
  transport : Nat
  ident : List Byte
deriving DecidableEq, Repr

/-- Firmware itself. -/
def Actor.firmware : Actor := ⟨4, 3, List.replicate 32 0⟩

/-- Bytes padded with zeros or cut to a length. -/
def fitBytes (n : Nat) (bs : List Byte) : List Byte := (bs ++ List.replicate n 0).take n

def digestOf (bs : List Byte) : List Byte := bytesOf (sha384 (natsOf bs))

/-- A record of the audit journal (R641): the newest 16,384 are kept, each with the digest of the one before it. `change`
holds the value before and after. -/
def State.journalAudit (s : State) (a : Actor) (kind idx sub abort : Nat) (change : Option (List Byte × List Byte)) : State :=
  let chain := match s.mgmt.audit with
    | [] => List.replicate 48 0
    | r :: _ => digestOf r
  let (old, new) := match change with
    | some (x, y) => (digestOf x, digestOf y)
    | none => (List.replicate 48 0, List.replicate 48 0)
  let r := leBytes 4 s.mgmt.auditSeq ++ leBytes 8 s.modTime ++ leBytes 1 a.role ++ leBytes 1 a.transport ++ leBytes 1 kind ++
    [0] ++ leBytes 2 idx ++ leBytes 1 sub ++ [0] ++ leBytes 4 abort ++ fitBytes 32 a.ident ++ fitBytes 48 old ++
    fitBytes 48 new ++ fitBytes 48 chain ++ List.replicate 56 0
  s.modMgmt (fun g => { g with audit := (r :: g.audit).take 16384, auditSeq := (g.auditSeq + 1) % 2 ^ 32 })

/-- Firmware writes a persistent object, with its record (R628, R641). -/
def State.firmwareWrite (s : State) (idx sub : Nat) (v : List Byte) : State :=
  let old := s.stored idx sub
  (s.setObj idx sub v).journalAudit Actor.firmware 0 idx sub 0 (some (old, v))

/-- The ceiling of a tile that 0x2012 keeps: fused at manufacture until it is lowered (R393). -/
def State.ceiling (s : State) (t : Nat) : Nat :=
  match Tab.find? s.dict (dictKey 0x2012 (t + 1)) with
  | some v => ofLe v
  | none => Config.fusedCeiling t

/-! ### The update registers (R611, R618) -/

/-- UPD_STATE: what the state of the update shows (R611). An image is arriving where a session carries a transfer of
0x7001 or a controller holds pieces of one. -/
def State.receiving (s : State) : Bool :=
  s.mgmt.sessions.any (fun p => match p.2.xfer with
    | some x => decide (x.1 = 0x7001)
    | none => false) || s.store.ctrls.any (fun p => !p.2.image.isEmpty)

def State.updState (s : State) : Nat :=
  let f := s.mgmt.flash
  if s.receiving then 1
  else if f.deferred then 4
  else if f.trial || f.catTrial then 5
  else if f.failed then 6
  else if f.pending.isSome || f.catPending.isSome then 3
  else if f.staged || f.catStaged then 2
  else 0

/-- The registers of the update follow the boot record (R618). -/
def State.showFw (s : State) : State :=
  let f := s.mgmt.flash
  let s := (s.setFld F.FWM_STS_UPD_STATE s.updState).setFlag F.FWM_STS_LOCK (decide (s.storedNat 0x7003 1 = 1))
  let s := (s.setFlag F.FWM_STS_CAT_ACTIVE (decide (f.catActive = 1))).setFlag F.FWM_STS_PENDING_VALID f.pending.isSome
  let s := (s.setFlag F.FWM_STS_PENDING_SLOT (decide (f.pending = some 1))).setFlag F.FWM_STS_ACTIVE_SLOT
    (decide (f.active = 1))
  s.setFld F.FWM_SVN_FUSED_MIN f.fusedMin

/-- A dictionary session ends; a transfer of an image ends with it. -/
def State.endSession (s : State) (n : Nat) : State :=
  let was := (Tab.find? s.mgmt.sessions n).any (fun x => x.xfer.any (fun t => t.1 = 0x7001))
  let s := s.modMgmt (fun g => { g with sessions := Tab.erase g.sessions n })
  if was then s.showFw else s

end Sys2Proof.Machine
end

