-- ==== Sys2Proof/Machine/PowerOps.lean ====
section
/-!
DEFINITION. The power controller: what several commands share (R385 to R409).
-/
namespace Sys2Proof.Machine

def State.modPower (s : State) (f : Power → Power) : State := { s with power := f s.power }

def blkPwr : Blk := ⟨.pwr, 0⟩
def blkThm : Blk := ⟨.thm, 0⟩

/-- A predicted rise of the load by `rise` mA at tile `t`: a squall where its shortfall V ΔI² / (2 s) exceeds 0.5 J
(R399). -/
def State.squall (s : State) (t rise : Nat) : State :=
  if s.fld F.PWR_LIMITS_SLEW * 10 ^ 12 < s.fld F.PWR_INPUT0_VIN * rise ^ 2 then
    ((s.setFlag F.PWR_STS_SQUALL true).count F.PWR_SQUALL_CNT).modPower (fun p => { p with
      paced := if t ∈ p.paced then p.paced else p.paced ++ [t], duty := if p.paced = [] then 0 else p.duty })
  else s

/-- A lull ends at a tile: its filler stops in that cycle, and the lull's duration is learned for its key (R400, R401). -/
def State.endLull (s : State) (t : Nat) : State :=
  let s := s.setFld F.PWR_STS_FILL_TILES (putBit (s.fld F.PWR_STS_FILL_TILES) t false)
  match s.power.lull with
  | none => s
  | some l =>
    s.modPower (fun p => { p with
      lull := none, lulls := Tab.set p.lulls l.key (((s.time - l.start) :: Tab.getD p.lulls l.key []).take 32) })

/-- A record of the power log (0x2013). -/
def State.powerLog (s : State) (cause value : Nat) : State :=
  s.modPower (fun p => { p with log := ((s.modTime, cause, value) :: p.log).take 64 })

/-- EMERGENCY of PWR_STS is the or of a power emergency, a thermal emergency and a leak (R415). A deferred activation is due
60 s after it falls, and has no due time while it stands (R614). -/
def State.showEmergency (s : State) : State :=
  let old := s.flag F.PWR_STS_EMERGENCY
  let new := decide (s.fld F.PWR_STS_BROWNOUT ≠ 0) || s.power.failing || s.flag F.THM_STS_EMERGENCY || s.flag F.THM_STS_LEAK
  let s := s.setFlag F.PWR_STS_EMERGENCY new
  if old = new ∨ !s.mgmt.flash.deferred then s
  else { s with mgmt := { s.mgmt with flash := { s.mgmt.flash with due := if new then none else some (s.time + 60000000) } } }

end Sys2Proof.Machine
end

