-- ==== Sys2Proof/Machine/TileData.lean ====
section
/-!
DEFINITION. What the data commands of a tile do to carrel, banks and memory once they have issued: LOAD, STORE, SCRUB,
MMA, DRAIN and POST (R101 to R103, R112 to R127, R136).
-/
namespace Sys2Proof.Machine

/-- The carrel offset of an address in the carrel of tile `t`. -/
def carrelOff (t a : Nat) : Nat := a - carrelAddr t 0

/-- A memory fault as a tile reports it (R135). -/
def MemFault.fail : MemFault → Fail
  | .hole a => { code := 0x08, addr := a }
  | .ue a => { code := 0x0A, addr := a }

/-- A fault on the tile's own carrel: the record holds the offset (R144). -/
def MemFault.carrelFail (t : Nat) (f : MemFault) : Fail := { f.fail with addr := carrelOff t f.fail.addr }

/-- The issued command of a slot is replaced. -/
def State.setIssued (s : State) (t : Nat) (i : Issued) : State :=
  s.modTile t (fun x => { x with issued := x.issued.map (fun j => if j.slot = i.slot then i else j) })

/-! ### LOAD and STORE with a local partner -/

/-- A range is read for a LOAD; the unit at `poison` arrives poisoned (R25, R135). -/
def State.tileRead (s : State) (m : Master) (a n : Nat) (poison : Option Nat) : State × List Byte × Option Fail :=
  match poison with
  | some p =>
    if a ≤ p ∧ p < a + n then
      let (s, bs, f) := s.dmaRead m a (p - a)
      (s, bs, some ((f.map MemFault.fail).getD { code := 0x0B, addr := p }))
    else let (s, bs, f) := s.dmaRead m a n; (s, bs, f.map MemFault.fail)
  | none => let (s, bs, f) := s.dmaRead m a n; (s, bs, f.map MemFault.fail)

/-- Bytes of a range from `a` that are good before a fault: up to the hole, or up to the bad 64-byte unit (R135,
R136). -/
def goodBytes (a n : Nat) : Option Fail → Nat
  | none => n
  | some f => if f.code = 0x08 then f.addr - a else f.addr / 64 * 64 - a

/-- A LOAD or STORE on its way through its rows. -/
structure RowRun where
  s : State
  flags : Nat := 0
  exp : Int := -32768
  written : Nat := 0
  fail : Option Fail := none

/-- Rows of a local LOAD in order, until the first fault (R112, R136). -/
def loadRows (m : Master) (t : Nat) (d : BitVec 512) (p : LoadP) (poison : Option Nat) : Nat → Nat → RowRun → RowRun
  | 0, _, a => a
  | k + 1, r, a =>
    let sa := gLocal (dfld d 127 64) + r * dfld d 319 288
    let ca := gLocal (dfld d 191 128) + r * dfld d 367 352
    let (s, src, f) := a.s.tileRead m sa p.srcBytes poison
    let got := goodBytes sa p.srcBytes f
    let need := if p.sf.isMx then (p.usable got p.srcScales + 31) / 32 else 0
    let (s, sc, g) := if need = 0 then (s, [], none) else s.tileRead m ca need poison
    match g.or f with
    | some e =>
      let gotSc := if g.isSome then goodBytes ca need g else need
      let (dat, scs) := p.partRow s.freeAt r got gotSc src sc (e.code ≠ 0x08)
      let s := s.drewMany (if p.df.isMx then p.dstScales else 0)
      let (s, _) := s.dmaWrite m (loadDst t d r) dat
      let (s, _) := s.dmaWrite m (loadScaleDst t d r) scs
      { a with s := s, written := a.written + dat.length + scs.length, fail := some e }
    | none =>
      let (s, fl, ex, bad) := s.loadRow m t d p r src sc
      match bad with
      | some b =>
        { a with s := s, written := a.written + (b.fail.addr - loadDst t d r), fail := some (b.carrelFail t) }
      | none =>
        loadRows m t d p poison k (r + 1)
          { s := s, flags := a.flags ||| fl, exp := max a.exp ex, written := a.written + p.dstBytes + p.dstScales }

/-- A LOAD from this module's memory. -/
def State.runLoad (s : State) (t : Nat) (i : Issued) (poison : Option Nat) : State :=
  let d := i.cmd.desc
  let p := loadP i.hash d
  let a := loadRows (tileMaster t i.cmd.secure) t d p poison p.rows 0 { s := s }
  match a.fail with
  | some e => a.s.failIssued t i { e with unit := 1, progress := a.written }
  | none => a.s.setIssued t { i with flags := a.flags, metaExp := a.exp }

/-- Rows of a local STORE in order, until the first fault (R124, R136). -/
def storeRows (m : Master) (t : Nat) (d : BitVec 512) : Nat → Nat → RowRun → RowRun
  | 0, _, a => a
  | k + 1, r, a =>
    let sa := carrelAddr t (dfld d 89 64 + r * dfld d 287 256)
    let da := gLocal (dfld d 191 128) + r * dfld d 319 288
    let (s, bs, f) := a.s.dmaRead m sa (dfld d 255 224)
    let (s, g) := s.dmaWrite m da bs
    match g, f with
    | some b, _ => { a with s := s, written := a.written + (b.fail.addr - da), fail := some b.fail }
    | none, some b => { a with s := s, written := a.written + bs.length, fail := some (b.carrelFail t) }
    | none, none => storeRows m t d k (r + 1) { a with s := s, written := a.written + bs.length }

/-- A STORE into this module's memory. -/
def State.runStore (s : State) (t : Nat) (i : Issued) : State :=
  let d := i.cmd.desc
  let a := storeRows (tileMaster t i.cmd.secure) t d (dfld d 207 192) 0 { s := s }
  match a.fail with
  | some e => a.s.failIssued t i { e with unit := 1, progress := a.written }
  | none => a.s

/-- A SCRUB: zeroes its range, or checks it and writes its summary (R127, R210). -/
def State.runScrub (s : State) (t : Nat) (i : Issued) : State :=
  let d := i.cmd.desc
  let m := tileMaster t i.cmd.secure
  let a := carrelAddr t (dfld d 89 64)
  let n := dfld d 122 96
  if dfld d 32 32 = 1 then s.zeroRange a n
  else ((s.checkPass m a n).writeMem m (carrelAddr t (dfld d 153 128)) (s.scrubRecord 0 a n n)).1

/-! ### MMA (R101 to R103, R115) -/

/-- Whether a tile multiplies FP32: three passes (R79). -/
def mmaFp32 (d : BitVec 512) : Bool := dfld d 36 32 = 0

def mmaFmtA (d : BitVec 512) : Fmt := (Fmt.ofCode (dfld d 36 32)).getD .fp32
def mmaFmtB (d : BitVec 512) : Fmt := (Fmt.ofCode (dfld d 41 37)).getD .fp32

/-- An operand element with its scale byte. -/
abbrev Elem := Num × Nat

/-- The element that padding feeds (R103). -/
def Elem.zero : Elem := (.fin false 0 0, 127)

/-- Whether an element makes a product that is not finite. -/
def Elem.special (e : Elem) : Bool := e.2 = 0xFF || !isFinNum e.1

/-- Row `i` of A (R115). -/
def State.rowA (s : State) (t : Nat) (d : BitVec 512) (i : Nat) : List Elem :=
  let f := mmaFmtA d
  let k := dfld d 372 352
  let bs := s.readBytes (carrelAddr t (dfld d 153 128 + i * dfld d 287 256)) (packedBytes f k)
  let sc := if f.isMx then s.readBytes (carrelAddr t (dfld d 217 192 + i * dfld d 335 320)) (k / 32) else []
  (List.range k).map (fun j => (decodeElem f (elemAt f.width bs j), if f.isMx then leAt sc (j / 32) 1 else 127))

/-- Row `k` of B (R115). -/
def State.rowB (s : State) (t : Nat) (d : BitVec 512) (k : Nat) : List Elem :=
  let f := mmaFmtB d
  let n := dfld d 99 90
  let bs := s.readBytes (carrelAddr t (dfld d 185 160 + k * dfld d 319 288)) (packedBytes f n)
  let sc := if f.isMx then s.readBytes (carrelAddr t (dfld d 249 224 + k / 32 * dfld d 351 336)) n else []
  (List.range n).map (fun j => (decodeElem f (elemAt f.width bs j), if f.isMx then leAt sc j 1 else 127))

/-- The products of one processing element, in K order. -/
def accumulate (anchor : Int) (fp32 : Bool) (c : Accum) (as bs : List Elem) : Accum :=
  (as.zip bs).foldl (fun c p => c.step anchor fp32 p.1.1 p.2.1 p.1.2 p.2.2) c

/-- Columns of a row of processing elements that differ, or may differ, from an element with padding on both sides:
the valid ones, those listed before, and those that a special value reaches through padding (R78, R103). -/
def mmaColumns (bank : Bank) (m n i : Nat) (rowSpecial : Bool) (colSpecial : List Nat) : List Nat :=
  let listed := (bank.cells.filter (fun c => c.1 / 512 = i)).map (fun c => c.1 % 512)
  if i < m then
    if rowSpecial then List.range 512 else List.range n ++ listed.filter (fun j => decide (n ≤ j))
  else listed.foldl (fun l j => insertNat j l) colSpecial

/-- The bank after the products of all 512 × 512 processing elements; A holds the rows and B the columns that are
read. -/
def mmaBank (bank : Bank) (fp32 : Bool) (k : Nat) (as bs : List (List Elem)) : Bank :=
  let m := as.length
  let n := bs.length
  let base := bank.base.count (if fp32 then 3 * k else k)
  let zeros := List.replicate k Elem.zero
  let colSpecial := (bs.zipIdx.filter (fun c => c.1.any Elem.special)).map (·.2)
  let cells := (List.range 512).flatMap (fun i =>
    let a := as.getD i zeros
    (mmaColumns bank m n i (a.any Elem.special) colSpecial).map (fun j =>
      (512 * i + j, accumulate bank.anchor fp32 (Tab.getD bank.cells (512 * i + j) bank.base) a (bs.getD j zeros))))
  { bank with base := base, cells := cells.filter (fun c => decide (c.2 ≠ base)) }

/-- The K step at which an ECC unit at `u` is read by a row of packed elements that begins at `a` with step `k0`: the
first element that has a byte in it, in steps of `per` elements. -/
def unitStep (u a bytes w per k0 : Nat) : Option Nat :=
  if u + 8 ≤ a ∨ a + bytes ≤ u then none else some (k0 + ((max u a - a) * 8 / w) / per)

/-- The first K step of an MMA at which a unit is read. -/
def mmaUnitStep (t : Nat) (d : BitVec 512) (u : Nat) : Option Nat :=
  let fa := mmaFmtA d
  let fb := mmaFmtB d
  let k := dfld d 372 352
  let m := dfld d 89 80
  let n := dfld d 99 90
  let ra := (List.range m).filterMap (fun i =>
    unitStep u (carrelAddr t (dfld d 153 128 + i * dfld d 287 256)) (packedBytes fa k) fa.width 1 0)
  let rb := (List.range k).filterMap (fun j =>
    (unitStep u (carrelAddr t (dfld d 185 160 + j * dfld d 319 288)) (packedBytes fb n) fb.width 1 0).map (fun _ => j))
  let sa := if fa.isMx then (List.range m).filterMap (fun i =>
    (unitStep u (carrelAddr t (dfld d 217 192 + i * dfld d 335 320)) (k / 32) 8 1 0).map (· * 32)) else []
  let sb := if fb.isMx then (List.range (k / 32)).filterMap (fun j =>
    (unitStep u (carrelAddr t (dfld d 249 224 + j * dfld d 351 336)) n 8 1 0).map (fun _ => 32 * j)) else []
  (ra ++ rb ++ sa ++ sb).min?

/-- Streaming cycles of `k` steps (R101). -/
def mmaCycles (d : BitVec 512) (k : Nat) : Nat :=
  let wa := (mmaFmtA d).width
  let wb := (mmaFmtB d).width
  if wa = 4 ∧ wb = 4 then k / 2 else if wa = 32 then 6 * k else if wa = 16 then 2 * k else k

/-- The anchor that an opening MMA sets, and the flag AUTO (R87). -/
def State.openAnchor (s : State) (t : Nat) (d : BitVec 512) : Int × Nat :=
  if dfld d 45 44 = 1 then
    let k := if dfld d 415 384 = 0 then dfld d 372 352 else dfld d 415 384
    (autoAnchor (sext 16 (s.fld (F.TIL_META t (dfld d 51 46)))) (sext 16 (s.fld (F.TIL_META t (dfld d 57 52)))) k, flagAuto)
  else (sext 16 (dfld d 79 64), 0)

/-- An opening MMA resets its bank as it issues (R102). -/
def State.openBank (s : State) (t : Nat) (d : BitVec 512) : State :=
  if dfld d 43 43 = 1 then
    let (a, fl) := s.openAnchor t d
    s.modTile t (fun x => x.setBank (dfld d 42 42) ⟨.opened, a, ⟨0, fl, 0⟩, []⟩)
  else s

/-- The products of an MMA; the uncorrectable unit that is read first ends it (R136). -/
def State.runMma (s : State) (t : Nat) (i : Issued) : State :=
  let d := i.cmd.desc
  let m := tileMaster t i.cmd.secure
  let s := s.openBank t d
  let steps := fun l : List Nat => l.filterMap (fun u => (mmaUnitStep t d u).map (fun k => (k, u)))
  let bad := (steps s.ue).foldl (fun (a : Option (Nat × Nat)) p =>
    match a with
    | none => some p
    | some q => if p.1 < q.1 ∨ (p.1 = q.1 ∧ p.2 < q.2) then some p else a) none
  let ces := (steps s.ce).filter (fun p => match bad with | some q => decide (p.1 ≤ q.1) | none => true)
  let s := ces.foldl (fun s p => s.detectCe p.2) s
  match bad with
  | some (k, u) =>
    (s.detectUe m u).failIssued t i { code := 0x0A, unit := 2, addr := carrelOff t u, progress := mmaCycles d k }
  | none =>
    let k := dfld d 372 352
    let as := (List.range (dfld d 89 80)).map (s.rowA t d)
    let rows := (List.range k).map (s.rowB t d)
    let bs := (List.range (dfld d 99 90)).map (fun j => rows.map (fun r => r.getD j Elem.zero))
    let b := dfld d 42 42
    s.modTile t (fun x => x.setBank b (mmaBank (x.bank b) (mmaFp32 d) k as bs))

/-! ### The post-op list (R121 to R123) -/

/-- One entry of a post-op list. -/
structure PostOp where
  op : Nat
  opnd : Nat
  addr : Nat
  imm : Nat
deriving DecidableEq, Repr

def PostOp.ofBytes (bs : List Byte) : PostOp :=
  let v := ofLe bs
  ⟨bits v 7 0, bits v 9 8, bits v 31 12 * 64, bits v 63 32⟩

/-- The entries of a list of `n` ops at a carrel offset, as memory holds them. -/
def State.postList (s : State) (t off n : Nat) : List PostOp :=
  (List.range n).map (fun q => PostOp.ofBytes (s.readBytes (carrelAddr t (off + 8 * q)) 8))

def fp32Of (v : Nat) : Num := decodeElem .fp32 v

/-- A finite value as a whole number of units of `2^q`, `q` at most its exponent. -/
def Num.units (q : Int) : Num → Int
  | .fin n m e => scaled n m e q
  | _ => 0

/-- The least exponent of a list of values. -/
def leastExp (xs : List Num) : Int :=
  xs.foldl (fun a v => match v with | .fin _ _ e => min a e | _ => a) 0

/-- Whether `r` is the exact RMSNORM or LAYERNORM result: r² (Σ d² + n³ imm) = d² n and r has the sign of d, where d is
n x (or n x − Σ x) (R118, R122). -/
def normExact (center : Bool) (imm r x : Num) (xs : List Num) : Bool :=
  if !isFinNum r || !isFinNum x || !isFinNum imm then true
  else
    let q := leastExp xs
    let n : Int := xs.length
    let sum := (xs.map (Num.units q)).foldl (· + ·) 0
    let d := fun v : Num => n * v.units q - (if center then sum else 0)
    let sq := (xs.map (fun v => d v * d v)).foldl (· + ·) 0
    let qi := min (2 * q) (leastExp [imm])
    let den := sq * 2 ^ (2 * q - qi).toNat + n * n * n * imm.units qi
    let qr := leastExp [r]
    let ru := r.units qr
    -- r² den = d² n, with r = ru 2^qr and the rest in units of 2^qi
    decide (ru * ru * den * 2 ^ (2 * qr + 1000).toNat = d x * d x * n * 2 ^ ((2 * q - qi).toNat + 1000)) &&
      decide ((ru < 0) = (d x < 0))

/-- RMSNORM and LAYERNORM of a row (R122, R123). -/
def normRow (center : Bool) (imm : Num) (xs : List Num) : List (Num × Nat) :=
  let mean := meanNum xs
  let ys := if center then xs.map (fun x => (rnd32 (addNum x (negNum mean))).1) else xs
  let ms := meanNum (ys.map (fun y => (rnd32 (mulNum y y)).1))
  let k := (fnNum 0x0D (rnd32 (addNum ms imm)).1).1
  let anyNan := xs.any isNanNum || isNanNum imm
  ys.zip xs |>.map (fun p =>
    let r := (rnd32 (mulNum p.1 k)).1
    (r, (if normExact center imm r p.2 xs then 0 else flagInexact) ||| (if isNanNum r && !anyNan then flagNan else 0)))

/-- A per-row ledger accumulator over exact values (R123). -/
def rowLedger (anchor : Int) (vs : List Num) : Accum :=
  vs.foldl (fun c v => c.addProduct anchor v (.fin false 1 0) 127 127) Accum.zero

/-- What a post op does to a row: the values, the flags, and the row result it writes. `o j` is the operand of column
`j`, and `r` the row's index. -/
def PostOp.apply (e : PostOp) (r : Nat) (o : Nat → Num) (xs : List Num) : List Num × Nat × List (Nat × List Byte) :=
  let each := fun (f : Num → Num → Num × Nat) =>
    let ys := xs.zipIdx.map (fun p => f p.1 (o p.2))
    (ys.map (·.1), orAll (ys.map (·.2)), ([] : List (Nat × List Byte)))
  let rounded := fun (f : Num → Num → Num) => each (fun x y => opResult (isNanNum x || isNanNum y) (f x y))
  match e.op with
  | 0x01 => rounded addNum
  | 0x02 => rounded (fun x y => addNum x (negNum y))
  | 0x03 => rounded mulNum
  | 0x04 => each (fun x y => (maxNum x y, 0))
  | 0x05 => each (fun x y => (minNum x y, 0))
  | 0x06 => each (fun x _ => (reluNum x, 0))
  | 0x07 => each (fun x _ => fnNum 0x07 x)
  | 0x08 => each (fun x _ => fnNum 0x08 x)
  | 0x09 => each (fun x _ => fnNum 0x09 x)
  | 0x0A => each (fun x _ => fnNum 0x0A x)
  | 0x0B => each (fun x _ => fnNum 0x0B x)
  | 0x0C => each (fun x _ => fnNum 0x0C x)
  | 0x0D => each (fun x _ => fnNum 0x0D x)
  | 0x10 =>
    let a := sext 16 e.imm
    (xs, 0, [(e.addr + 32 * r, ((rowLedger a xs).toWord a 0).bytes)])
  | 0x11 =>
    let a := sext 16 e.imm
    (xs, 0, [(e.addr + 32 * r, ((rowLedger a (xs.map (fun x => mulNum x x))).toWord a 0).bytes)])
  | 0x12 => (xs, 0, [(e.addr + 4 * r, leBytes 4 (toFp32 (xs.foldl maxNum .nan)).toNat)])
  | 0x14 =>
    let ys := normRow false (fp32Of e.imm) xs
    (ys.map (·.1), orAll (ys.map (·.2)), [])
  | 0x15 =>
    let ys := normRow true (fp32Of e.imm) xs
    (ys.map (·.1), orAll (ys.map (·.2)), [])
  | _ => (xs, 0, [])

/-! ### Rows of DRAIN and POST (R117 to R120) -/

/-- What a DRAIN or POST does to each row. -/
structure VecP where
  df : Fmt
  mode : Rmode
  sat : Bool
  hash : Nat
  ops : List PostOp
  rows : Nat
  cols : Nat
  row0 : Nat
  col0 : Nat
  dst : Nat
  dstStride : Nat
  scaleDst : Nat
  scaleStride : Nat
deriving DecidableEq, Repr

def State.drainP (s : State) (t hash : Nat) (d : BitVec 512) : VecP :=
  { df := (Fmt.ofCode (dfld d 37 33)).getD .fp32, mode := (Rmode.ofCode (dfld d 40 38)).getD .nearest,
    sat := dfld d 41 41 = 1, hash := hash, ops := s.postList t (dfld d 153 128) (dfld d 47 43),
    rows := dfld d 217 208, cols := dfld d 227 218, row0 := dfld d 287 256, col0 := dfld d 319 288,
    dst := dfld d 89 64, dstStride := dfld d 191 160, scaleDst := dfld d 121 96, scaleStride := dfld d 207 192 }

def State.postP (s : State) (t hash : Nat) (d : BitVec 512) : VecP :=
  { df := (Fmt.ofCode (dfld d 41 37)).getD .fp32, mode := (Rmode.ofCode (dfld d 44 42)).getD .nearest,
    sat := dfld d 45 45 = 1, hash := hash, ops := s.postList t (dfld d 153 128) (dfld d 50 46),
    rows := dfld d 207 192, cols := dfld d 217 208, row0 := dfld d 351 320, col0 := dfld d 383 352,
    dst := dfld d 121 96, dstStride := dfld d 287 256, scaleDst := dfld d 185 160, scaleStride := dfld d 303 288 }

/-- The row vectors of a list, by the op's place, read before the first row; a bad unit ends the command (R121,
R136). -/
def State.readVectors (s : State) (m : Master) (t : Nat) (p : VecP) : State × List (List Num) × Option MemFault :=
  p.ops.foldl (fun (a : State × List (List Num) × Option MemFault) e =>
    match a.2.2 with
    | some _ => a
    | none =>
      if e.opnd = 2 then
        let (s, bs, f) := a.1.dmaRead m (carrelAddr t e.addr) (4 * p.cols)
        (s, a.2.1 ++ [(List.range p.cols).map (fun j => fp32Of (leAt bs (4 * j) 4))], f)
      else (a.1, a.2.1 ++ [[]], none)) (s, [], none)

/-- The column-vector elements of row `r`, by the op's place. -/
def State.readColumn (s : State) (m : Master) (t : Nat) (p : VecP) (r : Nat) : State × List Num × Option MemFault :=
  p.ops.foldl (fun (a : State × List Num × Option MemFault) e =>
    match a.2.2 with
    | some _ => a
    | none =>
      if e.opnd = 3 then
        let (s, bs, f) := a.1.dmaRead m (carrelAddr t (e.addr + 4 * r)) 4
        (s, a.2.1 ++ [fp32Of (ofLe bs)], f)
      else (a.1, a.2.1 ++ [.nan], none)) (s, [], none)

/-- All ops of a list on one row. -/
def applyList (p : VecP) (r : Nat) (vecs : List (List Num)) (col xs : List Num) :
    List Num × Nat × List (Nat × List Byte) :=
  p.ops.zipIdx.foldl (fun (a : List Num × Nat × List (Nat × List Byte)) (e : PostOp × Nat) =>
    let o := fun j => match e.1.opnd with
      | 1 => fp32Of e.1.imm
      | 2 => (vecs.getD e.2 []).getD j .nan
      | _ => col.getD e.2 .nan
    let (ys, fl, w) := e.1.apply r o a.1
    (ys, a.2.1 ||| fl, a.2.2 ++ w)) (xs, 0, [])

/-- The output of a row: bytes, scale bytes and flags. -/
def VecP.outRow (p : VecP) (fv : Nat → Nat) (r : Nat) (xs : List Num) : List Byte × List Byte × Nat :=
  let (es, sc, fl) := toFormat p.df p.mode p.sat fv
    (xs.zipIdx.map (fun v => (v.1, hashBits p.mode p.hash (p.row0 + r) (p.col0 + v.2))))
  (packElems p.df.width es, sc.map (BitVec.ofNat 8), fl)

/-- A row and its row results are written. -/
def State.writeRow (s : State) (m : Master) (t : Nat) (p : VecP) (r : Nat) (dat sc : List Byte)
    (res : List (Nat × List Byte)) : State × Option MemFault :=
  let parts := (p.dst + r * p.dstStride, dat) :: (p.scaleDst + r * p.scaleStride, sc) :: res
  parts.foldl (fun (a : State × Option MemFault) w =>
    let (s, f) := a.1.dmaWrite m (carrelAddr t w.1) w.2
    (s, a.2.or f)) (s, none)

/-- The words of a row of a bank, and the free values they draw (R85, R93). -/
def Bank.row (b : Bank) (fv : Nat → Nat) (i n : Nat) : List LWord :=
  (List.range n).map (fun j => (Tab.getD b.cells (512 * i + j) b.base).toWord b.anchor (fv j))

/-- The raw bank flags of a row (R119). -/
def Bank.rowFlags (b : Bank) (i n : Nat) : Nat :=
  orAll ((List.range n).map (fun j => (Tab.getD b.cells (512 * i + j) b.base).flags))

/-- Free values of one row: words, sums and blocks each have their own. -/
def rowDraws : Nat := 2048

/-- Row `r` of a raw drain: the words, or their sums with the words at the destination (R94, R117). -/
def State.drainRaw (s : State) (m : Master) (t : Nat) (p : VecP) (b : Bank) (acc : Bool) (r : Nat) :
    State × Nat × Option MemFault :=
  let ws := b.row s.freeAt r p.cols
  let fv := s.freeAt
  let fl := orAll (ws.map (·.flags))
  let (s, ws, f) :=
    if acc then
      let (s, bs, f) := s.dmaRead m (carrelAddr t (p.dst + r * p.dstStride)) (32 * p.cols)
      (s, (ws.zip (wordsOf bs)).zipIdx.map (fun q => ledgerAdd (fv (512 + q.2)) q.1.2 q.1.1), f)
    else (s, ws, none)
  match f with
  | some g => (s, 0, some g)
  | none =>
    let (s, g) := s.writeRow m t p r (ws.flatMap LWord.bytes) [] []
    (s.drewMany rowDraws, fl, g)

/-- Row `r` of a rounding drain (R118). -/
def State.drainRound (s : State) (m : Master) (t : Nat) (p : VecP) (b : Bank) (vecs : List (List Num)) (r : Nat) :
    State × Nat × Option MemFault :=
  let vs := (b.row s.freeAt r p.cols).map LWord.drainValue
  let fl0 := orAll (vs.map (·.2))
  let fv := fun q => s.freeAt (1024 + q)
  let (s, col, f) := s.readColumn m t p r
  match f with
  | some g => (s, 0, some g)
  | none =>
    let (xs, fl1, res) :=
      if p.ops = [] then (vs.map (·.1), 0, [])
      else
        let cs := vs.map (fun v => convert .fp32 .nearest p.sat 0 v.1)
        let (ys, fl, res) := applyList p r vecs col (cs.map (fun c => fp32Of c.1))
        (ys, fl ||| orAll (cs.map (·.2)), res)
    let (dat, sc, fl2) := p.outRow fv r xs
    let (s, g) := s.writeRow m t p r dat sc res
    (s.drewMany rowDraws, fl0 ||| fl1 ||| fl2, g)

/-- The source values of row `r` of a POST, converted to FP32 (R120). -/
def State.postSource (s : State) (m : Master) (t : Nat) (d : BitVec 512) (r cols : Nat) :
    State × List (Num × Nat) × Option MemFault :=
  let f := (Fmt.ofCode (dfld d 36 32)).getD .fp32
  let (s, bs, e) := s.dmaRead m (carrelAddr t (dfld d 89 64 + r * dfld d 255 224)) (packedBytes f cols)
  (s, (List.range cols).map (fun j => rnd32 (decodeElem f (elemAt f.width bs j))), e)

/-- Row `r` of a POST. -/
def State.postRow (s : State) (m : Master) (t : Nat) (d : BitVec 512) (p : VecP) (vecs : List (List Num)) (r : Nat) :
    State × Nat × Option MemFault :=
  let fv := fun q => s.freeAt (1024 + q)
  let (s, vs, e) := s.postSource m t d r p.cols
  let (s, col, f) := if e.isSome then (s, [], e) else s.readColumn m t p r
  match f with
  | some g => (s, 0, some g)
  | none =>
    let (ys, fl, res) := applyList p r vecs col (vs.map (·.1))
    let (dat, sc, fl2) := p.outRow fv r ys
    let (s, g) := s.writeRow m t p r dat sc res
    (s.drewMany rowDraws, orAll (vs.map (·.2)) ||| fl ||| fl2, g)

/-- Rows of a DRAIN or POST in order, until the first fault: the state, the flags, the rows written and the fault. -/
def vecRows (f : State → Nat → State × Nat × Option MemFault) :
    Nat → Nat → State × Nat → State × Nat × Nat × Option MemFault
  | 0, r, (s, fl) => (s, fl, r, none)
  | k + 1, r, (s, fl) =>
    let (s, fl', e) := f s r
    match e with
    | some g => (s, fl, r, some g)
    | none => vecRows f k (r + 1) (s, fl ||| fl')

/-- The list itself and the row vectors are read, then the rows run; a fault fails the command. -/
def State.runVector (s : State) (t : Nat) (i : Issued) (listOff : Nat) (p : VecP)
    (f : List (List Num) → State → Nat → State × Nat × Option MemFault) : State :=
  let m := tileMaster t i.cmd.secure
  let (s, _, e) := s.dmaRead m (carrelAddr t listOff) (8 * p.ops.length)
  let (s, vecs, e) := if e.isSome then (s, [], e) else s.readVectors m t p
  match e with
  | some g => s.failIssued t i { (g.carrelFail t) with unit := 3 }
  | none =>
    let (s, fl, r, e) := vecRows (f vecs) p.rows 0 (s, 0)
    match e with
    | some g => s.failIssued t i { (g.carrelFail t) with unit := 3, progress := r }
    | none => s.setIssued t { i with flags := fl }

/-- A DRAIN (R117 to R119). -/
def State.runDrain (s : State) (t : Nat) (i : Issued) : State :=
  let d := i.cmd.desc
  let p := s.drainP t i.hash d
  let m := tileMaster t i.cmd.secure
  let b := (s.tile t).bank (dfld d 32 32)
  s.runVector t i (dfld d 153 128) p (fun vecs s r =>
    if p.df = .ledger then s.drainRaw m t p b (dfld d 42 42 = 1) r else s.drainRound m t p b vecs r)

/-- A POST (R120). -/
def State.runPost (s : State) (t : Nat) (i : Issued) : State :=
  let d := i.cmd.desc
  let p := s.postP t i.hash d
  s.runVector t i (dfld d 153 128) p (fun vecs s r => s.postRow (tileMaster t i.cmd.secure) t d p vecs r)

end Sys2Proof.Machine
end

