-- ==== Sys2Proof/Machine/TileCheck.lean ====
section
/-!
DEFINITION. The checks of a tile command before it issues, in the order of R669, and the dependencies of R107 and R108.
-/
namespace Sys2Proof.Machine

/-- A broken check: the step of R669, the descriptor word, and the code. -/
abbrev Broken := Nat × Nat × Nat

def chk (c : Prop) [Decidable c] (step word code : Nat) : List Broken := if c then [(step, word, code)] else []

/-- Reserved bit ranges of each descriptor (R110, R112 to R127). -/
def reservedRanges (op : Nat) : List (Nat × Nat) :=
  (15, 13) :: match op with
  | 1 => [(63, 53), (223, 218), (255, 250), (511, 448)]
  | 2 => [(63, 58), (127, 100), (159, 154), (191, 186), (223, 218), (255, 250), (383, 373), (511, 416)]
  | 3 => [(63, 48), (95, 90), (127, 122), (159, 154), (255, 228), (511, 320)]
  | 4 => [(63, 51), (95, 90), (127, 122), (159, 154), (191, 186), (223, 218), (319, 304), (511, 384)]
  | 5 => [(63, 32), (127, 90), (223, 208), (511, 320)]
  | 6 => [(63, 37), (127, 112), (159, 146), (191, 172), (511, 224)]
  | 7 => [(511, 38)]
  | 8 => [(63, 33), (95, 90), (127, 123), (511, 154)]
  | _ => []

/-- Reserved bits that are not zero (R111): the word holds the lowest bit that is set in a range. -/
def checkReserved (d : BitVec 512) : List Broken :=
  (reservedRanges (opcodeOf d)).flatMap (fun r =>
    (List.range 16).flatMap (fun w =>
      let hi := min r.1 (32 * w + 31)
      let lo := max r.2 (32 * w)
      chk (lo ≤ hi ∧ dfld d hi lo ≠ 0) 2 w 0x02))

/-- A format code is reserved or not among those allowed. -/
def badFmt (code : Nat) (ok : Fmt → Bool) : Bool :=
  match Fmt.ofCode code with
  | some f => !ok f
  | none => true

/-- The elements of a row that its format packs (R112). -/
def badCount (f : Fmt) (n : Nat) : Bool :=
  (f.width = 6 && n % 4 ≠ 0) || (f.width = 4 && n % 2 ≠ 0) || (f.isMx && n % 32 ≠ 0)

def isWide (f : Fmt) : Bool := f = .fp32 || f = .bf16 || f = .fp16

/-- The conversions of R113. -/
def loadPair (sf df : Fmt) : Bool :=
  sf = df || (sf.isOperand && isWide df) ||
    (isWide sf && (df = .e4m3 || df = .e5m2 || df = .int8 || df.isMx)) ||
    (sf = .ledger && df.isDrainOut && df ≠ .ledger)

/-- The pairings of R80. -/
def mmaPair (a b : Fmt) : Bool :=
  let small := fun f : Fmt => f.isOperand && !isWide f && f ≠ .int8
  (small a && small b) || (a = .int8 && b = .int8) ||
    ((a = .bf16 || a = .fp16) && (b = .bf16 || b = .fp16)) || (a = .fp32 && b = .fp32)

/-- Source formats of a POST (R120). -/
def postSrc (f : Fmt) : Bool := isWide f || f = .e4m3 || f = .e5m2 || f = .int8 || f = .int32

/-! ### Carrel ranges (R105, R108) -/

/-- A range of rows in the carrel: offset, bytes of a row, rows, stride. -/
structure CRange where
  lo : Nat
  len : Nat
  rows : Nat
  stride : Nat
deriving DecidableEq, Repr

def CRange.stop (r : CRange) : Nat := if r.rows = 0 ∨ r.len = 0 then 0 else r.lo + (r.rows - 1) * r.stride + r.len

def CRange.outside (r : CRange) : Bool := decide (0x4000000 < r.stop)

/-- Whether bytes `[x, x + n)` overlap a row of the range. -/
def CRange.hits (r : CRange) (x n : Nat) : Bool :=
  if r.rows = 0 ∨ r.len = 0 ∨ n = 0 then false
  else if r.stride = 0 ∨ r.rows = 1 then decide (r.lo < x + n ∧ x < r.lo + r.len)
  else
    -- the last row that starts below x + n
    let k := min (r.rows - 1) ((x + n - 1 - r.lo) / r.stride)
    let near := fun j => decide (r.lo + j * r.stride < x + n ∧ x < r.lo + j * r.stride + r.len)
    decide (r.lo < x + n) && (near k || (List.range k).any near)

/-- Overlap on exact byte ranges, strides included (R108). -/
def CRange.meets (a b : CRange) : Bool :=
  (List.range b.rows).any (fun k => a.hits (b.lo + k * b.stride) b.len)

/-- A local address range in the carrel of tile `t`, named with SPACE 0 (R108). -/
def ownRange (t g len rows stride : Nat) : List CRange :=
  if gSpace g = 0 ∧ carrelAddr t 0 ≤ gLocal g ∧ gLocal g < carrelAddr t carrelSize then
    [⟨carrelOff t (gLocal g), len, rows, stride⟩]
  else []

/-- The ranges of a post-op list: operand vectors read, and row results written. -/
def opsReads (ops : List PostOp) (rows cols : Nat) : List CRange :=
  ops.flatMap (fun e => if e.opnd = 2 then [⟨e.addr, 4 * cols, 1, 0⟩] else if e.opnd = 3 then [⟨e.addr, 4 * rows, 1, 0⟩] else [])

def opsWrites (ops : List PostOp) (rows : Nat) : List CRange :=
  ops.flatMap (fun e =>
    if e.op = 0x10 ∨ e.op = 0x11 then [⟨e.addr, 32 * rows, 1, 0⟩]
    else if e.op = 0x12 then [⟨e.addr, 4 * rows, 1, 0⟩] else [])

def VecP.writes (p : VecP) : List CRange :=
  ⟨p.dst, packedBytes p.df p.cols, p.rows, p.dstStride⟩ ::
    (if p.df.isMx then [⟨p.scaleDst, p.cols / 32, p.rows, p.scaleStride⟩] else []) ++ opsWrites p.ops p.rows

/-- The carrel ranges that a command reads. -/
def State.cmdReads (s : State) (t : Nat) (d : BitVec 512) : List CRange :=
  match opcodeOf d with
  | 1 =>
    let p := loadP 0 d
    ownRange t (dfld d 127 64) p.srcBytes p.rows (dfld d 319 288) ++
      (if p.sf.isMx then ownRange t (dfld d 191 128) p.srcScales p.rows (dfld d 367 352) else [])
  | 2 =>
    let k := dfld d 372 352
    let m := dfld d 89 80
    let n := dfld d 99 90
    let fa := mmaFmtA d
    let fb := mmaFmtB d
    [⟨dfld d 153 128, packedBytes fa k, m, dfld d 287 256⟩, ⟨dfld d 185 160, packedBytes fb n, k, dfld d 319 288⟩] ++
      (if fa.isMx then [⟨dfld d 217 192, k / 32, m, dfld d 335 320⟩] else []) ++
      (if fb.isMx then [⟨dfld d 249 224, n, k / 32, dfld d 351 336⟩] else [])
  | 3 =>
    let p := s.drainP t 0 d
    [⟨dfld d 153 128, 8 * dfld d 47 43, 1, 0⟩] ++ opsReads p.ops p.rows p.cols ++
      (if dfld d 42 42 = 1 then [⟨p.dst, packedBytes p.df p.cols, p.rows, p.dstStride⟩] else [])
  | 4 =>
    let p := s.postP t 0 d
    [⟨dfld d 153 128, 8 * dfld d 50 46, 1, 0⟩,
      ⟨dfld d 89 64, packedBytes ((Fmt.ofCode (dfld d 36 32)).getD .fp32) p.cols, p.rows, dfld d 255 224⟩] ++
      opsReads p.ops p.rows p.cols
  | 5 => [⟨dfld d 89 64, dfld d 255 224, dfld d 207 192, dfld d 287 256⟩]
  | 8 => if dfld d 32 32 = 0 then [⟨dfld d 89 64, dfld d 122 96, 1, 0⟩] else []
  | _ => []

/-- The carrel ranges that a command writes. -/
def State.cmdWrites (s : State) (t : Nat) (d : BitVec 512) : List CRange :=
  match opcodeOf d with
  | 1 =>
    let p := loadP 0 d
    ⟨dfld d 217 192, p.dstBytes, p.rows, dfld d 351 320⟩ ::
      (if p.df.isMx then [⟨dfld d 249 224, p.dstScales, p.rows, dfld d 383 368⟩] else [])
  | 3 => (s.drainP t 0 d).writes
  | 4 => (s.postP t 0 d).writes
  | 5 => ownRange t (dfld d 191 128) (dfld d 255 224) (dfld d 207 192) (dfld d 319 288)
  | 8 =>
    if dfld d 32 32 = 1 then [⟨dfld d 89 64, dfld d 122 96, 1, 0⟩] else [⟨dfld d 153 128, 192, 1, 0⟩]
  | _ => []

/-! ### Checks on the descriptor (R669 steps 1 to 7) -/

/-- A local address that names a module is refused at issue (R42). -/
def wrongModule (g : Nat) : Bool := gSpace g = 0 && gModule g ≠ 0

/-- LOAD (R112, R113, R124, R105). -/
def checkLoad (d : BitVec 512) : List Broken :=
  let p := loadP 0 d
  let ranges := chk ((CRange.mk (dfld d 217 192) p.dstBytes p.rows (dfld d 351 320)).outside) 7 6 0x05 ++
    chk (p.df.isMx ∧ (CRange.mk (dfld d 249 224) p.dstScales p.rows (dfld d 383 368)).outside) 7 7 0x05
  chk (badFmt (dfld d 36 32) (fun _ => true)) 2 1 0x02 ++ chk (badFmt (dfld d 41 37) (fun _ => true)) 2 1 0x02 ++
  chk (4 < dfld d 44 42) 2 1 0x02 ++ chk (p.rows = 0) 2 8 0x02 ++ chk (p.elems = 0) 2 8 0x02 ++
  chk (loadPair p.sf p.df = false) 3 1 0x03 ++
  chk (badCount p.sf p.elems ∨ badCount p.df p.elems) 3 8 0x03 ++
  chk (1 < dfld d 127 124) 5 3 0x0D ++ chk (p.sf.isMx ∧ 1 < dfld d 191 188) 5 5 0x0D ++
  chk (p.sf = .ledger ∧ dfld d 127 64 % 32 ≠ 0) 6 2 0x04 ++ chk (p.sf = .ledger ∧ dfld d 319 288 % 32 ≠ 0) 6 9 0x04 ++
  chk (dfld d 217 192 % 64 ≠ 0) 6 6 0x04 ++ chk (dfld d 351 320 % 64 ≠ 0) 6 10 0x04 ++
  chk (p.df.isMx ∧ dfld d 249 224 % 64 ≠ 0) 6 7 0x04 ++ chk (p.df.isMx ∧ dfld d 383 368 % 64 ≠ 0) 6 11 0x04 ++ ranges ++
  chk (wrongModule (dfld d 127 64)) 9 3 0x08 ++ chk (p.sf.isMx ∧ wrongModule (dfld d 191 128)) 9 5 0x08

/-- MMA (R115, R116, R105). -/
def checkMma (d : BitVec 512) : List Broken :=
  let fa := mmaFmtA d
  let fb := mmaFmtB d
  let k := dfld d 372 352
  let m := dfld d 89 80
  let n := dfld d 99 90
  chk (badFmt (dfld d 36 32) (fun _ => true)) 2 1 0x02 ++ chk (badFmt (dfld d 41 37) (fun _ => true)) 2 1 0x02 ++
  chk (dfld d 45 44 = 3) 2 1 0x02 ++ chk (m = 0 ∨ 512 < m) 2 2 0x02 ++ chk (n = 0 ∨ 512 < n) 2 2 0x02 ++
  chk (k = 0 ∨ 1048576 < k) 2 11 0x02 ++
  chk (mmaPair fa fb = false) 3 1 0x03 ++
  chk (((fa.isMx ∨ fb.isMx) ∧ k % 32 ≠ 0) ∨ (fa.width = 4 ∧ fb.width = 4 ∧ k % 2 ≠ 0) ∨ (fa.width = 6 ∧ k % 4 ≠ 0))
    3 11 0x03 ++
  chk (dfld d 43 43 = 1 ∧ dfld d 45 44 = 2) 4 1 0x02 ++
  chk (dfld d 153 128 % 64 ≠ 0) 6 4 0x04 ++ chk (dfld d 185 160 % 64 ≠ 0) 6 5 0x04 ++
  chk (fa.isMx ∧ dfld d 217 192 % 64 ≠ 0) 6 6 0x04 ++ chk (fb.isMx ∧ dfld d 249 224 % 64 ≠ 0) 6 7 0x04 ++
  chk (dfld d 287 256 % 64 ≠ 0) 6 8 0x04 ++ chk (dfld d 319 288 % 64 ≠ 0) 6 9 0x04 ++
  chk (fa.isMx ∧ dfld d 335 320 % 64 ≠ 0) 6 10 0x04 ++ chk (fb.isMx ∧ dfld d 351 336 % 64 ≠ 0) 6 10 0x04 ++
  chk ((CRange.mk (dfld d 153 128) (packedBytes fa k) m (dfld d 287 256)).outside) 7 4 0x05 ++
  chk ((CRange.mk (dfld d 185 160) (packedBytes fb n) k (dfld d 319 288)).outside) 7 5 0x05 ++
  chk (fa.isMx ∧ (CRange.mk (dfld d 217 192) (k / 32) m (dfld d 335 320)).outside) 7 6 0x05 ++
  chk (fb.isMx ∧ (CRange.mk (dfld d 249 224) n (k / 32) (dfld d 351 336)).outside) 7 7 0x05

/-- DRAIN (R117, R105), its list apart. -/
def checkDrain (d : BitVec 512) : List Broken :=
  let f := (Fmt.ofCode (dfld d 37 33)).getD .fp32
  let m := dfld d 217 208
  let n := dfld d 227 218
  let raw := dfld d 37 33 = 15
  let lst := dfld d 47 43
  chk (badFmt (dfld d 37 33) Fmt.isDrainOut) 2 1 0x02 ++ chk (4 < dfld d 40 38) 2 1 0x02 ++ chk (16 < lst) 2 1 0x02 ++
  chk (m = 0 ∨ 512 < m) 2 6 0x02 ++ chk (n = 0 ∨ 512 < n) 2 6 0x02 ++
  chk (raw ∧ lst ≠ 0) 4 1 0x02 ++ chk (dfld d 42 42 = 1 ∧ ¬raw) 4 1 0x02 ++ chk (f.isMx ∧ n % 32 ≠ 0) 4 6 0x02 ++
  chk (dfld d 89 64 % 64 ≠ 0) 6 2 0x04 ++ chk (f.isMx ∧ dfld d 121 96 % 64 ≠ 0) 6 3 0x04 ++
  chk (lst ≠ 0 ∧ dfld d 153 128 % 64 ≠ 0) 6 4 0x04 ++ chk (dfld d 191 160 % 64 ≠ 0) 6 5 0x04 ++
  chk (f.isMx ∧ dfld d 207 192 % 64 ≠ 0) 6 6 0x04 ++
  chk ((CRange.mk (dfld d 89 64) (packedBytes f n) m (dfld d 191 160)).outside) 7 2 0x05 ++
  chk (f.isMx ∧ (CRange.mk (dfld d 121 96) (n / 32) m (dfld d 207 192)).outside) 7 3 0x05 ++
  chk ((CRange.mk (dfld d 153 128) (8 * lst) 1 0).outside) 7 4 0x05

/-- POST (R120, R105), its list apart. -/
def checkPost (d : BitVec 512) : List Broken :=
  let sf := (Fmt.ofCode (dfld d 36 32)).getD .fp32
  let f := (Fmt.ofCode (dfld d 41 37)).getD .fp32
  let m := dfld d 207 192
  let n := dfld d 217 208
  let lst := dfld d 50 46
  let src := CRange.mk (dfld d 89 64) (packedBytes sf n) m (dfld d 255 224)
  let dst := CRange.mk (dfld d 121 96) (packedBytes f n) m (dfld d 287 256)
  let sc := CRange.mk (dfld d 185 160) (n / 32) m (dfld d 303 288)
  chk (badFmt (dfld d 36 32) postSrc) 2 1 0x02 ++ chk (badFmt (dfld d 41 37) (fun g => g.isDrainOut && g ≠ .ledger)) 2 1 0x02 ++
  chk (4 < dfld d 44 42) 2 1 0x02 ++ chk (lst = 0 ∨ 16 < lst) 2 1 0x02 ++ chk (m = 0) 2 6 0x02 ++
  chk (n = 0 ∨ 512 < n) 2 6 0x02 ++
  chk (f.isMx ∧ n % 32 ≠ 0) 4 6 0x02 ++ chk (src ≠ dst ∧ src.meets dst) 4 3 0x02 ++
  chk (f.isMx ∧ (sc.meets src ∨ sc.meets dst)) 4 5 0x02 ++
  chk (dfld d 89 64 % 64 ≠ 0) 6 2 0x04 ++ chk (dfld d 121 96 % 64 ≠ 0) 6 3 0x04 ++
  chk (dfld d 153 128 % 64 ≠ 0) 6 4 0x04 ++ chk (f.isMx ∧ dfld d 185 160 % 64 ≠ 0) 6 5 0x04 ++
  chk (dfld d 255 224 % 64 ≠ 0) 6 7 0x04 ++ chk (dfld d 287 256 % 64 ≠ 0) 6 8 0x04 ++
  chk (f.isMx ∧ dfld d 303 288 % 64 ≠ 0) 6 9 0x04 ++
  chk src.outside 7 2 0x05 ++ chk dst.outside 7 3 0x05 ++ chk ((CRange.mk (dfld d 153 128) (8 * lst) 1 0).outside) 7 4 0x05 ++
  chk (f.isMx ∧ sc.outside) 7 5 0x05

/-- STORE (R124, R105). -/
def checkStore (d : BitVec 512) : List Broken :=
  let rb := dfld d 255 224
  let led := dfld d 191 188 = 3
  chk (dfld d 207 192 = 0) 2 6 0x02 ++ chk (rb = 0 ∨ 16777216 < rb) 2 7 0x02 ++
  chk (¬(dfld d 191 188 ≤ 1 ∨ led)) 5 5 0x0D ++
  chk (dfld d 89 64 % 64 ≠ 0) 6 2 0x04 ++ chk (led ∧ dfld d 191 128 % 32 ≠ 0) 6 4 0x04 ++
  chk (led ∧ rb % 32 ≠ 0) 6 7 0x04 ++ chk (dfld d 287 256 % 64 ≠ 0) 6 8 0x04 ++
  chk (led ∧ dfld d 319 288 % 32 ≠ 0) 6 9 0x04 ++
  chk ((CRange.mk (dfld d 89 64) rb (dfld d 207 192) (dfld d 287 256)).outside) 7 2 0x05 ++
  chk (wrongModule (dfld d 191 128)) 9 5 0x08

/-- SYNC (R125). -/
def State.checkSync (s : State) (t : Nat) (d : BitVec 512) : List Broken :=
  chk (3 < dfld d 34 32) 2 1 0x02 ++
  chk (dfld d 34 32 = 3 ∧ s.tileOwner t ≠ some (s.ctx (dfld d 145 128)).owner) 4 4 0x02

/-- SCRUB (R127). -/
def checkScrub (d : BitVec 512) : List Broken :=
  let n := dfld d 122 96
  let z := dfld d 32 32 = 1
  let r := CRange.mk (dfld d 89 64) n 1 0
  let q := CRange.mk (dfld d 153 128) 192 1 0
  chk (n % 64 ≠ 0 ∨ n = 0 ∨ 67108864 < n) 2 3 0x02 ++ chk (¬z ∧ r.meets q) 4 4 0x02 ++
  chk (dfld d 89 64 % 64 ≠ 0) 6 2 0x04 ++ chk (¬z ∧ dfld d 153 128 % 64 ≠ 0) 6 4 0x04 ++
  chk r.outside 7 2 0x05 ++ chk (¬z ∧ q.outside) 7 4 0x05

/-- The checks on the descriptor alone, made when it reaches the head (R134). -/
def State.checkDesc (s : State) (t : Nat) (d : BitVec 512) : List Broken :=
  match opcodeOf d with
  | 1 => checkReserved d ++ checkLoad d
  | 2 => checkReserved d ++ checkMma d
  | 3 => checkReserved d ++ checkDrain d
  | 4 => checkReserved d ++ checkPost d
  | 5 => checkReserved d ++ checkStore d
  | 6 => checkReserved d ++ s.checkSync t d
  | 7 => checkReserved d
  | 8 => checkReserved d ++ checkScrub d
  | _ => [(1, 0, 0x01)]

/-- The OPND values that an op takes (R122). -/
def opndOk (op opnd : Nat) : Bool :=
  if 0x01 ≤ op ∧ op ≤ 0x05 then decide (opnd ≠ 0)
  else if op = 0x14 ∨ op = 0x15 then decide (opnd = 1)
  else decide (opnd = 0)

def opKnown (op : Nat) : Bool :=
  decide (op ≤ 0x0D) || op = 0x10 || op = 0x11 || op = 0x12 || op = 0x14 || op = 0x15

/-- Whether an entry of a list breaks R121 or R122. -/
def badEntry (bs : List Byte) : Bool :=
  let v := ofLe bs
  let op := bits v 7 0
  !opKnown op || !opndOk op (bits v 9 8) || bits v 11 10 ≠ 0 ||
    ((op = 0x10 || op = 0x11) && bits v 63 48 ≠ 0)

/-- The checks of a post-op list: its entries, and the ranges that they name. A list that is itself misaligned or out
of range is not read. -/
def State.checkList (s : State) (t : Nat) (d : BitVec 512) : List Broken :=
  let go := fun (n rows cols : Nat) =>
    let off := dfld d 153 128
    if (CRange.mk off (8 * n) 1 0).outside ∨ 16 < n ∨ off % 64 ≠ 0 then []
    else
      let ops := s.postList t off n
      chk ((List.range n).any (fun q => badEntry (s.readBytes (carrelAddr t (off + 8 * q)) 8))) 4 4 0x02 ++
        chk ((opsReads ops rows cols ++ opsWrites ops rows).any CRange.outside) 7 4 0x05
  match opcodeOf d with
  | 3 => go (dfld d 47 43) (dfld d 217 208) (dfld d 227 218)
  | 4 => go (dfld d 50 46) (dfld d 207 192) (dfld d 217 208)
  | _ => []

/-- The banks and the anchor, tested as the command issues (R102, R116; R669 step 8). -/
def State.checkBank (s : State) (t : Nat) (d : BitVec 512) : List Broken :=
  match opcodeOf d with
  | 2 =>
    let b := (s.tile t).bank (dfld d 42 42)
    if dfld d 43 43 = 1 then []
    else if b.st ≠ .opened then [(8, 1, 0x06)]
    else if dfld d 45 44 = 1 then [(8, 1, 0x07)]
    else if dfld d 45 44 = 0 ∧ sext 16 (dfld d 79 64) ≠ b.anchor then [(8, 2, 0x07)]
    else []
  | 3 => if ((s.tile t).bank (dfld d 32 32)).st ≠ .opened then [(8, 1, 0x06)] else []
  | _ => []

/-- Whether a global address is refused for its context at issue (R42, R44, R295). -/
def State.addrRefused (s : State) (t g : Nat) : Bool :=
  if gSpace g = 0 then false
  else
    let c := s.fld (F.GMA_TILE_CTX_CTX t)
    let x := s.ctx c
    !s.flag F.MYR_FABRIC_ID_VALID || !s.flag (F.GMA_TILE_CTX_VALID t) || x.st ≠ .ready ||
      s.tileOwner t ≠ some x.owner || gModule g ≠ x.peerModule

/-- Refusals at issue (R669 step 9). -/
def State.checkAddr (s : State) (t : Nat) (d : BitVec 512) : List Broken :=
  match opcodeOf d with
  | 1 => chk (s.addrRefused t (dfld d 127 64)) 9 2 0x08 ++
      chk ((loadP 0 d).sf.isMx ∧ s.addrRefused t (dfld d 191 128)) 9 4 0x08
  | 5 => chk (s.addrRefused t (dfld d 191 128)) 9 4 0x08
  | _ => []

/-- The first broken check in the order of R669. -/
def firstBroken (l : List Broken) : Option Broken :=
  l.foldl (fun a b => match a with
    | none => some b
    | some c => if b.1 < c.1 ∨ (b.1 = c.1 ∧ b.2.1 < c.2.1) then some b else a) none

/-! ### Issue (R107, R108) -/

/-- Room of a unit: 4 DMA commands, 2 MMAs, 1 vector command (R107). -/
def Tile.unitRoom (x : Tile) (op : Nat) : Bool :=
  let n := fun ops : List Nat => (x.issued.filter (fun i => decide (opcodeOf i.cmd.desc ∈ ops))).length
  match op with
  | 1 => decide (n [1, 5, 8] < 4)
  | 5 => decide (n [1, 5, 8] < 4)
  | 8 => decide (n [1, 5, 8] < 4)
  | 2 => decide (n [2] < 2)
  | 3 => decide (n [3, 4] < 1)
  | 4 => decide (n [3, 4] < 1)
  | _ => true

def anyMeet (as bs : List CRange) : Bool := as.any (fun a => bs.any (fun b => a.meets b))

/-- Whether a dependency of a command on an earlier incomplete command is open (R108). -/
def State.hazard (s : State) (t : Nat) (d : BitVec 512) (i : Issued) : Bool :=
  let e := i.cmd.desc
  let carrel := anyMeet (s.cmdReads t d) (s.cmdWrites t e) || anyMeet (s.cmdWrites t d) (s.cmdReads t e) ||
    anyMeet (s.cmdWrites t d) (s.cmdWrites t e)
  let bank := match opcodeOf d with
    | 3 => opcodeOf e = 2 && dfld e 42 42 = dfld d 32 32
    | 2 =>
      (opcodeOf e = 3 && dfld e 32 32 = dfld d 42 42 && !i.bankRead) ||
        (dfld d 43 43 = 1 && opcodeOf e = 2 && dfld e 42 42 = dfld d 42 42) ||
        (dfld d 45 44 = 1 && opcodeOf e = 1 && dfld e 46 46 = 1 &&
          (dfld e 52 47 = dfld d 51 46 || dfld e 52 47 = dfld d 57 52))
    | _ => false
  carrel || bank

/-- Whether an issued command has still to write the post-op list of a command (R108). -/
def State.listOpen (s : State) (t : Nat) (d : BitVec 512) : Bool :=
  let lst : List CRange := match opcodeOf d with
    | 3 => [⟨dfld d 153 128, 8 * dfld d 47 43, 1, 0⟩]
    | 4 => [⟨dfld d 153 128, 8 * dfld d 50 46, 1, 0⟩]
    | _ => []
  (s.tile t).issued.any (fun i => anyMeet lst (s.cmdWrites t i.cmd.desc))

/-- Whether the head may not issue yet (R107). -/
def State.blocked (s : State) (t : Nat) (d : BitVec 512) : Bool :=
  let x := s.tile t
  !x.unitRoom (opcodeOf d) || (dfld d 8 8 = 1 && x.issued ≠ []) || x.issued.any (fun i => s.hazard t d i)

/-- Whether the tile issues at all: enabled, not halted, calm, parked, draining or in reset, and admission open (R128,
R131, R137, R398). -/
def State.issues (s : State) (t : Nat) : Bool :=
  let x := s.tile t
  s.flag (blkTil t).enable && s.flag (blkTil t).active && x.failed.isNone && !x.calmReq && !x.calm && !x.resetting &&
    !(s.fld F.MOD_PARKED0_TILES).testBit t && s.admits &&
    !(match s.tileOwner t with | some o => s.ownerMoving o | none => false)

end Sys2Proof.Machine
end

