-- ==== Sys2Proof/Machine/Tile.lean ====
section
/-!
DEFINITION. The commands of a tile: issue, completion, halts and their actions, calm and reset (R107 to R148).
-/
namespace Sys2Proof.Machine

/-! ### Issue -/

/-- The head leaves the queue. -/
def State.popHead (s : State) (t : Nat) : State := s.modTile t (fun x => { x with queue := x.queue.drop 1 })

/-- The head fails a check: nothing of it is executed (R134). -/
def State.failHead (s : State) (t : Nat) (c : TCmd) (b : Broken) : State :=
  let slot := s.headSlot t c
  (s.popHead t).tileFail t c slot false { code := b.2.2, word := b.2.1 }

/-- The head issues: it is counted, and joins the issued commands with seed and step as they stand (R99, R138). -/
def State.issueCmd (s : State) (t : Nat) (c : TCmd) : State × Issued :=
  let i : Issued :=
    { cmd := { c with slot := none }, slot := s.headSlot t c, bankRead := false, metaExp := -32768, flags := 0,
      hash := s.hashNow t, remote := none, buf := [] }
  (((s.popHead t).countHead t c).modTile t (fun x => { x with issued := x.issued ++ [i] }), i)

/-- The head of a tile is taken up for the command of opcode `op`: nothing happens where the tile does not issue, another
command stands at the head, or the head is blocked; a broken check fails it; else it issues and runs (R107, R134). A
post-op list is read at the head once no earlier command has still to write it (R108). A head with a reserved opcode belongs to no command of its own and fails under each. -/
def State.issueHead (s : State) (t op : Nat) (run : State → Issued → State) : State :=
  match (s.tile t).queue with
  | [] => s
  | c :: _ =>
    let o := opcodeOf c.desc
    if !s.issues t ∨ (o ≠ op ∧ 1 ≤ o ∧ o ≤ 8) then s
    else
      match firstBroken (s.checkDesc t c.desc ++ if s.listOpen t c.desc then [] else s.checkList t c.desc) with
      | some b => s.failHead t c b
      | none =>
        if s.blocked t c.desc then s
        else
          match firstBroken (s.checkBank t c.desc ++ s.checkAddr t c.desc) with
          | some b => s.failHead t c b
          | none => let (s, i) := s.issueCmd t c; run s i

/-! ### Commands performed through a queue context (R295) -/

/-- The operation of a context that performs a tile command (R295, R299). -/
def tileOp (op t slot : Nat) (regions : List XReg) : COp :=
  { op := op, index := 0, tag := 0, notify := false, tile := some (t, slot), regions := regions,
    length := (regions.map (fun r => r.rowBytes * r.rows)).foldl (· + ·) 0, sent := 0, okBytes := 0, failed := false,
    waiting := false, e2e := false, aux := [] }

/-- A remote command starts: the issued command names the operation before its first message, so that a failure finds
it. -/
def State.startTileOp (s : State) (t : Nat) (i : Issued) (op : Nat) (regions : List XReg) : State :=
  let c := s.fld (F.GMA_TILE_CTX_CTX t)
  let s := s.setIssued t { i with remote := some (c, (s.ctx c).nextOp) }
  (s.startOp c (tileOp op t i.slot regions)).1

/-- The part of a LOAD's source that lies in this module's memory while the rest is remote: read as the command issues.
`pos` is its place among the source bytes. -/
def State.bufferLocal (s : State) (m : Master) (a stride len : Nat) (pos : Nat) :
    Nat → Nat → State × List (Nat × List Byte) × Option Fail
  | 0, _ => (s, [], none)
  | k + 1, r =>
    let (s, bs, f) := s.dmaRead m (a + r * stride) len
    match f with
    | some g => (s, [], some g.fail)
    | none =>
      let (s, rest, g) := State.bufferLocal s m a stride len pos k (r + 1)
      (s, (pos + r * len, bs) :: rest, g)

/-- A LOAD with a source at another module, or at this one through the router (R43, R112, R295). -/
def State.remoteLoad (s : State) (t : Nat) (i : Issued) : State :=
  let d := i.cmd.desc
  let p := loadP i.hash d
  let m := tileMaster t i.cmd.secure
  let far := gSpace (dfld d 127 64) ≠ 0
  let farSc := p.sf.isMx ∧ gSpace (dfld d 191 128) ≠ 0
  let base := p.rows * p.srcBytes
  let reg : XReg := ⟨dfld d 127 64, 0, p.srcBytes, p.rows, dfld d 319 288, p.srcBytes⟩
  let regSc : XReg := ⟨dfld d 191 128, base, p.srcScales, p.rows, dfld d 367 352, p.srcScales⟩
  let (s, b1, f1) :=
    if far then (s, [], none) else s.bufferLocal m (gLocal (dfld d 127 64)) (dfld d 319 288) p.srcBytes 0 p.rows 0
  let (s, b2, f2) :=
    if farSc ∨ !p.sf.isMx ∨ f1.isSome then (s, [], none)
    else s.bufferLocal m (gLocal (dfld d 191 128)) (dfld d 367 352) p.srcScales base p.rows 0
  match f1.or f2 with
  | some f => s.failIssued t i { f with unit := 1 }
  | none =>
    s.startTileOp t { i with buf := b1 ++ b2 } 3 ((if far then [reg] else []) ++ (if farSc then [regSc] else []))

def loadIsRemote (d : BitVec 512) : Bool :=
  gSpace (dfld d 127 64) ≠ 0 || ((loadP 0 d).sf.isMx && gSpace (dfld d 191 128) ≠ 0)

/-- A STORE to another module: a PUT, or a LEDGER_ADD with SPACE 0x3 (R295). -/
def State.remoteStore (s : State) (t : Nat) (i : Issued) : State :=
  let d := i.cmd.desc
  let g := dfld d 191 128
  s.startTileOp t i (if gSpace g = 3 then 5 else 1)
    [⟨g, carrelAddr t (dfld d 89 64), dfld d 255 224, dfld d 207 192, dfld d 319 288, dfld d 287 256⟩]

/-! ### SYNC and PHASE (R125, R126) -/

/-- A command that is resolved at the head completes OK. -/
def State.completeHead (s : State) (t : Nat) (c : TCmd) : State :=
  let i : Issued :=
    { cmd := c, slot := s.headSlot t c, bankRead := false, metaExp := 0, flags := 0, hash := 0, remote := none, buf := [] }
  let s := (s.popHead t).countHead t c
  (s.modTile t (fun x => { x with syncHeld := false, syncArrived := none })).completeOk t i

/-- Whether the condition of a SYNC is met (R125). -/
def State.syncMet (s : State) (t : Nat) (d : BitVec 512) : Bool :=
  match dfld d 34 32 with
  | 0 => reached 32 (s.fld (F.TIL_SIG_CNT t (dfld d 36 35))) (dfld d 95 64)
  | 1 => (s.tile t).issued = []
  | 2 =>
    match (s.tile t).syncArrived with
    | some g => decide (s.fld (F.GMA_BAR_STS_GEN (dfld d 171 160)) ≠ g)
        && reached 8 (s.fld (F.GMA_BAR_STS_GEN (dfld d 171 160))) (g + 1)
    | none => false
  | _ => reached 48 (s.ctx (dfld d 145 128)).compCnt (dfld d 111 64)

/-- The SYNC at the head is tested: it completes, or it is held (R125). -/
def State.syncTest (s : State) (t : Nat) (c : TCmd) : State :=
  if s.syncMet t c.desc then s.completeHead t c
  else s.modTile t (fun x => { x with syncHeld := true })

/-- A SYNC reaches its test: in mode 2 it arrives at its group first, once; at a BROKEN group it fails (R125, R326,
R328). -/
def State.syncHead (s : State) (t : Nat) (c : TCmd) : State :=
  let d := c.desc
  let g := dfld d 171 160
  if dfld d 34 32 = 2 ∧ (s.tile t).syncArrived.isNone then
    if s.fld (F.GMA_BAR_STS_STATE g) = barBroken then s.failSync t 0x0C
    else
      let (s, gen) := s.barArrive g
      let s := s.modTile t (fun x => { x with syncHeld := true, syncArrived := some gen })
      let s := s.barCheck g
      match (s.tile t).queue with
      | c' :: _ => if (s.tile t).syncArrived.isSome ∧ c' = c then s.syncTest t c else s
      | [] => s
  else s.syncTest t c

/-- The head, where it is a SYNC that may be tested. -/
def State.syncRun (s : State) (t : Nat) (held : Bool) (f : State → TCmd → State) : State :=
  match (s.tile t).queue with
  | [] => s
  | c :: _ =>
    if !s.issues t ∨ opcodeOf c.desc ≠ 6 ∨ (s.tile t).syncHeld ≠ held then s
    else
      match firstBroken (s.checkDesc t c.desc) with
      | some b => s.failHead t c b
      | none => if s.blocked t c.desc then s else f s c

/-! ### Meanings -/

/-- LOAD (R112). -/
def execLoad (t : Nat) (poison : Option Nat) (s : State) : Host.Outcome State Fault Refusal :=
  .next (s.issueHead t 1 (fun s i => if loadIsRemote i.cmd.desc then s.remoteLoad t i else s.runLoad t i poison))

/-- MMA (R115); the power controller sees a rise of `rise` mA where the array had been idle (R399). -/
def execMma (t rise : Nat) (s : State) : Host.Outcome State Fault Refusal :=
  .next (s.issueHead t 2 (fun s i => ((s.endLull t).squall t rise).runMma t i))

/-- DRAIN (R117). -/
def execDrain (t : Nat) (s : State) : Host.Outcome State Fault Refusal :=
  .next (s.issueHead t 3 (fun s i => s.runDrain t i))

/-- POST (R120). -/
def execPost (t : Nat) (s : State) : Host.Outcome State Fault Refusal :=
  .next (s.issueHead t 4 (fun s i => s.runPost t i))

/-- STORE (R124). -/
def execStore (t : Nat) (s : State) : Host.Outcome State Fault Refusal :=
  .next (s.issueHead t 5 (fun s i =>
    if gSpace (dfld i.cmd.desc 191 128) = 0 then s.runStore t i else s.remoteStore t i))

/-- SYNC reaches the head (R125). -/
def execSync (t : Nat) (s : State) : Host.Outcome State Fault Refusal :=
  .next (s.syncRun t false (fun s c => s.syncHead t c))

/-- The condition of the SYNC at the head is met (R125). -/
def execSyncConditionMet (t : Nat) (s : State) : Host.Outcome State Fault Refusal :=
  .next (s.syncRun t true (fun s c => if s.syncMet t c.desc then s.completeHead t c else s))

/-- The SYNC at the head times out; TIMEOUT 0 waits without limit (R125). -/
def execSyncTimeout (t : Nat) (s : State) : Host.Outcome State Fault Refusal :=
  .next (s.syncRun t true (fun s c => if dfld c.desc 223 192 = 0 then s else s.failSync t 0x0C))

/-- PHASE: the power controller learns the tile's phase; it completes at once (R126, R394). -/
def State.phaseHead (s : State) (t : Nat) (c : TCmd) : State :=
  (s.setFld (F.PWR_TILE_OP_PHASE t) (dfld c.desc 37 32)).completeHead t c

/-- PHASE at the head (R126). -/
def execPhase (t : Nat) (s : State) : Host.Outcome State Fault Refusal :=
  .next (match (s.tile t).queue with
    | [] => s
    | c :: _ =>
      if !s.issues t ∨ opcodeOf c.desc ≠ 7 then s
      else
        match firstBroken (s.checkDesc t c.desc) with
        | some b => s.failHead t c b
        | none => if s.blocked t c.desc then s else s.phaseHead t c)

/-- SCRUB (R127). -/
def execScrub (t : Nat) (s : State) : Host.Outcome State Fault Refusal :=
  .next (s.issueHead t 8 (fun s i => s.runScrub t i))

/-- A bank that a drain has read becomes FREE (R102, R132). -/
def State.freeBank (s : State) (t b : Nat) : State := s.modTile t (fun x => x.setBank b { x.bank b with st := .free })

/-- An issued DRAIN has read its bank's last row (R132). -/
def execDrainBankReadDone (t : Nat) (s : State) : Host.Outcome State Fault Refusal :=
  .next (match (s.tile t).issued.find? (fun i => opcodeOf i.cmd.desc = 3 && !i.bankRead) with
    | some i => (s.freeBank t (dfld i.cmd.desc 32 32)).setIssued t { i with bankRead := true }
    | none => s)

/-- Whether the operation of a remote command has completed (R295, R299). -/
def State.remoteDone (s : State) (i : Issued) : Bool :=
  match i.remote with
  | none => true
  | some (c, n) =>
    match Tab.find? (s.ctx c).ops n with
    | none => true
    | some o => (s.ctx c).opDone n o

/-- An issued command completes OK (R109). -/
def State.finishIssued (s : State) (t : Nat) (i : Issued) : State :=
  let op := opcodeOf i.cmd.desc
  let (s, i) := if op = 1 ∧ i.remote.isSome then s.loadRemote t i else (s, i)
  let s := if op = 3 ∧ !i.bankRead then s.freeBank t (dfld i.cmd.desc 32 32) else s
  (s.modTile t (fun x => { x with issued := dropSlot i.slot x.issued })).completeOk t i

/-- The issued command of a slot ends: with a fault that it met while it ran, or OK (R109, R135 to R137). A remote
command ends only when its operation has. -/
def execCmdComplete (t slot : Nat) (fault : Option TileFault) (s : State) : Host.Outcome State Fault Refusal :=
  .next (match (s.tile t).issued.find? (fun i => i.slot = slot) with
    | none => s
    | some i =>
      match fault with
      | some f => s.failIssued t i { code := f.code, unit := unitOfOp (opcodeOf i.cmd.desc), addr := f.addr,
                                     progress := f.progress }
      | none => if s.remoteDone i then s.finishIssued t i else s)

/-- RETRY in HALTED: the failed command stands ahead of every unissued command, with the slot it holds (R137). -/
def State.tileRetry (s : State) (t : Nat) : State :=
  if s.tileState t ≠ 4 then s
  else match (s.tile t).failed with
    | none => s
    | some f => s.modTile t (fun x =>
        { x with failed := none, queue := { f.cmd with slot := if f.issued then some f.slot else f.cmd.slot } :: x.queue })

/-- SKIP in HALTED: the failed command completes FAILED (R137). -/
def State.tileSkip (s : State) (t : Nat) : State := if s.tileState t ≠ 4 then s else s.finishFailed t

/-- FLUSH: in HALTED the failed command completes FAILED; in any state every unissued command completes ABORTED
(R137). -/
def State.tileFlush (s : State) (t : Nat) : State :=
  (if s.tileState t = 4 then s.finishFailed t else s).abortQueue t

/-- ACTION of TIL_CMD_CTRL is written; it clears itself (R140). -/
def State.tileAction (s : State) (t action : Nat) : State :=
  match action with
  | 1 => s.tileRetry t
  | 2 => s.tileSkip t
  | 3 => s.tileFlush t
  | _ => s

/-- RETRY is written; TIL_CMD_CTRL is not guarded (R137, R140). -/
def execTileRetry (_m : Master) (t : Nat) (s : State) : Host.Outcome State Fault Refusal := .next (s.tileAction t 1)

/-- SKIP is written (R137). -/
def execTileSkip (_m : Master) (t : Nat) (s : State) : Host.Outcome State Fault Refusal := .next (s.tileAction t 2)

/-- FLUSH is written (R137). -/
def execTileFlush (_m : Master) (t : Nat) (s : State) : Host.Outcome State Fault Refusal := .next (s.tileAction t 3)

/-! ### Calm (R131) -/

/-- A calm request stops issue at once (R129, R131). -/
def State.calmRequest (s : State) (t : Nat) : State :=
  let st := s.tileState t
  if 1 ≤ st ∧ st ≤ 5 then s.modTile t (fun x => { x with calmReq := true }) else s

def execTileCalmRequest (t : Nat) (s : State) : Host.Outcome State Fault Refusal := .next (s.calmRequest t)

/-- The tile clock stops after a calm request: every part holds (R131). -/
def State.clockStopped (s : State) (t : Nat) : State :=
  if (s.tile t).calmReq then s.modTile t (fun x => { x with calm := true }) else s

def execTileClockStopped (t : Nat) (s : State) : Host.Outcome State Fault Refusal := .next (s.clockStopped t)

/-- A calm release: the tile goes on in the state it held (R129, R131). -/
def State.calmRelease (s : State) (t : Nat) : State := s.modTile t (fun x => { x with calmReq := false, calm := false })

/-- The release; the power controller sees the rise of the load (R399). -/
def execTileCalmRelease (t rise : Nat) (s : State) : Host.Outcome State Fault Refusal :=
  .next (if (s.tile t).calm then (s.calmRelease t).squall t rise else s.calmRelease t)

/-! ### Tile reset (R148) -/

/-- GO of TIL_RESET is written 1: only the librarian core may, and only while ACTIVE is 0 and the lectern core is HELD or
STOPPED (R148). -/
def State.tilResetGo (s : State) (m : Master) (t : Nat) : State :=
  let off := (F.TIL_RESET_GO t).off
  if m.cls ≠ .librarian then s.guardViolation (blkTil t) m off true
  else
    let st := s.coreStCode t
    if s.flag (blkTil t).active ∨ ¬(st = 0 ∨ st = 4) then s.raiseAccess (blkTil t) errLateWrite m off
    else
      ((s.setFlag (F.TIL_RESET_GO t) true).setFlag (F.TIL_RESET_DONE t) false).modTile t (fun x => { x with resetting := true })

def execTileReset (m : Master) (t : Nat) (s : State) : Host.Outcome State Fault Refusal := .next (s.tilResetGo m t)

/-- Registers that a tile reset returns to zero or to their reset value: pointers, metadata slots, signal and abort
counters, hash registers, flags, last drain and error record (R148). -/
def tileResetOffsets (t : Nat) : List Nat :=
  [(F.TIL_CMD_HEAD_HEAD t).off, (F.TIL_CMD_TAIL_TAIL t).off, (F.TIL_CMD_ABORTS t).off,
   (F.TIL_HSR_SEED_LO_SEED t).off, (F.TIL_HSR_SEED_HI_SEED t).off, (F.TIL_HSR_STEP t).off,
   (F.TIL_ARITH_FLAGS_OVER t).off, (F.TIL_DRAIN_LAST_TAG t).off, (F.TIL_ERR_REC0_CODE t).off,
   (F.TIL_ERR_REC1_TAG t).off, (F.TIL_ERR_REC2 t).off, (F.TIL_ERR_REC3 t).off, (F.TIL_ERR_REC4 t).off] ++
    (List.range 4).map (fun k => (F.TIL_SIG_CNT t k).off) ++ (List.range 64).map (fun k => (F.TIL_META t k).off)

/-- The state of a tile after its reset; what the power controller and the calm state hold of it stays (R148). -/
def State.tileResetNow (s : State) (t : Nat) : State :=
  let s := (tileResetOffsets t).foldl (fun s o => s.setReg o (resetAt o)) s
  let x := s.tile t
  let s := s.setTile t { Tile.init with calmReq := x.calmReq, calm := x.calm, stretched := x.stretched }
  let s := s.setCore t Core.init
  (s.setFlag (F.TIL_RESET_GO t) false).setFlag (F.TIL_RESET_DONE t) true

/-- A tile reset completes (R148). -/
def execTileResetDone (t : Nat) (s : State) : Host.Outcome State Fault Refusal :=
  .next (if (s.tile t).resetting then s.tileResetNow t else s)

end Sys2Proof.Machine
end

