-- ==== Sys2Proof/Machine/PowerCtl.lean ====
section
/-!
DEFINITION. Operating points, the division of the budget, cap stages, lulls and thermal terms (R390 to R404, R410, R411).
-/
namespace Sys2Proof.Machine

/-! ### Operating points (R391, R394) -/

/-- The preferred OP of a tile's current phase; a tile in no partition requests OP 0 (R394). -/
def State.reqOp (s : State) (t : Nat) : Nat :=
  match s.partOf t with
  | none => 0
  | some p =>
    let ph := s.fld (F.PWR_TILE_OP_PHASE t)
    bits (s.fld (F.PWR_PHASE_PREF_PREF p (ph / 8))) (4 * (ph % 8) + 3) (4 * (ph % 8))

/-- The FOLLOW_SLOWEST limit of a tile: while the bit is 1 and the slot ACTIVE with an entry in force (R353). -/
def State.followOp (s : State) (t : Nat) : Nat :=
  match s.partOf t with
  | none => 15
  | some p =>
    let j := s.fld (F.MOD_PART_CFG_JOB_SLOT p)
    if s.flag (F.MOD_PART_CFG_JOB_VALID p) ∧ s.fld (F.MOD_JOB_STS_STATE j) = 2 ∧
        s.flag (F.MOD_JOB_CFG_FOLLOW_SLOWEST j) ∧ s.flag (F.MOD_JOB_STRAG_VALID j) then s.fld (F.MOD_JOB_STRAG_OP j)
    else 15

/-- The brown-out term: 4 during a warning (R406). -/
def State.brownOp (s : State) : Nat := if s.fld F.PWR_STS_BROWNOUT = 0 then 15 else 4

def State.thermalOp (s : State) (t : Nat) : Nat := s.power.thermal.getD (t / 2) 15
def State.droopOp (s : State) (t : Nat) : Nat := s.power.droop.getD (t / 2) 15
def State.budgetOp (s : State) (t : Nat) : Nat := s.power.budget.getD t 15

/-- The terms of R391 but for the budget. -/
def State.otherTerms (s : State) (t : Nat) : Nat :=
  min (s.reqOp t) (min (s.fld (F.PWR_TILE_OP_CEIL t))
    (min (s.followOp t) (min s.brownOp (min (s.thermalOp t) (s.droopOp t)))))

/-- The code of the term that sets `run` (R391, R423); of several, the first in the order of R404, FOLLOW_SLOWEST
last. -/
def State.limitBy (s : State) (t run : Nat) : Nat :=
  if min (s.reqOp t) (s.fld (F.PWR_TILE_OP_CEIL t)) ≤ run then 0
  else if s.brownOp = run then 5
  else if s.thermalOp t = run then 3
  else if s.budgetOp t = run then (if s.fld F.PWR_CAP_CAP_W = 0 then 2 else 1)
  else if s.droopOp t = run then 4
  else 6

/-- Each tile runs at the least of its terms (R391). -/
def State.applyOp (s : State) (t : Nat) : State :=
  let run := min (s.otherTerms t) (s.budgetOp t)
  let s := s.setFld (F.PWR_TILE_OP_REQ t) (s.reqOp t)
  (s.setFld (F.PWR_TILE_OP_LIMIT_BY t) (s.limitBy t run)).setFld (F.PWR_TILE_OP_RUN t) run

def State.applyOps (s : State) : State := (List.range 16).foldl State.applyOp s

/-! ### The budget (R396) -/

/-- The shed order of a tile, by its partition's role (R347); none for a tile in no partition, which is idle. -/
def State.shedOrder (s : State) (t : Nat) : Option Nat :=
  (s.partOf t).map (fun p => match s.fld (F.MOD_PART_CFG_ROLE p) with | 0 => 2 | 1 => 4 | 2 => 3 | 3 => 1 | _ => 5)

/-- The predicted draw of the tiles at given OPs. -/
def drawAt (draw : List (List Nat)) (ops : List Nat) : Nat :=
  ((ops.zipIdx).map (fun p => (draw.getD p.2 []).getD p.1 0)).foldl (· + ·) 0

/-- The tile that gives up one OP next: of the lowest shed order that has an OP to give, the one with the highest limit; of
equals the higher number (R396). -/
def shedNext (order : Nat → Option Nat) (ops : List Nat) : Option Nat :=
  let cand := (List.range 16).filter (fun t => decide ((order t).isSome ∧ 0 < ops.getD t 0))
  let low := cand.foldl (fun a t => min a ((order t).getD 9)) 9
  (cand.filter (fun t => (order t).getD 9 = low)).foldl (fun (a : Option Nat) t => match a with
    | none => some t
    | some b => if ops.getD b 0 ≤ ops.getD t 0 then some t else a) none

/-- OPs are lowered one by one until the prediction fits (R396). -/
def shed (order : Nat → Option Nat) (draw : List (List Nat)) (room : Nat) : Nat → List Nat → List Nat
  | 0, ops => ops
  | k + 1, ops =>
    if drawAt draw ops ≤ room then ops
    else match shedNext order ops with
      | none => ops
      | some t => shed order draw room k (listSet ops t (ops.getD t 0 - 1))

/-! ### Cap stages (R398) -/

/-- Slices of a tile of a group: its equal share of `k` slices, and one more where the rotation reaches it. -/
def sliceShare (n k rot i : Nat) : Nat :=
  if n = 0 then 0 else k / n + if (i + n - rot % n) % n < k % n then 1 else 0

/-- The least number of slices of a group of tiles whose savings (per tile, of ten slices) cover the excess; all where none
does. -/
def slicesFor (save : List Nat) (rot excess : Nat) : Nat :=
  let n := save.length
  ((List.range (10 * n + 1)).find? (fun k =>
    decide (10 * excess ≤ ((save.zipIdx).map (fun p => p.1 * sliceShare n k rot p.2)).foldl (· + ·) 0))).getD (10 * n)

/-- Calm slices of each tile for a 1 ms frame: ascending shed order, an equal share within one order (R398). The answer
also has the slices by which the rotation moves on. -/
def sliceFrame (order : Nat → Option Nat) (save : List Nat) (rot : Nat) :
    List Nat → Nat → List Nat → Nat → List Nat × Nat
  | [], _, acc, moved => (acc, moved)
  | o :: os, excess, acc, moved =>
    let ts := (List.range 16).filter (fun t => order t = some o)
    let k := if ts = [] then 0 else slicesFor (ts.map (fun t => save.getD t 0)) rot excess
    let acc := ((ts.zipIdx).foldl (fun a p => listSet a p.1 (sliceShare ts.length k rot p.2)) acc)
    let saved := ((ts.zipIdx).map (fun p => save.getD p.1 0 * sliceShare ts.length k rot p.2)).foldl (· + ·) 0 / 10
    sliceFrame order save rot os (excess - saved) acc (if ts = [] ∨ k % ts.length = 0 then moved else k % ts.length)

/-- The controller holds exactly these tiles calm: others that it calmed are released (R131, R398). -/
def State.holdCalm (s : State) (want : List Nat) : State :=
  let s := want.foldl (fun s t => if t ∈ s.power.calmed then s else s.calmRequest t) s
  let s := (s.power.calmed.filter (fun t => decide (t ∉ want))).foldl State.calmRelease s
  s.modPower (fun p => { p with calmed := want })

/-- A cap stage is entered or left (R398, R422). -/
def State.setStage (s : State) (n : Nat) : State :=
  let old := s.fld F.PWR_STS_CAP_STAGE
  let s := s.setFld F.PWR_STS_CAP_STAGE n
  let s := if n = 3 ∧ old ≠ 3 then
      (((s.setFlag F.PWR_STS_CAP_UNMET true).count F.PWR_STAGE3_CNT).raise blkPwr 17).powerLog 3 0
    else if n ≠ 3 then s.setFlag F.PWR_STS_CAP_UNMET false
    else s
  if n = 3 then s.holdCalm (List.range 16) else if n < 2 then s.holdCalm [] else s

/-- The stage that the prediction calls for is entered at once; a stage is left, one at a time, only after the stage below
has fitted for 100 ticks (R398). -/
def State.moveStage (s : State) (need : Nat) : State :=
  let cur := s.fld F.PWR_STS_CAP_STAGE
  if cur ≤ need then (if cur = need then s else s.setStage need).modPower (fun p => { p with fit := 0 })
  else if 99 ≤ s.power.fit then (s.setStage (cur - 1)).modPower (fun p => { p with fit := 0 })
  else s.modPower (fun p => { p with fit := p.fit + 1 })

/-- A controller tick of 100 µs (R396, R398). `keep` is the power, in mW, that keeps both averages within their limits over
the next 1 ms; `fixed` the predicted fixed draw; `draw` each tile's predicted draw by OP; `calm` its draw while calm. -/
def State.budgetTick (s : State) (keep fixed : Nat) (draw : List (List Nat)) (calm : List Nat) : State :=
  let room := 98 * keep / 100 - fixed
  let start := (List.range 16).map s.otherTerms
  let ideal := shed s.shedOrder draw room 256 start
  let budget := (List.range 16).map (fun t =>
    let prev := s.power.budget.getD t 15
    if ideal.getD t 0 < start.getD t 0 then min (ideal.getD t 0) (prev + 1) else min 15 (prev + 1))
  let least := drawAt draw (List.replicate 16 0)
  let need :=
    if s.power.forced then 3
    else if s.fld F.PWR_CAP_CAP_W = 0 then 0
    else if room < calm.foldl (· + ·) 0 then 3
    else if room < least then 2
    else if ideal = start then 0
    else 1
  let s := ((s.modPower (fun p => { p with budget := budget })).moveStage need).applyOps
  if s.fld F.PWR_STS_CAP_STAGE ≠ 2 then s.modPower (fun p => { p with slice := 0 })
  else
    let sl := s.power.slice % 10
    let s :=
      if sl ≠ 0 then s
      else
        let save := (List.range 16).map (fun t => (draw.getD t []).getD 0 0 - calm.getD t 0)
        let (f, moved) := sliceFrame s.shedOrder save s.power.rotate [1, 2, 3, 4, 5] (least - room) (List.replicate 16 0) 0
        s.modPower (fun p => { p with slices := f, rotate := p.rotate + moved })
    let s := s.holdCalm ((List.range 16).filter (fun t => decide (sl < s.power.slices.getD t 0)))
    s.modPower (fun p => { p with slice := (sl + 1) % 10 })

/-! ### Lull fill (R400 to R402) -/

/-- Idle arrays that may run filler: an empty queue, an unmet SYNC at the head, or OFF; of unparked tiles that are not calm
(R400). -/
def State.fillTiles (s : State) : List Nat :=
  (List.range 16).filter (fun t =>
    let st := s.tileState t
    (st = 0 || st = 1 || st = 3) && !(s.tile t).calm)

/-- The key of a lull: the barrier group of a SYNC of mode 2 at the head, else the phase of the waiting tile (R401). -/
def State.lullKey (s : State) (t : Nat) : Nat :=
  let phase := ((s.partOf t).getD 16) * 64 + s.fld (F.PWR_TILE_OP_PHASE t)
  match (s.tile t).queue with
  | c :: _ => if opcodeOf c.desc = 6 ∧ dfld c.desc 34 32 = 2 then 65536 + dfld c.desc 171 160 else phase
  | [] => phase

/-- Numbers in rising order. -/
def sortNats (l : List Nat) : List Nat :=
  let ins := fun (n : Nat) => fun (m : List Nat) => (m.takeWhile (· ≤ n)) ++ n :: m.dropWhile (· ≤ n)
  l.foldl (fun a n => ins n a) []

/-- HOLD of a key: the 90th percentile of its last 32 durations, at most MAX_HOLD; 0 without a history (R401). -/
def State.lullHold (s : State) (key : Nat) : Nat :=
  let d := sortNats (Tab.getD s.power.lulls key [])
  if d = [] then 0 else min (d.getD ((9 * d.length + 9) / 10 - 1) 0) (s.fld F.PWR_LIMITS_MAX_HOLD_MS * 1000)

/-- Filler work stops. -/
def State.stopFill (s : State) : State := (s.setFld F.PWR_STS_FILL_TILES 0).modPower (fun p => { p with lull := none })

/-- Fill does not run during a brown-out warning, a thermal emergency, a power-fail, or in stage 2 or 3 (R402). -/
def State.mayFill (s : State) : Bool :=
  s.fld F.PWR_STS_BROWNOUT = 0 && !s.flag F.THM_STS_EMERGENCY && !s.power.failing && decide (s.fld F.PWR_STS_CAP_STAGE < 2)

/-- A fall in load beyond the bus allowance starts filler work on every idle array (R400, R422). -/
def State.startFill (s : State) (t : Nat) : State :=
  if !s.mayFill then s
  else
    let key := s.lullKey t
    let s := s.setFld F.PWR_STS_FILL_TILES (s.fillTiles.foldl (fun a k => a + 2 ^ k) 0)
    (s.count F.PWR_FILL_CNT).modPower (fun p => { p with lull := some ⟨key, s.time, s.lullHold key, false⟩ })

/-! ### Thermal control (R410, R411) -/

/-- Junction sensors that decide the term of die `d`: its own five, its shelf's, and those of the circulation dies (R410,
R411). -/
def dieSensors (d : Nat) : List Nat := (List.range 5).map (fun k => 5 * d + k) ++ [40 + d] ++ (List.range 8).map (48 + ·)

/-- The temperature of a sensor in 1/16 °C, where its reading is valid. -/
def State.temp (s : State) (i : Nat) : Option Int :=
  if s.flag (F.THM_SENSOR_VALID i) then some (sext 16 (s.fld (F.THM_SENSOR_TEMP i))) else none

/-- A valid sensor reads at or above a number of °C. -/
def State.atLeast (s : State) (c i : Nat) : Bool :=
  match s.temp i with
  | some v => decide ((16 * c : Nat) ≤ v)
  | none => false

/-- The thermal term of a die after one read: down by one while a sensor is at THROTTLE_C, up by one after 10 ms below it
less 3 °C; 0 in an emergency; at most 4 with a failed sensor (R411). The flag says that it stepped down. -/
def State.thermalStep (s : State) (d : Nat) : State × Bool :=
  let th := s.fld F.THM_CFG_THROTTLE_C
  let cur := s.power.thermal.getD d 15
  let hot := (dieSensors d).any (s.atLeast th)
  let cool := (dieSensors d).all (fun i => !s.atLeast (th - 3) i)
  let n := if cool then s.power.coolMs.getD d 0 + 1 else 0
  let up := decide (10 ≤ n)
  let top := if d ∈ s.power.sensorBad then 4 else 15
  let v :=
    if s.flag F.THM_STS_EMERGENCY then 0
    else if hot then cur - 1
    else if up then min (cur + 1) top
    else min cur top
  (s.modPower (fun p => { p with
    thermal := listSet p.thermal d v, coolMs := listSet p.coolMs d (if up then 0 else n) }), hot && decide (0 < cur))

/-- A thermal emergency begins: every term drops to 0 (R411). -/
def State.thermalEmergency (s : State) : State :=
  let s := if s.flag F.THM_STS_EMERGENCY then s else (s.raise blkThm 17).powerLog 4 0
  let s := (s.setFlag F.THM_STS_EMERGENCY true).modPower (fun p => { p with thermal := List.replicate 8 0, coldMs := 0 })
  s.stopFill.showEmergency.applyOps

/-- Whether an emergency begins: a junction at 110 °C, an input regulator at 110 °C, an HBM stack at 105 °C (R411). -/
def State.emergencyHot (s : State) (hbm : List Nat) : Bool :=
  ((List.range 56) ++ [62, 63]).any (s.atLeast 110) || hbm.any (fun c => decide (105 ≤ c))

/-- The emergency ends once every junction has been below THROTTLE_C less 5 °C for 1 s (R411, R415). -/
def State.emergencyCool (s : State) : State :=
  if !s.flag F.THM_STS_EMERGENCY then s
  else
    let cold := (List.range 56).all (fun i => !s.atLeast (s.fld F.THM_CFG_THROTTLE_C - 5) i)
    let n := if cold then s.power.coldMs + 1 else 0
    let s := s.modPower (fun p => { p with coldMs := n })
    if n < 1000 then s
    else ((s.setFlag F.THM_STS_EMERGENCY false).modPower (fun p => { p with
      forced := s.flag F.THM_STS_LEAK && p.forced, coldMs := 0 })).showEmergency

/-- The readings of the 64 sensors are shown; a junction sensor that fails its self-check reads invalid and holds its die's
term at 4 (R410, R411, R427, R429). -/
def State.showTemps (s : State) (temps : List (Option Int)) : State :=
  let s := (temps.zipIdx).foldl (fun s p =>
    match p.1 with
    | some v => s.setReg (F.THM_SENSOR_TEMP p.2).off (BitVec.ofNat 32 (2 ^ 31 + (v % 65536).toNat))
    | none => s.setReg (F.THM_SENSOR_TEMP p.2).off 0) s
  let bad := (List.range 56).filter (fun i => (temps.getD i none).isNone)
  let dies := (List.range 8).filter (fun d => ((dieSensors d).take 6).any (fun i => decide (i ∈ bad)))
  let fresh := dies.any (fun d => decide (d ∉ s.power.sensorBad))
  let s := if fresh then s.raise blkThm 21 else s
  let s := s.modPower (fun p => { p with
    sensorBad := (List.range 8).filter (fun d => decide (d ∈ p.sensorBad ∨ d ∈ dies)) })
  let best := ((List.range 56).filterMap (fun i => (s.temp i).map (fun v => (i, v)))).foldl
    (fun (a : Option (Nat × Int)) x => match a with
      | none => some x
      | some b => if b.2 < x.2 then some x else a) none
  match best with
  | some (i, v) => (s.setFld F.THM_STS_HOTTEST i).setFld F.THM_STS_HOTTEST_C (v / 16).toNat
  | none => s

/-- A reading of every sensor and HBM stack (R410, R411). -/
def State.sensorRead (s : State) (temps : List (Option Int)) (hbm : List Nat) : State :=
  let s := s.showTemps temps
  let s := if s.emergencyHot hbm then s.thermalEmergency else s.emergencyCool
  let (s, down) := (List.range 8).foldl (fun (a : State × Bool) d =>
    let (s, b) := a.1.thermalStep d
    (s, a.2 || b)) (s, false)
  let s := if down ∧ !s.flag (blkThm.err 16) then s.raise blkThm 16 else s
  let slow := (List.range 16).filter (fun i =>
    decide (95 ≤ hbm.getD i 0) || (decide (i ∈ s.power.hbmSlow) && decide (90 ≤ hbm.getD i 0)))
  (s.modPower (fun p => { p with hbmSlow := slow })).applyOps

end Sys2Proof.Machine
end

