-- ==== Sys2Proof/Machine/PowerCmds.lean ====
section
/-!
DEFINITION. The commands of the power and thermal controllers that do not end in OFF (R385 to R415).
-/
namespace Sys2Proof.Machine

/-- BROWNOUT of PWR_STS at a sample: during a warning it shows whether the recovery count runs (R407, R416). -/
def recovery (b warn mv : Nat) : Nat := if b = 1 ∨ b = 2 then (if warn * 100 + 1000 ≤ mv then 2 else 1) else b

/-- The input is sampled: a µs passes, the registers show the sample, the window takes it, and during a warning the
recovery count runs while the input is at WARN + 1 V or above (R385, R407, R416, R420). -/
def State.inputSample (s : State) (mv ma : Nat) : State :=
  let s := { s with time := s.time + 1 }
  let s := (s.setFld F.PWR_INPUT0_VIN mv).setFld F.PWR_INPUT0_IIN (ma / 10)
  let s := s.modPower (fun p => { p with
    acc := p.acc + mv * ma, samples := p.samples + 1, lowV := min p.lowV mv })
  s.setFld F.PWR_STS_BROWNOUT (recovery (s.fld F.PWR_STS_BROWNOUT) (s.fld F.PWR_LIMITS_WARN_DV) mv)

def execInputSample (mv ma : Nat) (s : State) : Host.Outcome State Fault Refusal := .next (s.inputSample mv ma)

/-- The average of a list, 0 of none. -/
def average (l : List Nat) : Nat := if l = [] then 0 else l.foldl (· + ·) 0 / l.length

/-- Whether the droop rate of a die calls for its limit (R403). -/
def State.droopStep (s : State) (d : Nat) : State :=
  if 256 < s.power.stretch.getD d 0 then
    let low := min (s.fld (F.PWR_TILE_OP_RUN (2 * d))) (s.fld (F.PWR_TILE_OP_RUN (2 * d + 1)))
    s.modPower (fun p => { p with droop := listSet p.droop d (if p.droop.getD d 15 < 15 then p.droop.getD d 15 else low - 1) })
  else s

/-- A 1 ms window ends: P_1ms and P_1s; a cap exceeded during stage 2 leads to stage 3; and the stretches of the window are
judged (R385, R398, R403). While core 7 restarts, hardware lowers every budget term where the window exceeds the limit (R602). -/
def State.p1msWindow (s : State) : State :=
  let mw := if s.power.samples = 0 then 0 else s.power.acc / (1000 * s.power.samples)
  let s := s.modPower (fun p => { p with acc := 0, samples := 0, wins := (mw :: p.wins).take 1000 })
  let s := (s.setFld F.PWR_INPUT1_P1MS (mw / 1000)).setFld F.PWR_INPUT1_P1S (average s.power.wins / 1000)
  let cap := s.fld F.PWR_CAP_CAP_W
  let s := if s.fld F.PWR_STS_CAP_STAGE = 2 ∧ cap ≠ 0 ∧ cap * 1000 < mw then s.moveStage 3 else s
  let top := if cap = 0 then 3300 else cap
  let s := if s.coreUp 7 ∨ mw ≤ top * 1000 then s else s.modPower (fun p => { p with budget := p.budget.map (· - 1) })
  let s := (List.range 8).foldl State.droopStep s
  (s.modPower (fun p => { p with stretch := List.replicate 8 0 })).applyOps

def execP1msWindow (s : State) : Host.Outcome State Fault Refusal := .next s.p1msWindow

def execBudgetTick (keep fixed : Nat) (draw : List (List Nat)) (calm : List Nat) (s : State) :
    Host.Outcome State Fault Refusal := .next (if s.coreUp 7 then s.budgetTick keep fixed draw calm else s)

/-- Whether a cap is accepted: none, or from the floor to 2,800 W (R397). -/
def State.capOk (s : State) (v : Nat) : Bool := v = 0 || decide (s.fld F.PWR_FLOOR_FLOOR_W ≤ v ∧ v ≤ 2800)

/-- A write of PWR_CAP (R397). -/
def State.capPut (s : State) (m : Master) (v : Nat) : State :=
  if s.capOk v then s.setFld F.PWR_CAP_CAP_W v else s.raise blkPwr 16 m F.PWR_CAP_CAP_W.off v

def execCapWrite (m : Master) (v : Nat) (s : State) : Host.Outcome State Fault Refusal :=
  .next (s.viaReg m F.PWR_CAP_CAP_W.off (fun s => s.capPut m v))

/-- The duty of paced arrays rises; at 1 the squall ends (R399). -/
def State.dutyStep (s : State) (duty : Nat) : State :=
  if s.power.paced = [] then s
  else
    let d := max s.power.duty duty
    if 256 ≤ d then (s.setFlag F.PWR_STS_SQUALL false).modPower (fun p => { p with paced := [], duty := 256 })
    else s.modPower (fun p => { p with duty := d })

def execSquallDutyStep (duty : Nat) (s : State) : Host.Outcome State Fault Refusal := .next (s.dutyStep duty)

def execLullFillStart (t : Nat) (s : State) : Host.Outcome State Fault Refusal := .next (s.startFill t)

/-- HOLD ends and the draw decays (R401). -/
def execLullHoldExpiry (s : State) : Host.Outcome State Fault Refusal :=
  .next (s.modPower (fun p => { p with lull := p.lull.map (fun l => { l with decays := true }) }))

/-- The fill has decayed; the end of fill is a rise of the load that is predicted (R399, R401). The lull itself goes on
until an array is needed. -/
def execLullFillEnd (t rise : Nat) (s : State) : Host.Outcome State Fault Refusal :=
  .next (if s.power.lull.any (fun l => l.decays) then (s.setFld F.PWR_STS_FILL_TILES 0).squall t rise else s)

/-- A tile's clock stretches (R403). -/
def execDroopDetect (t : Nat) (s : State) : Host.Outcome State Fault Refusal :=
  .next (((s.modTile t (fun x => { x with stretched := true })).count F.PWR_DROOP_CNT).modPower (fun p => { p with
    stretch := listSet p.stretch (t / 2) (p.stretch.getD (t / 2) 0 + 1) }))

/-- The stretch ends (R403). -/
def execDroopStretchEnd (t : Nat) (s : State) : Host.Outcome State Fault Refusal :=
  .next (s.modTile t (fun x => { x with stretched := false }))

/-- A die's droop limit ends (R403). -/
def execDroopLimitExpiry (d : Nat) (s : State) : Host.Outcome State Fault Refusal :=
  .next (s.modPower (fun p => { p with droop := listSet p.droop d 15 })).applyOps

/-- The margin of a tile is measured; below the guard its ceiling falls by one OP, which is kept (R393). -/
def State.ageing (s : State) (t : Nat) (below : Bool) : State :=
  let c := s.fld (F.PWR_TILE_OP_CEIL t)
  if !below ∨ c = 0 then s
  else
    let s := s.setFld (F.PWR_TILE_OP_CEIL t) (c - 1)
    let s := s.firmwareWrite 0x2012 (t + 1) (leBytes 1 (c - 1))
    ((s.raise blkPwr 19 Master.noMaster (F.PWR_TILE_OP_CEIL t).off).powerLog 8 t).applyOps

def execAgeingCheck (t : Nat) (below : Bool) (s : State) : Host.Outcome State Fault Refusal := .next (s.ageing t below)

/-- A brown-out warning starts (R406). -/
def State.brownout (s : State) : State :=
  if s.fld F.PWR_STS_BROWNOUT ≠ 0 ∨ s.power.failing then s
  else
    let s := ((s.setFld F.PWR_STS_BROWNOUT 1).count F.PWR_BROWNOUT_CNT).raise blkPwr 18
    let v := s.fld F.PWR_INPUT0_VIN
    let s := (s.modPower (fun p => { p with lowV := v, warnAt := s.time })).powerLog 0 v
    s.stopFill.showEmergency.judgeWbMode.applyOps

def execBrownoutWarning (s : State) : Host.Outcome State Fault Refusal := .next s.brownout

/-- The warning ends: OPs rise, and BROWNOUT_RECOVERED is logged with the lowest voltage and the duration (R407). -/
def State.brownoutEnd (s : State) : State :=
  let b := s.fld F.PWR_STS_BROWNOUT
  if b ≠ 1 ∧ b ≠ 2 then s
  else
    let s := (s.setFld F.PWR_STS_BROWNOUT 0).count F.PWR_RECOVERED_CNT
    let s := s.postFw (Config.logCode 407) s.power.lowV (s.time - s.power.warnAt)
    (s.powerLog 1 s.power.lowV).showEmergency.applyOps

def execBrownoutRecovered (s : State) : Host.Outcome State Fault Refusal := .next s.brownoutEnd

def execSensorRead (temps : List (Option Int)) (hbm : List Nat) (s : State) : Host.Outcome State Fault Refusal :=
  .next (s.sensorRead temps hbm)

/-- 100 ms after the emergency began, a junction still at 110 °C stops admission and calms every tile (R411). -/
def State.emergencyRecheck (s : State) : State :=
  if s.flag F.THM_STS_EMERGENCY ∧ (List.range 56).any (s.atLeast 110) then
    ((s.modPower (fun p => { p with forced := true })).moveStage 3).raise blkThm 17
  else s

def execEmergencyRecheck (s : State) : Host.Outcome State Fault Refusal := .next s.emergencyRecheck

/-- An estimate of the coolant flow (R412, R428): while P_1s is at least 500 W. Ten low ones in a row set COOLANT_LOW; an
inlet out of range for ten seconds sets INLET_RANGE. -/
def State.coolant (s : State) : State :=
  let p := s.fld F.PWR_INPUT1_P1S
  match s.temp 56, s.temp 57 with
  | some a, some b =>
    let s := (s.setFld F.THM_COOLANT_INLET_C (a / 16).toNat).setFld F.THM_COOLANT_OUTLET_C (b / 16).toNat
    let out := decide (a < 15 * 16) || decide (45 * 16 < a)
    let n := if out then s.power.inletOut + 1 else 0
    let s := s.modPower (fun x => { x with inletOut := n })
    let s := if n = 10 then (s.setFlag F.THM_STS_INLET_RANGE true).raise blkThm 20
      else if n = 0 then s.setFlag F.THM_STS_INLET_RANGE false else s
    if p < 500 ∨ b ≤ a then s.setFld F.THM_COOLANT_FLOW 0
    else
      let f := 60 * 100 * 16 * p / (s.dictVal 0x2003 3 4180 * (b - a).toNat)
      let k := if f < 450 then s.power.flowLow + 1 else 0
      let s := (s.setFld F.THM_COOLANT_FLOW (min f 0xFFFF)).modPower (fun x => { x with flowLow := k })
      if k = 10 then (s.setFlag F.THM_STS_COOLANT_LOW true).raise blkThm 19
      else if k = 0 then s.setFlag F.THM_STS_COOLANT_LOW false else s
  | _, _ => s.setFld F.THM_COOLANT_FLOW 0

def execCoolantEstimate (s : State) : Host.Outcome State Fault Refusal := .next s.coolant

/-- A leak clears: the emergency it began ends, and admission resumes (R413, R415). -/
def State.leakClear (s : State) : State :=
  let s := s.modMgmt (fun g => { g with leakLow := false })
  if !s.flag F.THM_STS_LEAK then s
  else
    let s := s.setFlag F.THM_STS_LEAK false
    let s :=
      if s.power.forced ∧ !s.flag F.THM_STS_EMERGENCY then
        (s.modPower (fun p => { p with forced := false, fit := 0 })).setStage 0
      else s
    s.showEmergency

def execLeakClear (s : State) : Host.Outcome State Fault Refusal := .next s.leakClear

end Sys2Proof.Machine
end

