-- ==== Sys2Proof/Machine/Jobs.lean ====
section
/-!
DEFINITION. Partitions, job slots, pace notices and streams (R344 to R360, R381, R404).
-/
namespace Sys2Proof.Machine

/-! ### Messages of a job group (R349, R351, R367) -/

/-- Codes of the management messages of this model: the manual gives their content and no codes. -/
def mgJoin : Nat := 1
def mgFormed : Nat := 2

/-- The links of a group's tree that are ACTIVE (R325, R351). -/
def State.treeLinks (s : State) (g : Nat) : List Nat :=
  ((if s.flag (F.GMA_BAR_CFG_ROOT g) then [] else [s.fld (F.GMA_BAR_CFG_PARENT g)]) ++ s.barChildren g).filter
    (fun n => s.linkUp n)

/-- A management message on every tree link of a slot's notice group but the one it came from (R351, R367). -/
def State.spread (s : State) (j code : Nat) (args : List Nat) (but : Option Nat) : State :=
  ((s.treeLinks (s.fld (F.MOD_JOB_CFG_NOTICE_GROUP j))).filter (fun n => decide (but ≠ some n))).foldl
    (fun s n => s.emit (.mgmt (s.fld (F.MYL_PARTNER_MODULE n)) code args)) s

/-! ### Partitions (R345, R346) -/

/-- A partition is enabled, and its tiles with it (R345). -/
def State.partOn (s : State) (p : Nat) : State :=
  if s.flag (F.MOD_PART_CFG_ENABLE p) then s
  else
    let ts := (maskTiles (s.fld (F.MOD_PART_TILES_TILES p))).filter (fun t => !(s.fld F.MOD_PARKED0_TILES).testBit t)
    let s := ts.foldl (fun s t => (s.blockOn (blkTil t)).setFld (F.PWR_TILE_OP_PHASE t) 0) s
    (s.setFlag (F.MOD_PART_CFG_ENABLE p) true).setFlag (F.MOD_PART_CFG_ACTIVE p) true

/-- A slot's round loses a TRAIN partition that is disabled: this member reports PARTITION_DISABLED (R370). -/
def State.partLeavesRound (s : State) (p : Nat) : State :=
  let j := s.fld (F.MOD_PART_CFG_JOB_SLOT p)
  let ph := s.fld (F.MOD_CKPT_STS_PHASE j)
  if s.flag (F.MOD_PART_CFG_JOB_VALID p) ∧ s.fld (F.MOD_PART_CFG_ROLE p) = 3 ∧ 1 ≤ ph ∧ ph ≤ 4 then
    s.emit (.mgmt (s.fld (F.MOD_JOB_COORD j)) 0x15 [s.fld (F.MOD_CKPT_ATTEMPT j), s.ownModule, 0x0A])
  else s

/-- A partition is disabled: each tile drains; a frame in progress is abandoned (R346, R370). -/
def State.partOff (s : State) (p : Nat) : State :=
  if !s.flag (F.MOD_PART_CFG_ENABLE p) then s
  else
    let s := s.partLeavesRound p
    let s := s.setFlag (F.MOD_PART_CFG_ENABLE p) false
    let s := (maskTiles (s.fld (F.MOD_PART_TILES_TILES p))).foldl State.tileOff s
    ((s.setFlag (F.MOD_STREAM_STS_FRAME_ACTIVE p) false).feedOff p).partSettle p

def execPartitionEnable (m : Master) (p : Nat) (s : State) : Host.Outcome State Fault Refusal :=
  .next (s.viaReg m (F.MOD_PART_CFG_ENABLE p).off (fun s => s.partOn p))

def execPartitionDisable (m : Master) (p : Nat) (s : State) : Host.Outcome State Fault Refusal :=
  .next (s.viaReg m (F.MOD_PART_CFG_ENABLE p).off (fun s => s.partOff p))

/-! ### Job slots (R348 to R350) -/

/-- The first 16 bytes of the digest of a member list (R349). -/
def memberDigest (members : List Nat) : Nat := ofLeNats ((sha384 (members.flatMap (leNats 4))).take 16)

/-- A slot is enabled: FORMING, and JOIN to the coordinator; a slot whose list lacks this module is refused (R348,
R349). -/
def State.slotOn (s : State) (j : Nat) : State :=
  let ms := (s.slot j).members
  if s.flag (F.MOD_JOB_CFG_ENABLE j) ∨ s.ownModule ∉ ms then s
  else
    let co := ms.headD 0
    let s := (s.setFlag (F.MOD_JOB_CFG_ENABLE j) true).setFlag (F.MOD_JOB_CFG_ACTIVE j) true
    let s := (s.setFld (F.MOD_JOB_STS_STATE j) slotForming).setFld (F.MOD_JOB_STS_REASON j) 0
    (s.setFld (F.MOD_JOB_COORD j) co).emit
      (.mgmt co mgJoin [s.ownModule, s.fld (F.MOD_JOB_ID_JOB_ID j), ms.length, memberDigest ms])

/-- A slot returns to IDLE; its part of a round ends (R349, R370). -/
def State.slotOff (s : State) (j : Nat) : State :=
  if !s.flag (F.MOD_JOB_CFG_ENABLE j) then s
  else
    let s := if s.fld (F.MOD_CKPT_STS_PHASE j) = 0 then s else s.endCut j
    let s := (s.setFlag (F.MOD_JOB_CFG_ENABLE j) false).setFlag (F.MOD_JOB_CFG_ACTIVE j) false
    let s := (s.setFld (F.MOD_JOB_STS_STATE j) slotIdle).setFld (F.MOD_JOB_STS_REASON j) 0
    let job := s.fld (F.MOD_JOB_ID_JOB_ID j)
    (s.modJobs (fun x => { x with joins := x.joins.filter (fun r => r.job ≠ job) })).clearStrag j |>.applyOps

def execJobSlotEnable (m : Master) (j : Nat) (s : State) : Host.Outcome State Fault Refusal :=
  .next (s.viaReg m (F.MOD_JOB_CFG_ENABLE j).off (fun s => s.slotOn j))

def execJobSlotDisable (m : Master) (j : Nat) (s : State) : Host.Outcome State Fault Refusal :=
  .next (s.viaReg m (F.MOD_JOB_CFG_ENABLE j).off (fun s => s.slotOff j))

/-- The enabled slot that holds a JOB_ID. -/
def State.slotOfJob (s : State) (job : Nat) : Option Nat :=
  (List.range 16).find? (fun j => s.flag (F.MOD_JOB_CFG_ENABLE j) && s.fld (F.MOD_JOB_ID_JOB_ID j) = job)

/-- The coordinator's slot with the JOINs it holds: a JOIN that disagrees breaks it; a matching one from each member makes it
send FORMED to each (R349, R350). -/
def State.judgeJoins (s : State) (j : Nat) : State :=
  let ms := (s.slot j).members
  let job := s.fld (F.MOD_JOB_ID_JOB_ID j)
  let rs := s.jobs.joins.filter (fun r => r.job = job)
  if s.fld (F.MOD_JOB_STS_STATE j) ≠ slotForming then s
  else if rs.any (fun r => r.count ≠ ms.length || r.digest ≠ memberDigest ms) then s.breakSlot j 1
  else if ms.all (fun m => rs.any (fun r => r.src = m)) then
    ms.foldl (fun s m => s.emit (.mgmt m mgFormed [s.ownModule, job])) s
  else s

/-- A JOIN is recorded; it may arrive before the coordinator's own slot is enabled (R349). -/
def State.joinIn (s : State) (src job count digest : Nat) : State :=
  let s := s.modJobs (fun x => { x with
    joins := x.joins.filter (fun r => !(r.job = job && r.src = src)) ++ [⟨job, src, count, digest⟩] })
  match s.slotOfJob job with
  | some j => if s.fld (F.MOD_JOB_COORD j) = s.ownModule then s.judgeJoins j else s
  | none => s

def execJoinReceive (src job count digest : Nat) (s : State) : Host.Outcome State Fault Refusal :=
  .next (s.joinIn src job count digest)

/-- FORMED arrives from the coordinator (R349). -/
def State.formedIn (s : State) (src job : Nat) : State :=
  match s.slotOfJob job with
  | some j =>
    if s.fld (F.MOD_JOB_STS_STATE j) = slotForming ∧ s.fld (F.MOD_JOB_COORD j) = src then
      s.setFld (F.MOD_JOB_STS_STATE j) slotActive
    else s
  | none => s

def execFormedReceive (src job : Nat) (s : State) : Host.Outcome State Fault Refusal := .next (s.formedIn src job)

/-- FORMED has not arrived in time (R350). -/
def execJoinTimeout (j : Nat) (s : State) : Host.Outcome State Fault Refusal :=
  .next (if s.fld (F.MOD_JOB_STS_STATE j) = slotForming then s.breakSlot j 2 else s)

/-- FOLLOW_SLOWEST is written; the limit of the slot's tiles follows (R353). -/
def execFollowSlowestWrite (m : Master) (j : Nat) (on : Bool) (s : State) : Host.Outcome State Fault Refusal :=
  .next (s.viaReg m (F.MOD_JOB_CFG_FOLLOW_SLOWEST j).off (fun s => (s.setFlag (F.MOD_JOB_CFG_FOLLOW_SLOWEST j) on).applyOps))

/-! ### Pace notices (R351, R352, R404) -/

/-- A notice is recorded in a slot's table (R352). -/
def State.noteStrag (s : State) (j : Nat) (e : StragEnt) : State :=
  let l := (s.slot j).strag
  let rest := l.filter (fun x => x.module ≠ e.module)
  let older := l.any (fun x => x.module = e.module && decide (sext 32 (e.seq + 2 ^ 32 - x.seq % 2 ^ 32) < 0))
  let keep := fun (s : State) (l : List StragEnt) =>
    ((s.modSlot j (fun x => { x with strag := l })).setFlag (F.MOD_JOB_STRAG_CNT_OVERFLOW j)
      (s.flag (F.MOD_JOB_STRAG_CNT_OVERFLOW j) && l.length = 64)).showStrag j
  if older then s
  else if e.reason = 0 then keep s rest
  else if rest.length < 64 then keep s (rest ++ [e])
  else
    let worst := rest.foldl (fun a x => max a x.op) 0
    if e.op < worst then
      let i := rest.findIdx (fun x => x.op = worst)
      keep s (rest.take i ++ rest.drop (i + 1) ++ [e])
    else s.setFlag (F.MOD_JOB_STRAG_CNT_OVERFLOW j) true

/-- A PACE_NOTICE arrives: forwarded on the group's other tree links, and recorded where an enabled slot holds its JOB_ID
(R351, R352). -/
def State.paceIn (s : State) (n : Nat) (p : Packet) : State :=
  if p.opcode ≠ opPace then s
  else
    let g := p.msgId % 4096
    let s := ((s.treeLinks g).filter (fun k => decide (k ≠ n))).foldl (fun s k =>
      s.linkSend k { p with dst := s.fld (F.MYL_PARTNER_MODULE k), src := s.ownModule }) s
    let st := leAt p.payload 4 4
    match s.slotOfJob (leAt p.payload 0 4) with
    | none => s
    | some j =>
      if s.fld (F.MOD_JOB_STS_STATE j) ≠ slotActive then s
      else (s.noteStrag j ⟨bits st 19 0, bits st 23 20, bits st 27 24, leAt p.payload 8 4, s.time⟩).applyOps

def execPaceNoticeReceive (n : Nat) (p : Packet) (s : State) : Host.Outcome State Fault Refusal := .next (s.paceIn n p)

/-- The cause of a tile's throttle, as a REASON of R351; none where it is not throttled (R404). -/
def State.throttleCause (s : State) (t : Nat) : Option Nat :=
  let by_ := s.fld (F.PWR_TILE_OP_LIMIT_BY t)
  if 1 ≤ by_ ∧ by_ ≤ 5 then some by_
  else if t ∈ s.power.calmed then some (if s.fld F.PWR_CAP_CAP_W = 0 then 2 else 1)
  else if t ∈ s.power.paced then some 4
  else none

/-- OP and REASON of a slot's notice: the lowest running OP of the throttled tiles, 0 for a calm one; the first cause
present in the order of R404. -/
def State.throttleNow (s : State) (j : Nat) : Option (Nat × Nat) :=
  let ts := (s.slotTiles j).filter (fun t => (s.throttleCause t).isSome)
  let causes := ts.filterMap (fun t => s.throttleCause t)
  match [5, 3, 1, 2, 4].find? (fun c => decide (c ∈ causes)) with
  | none => none
  | some r =>
    some (ts.foldl (fun a t => min a (if (s.tile t).calm then 0 else s.fld (F.PWR_TILE_OP_RUN t))) 15, r)

/-- A notice of this member goes out on every tree link of the slot's notice group, with the next SEQ (R351). -/
def State.sendNotice (s : State) (j op reason : Nat) : State :=
  let g := s.fld (F.MOD_JOB_CFG_NOTICE_GROUP j)
  let seq := ((s.slot j).seq + 1) % 2 ^ 32
  let pay := leBytes 4 (s.fld (F.MOD_JOB_ID_JOB_ID j)) ++
    leBytes 4 (s.ownModule % 2 ^ 20 + op % 16 * 2 ^ 20 + reason % 16 * 2 ^ 24) ++ leBytes 4 seq ++ leBytes 4 0
  let s := s.modSlot j (fun x => { x with seq := seq, throttle := if reason = 0 then none else some reason })
  (s.treeLinks g).foldl (fun s n => s.linkSend n ({ pktZero with
    dst := s.fld (F.MYL_PARTNER_MODULE n), src := s.ownModule, vc := 7, opcode := opPace,
    msgId := g + s.fld (F.GMA_BAR_STS_GEN g) * 2 ^ 12, length := 16, first := true, last := true,
    payload := pay } : Packet)) s

/-- A throttled member of an ACTIVE slot sends its notice (R404). -/
def State.notifyThrottle (s : State) (j : Nat) : State :=
  if s.fld (F.MOD_JOB_STS_STATE j) ≠ slotActive ∨ !s.coreUp 7 then s
  else match s.throttleNow j with
    | some (op, r) => s.sendNotice j op r
    | none => s

def execThrottleDetect (j : Nat) (s : State) : Host.Outcome State Fault Refusal := .next (s.notifyThrottle j)

/-- The notice is repeated every 10 ms while the throttle lasts (R351). -/
def execPaceNoticeRepeat (j : Nat) (s : State) : Host.Outcome State Fault Refusal :=
  .next (if (s.slot j).throttle.isSome then s.notifyThrottle j else s)

/-- No tile of the slot has been throttled for 10 ms: one notice with REASON 0 (R404). -/
def execThrottleRelease (j : Nat) (s : State) : Host.Outcome State Fault Refusal :=
  .next (if (s.slot j).throttle.isSome ∧ s.fld (F.MOD_JOB_STS_STATE j) = slotActive then s.sendNotice j 15 0 else s)

/-- An entry that saw no refresh for 50 ms expires (R352). -/
def execStragglerExpiry (j module : Nat) (s : State) : Host.Outcome State Fault Refusal :=
  .next (((s.modSlot j (fun x => { x with strag := x.strag.filter (fun e => e.module ≠ module) })).setFlag
    (F.MOD_JOB_STRAG_CNT_OVERFLOW j) (s.flag (F.MOD_JOB_STRAG_CNT_OVERFLOW j) &&
      ((s.slot j).strag.filter (fun e => e.module ≠ module)).length = 64)).showStrag j).applyOps

/-! ### Streams (R354 to R357) -/

def State.stream (s : State) (p : Nat) : Stream := Tab.getD s.jobs.streams p Stream.init
def State.modStream (s : State) (p : Nat) (f : Stream → Stream) : State :=
  s.modJobs (fun x => { x with streams := Tab.set x.streams p (f (s.stream p)) })

/-- The counter that admission watches (R354). -/
def State.streamCounter (s : State) (p : Nat) : Nat :=
  let x := s.ctx (s.fld (F.MOD_STREAM_CTRL_INPUT_CTX p))
  if s.flag (F.MOD_STREAM_CTRL_WSEL p) then x.arriveCnt else x.compCnt

/-- A stream entry is enabled, or refused (R354). -/
def State.streamOn (s : State) (p : Nat) : State :=
  let owns := !s.flag (F.MOD_STREAM_CTRL_INPUT_EN p) ||
    decide ((s.ctx (s.fld (F.MOD_STREAM_CTRL_INPUT_CTX p))).owner = partOwner p)
  if s.flag (F.MOD_STREAM_CTRL_ENABLE p) then s
  else if !s.flag (F.MOD_PART_CFG_ENABLE p) ∨ !s.flag (F.MOD_PART_CFG_ACTIVE p) ∨ s.fld (F.MOD_PART_CFG_ROLE p) ≠ 4 ∨ !owns then
    s.raise blkMod 24 Master.noMaster (F.MOD_STREAM_CTRL_ENABLE p).off
  else
    let s := (s.setFlag (F.MOD_STREAM_CTRL_ENABLE p) true).setFlag (F.MOD_STREAM_CTRL_ACTIVE p) true
    let s := (s.setFlag (F.MOD_STREAM_STS_FRAME_ACTIVE p) false).setFld (F.MOD_STREAM_EST p) (s.fld (F.MOD_STREAM_EST_SET p))
    s.modStream p (fun _ => { Stream.init with t0 := s.time, base := s.streamCounter p })

/-- A stream entry is disabled; a frame in progress is abandoned. -/
def State.streamOff (s : State) (p : Nat) : State :=
  ((s.setFlag (F.MOD_STREAM_CTRL_ENABLE p) false).setFlag (F.MOD_STREAM_CTRL_ACTIVE p) false).setFlag
    (F.MOD_STREAM_STS_FRAME_ACTIVE p) false

def execStreamEnable (m : Master) (p : Nat) (s : State) : Host.Outcome State Fault Refusal :=
  .next (s.viaReg m (F.MOD_STREAM_CTRL_ENABLE p).off (fun s => s.streamOn p))

/-- The owner of a partition learns of a miss, at most once per 1 ms (R357). -/
def State.tellMiss (s : State) (p reason frame : Nat) : State :=
  let x := s.stream p
  let soon : Bool := match x.told with | some t => decide (s.time < t + 1000) | none => false
  if !s.flag (F.MOD_STREAM_CTRL_MISS_EVT p) ∨ soon then s
  else (s.modStream p (fun x => { x with told := some s.time })).postOwner (s.fld (F.MOD_PART_CFG_OWNER p)) 4 reason p
    (frame % 2 ^ 32) 0

/-- A skip or a late frame is counted, logged, recorded and told (R357). -/
def State.missed (s : State) (p reason frame value tk : Nat) (cnt : Fld) (waits : Bool) : State :=
  let s := (s.count cnt).postFw (Config.logCode 357) (frame % 2 ^ 32) (reason + 2 ^ 8 * p)
  let s := s.modJobs (fun x => { x with
    missLog := (⟨frame % 2 ^ 32, reason, p, value, tk % 2 ^ 32, waits⟩ :: x.missLog).take 256 })
  s.tellMiss p reason frame

/-- The start of frame `k`. -/
def State.frameStart (s : State) (p k : Nat) : Nat := (s.stream p).t0 + k * s.fld (F.MOD_STREAM_PERIOD p)

/-- The latest start of frame `k` (R355). -/
def State.latest (s : State) (p k : Nat) : Nat :=
  s.frameStart p k + (s.fld (F.MOD_STREAM_DEADLINE p) - s.fld (F.MOD_STREAM_EST p))

/-- The input of frame `k` is present (R354, R355). -/
def State.inputHere (s : State) (p k : Nat) : Bool :=
  !s.flag (F.MOD_STREAM_CTRL_INPUT_EN p) ||
    reached 48 (s.streamCounter p) (((s.stream p).base + (k + 1) * s.fld (F.MOD_STREAM_STEP_INPUT_STEP p)) % 2 ^ 48)

/-- The open record of a skipped frame takes its value when the input or the lead tile becomes ready before the next frame's
start, and closes at that start (R357). -/
def State.closeMisses (s : State) (p : Nat) : State :=
  let k := (s.stream p).next
  if k = 0 then s
  else
    let f := (k - 1) % 2 ^ 32
    let past := decide (s.frameStart p k ≤ s.time)
    let fill := fun (r : MissRec) =>
      if !(r.waits && r.part = p && r.frame = f) then r
      else if past then { r with waits := false }
      else if (if r.reason = 1 then s.inputHere p (k - 1) else !s.flag (F.MOD_STREAM_STS_FRAME_ACTIVE p)) then
        { r with waits := false, value := s.time - s.latest p (k - 1) }
      else r
    s.modJobs (fun x => { x with missLog := x.missLog.map fill })

/-- The scheduler at a tick: the undecided frame is admitted, skipped, or stays undecided (R355). -/
def State.streamTick (s : State) (p : Nat) : State :=
  if !s.flag (F.MOD_STREAM_CTRL_ENABLE p) ∨ !s.flag (F.MOD_PART_CFG_ENABLE p) then s
  else
    let s := s.closeMisses p
    let k := (s.stream p).next
    let tk := s.frameStart p k
    let busy := s.flag (F.MOD_STREAM_STS_FRAME_ACTIVE p)
    if s.time < tk then s
    else if s.latest p k < s.time then
      let s := s.modStream p (fun x => { x with next := k + 1 })
      s.missed p (if busy then 2 else 1) k 0xFFFFFFFF tk (if busy then F.MOD_STREAM_CNT_OVERRUN p else F.MOD_STREAM_CNT_NO_INPUT p)
        true
    else if !busy ∧ s.inputHere p k then
      let s := s.modStream p (fun x => { x with next := k + 1, frame := k, admitted := s.time })
      let s := (s.setFld (F.MOD_STREAM_FRAME p) (k % 2 ^ 32)).setFlag (F.MOD_STREAM_STS_FRAME_ACTIVE p) true
      match maskTiles (s.fld (F.MOD_PART_TILES_TILES p)) with
      | t :: _ => s.latchIrq t irqDoorbell
      | [] => s
    else s

def execStreamTick (p : Nat) (s : State) : Host.Outcome State Fault Refusal := .next (s.streamTick p)

/-- A frame ends (R355, R356). -/
def State.frameDone (s : State) (p v : Nat) : State :=
  let x := s.stream p
  if !s.flag (F.MOD_STREAM_STS_FRAME_ACTIVE p) ∨ v ≠ s.fld (F.MOD_STREAM_FRAME p) then
    s.raise blkMod 25 Master.noMaster (F.MOD_STREAM_DONE p).off
  else
    let due := s.frameStart p x.frame + s.fld (F.MOD_STREAM_DEADLINE p)
    let runs := ((s.time - x.admitted) :: x.runs).take 8
    let s := (s.setFlag (F.MOD_STREAM_STS_FRAME_ACTIVE p) false).modStream p (fun x => { x with runs := runs })
    let s := s.setFld (F.MOD_STREAM_EST p)
      (if s.flag (F.MOD_STREAM_CTRL_LEARN p) then min (runs.foldl max 0) 0xFFFFFF else s.fld (F.MOD_STREAM_EST_SET p))
    if due < s.time then s.missed p 3 x.frame (s.time - due) (s.frameStart p x.frame) (F.MOD_STREAM_CNT_LATE p) false
    else s.count (F.MOD_STREAM_CNT_DONE p)

/-- A lectern core of partition `p`. -/
def State.coreOfPart (s : State) (m : Master) (p : Nat) : Bool := m.cls = .lectern && s.partHasTile p m.index

/-- MOD_STREAM_DONE is written: only a lectern core of the partition may (R356). -/
def State.streamDoneWrite (s : State) (m : Master) (p v : Nat) : State :=
  if s.coreOfPart m p then s.frameDone p v else s.guardViolation blkMod m (F.MOD_STREAM_DONE p).off true

def execStreamFrameDone (m : Master) (p v : Nat) (s : State) : Host.Outcome State Fault Refusal :=
  .next (s.streamDoneWrite m p v)

/-! ### Steps (R365, R381) -/

/-- The LO half of a step value waits for its HI half. -/
def State.stepLoWrite (s : State) (m : Master) (p v : Nat) : State :=
  if s.coreOfPart m p ∨ m.cls = .librarian then s.modJobs (fun x => { x with stepLo := Tab.set x.stepLo p v })
  else s.guardViolation blkMod m (F.MOD_PART_STEP_LO p).off true

/-- The HI half is written: the value takes effect. Only the partition's lectern cores and the librarian write it (R381). -/
def State.stepHiWrite (s : State) (m : Master) (p v : Nat) : State :=
  if s.coreOfPart m p ∨ m.cls = .librarian then
    let lo := Tab.getD s.jobs.stepLo p (s.fld (F.MOD_PART_STEP_LO p))
    (s.setFld (F.MOD_PART_STEP_LO p) lo).setFld (F.MOD_PART_STEP_HI p) v
  else s.guardViolation blkMod m (F.MOD_PART_STEP_HI p).off true

def execPartStepWrite (m : Master) (p : Nat) (v : Word) (s : State) : Host.Outcome State Fault Refusal :=
  .next (s.stepHiWrite m p v.toNat)

end Sys2Proof.Machine
end

