-- ==== Sys2Proof/Machine/CkptOps.lean ====
section
/-!
DEFINITION. Checkpoint and restore: tensor pieces and their layout, shelfmarks and manifests, the coordinator's rounds and
the messages of a job group (R363 to R378).
-/
namespace Sys2Proof.Machine

def State.ck (s : State) (j : Nat) : Ckpt := Tab.getD s.ckpt j Ckpt.init
def State.modCk (s : State) (j : Nat) (f : Ckpt → Ckpt) : State := { s with ckpt := Tab.set s.ckpt j (f (s.ck j)) }
def State.modRound (s : State) (j : Nat) (f : CkRound → CkRound) : State :=
  s.modCk j (fun c => { c with round := f c.round })

/-! ### Reason codes and messages (R367, R376, R377) -/

def ckQuiesceTimeout : Nat := 0x01
def ckWriteTimeout : Nat := 0x02
def ckMemberFailed : Nat := 0x03
def ckNoSpace : Nat := 0x04
def ckWriteError : Nat := 0x05
def ckMapInvalid : Nat := 0x06
def ckBusyMoving : Nat := 0x07
def ckTooLateReason : Nat := 0x08
def ckManifestFull : Nat := 0x09
def ckReplicaFailed : Nat := 0x0B
def rsNoManifest : Nat := 0x10
def rsMacFail : Nat := 0x11
def rsMarkDigest : Nat := 0x12
def rsDataDigest : Nat := 0x13
def rsStepMismatch : Nat := 0x14
def rsShape : Nat := 0x15
def rsMissing : Nat := 0x16
def rsReadError : Nat := 0x17
def rsHolder : Nat := 0x18
def rsNoGeneration : Nat := 0x19

/-- Codes of this model for the messages of R367 and R377; the manual gives their content alone. -/
def mgQuiesce : Nat := 0x10
def mgQuiesced : Nat := 0x11
def mgTooLate : Nat := 0x12
def mgWrite : Nat := 0x13
def mgWritten : Nat := 0x14
def mgFailed : Nat := 0x15
def mgResume : Nat := 0x16
def mgAbort : Nat := 0x17
def mgCommitted : Nat := 0x18
def mgRsBegin : Nat := 0x20
def mgPartRequest : Nat := 0x21
def mgPart : Nat := 0x22
def mgRsDone : Nat := 0x23
def mgRsFailed : Nat := 0x24
def mgRsResume : Nat := 0x25
def mgReplica : Nat := 0x26

def State.jobId (s : State) (j : Nat) : Nat := s.fld (F.MOD_JOB_ID_JOB_ID j)
def State.coordOf (s : State) (j : Nat) : Nat := s.fld (F.MOD_JOB_COORD j)
def State.ckPhase (s : State) (j : Nat) : Nat := s.fld (F.MOD_CKPT_STS_PHASE j)

/-- A broadcast of the coordinator: on the tree of the notice group, and to its own member part (R367). -/
def State.ckAll (s : State) (j code : Nat) (args : List Nat) : State :=
  (s.spread j code args none).emit (.mgmt s.ownModule code args)

/-- A broadcast that arrived on a link goes on over the others (R351, R367). -/
def State.ckForward (s : State) (j code : Nat) (args : List Nat) (via : Option Nat) : State :=
  match via with
  | some n => s.spread j code args (some n)
  | none => s

/-- A reply goes directly to the coordinator (R367). -/
def State.ckReply (s : State) (j code : Nat) (args : List Nat) : State := s.emit (.mgmt (s.coordOf j) code args)

/-- A slot that takes part: ACTIVE, with checkpointing enabled (R366, R382). -/
def State.ckOn (s : State) (j : Nat) : Bool :=
  decide (s.fld (F.MOD_JOB_STS_STATE j) = slotActive) && s.flag (F.MOD_CKPT_CFG_ENABLE j)

/-- The last completed step of a partition. -/
def State.partStep (s : State) (p : Nat) : Nat := s.fld (F.MOD_PART_STEP_HI p) * 2 ^ 32 + s.fld (F.MOD_PART_STEP_LO p)

/-- The step of a member: the lowest over the TRAIN partitions of the slot (R365). -/
def State.memberStep (s : State) (j : Nat) : Nat :=
  match s.trainParts j with
  | [] => 0
  | p :: ps => ps.foldl (fun a q => min a (s.partStep q)) (s.partStep p)

/-- A record of 0x9014. -/
def State.ckLog (s : State) (j gen step result reason member : Nat) : State :=
  s.modCk j (fun c => { c with log := (⟨gen, step, result, reason, member, s.modTime⟩ :: c.log).take 32 })

/-- LAST_RESULT and REASON of a slot; ABORTED and RESTORE_FAILED are reported to the owners of its partitions (R382,
R383). -/
def State.ckResult (s : State) (j result reason : Nat) : State :=
  let s := (s.setFld (F.MOD_CKPT_STS_LAST_RESULT j) result).setFld (F.MOD_CKPT_STS_REASON j) reason
  if result = 2 then (s.raise blkMod 27 Master.noMaster (F.MOD_CKPT_STS_PHASE j).off reason).slotEvent j 27
  else if result = 4 then (s.raise blkMod 28 Master.noMaster (F.MOD_CKPT_STS_PHASE j).off reason).slotEvent j 28
  else s

/-! ### Pieces of tensors (R363, R364, R373) -/

/-- A piece of a tensor, of a map entry or a shelfmark. -/
structure Piece where
  tensor : Nat
  dtype : Nat
  layout : Nat
  omitted : Bool
  addr : Nat
  length : Nat
  shape : List Nat
  offset : List Nat
  extent : List Nat
deriving DecidableEq, Repr

/-- Three dimensions lists of a piece at a place of its bytes. -/
def dimsAt (bs : List Byte) (lo rank : Nat) : List Nat := (List.range rank).map (fun i => leAt bs (lo + 4 * i) 4)

def prodOf (l : List Nat) : Nat := l.foldl (· * ·) 1

/-- LENGTH of a piece (R364). -/
def pieceLength (dtype layout : Nat) (extent : List Nat) : Nat :=
  match Fmt.ofCode dtype with
  | none => 0
  | some f =>
    let e := prodOf extent
    e * f.width / 8 + if f.isMx ∧ layout = 0 then e / 32 else 0

/-- A map entry read as a piece (R363). -/
def mapPiece (bs : List Byte) : Piece :=
  let rank := leAt bs 5 1
  let ext := dimsAt bs 96 rank
  ⟨leAt bs 0 4, leAt bs 4 1, leAt bs 6 2, (leAt bs 8 1).testBit 0, leAt bs 16 8, pieceLength (leAt bs 4 1) (leAt bs 6 2) ext,
    dimsAt bs 32 rank, dimsAt bs 64 rank, ext⟩

/-- A shelfmark read as a piece (R373). -/
def markPiece (bs : List Byte) : Piece :=
  let rank := leAt bs 11 1
  ⟨leAt bs 32 4, leAt bs 10 1, leAt bs 12 2, false, 0, leAt bs 40 8, dimsAt bs 48 rank, dimsAt bs 80 rank, dimsAt bs 112 rank⟩

/-- The last dimension of a list of dimensions, and the one before it. -/
def lastDim (l : List Nat) : Nat := l.getLastD 1
def prevDim (l : List Nat) : Nat := (l.dropLast).getLastD 1

/-- The constraints of a layout (R364). -/
def layoutOk (p : Piece) : Bool :=
  match Fmt.ofCode p.dtype with
  | none => false
  | some f =>
    if p.layout = 0 then
      (if f.isMx then decide (lastDim p.offset % 32 = 0 ∧ lastDim p.extent % 32 = 0)
       else if f.width = 6 then decide (lastDim p.extent % 4 = 0)
       else if f.width = 4 then decide (lastDim p.extent % 2 = 0) else true)
    else
      decide (p.layout = 1 ∧ 2 ≤ p.extent.length) && decide (f.width ∈ [8, 16, 32, 256]) &&
        decide (lastDim p.offset % 512 = 0 ∧ lastDim p.extent % 512 = 0 ∧ prevDim p.offset % 512 = 0 ∧
          prevDim p.extent % 512 = 0)

/-- A map entry keeps R363 and R364; its range lies in HBM, shelves or a carrel of the slot's TRAIN partitions. -/
def State.entryOk (s : State) (j : Nat) (bs : List Byte) : Bool :=
  let p := mapPiece bs
  let rank := leAt bs 5 1
  let zeros := fun lo n : Nat => decide (leAt bs lo n = 0)
  let place := fun a : Nat => match regionOf a with
    | .hbm _ => true
    | .shelf _ _ => true
    | .carrel t => (s.trainParts j).any (fun q => s.partHasTile q t)
    | _ => false
  decide (leAt bs 4 1 < 16) && decide (1 ≤ rank ∧ rank ≤ 8) && decide (leAt bs 8 1 < 2) && zeros 9 7 && zeros 24 8 &&
    zeros (32 + 4 * rank) (32 - 4 * rank) && zeros (64 + 4 * rank) (32 - 4 * rank) && zeros (96 + 4 * rank) (32 - 4 * rank) &&
    decide (p.addr < 2 ^ 40 ∧ p.addr % 64 = 0) && p.extent.all (fun e => decide (1 ≤ e)) &&
    ((p.offset.zip p.extent).zip p.shape).all (fun q => decide (q.1.1 + q.1.2 ≤ q.2)) && layoutOk p &&
    (p.length = 0 || (decide (p.addr + p.length ≤ 2 ^ 40) && place p.addr && place (p.addr + p.length - 1) &&
      (s.firstHole Master.firmware p.addr p.length).isNone))

/-- The entries of a slot's map, in map order; none where the table cannot be read (R363, R382). -/
def State.mapEntries (s : State) (j : Nat) : State × Option (List (List Byte)) :=
  let a := s.fld (F.MOD_CKPT_MAP_HI j) * 2 ^ 32 + s.fld (F.MOD_CKPT_MAP_LO j)
  let n := s.fld (F.MOD_CKPT_MAP_CNT j)
  let (s, bs, f) := s.dmaRead Master.firmware a (128 * n)
  (s, if f.isSome then none else some ((List.range n).map (fun i => (bs.drop (128 * i)).take 128)))

/-- The place of an element among the elements of a piece, by its coordinates from the piece's start (R364). -/
def rowMajor : List Nat → List Nat → Nat
  | c :: cs, _ :: es => c * prodOf es + rowMajor cs es
  | _, _ => 0

def elemIndex (layout : Nat) (extent c : List Nat) : Nat :=
  if layout = 0 then rowMajor c extent
  else
    let r := prevDim extent
    let w := lastDim extent
    let i := prevDim c
    let k := c.getLastD 0
    rowMajor c.dropLast.dropLast extent.dropLast.dropLast * (r * w) + (i / 512 * (w / 512) + k / 512) * 262144 +
      i % 512 * 512 + k % 512

/-- Every coordinate of a region of the given extents. -/
def coordsOf : List Nat → List (List Nat)
  | [] => [[]]
  | e :: es => let rest := coordsOf es
    (List.range e).flatMap (fun i => rest.map (i :: ·))

/-- The overlap of two pieces as logical start and extents; none where they do not overlap (R377). -/
def overlap (a b : Piece) : Option (List Nat × List Nat) :=
  let lo := List.zipWith max a.offset b.offset
  let hi := List.zipWith min (List.zipWith (· + ·) a.offset a.extent) (List.zipWith (· + ·) b.offset b.extent)
  if (lo.zip hi).all (fun p => decide (p.1 < p.2)) then some (lo, List.zipWith (· - ·) hi lo) else none

/-- Logical coordinates of a region. -/
def regionCoords (r : List Nat × List Nat) : List (List Nat) := (coordsOf r.2).map (fun c => List.zipWith (· + ·) r.1 c)

/-- A piece holds an element. -/
def pieceHas (p : Piece) (c : List Nat) : Bool :=
  ((c.zip p.offset).zip p.extent).all (fun q => decide (q.1.2 ≤ q.1.1 ∧ q.1.1 < q.1.2 + q.2))

/-- The bits that an element takes in a piece, and those of the scale of its block: first bit and count (R75, R364). -/
def elemBits (p : Piece) (c : List Nat) : List (Nat × Nat) :=
  match Fmt.ofCode p.dtype with
  | none => []
  | some f =>
    let i := elemIndex p.layout p.extent (List.zipWith (· - ·) c p.offset)
    (i * f.width, f.width) ::
      (if f.isMx ∧ p.layout = 0 ∧ i % 32 = 0 then [(prodOf p.extent * f.width + i / 32 * 8, 8)] else [])

/-! ### Shelfmarks and manifests (R371, R373, R374) -/

/-- "SHLFMARK" and "MANIFEST". -/
def markMagic : List Byte := ([0x53, 0x48, 0x4C, 0x46, 0x4D, 0x41, 0x52, 0x4B] : List Nat).map (BitVec.ofNat 8)
def manifestMagic : List Byte := ([0x4D, 0x41, 0x4E, 0x49, 0x46, 0x45, 0x53, 0x54] : List Nat).map (BitVec.ofNat 8)

/-- The shelfmark of a shard (R373). -/
def shelfmark (entry : List Byte) (job gen step writer len : Nat) (payload : List Byte) : List Byte :=
  markMagic ++ leBytes 2 1 ++ (entry.drop 4).take 2 ++ (entry.drop 6).take 2 ++ leBytes 2 0 ++ leBytes 4 job ++ leBytes 4 gen ++
    leBytes 8 step ++ entry.take 4 ++ leBytes 4 writer ++ leBytes 8 len ++ (entry.drop 32).take 96 ++
    bytesOf (sha384 (natsOf payload)) ++ leBytes 64 0

/-- The entry of a shard in CK_WRITTEN (R373). -/
def shardEntry (writer tensor ns lba len : Nat) (mark : List Byte) : List Byte :=
  leBytes 4 writer ++ leBytes 4 tensor ++ leBytes 2 ns ++ leBytes 6 0 ++ leBytes 8 lba ++ leBytes 8 len ++
    bytesOf (sha384 (natsOf mark)) ++ leBytes 16 0

/-- Zeros up to a whole block. -/
def padBlock (bs : List Byte) : List Byte := bs ++ List.replicate ((4096 - bs.length % 4096) % 4096) 0

/-- Blocks of a shard: one for the shelfmark, then the payload (R371). -/
def shardBlocks (len : Nat) : Nat := 1 + (len + 4095) / 4096

/-- Entries in ascending order of WRITER, TENSOR_ID, LBA (R374). -/
def entryKey (e : List Byte) : Nat := (leAt e 0 4 * 2 ^ 32 + leAt e 4 4) * 2 ^ 64 + leAt e 16 8

def insertEntry (e : List Byte) : List (List Byte) → List (List Byte)
  | [] => [e]
  | x :: xs => if entryKey e < entryKey x then e :: x :: xs else x :: insertEntry e xs

def sortEntries (l : List (List Byte)) : List (List Byte) := l.foldl (fun a e => insertEntry e a) []

/-- The MAC key of a job's checkpoints, from its key page (R374, R436). -/
def State.ckMacKey (s : State) (j job : Nat) : List Nat := ckKey (s.page (s.fld (F.MOD_CKPT_CFG_KEY_PAGE j))).key job 1

/-- The manifest of a round: header, entries, and the MAC (R374). -/
def State.manifestOf (s : State) (j : Nat) : List Byte :=
  let r := (s.ck j).round
  let es := sortEntries (r.entries.flatMap (·.2))
  let ms := (s.slot j).members
  let body := manifestMagic ++ leBytes 2 1 ++ leBytes 6 0 ++ leBytes 4 (s.jobId j) ++ leBytes 4 r.gen ++ leBytes 8 r.target ++
    leBytes 4 ms.length ++ leBytes 4 0 ++ leBytes 8 es.length ++ leBytes 8 s.modTime ++ leBytes 4 s.ownModule ++ leBytes 4 0 ++
    bytesOf (sha384 (ms.flatMap (leNats 4))) ++ leBytes 16 0 ++ es.flatten
  body ++ bytesOf (hmac384 (s.ckMacKey j (s.jobId j)) (natsOf body))

/-- A manifest authenticates under a JOB_ID (R374, R377). -/
def State.manifestOk (s : State) (j job : Nat) (bs : List Byte) : Bool :=
  let n := 128 + 96 * leAt bs 40 8
  decide (bs.take 8 = manifestMagic) && decide (leAt bs 16 4 = job) && decide (bs.length = n + 48) &&
    decide (bytesOf (hmac384 (s.ckMacKey j job) (natsOf (bs.take n))) = bs.drop n)

/-- The entries of a manifest. -/
def manifestEntries (bs : List Byte) : List (List Byte) :=
  (List.range (leAt bs 40 8)).map (fun i => (bs.drop (128 + 96 * i)).take 96)

/-- The geometry of a checkpoint namespace: first block and blocks of a slot (R371). -/
def State.ckSlot (s : State) (n idx retain : Nat) : Nat × Nat :=
  let c := match s.ns? n with | some x => nsSize x.r | none => 0
  (idx * (c / (retain + 1)), c / (retain + 1))

/-- Data go to a namespace on the medium: the commands sent to the drives (R371). -/
def State.mediumPut (s : State) (n lba : Nat) (data : List Byte) (use : DrvUse) : State × Nat :=
  match s.ns? n with
  | none => (s, 0)
  | some x =>
    match s.nsKeyPair n x with
    | none => (s, 0)
    | some k =>
      let blocks := (chunksOf 4096 (padBlock data)).zipIdx.map (fun b => cipherBlock k (lba + b.2) b.1)
      let ps := pieces lba blocks.length
      (ps.foldl (fun s p => s.drvSend 2 n p.1 p.2 use ((blocks.drop (p.1 - lba)).take p.2).flatten) s, ps.length)

/-! ### Rounds at the coordinator (R366, R369, R370, R372) -/

/-- The lowest slot that holds none of the RETAIN newest committed generations (R372). -/
def State.ckPick (s : State) (j retain : Nat) : Nat :=
  let kept := ((s.ck j).gens.take retain).map (·.idx)
  ((List.range (retain + 1)).find? (fun i => decide (i ∉ kept))).getD 0

/-- A round starts: the next generation, its slot, and CK_QUIESCE to all; TRIGGER clears (R366, R367, R372, R382). -/
def State.roundStart (s : State) (j target repeats : Nat) : State :=
  let c := s.ck j
  let g := (c.high + 1) % 2 ^ 32
  let retain := s.fld (F.MOD_CKPT_CFG_RETAIN j)
  let idx := s.ckPick j retain
  let s := s.modCk j (fun c => { c with
    high := g, round := { CkRound.init with active := true, gen := g, target := target, idx := idx, repeats := repeats } })
  (s.setFlag (F.MOD_CKPT_CFG_TRIGGER j) false).ckAll j mgQuiesce [s.jobId j, g, target, idx, retain]

/-- Whether the slot's rounds are this module's to start: its coordinator, ACTIVE, enabled, no restore (R366, R378). -/
def State.roundAllowed (s : State) (j : Nat) : Bool :=
  s.ckOn j && decide (s.coordOf j = s.ownModule) && decide (s.ckPhase j ≠ 5)

/-- A trigger fires: a round starts; during a round it is counted as SKIPPED (R366). -/
def State.roundTrigger (s : State) (j target : Nat) : State :=
  if !s.roundAllowed j then s
  else if (s.ck j).round.active then s.modCk j (fun c => { c with skipped := c.skipped + 1 })
  else s.roundStart j target 0

/-- A round ends at its coordinator. -/
def State.roundEnd (s : State) (j : Nat) : State :=
  s.modCk j (fun c => { c with ended := s.time, round := { c.round with active := false } })

/-- A round ends with CK_ABORT (R369, R370). -/
def State.roundAbort (s : State) (j reason member : Nat) : State :=
  let r := (s.ck j).round
  if !r.active then s
  else ((s.roundEnd j).ckLog j r.gen r.target 2 reason member).ckAll j mgAbort [s.jobId j, r.gen, reason]

/-- The coordinator's slot of a job whose round has this generation. -/
def State.roundOf (s : State) (job gen : Nat) : Option Nat :=
  (s.slotOfJob job).filter (fun j => (s.ck j).round.active && decide ((s.ck j).round.gen = gen) &&
    decide (s.coordOf j = s.ownModule))

/-- A drive write of a round or a manifest ends (R368, R375). -/
def State.shardDrive (s : State) (j part : Nat) (ok : Bool) : State :=
  if part = 0 then
    s.modCk j (fun c => { c with ops := c.ops - 1, failed := if ok ∨ c.failed ≠ 0 then c.failed else ckWriteError })
  else if part = 1 then s.modRound j (fun r => { r with ops := r.ops - 1, bad := r.bad || !ok })
  else s

end Sys2Proof.Machine
end

