-- ==== Sys2Proof/Machine/Ckpt.lean ====
section
/-!
DEFINITION. The commands of checkpoint and restore (R365 to R378).
-/
namespace Sys2Proof.Machine

/-! ### Triggers (R366) -/

/-- The coordinator's step reaches k × INTERVAL − LEAD. -/
def State.stepTrigger (s : State) (j : Nat) : State :=
  let iv := s.fld (F.MOD_CKPT_INTERVAL j)
  let lead := s.fld (F.MOD_CKPT_CFG_LEAD j)
  let n := s.memberStep j + lead
  if iv ≠ 0 ∧ n ≠ 0 ∧ n % iv = 0 then s.roundTrigger j n else s

def execCkptStepTrigger (j : Nat) (s : State) : Host.Outcome State Fault Refusal := .next (s.stepTrigger j)

/-- TIMER seconds have passed since the last round ended. -/
def State.timerTrigger (s : State) (j : Nat) : State :=
  if s.fld (F.MOD_CKPT_TIMER j) = 0 then s else s.roundTrigger j (s.memberStep j + s.fld (F.MOD_CKPT_CFG_LEAD j))

def execCkptTimerTrigger (j : Nat) (s : State) : Host.Outcome State Fault Refusal := .next (s.timerTrigger j)

/-- TRIGGER is written 1: a round starts at the coordinator; elsewhere, or during a round, nothing starts (R366, R382). -/
def State.manualTrigger (s : State) (j : Nat) : State :=
  if s.roundAllowed j ∧ !(s.ck j).round.active then s.roundStart j (s.memberStep j + s.fld (F.MOD_CKPT_CFG_LEAD j)) 0 else s

def execCkptManualTrigger (m : Master) (j : Nat) (s : State) : Host.Outcome State Fault Refusal :=
  .next (s.viaReg m (F.MOD_CKPT_CFG_TRIGGER j).off (fun s => s.manualTrigger j))

/-! ### A round at a member (R368) -/

/-- CK_QUIESCE: HOLD and TARGET; a member beyond N, or MOVING, answers at once (R368, R370). -/
def State.quiesceIn (s : State) (j gen step idx retain : Nat) : State :=
  if !s.ckOn j ∨ s.ckPhase j = 5 then s
  else
    let s := if s.ckPhase j = 0 then s else s.endCut j
    let s := s.setFld (F.MOD_CKPT_ATTEMPT j) gen
    let s := (s.setFld (F.MOD_CKPT_TARGET_LO j) (step % 2 ^ 32)).setFld (F.MOD_CKPT_TARGET_HI j) (step / 2 ^ 32)
    let s := s.modCk j (fun c => { c with idx := idx, retain := retain, shards := [], ops := 0, failed := 0 })
    if s.flag F.MOD_STS_MOVING then s.ckReply j mgFailed [gen, s.ownModule, ckBusyMoving]
    else if step < s.memberStep j then s.ckReply j mgTooLate [gen, s.ownModule, s.memberStep j]
    else (s.setFlag (F.MOD_CKPT_STS_HOLD j) true).setFld (F.MOD_CKPT_STS_PHASE j) 1

def execCkQuiesce (job gen step idx retain : Nat) (via : Option Nat) (s : State) : Host.Outcome State Fault Refusal :=
  .next (match s.slotOfJob job with
    | some j => (s.ckForward j mgQuiesce [job, gen, step, idx, retain] via).quiesceIn j gen step idx retain
    | none => s)

/-- The target step as the registers hold it. -/
def State.ckTarget (s : State) (j : Nat) : Nat := s.fld (F.MOD_CKPT_TARGET_HI j) * 2 ^ 32 + s.fld (F.MOD_CKPT_TARGET_LO j)

/-- A member is quiesced: its step equals N, the tiles of its TRAIN partitions are IDLE, and no context of theirs has an
outstanding message (R368). -/
def State.isQuiesced (s : State) (j : Nat) : Bool :=
  decide (s.ckPhase j = 1) && decide (s.memberStep j = s.ckTarget j) &&
    (List.range 16).all (fun t => !(s.trainParts j).any (fun p => s.partHasTile p t) || decide (s.tileState t = 1)) &&
    s.gma.ctxs.all (fun c => !(s.trainParts j).any (fun p => decide (c.2.owner = partOwner p)) || decide (c.2.msgs = []))

def execMemberQuiesced (j : Nat) (s : State) : Host.Outcome State Fault Refusal :=
  .next (if s.isQuiesced j then
    let s := s.setFld (F.MOD_CKPT_STS_PHASE j) 2
    let s := if s.fld F.MOD_STS_STATE = 6 then s.setFld F.MOD_STS_STATE 7 else s
    s.ckReply j mgQuiesced [s.fld (F.MOD_CKPT_ATTEMPT j), s.ownModule, s.memberStep j]
  else s)

/-- One shard: its piece is read, and shelfmark and payload go to the namespace; the block after it (R371, R373). -/
def State.writeShard (s : State) (j n lba : Nat) (entry : List Byte) : State × Nat :=
  let p := mapPiece entry
  let (s, bs, f) := s.dmaRead Master.firmware p.addr p.length
  if f.isSome then (s.modCk j (fun c => { c with failed := if c.failed = 0 then ckWriteError else c.failed }), lba + shardBlocks p.length)
  else
    let mark := shelfmark entry (s.jobId j) (s.fld (F.MOD_CKPT_ATTEMPT j)) (s.ckTarget j) s.ownModule p.length bs
    let (s, k) := s.mediumPut n lba (padBlock mark ++ bs) (.shard j 0)
    let e := shardEntry s.ownModule p.tensor n lba p.length mark
    (s.modCk j (fun c => { c with shards := c.shards ++ [e], ops := c.ops + k, failed := if k = 0 ∧ c.failed = 0 then ckWriteError else c.failed }),
      lba + shardBlocks p.length)

/-- The member writes its shards in map order, skipping OMIT entries; an invalid map or a slot too small ends its part before
any shard is written (R368, R371, R373). -/
def State.writeShards (s : State) (j : Nat) : State :=
  let n := s.fld (F.MOD_CKPT_NS_NSID j)
  let fail := fun (s : State) (r : Nat) => s.ckReply j mgFailed [s.fld (F.MOD_CKPT_ATTEMPT j), s.ownModule, r]
  let s := s.setFld (F.MOD_CKPT_STS_PHASE j) 3
  match s.mapEntries j with
  | (s, none) => fail s ckMapInvalid
  | (s, some es) =>
    let (base, size) := s.ckSlot n (s.ck j).idx (s.ck j).retain
    let mf := s.fld (F.MOD_CKPT_MANIFEST j)
    let out := es.filter (fun e => !(mapPiece e).omitted)
    if !es.all (s.entryOk j) then fail s ckMapInvalid
    else if size < out.foldl (fun a e => a + shardBlocks (mapPiece e).length) mf then fail s ckNoSpace
    else (out.foldl (fun (a : State × Nat) e => a.1.writeShard j n a.2 e) (s, base + mf)).1

def execCkWrite (job gen : Nat) (via : Option Nat) (s : State) : Host.Outcome State Fault Refusal :=
  .next (match s.slotOfJob job with
    | some j =>
      let s := s.ckForward j mgWrite [job, gen] via
      if s.ckPhase j = 2 ∧ s.fld (F.MOD_CKPT_ATTEMPT j) = gen then s.writeShards j else s
    | none => s)

/-- The last shard write has completed: CK_WRITTEN with the shard entries, or CK_FAILED (R368, R373). -/
def execShardWritesDone (j : Nat) (s : State) : Host.Outcome State Fault Refusal :=
  .next (if s.ckPhase j = 3 ∧ (s.ck j).ops = 0 then
    let g := s.fld (F.MOD_CKPT_ATTEMPT j)
    if (s.ck j).failed ≠ 0 then s.ckReply j mgFailed [g, s.ownModule, (s.ck j).failed]
    else (s.setFld (F.MOD_CKPT_STS_PHASE j) 4).ckReply j mgWritten
      ([g, s.ownModule] ++ (s.ck j).shards.flatten.map BitVec.toNat)
  else s)

/-- CK_RESUME: HOLD clears, and the held cores are woken (R368). -/
def execCkResume (job gen : Nat) (via : Option Nat) (s : State) : Host.Outcome State Fault Refusal :=
  .next (match s.slotOfJob job with
    | some j =>
      let s := s.ckForward j mgResume [job, gen] via
      if 1 ≤ s.ckPhase j ∧ s.ckPhase j ≤ 4 ∧ s.fld (F.MOD_CKPT_ATTEMPT j) = gen then s.endCut j else s
    | none => s)

/-- CK_ABORT: the member's part of the round ends (R368, R370, R383). -/
def execCkAbort (job gen reason : Nat) (via : Option Nat) (s : State) : Host.Outcome State Fault Refusal :=
  .next (match s.slotOfJob job with
    | some j =>
      let s := s.ckForward j mgAbort [job, gen, reason] via
      if s.fld (F.MOD_CKPT_ATTEMPT j) = gen then
        (if 1 ≤ s.ckPhase j ∧ s.ckPhase j ≤ 4 then s.endCut j else s).ckResult j 2 reason
      else s
    | none => s)

/-- CK_COMMITTED: the generation is known committed (R375, R382). -/
def execCkCommitted (job gen : Nat) (via : Option Nat) (s : State) : Host.Outcome State Fault Refusal :=
  .next (match s.slotOfJob job with
    | some j =>
      let s := (s.ckForward j mgCommitted [job, gen] via).setFld (F.MOD_CKPT_GEN j) gen
      s.ckResult j 1 0
    | none => s)

/-! ### A round at the coordinator (R369 to R375) -/

/-- A member has quiesced; with all of them the slot's first manifest block is zeroed, here and at the replica, and CK_WRITE
goes to all (R369, R372). -/
def State.quiescedIn (s : State) (j src : Nat) : State :=
  let s := s.modRound j (fun r => { r with quiesced := if src ∈ r.quiesced then r.quiesced else r.quiesced ++ [src] })
  let r := (s.ck j).round
  let ms := (s.slot j).members
  if r.stage ≠ 0 ∨ !ms.all (fun m => decide (m ∈ r.quiesced)) then s
  else
    let s := s.modRound j (fun r => { r with stage := 1 })
    let n := s.fld (F.MOD_CKPT_NS_NSID j)
    let (s, _) := s.mediumPut n (s.ckSlot n r.idx (s.fld (F.MOD_CKPT_CFG_RETAIN j))).1 zeroBlock .other
    let s := match ms[1]? with
      | some m => s.emit (.mgmt m mgReplica [s.jobId j, r.gen, r.idx])
      | none => s
    s.ckAll j mgWrite [s.jobId j, r.gen]

def execCkQuiesced (src job gen step : Nat) (s : State) : Host.Outcome State Fault Refusal :=
  .next (match s.roundOf job gen with
    | some j => if step = (s.ck j).round.target then s.quiescedIn j src else s
    | none => s)

/-- A member was too late: CK_ABORT, and a new round with N above the highest reported step, at most three times (R369). -/
def State.tooLateIn (s : State) (j src step : Nat) : State :=
  let s := s.modRound j (fun r => { r with late := r.late ++ [(src, step)] })
  let r := (s.ck j).round
  let top := r.late.foldl (fun a p => max a p.2) 0
  let s := s.roundAbort j ckTooLateReason src
  if r.repeats < 3 ∧ s.roundAllowed j then s.roundStart j (top + s.fld (F.MOD_CKPT_CFG_LEAD j)) (r.repeats + 1)
  else s.modCk j (fun c => { c with skipped := c.skipped + 1 })

def execCkTooLate (src job gen step : Nat) (s : State) : Host.Outcome State Fault Refusal :=
  .next (match s.roundOf job gen with
    | some j => s.tooLateIn j src step
    | none => s)

def execCkFailed (src job gen _reason : Nat) (s : State) : Host.Outcome State Fault Refusal :=
  .next (match s.roundOf job gen with
    | some j => s.roundAbort j ckMemberFailed src
    | none => s)

/-- Not every member has quiesced in time (R370). -/
def execQuiesceTimeout (j : Nat) (s : State) : Host.Outcome State Fault Refusal :=
  .next (if (s.ck j).round.active ∧ (s.ck j).round.stage = 0 then
    s.roundAbort j ckQuiesceTimeout (((s.slot j).members.find? (fun m => decide (m ∉ (s.ck j).round.quiesced))).getD 0)
  else s)

/-- Not every member has written in time (R370). -/
def execWriteTimeout (j : Nat) (s : State) : Host.Outcome State Fault Refusal :=
  .next (if (s.ck j).round.active ∧ (s.ck j).round.stage = 1 then
    s.roundAbort j ckWriteTimeout
      (((s.slot j).members.find? (fun m => ((s.ck j).round.entries.all (fun e => decide (e.1 ≠ m))))).getD 0)
  else s)

/-- A member has written; with all of them CK_RESUME goes to all and the manifest to the medium, unless it does not fit
(R369, R374, R375). -/
def State.writtenIn (s : State) (j src : Nat) (entries : List (List Byte)) : State :=
  let s := s.modRound j (fun r => { r with entries := Tab.set r.entries src entries })
  let r := (s.ck j).round
  let ms := (s.slot j).members
  if r.stage ≠ 1 ∨ !ms.all (fun m => r.entries.any (fun e => decide (e.1 = m))) then s
  else
    let bs := s.manifestOf j
    if s.fld (F.MOD_CKPT_MANIFEST j) * 4096 < bs.length then s.roundAbort j ckManifestFull s.ownModule
    else
      let n := s.fld (F.MOD_CKPT_NS_NSID j)
      let s := s.ckAll j mgResume [s.jobId j, r.gen]
      let (s, k) := s.mediumPut n (s.ckSlot n r.idx (s.fld (F.MOD_CKPT_CFG_RETAIN j))).1 bs (.shard j 1)
      s.modRound j (fun r => { r with stage := 2, manifest := bs, ops := k, bad := decide (k = 0) })

def execCkWritten (src job gen : Nat) (entries : List (List Byte)) (s : State) : Host.Outcome State Fault Refusal :=
  .next (match s.roundOf job gen with
    | some j => s.writtenIn j src entries
    | none => s)

/-- A committed round ends with CK_COMMITTED (R375). -/
def State.roundCommitted (s : State) (j : Nat) : State :=
  let r := (s.ck j).round
  ((s.roundEnd j).ckLog j r.gen r.target 1 0 0).ckAll j mgCommitted [s.jobId j, r.gen]

/-- The last block of the manifest has completed on medium: the generation is committed, and the copy goes to the member with
the second-lowest ID; a write that failed leaves it uncommitted (R375). -/
def State.manifestDone (s : State) (j : Nat) : State :=
  let r := (s.ck j).round
  if !r.active ∨ r.stage ≠ 2 ∨ r.ops ≠ 0 then s
  else if r.bad then s.roundAbort j ckWriteError s.ownModule
  else
    let s := s.modCk j (fun c => { c with gens := ⟨r.gen, r.target, r.idx⟩ :: c.gens.filter (fun g => decide (g.idx ≠ r.idx)) })
    let s := s.modRound j (fun r => { r with stage := 3 })
    match (s.slot j).members[1]? with
    | some m => s.emit (.mgmt m mgReplica ([s.jobId j, r.gen, r.idx] ++ r.manifest.map BitVec.toNat))
    | none => s.roundCommitted j

def execManifestCommit (j : Nat) (s : State) : Host.Outcome State Fault Refusal := .next (s.manifestDone j)

/-- The replica's write has ended; a failure is logged and the generation stays committed (R375). -/
def execReplicaWriteDone (j : Nat) (ok : Bool) (s : State) : Host.Outcome State Fault Refusal :=
  .next (let r := (s.ck j).round
    if !r.active ∨ r.stage ≠ 3 then s
    else
      let s := if ok then s else
        (s.ckLog j r.gen r.target 1 ckReplicaFailed ((s.slot j).members.getD 1 0)).postFw (Config.logCode 375) ckReplicaFailed r.gen
      s.roundCommitted j)

/-! ### Restore (R377, R378) -/

def State.restoreOf (s : State) (job : Nat) : Option (Nat × Restore) :=
  match s.slotOfJob job with
  | none => none
  | some j =>
    match (s.ck j).restore with
    | some r => if s.ckPhase j = 5 then some (j, r) else none
    | none => none

def State.modRestore (s : State) (j : Nat) (f : Restore → Restore) : State :=
  s.modCk j (fun c => { c with restore := c.restore.map f })

/-- The coordinator broadcasts the newest candidate not tried yet, or the failure of the restore (R377). -/
def State.nextCandidate (s : State) (j : Nat) : State :=
  match (s.ck j).restore with
  | none => s
  | some r =>
    match r.cands with
    | [] => s.ckAll j mgRsFailed [s.jobId j, 0, rsNoGeneration]
    | c :: rest =>
      (s.modRestore j (fun r => { r with cur := some c, cands := rest, done := [] })).ckAll j mgRsBegin
        [s.jobId j, c.gen, ofLeNats (sha384 (natsOf c.bytes))]

/-- Candidates newest first, each generation once (R377). -/
def insertCand (c : RsCand) : List RsCand → List RsCand
  | [] => [c]
  | x :: xs => if c.gen = x.gen then x :: xs else if x.gen < c.gen then c :: x :: xs else x :: insertCand c xs

/-- A restore request of 0x9013 with the manifests that the holders hold: refused during a round or a restore; else the slot
is RESTORING with HOLD, and the coordinator begins (R377, R378). The flag says that it was accepted. -/
def State.restoreStart (s : State) (j job coord replica gen staging length : Nat) (manifests : List (List Byte)) : State × Bool :=
  if !s.ckOn j ∨ s.ckPhase j ≠ 0 ∨ (s.ck j).round.active then (s, false)
  else
    let found := (manifests.filter (s.manifestOk j job)).map (fun b => RsCand.mk (leAt b 20 4) (leAt b 24 8) b)
    let cands := (found.filter (fun c => decide (gen = 0 ∨ c.gen ≤ gen))).foldl (fun a c => insertCand c a) []
    let high := if job = s.jobId j then found.foldl (fun a c => max a c.gen) 0 else 0
    let s := (s.setFlag (F.MOD_CKPT_STS_HOLD j) true).setFld (F.MOD_CKPT_STS_PHASE j) 5
    let s := s.modCk j (fun c => { c with
      high := high, restore := some ⟨job, coord, replica, gen, staging, length, cands, none, [], [], []⟩ })
    (if s.coordOf j = s.ownModule then s.nextCandidate j else s, true)

/-- Byte ranges that bits take in a payload, neighbouring ones merged. -/
def mergeBits : List (Nat × Nat) → List (Nat × Nat)
  | [] => []
  | (b, n) :: rest =>
    let lo := b / 8
    let hi := (b + n + 7) / 8
    match mergeBits rest with
    | (o, l) :: more => if o ≤ hi ∧ lo ≤ o then (lo, max hi (o + l) - lo) :: more else (lo, hi - lo) :: (o, l) :: more
    | [] => [(lo, hi - lo)]

/-- The first covering shard of an element, in manifest order (R377). -/
def coverOf (marks : List (Nat × Nat × List Byte)) (tensor : Nat) (c : List Nat) : Option (Nat × Nat × List Byte) :=
  marks.find? (fun m => decide ((markPiece m.2.2).tensor = tensor) && pieceHas (markPiece m.2.2) c)

/-- The parts of a shard that a map entry needs (R377). -/
def partsOfShard (marks : List (Nat × Nat × List Byte)) (e : Piece) (m : Nat × Nat × List Byte) : List (Nat × Nat) :=
  let p := markPiece m.2.2
  match overlap p e with
  | none => []
  | some r => mergeBits (((regionCoords r).filter (fun c => decide (coverOf marks e.tensor c = some m))).flatMap (elemBits p))

/-- Why the shards of a generation cannot fill a map entry: a covering shard of another type, layout or shape, or an element
that none covers; 0 where they can (R377). -/
def entryReason (marks : List (Nat × Nat × List Byte)) (e : Piece) : Nat :=
  let cov := marks.filter (fun m => decide ((markPiece m.2.2).tensor = e.tensor) && (overlap (markPiece m.2.2) e).isSome)
  if cov.any (fun m => let p := markPiece m.2.2
      decide (p.dtype ≠ e.dtype) || decide (p.layout ≠ e.layout) || decide (p.shape ≠ e.shape)) then rsShape
  else if (regionCoords (e.offset, e.extent)).all (fun c => (coverOf marks e.tensor c).isSome) then 0
  else rsMissing

/-- RS_BEGIN at a member: the candidate named by generation and digest, the shelfmarks of its shards as the holders gave them,
and the parts to ask for (R377). -/
def State.rsBeginIn (s : State) (j gen digest : Nat) (marks : List (List Byte)) : State :=
  match (s.ck j).restore with
  | none => s
  | some r =>
    let fail := fun (s : State) (reason : Nat) => s.ckReply j mgRsFailed [s.jobId j, gen, s.ownModule, reason]
    match (r.cands ++ r.cur.toList).find? (fun c => decide (c.gen = gen ∧ ofLeNats (sha384 (natsOf c.bytes)) = digest)) with
    | none => fail s rsNoManifest
    | some c =>
      match s.mapEntries j with
      | (s, none) => fail s ckMapInvalid
      | (s, some es) =>
        let ents := manifestEntries c.bytes
        let ms := (ents.zip marks).map (fun p => (leAt p.1 0 4, leAt p.1 16 8, p.2))
        let pieces := es.map mapPiece
        let reason := ((pieces.map (entryReason ms)).find? (· ≠ 0)).getD 0
        if !es.all (s.entryOk j) then fail s ckMapInvalid
        else if reason ≠ 0 then fail s reason
        else
          let asks := ms.map (fun m => (m, mergeBits (pieces.flatMap (fun e => (partsOfShard ms e m).map (fun q => (8 * q.1, 8 * q.2))))))
          let need := asks.flatMap (fun a => a.2.map (fun q => (a.1.1, a.1.2.1, q.1, q.2)))
          let s := s.modRestore j (fun r => { r with cur := some c, marks := ms, parts := need })
          let s := ((ents.zip asks).filter (fun p => decide (p.2.2 ≠ []))).foldl (fun s p =>
            s.emit (.mgmt p.2.1.1 mgPartRequest ([r.job, gen, c.step, leAt p.1 8 2, p.2.1.2.1, leAt p.1 24 8, leAt p.1 32 48] ++
              p.2.2.flatMap (fun q => [q.1, q.2])))) s
          if need = [] then s.ckReply j mgRsDone [s.jobId j, gen, s.ownModule] else s

def execRsBegin (job gen digest : Nat) (marks : List (List Byte)) (via : Option Nat) (s : State) :
    Host.Outcome State Fault Refusal :=
  .next (match s.restoreOf job with
    | some (j, _) => (s.ckForward j mgRsBegin [job, gen, digest] via).rsBeginIn j gen digest marks
    | none => s)

/-- A holder reads a shard whole, checks it, and serves the parts; a failure is answered with its reason (R377). The blocks are
those that the drives return. -/
def State.servePart (s : State) (src job gen step nsid lba length digest : Nat) (parts : List (Nat × Nat))
    (blocks : Option (List Byte)) : State :=
  let fail := fun (s : State) (reason : Nat) => s.emit (.mgmt src mgPart [job, gen, s.ownModule, lba, 0, reason])
  match s.ns? nsid, blocks with
  | some x, some ct =>
    let s := (pieces lba (shardBlocks length)).foldl (fun s p => s.emit (.drive (nsPlace x.r p.1).1 0 (nsPlace x.r p.1).2 p.2 [])) s
    match s.nsServes x, s.nsKeyPair nsid x with
    | true, some k =>
      let plain := (chunksOf 4096 ct).zipIdx.flatMap (fun b => plainBlock k (lba + b.2) b.1)
      let mark := plain.take 256
      let payload := (plain.drop 4096).take length
      if ofLeNats (sha384 (natsOf mark)) ≠ digest then fail s rsMarkDigest
      else if mark.take 8 ≠ markMagic ∨ leAt mark 16 4 ≠ job ∨ leAt mark 20 4 ≠ gen ∨ leAt mark 24 8 ≠ step then fail s rsStepMismatch
      else if bytesOf (sha384 (natsOf payload)) ≠ (mark.drop 144).take 48 then fail s rsDataDigest
      else
        let s := match s.slotOfJob job with
          | some j => (match (s.ck j).restore with
            | some r => if length ≤ r.length then s.putMem r.staging payload else s
            | none => s)
          | none => s
        parts.foldl (fun s p => s.emit (.mgmt src mgPart ([job, gen, s.ownModule, lba, p.1, 0] ++
          ((payload.drop p.1).take p.2).map BitVec.toNat))) s
    | _, _ => fail s rsReadError
  | _, _ => fail s rsReadError

def execShardPartRequest (src job gen step nsid lba length digest : Nat) (parts : List (Nat × Nat)) (blocks : Option (List Byte))
    (s : State) : Host.Outcome State Fault Refusal :=
  .next (s.servePart src job gen step nsid lba length digest parts blocks)

/-- Bits of memory take a value. -/
def State.putBits (s : State) (a b n v : Nat) : State :=
  let lo := b / 8
  let k := (b + n + 7) / 8 - lo
  s.putMem (a + lo) (leBytes k (setBits (ofLe (s.readBytes (a + lo) k)) (b % 8 + n - 1) (b % 8) v))

/-- The elements of a map entry that a received part of a shard holds and that no earlier shard covers are written (R377). -/
def State.fillEntry (s : State) (marks : List (Nat × Nat × List Byte)) (m : Nat × Nat × List Byte) (e : Piece) (off : Nat)
    (data : List Byte) : State :=
  let p := markPiece m.2.2
  match overlap p e with
  | none => s
  | some r =>
    ((regionCoords r).filter (fun c => decide (coverOf marks e.tensor c = some m))).foldl (fun s c =>
      ((elemBits p c).zip (elemBits e c)).foldl (fun s q =>
        if 8 * off ≤ q.1.1 ∧ q.1.1 + q.1.2 ≤ 8 * (off + data.length) then
          s.putBits e.addr q.2.1 q.2.2 (bits (ofLe ((data.drop (q.1.1 / 8 - off)).take ((q.1.2 + 14) / 8))) (q.1.1 % 8 + q.1.2 - 1) (q.1.1 % 8))
        else s) s) s

/-- A part arrives at a member: it is written into the map entries; with the last one RS_DONE goes to the coordinator
(R377). -/
def State.partIn (s : State) (j : Nat) (r : Restore) (src gen lba off reason : Nat) (data : List Byte) : State :=
  if r.cur.map (·.gen) ≠ some gen then s
  else if reason ≠ 0 then s.ckReply j mgRsFailed [s.jobId j, gen, s.ownModule, reason]
  else if (src, lba, off, data.length) ∉ r.parts then s
  else
    match r.marks.find? (fun m => decide (m.1 = src ∧ m.2.1 = lba)), s.mapEntries j with
    | some m, (s, some es) =>
      let s := es.foldl (fun s e => s.fillEntry r.marks m (mapPiece e) off data) s
      let rest := r.parts.erase (src, lba, off, data.length)
      let s := s.modRestore j (fun r => { r with parts := rest })
      if rest = [] then s.ckReply j mgRsDone [s.jobId j, gen, s.ownModule] else s
    | _, _ => s

def execShardPartReceive (src job gen lba off reason : Nat) (data : List Byte) (s : State) : Host.Outcome State Fault Refusal :=
  .next (match (List.range 16).find? (fun j => s.ckPhase j = 5 && (match (s.ck j).restore with | some r => r.job = job | none => false)) with
    | some j => (match (s.ck j).restore with
      | some r => s.partIn j r src gen lba off reason data
      | none => s)
    | none => s)

/-- A member is done; with all of them RS_RESUME goes to all (R377). -/
def execRsDone (src job gen : Nat) (s : State) : Host.Outcome State Fault Refusal :=
  .next (match s.restoreOf job with
    | some (j, r) =>
      match r.cur with
      | some c =>
        if c.gen ≠ gen ∨ s.coordOf j ≠ s.ownModule then s
        else
          let done := if src ∈ r.done then r.done else r.done ++ [src]
          let s := s.modRestore j (fun r => { r with done := done })
          if (s.slot j).members.all (fun m => decide (m ∈ done)) then
            (s.ckLog j gen c.step 3 0 0).ckAll j mgRsResume [job, gen, c.step]
          else s
      | none => s
    | none => s)

/-- A failure: at the coordinator a member's moves the group to the next older candidate; the coordinator's own broadcast ends
the restore (R377, R383). -/
def execRsFailed (src job gen reason : Nat) (via : Option Nat) (s : State) : Host.Outcome State Fault Refusal :=
  .next (match s.restoreOf job with
    | some (j, r) =>
      if reason = rsNoGeneration then
        let s := (s.ckForward j mgRsFailed [job, 0, rsNoGeneration] via).setFld (F.MOD_CKPT_STS_PHASE j) 0
        let s := s.modCk j (fun c => { c with restore := none })
        (s.ckLog j gen 0 4 reason src).ckResult j 4 reason
      else if s.coordOf j = s.ownModule ∧ r.cur.map (·.gen) = some gen then
        (s.ckLog j gen ((r.cur.map (·.step)).getD 0) 4 reason src).nextCandidate j
      else s
    | none => s)

/-- RS_RESUME: the restored step goes to every TRAIN partition, and HOLD clears (R378). -/
def State.rsResumeIn (s : State) (j gen step : Nat) : State :=
  let s := (s.trainParts j).foldl (fun s p =>
    (s.setFld (F.MOD_PART_STEP_LO p) (step % 2 ^ 32)).setFld (F.MOD_PART_STEP_HI p) (step / 2 ^ 32)) s
  let s := (s.endCut j).modCk j (fun c => { c with restore := none })
  (s.setFld (F.MOD_CKPT_GEN j) gen).ckResult j 3 0

def execRsResume (job gen step : Nat) (via : Option Nat) (s : State) : Host.Outcome State Fault Refusal :=
  .next (match s.restoreOf job with
    | some (j, _) => (s.ckForward j mgRsResume [job, gen, step] via).rsResumeIn j gen step
    | none => s)

/-- A holder has not answered within 10 s: the member reports HOLDER_UNREACHABLE (R377). -/
def execHolderTimeout (j : Nat) (s : State) : Host.Outcome State Fault Refusal :=
  .next (match (s.ck j).restore with
    | some r =>
      match s.ckPhase j = 5 && decide (r.parts ≠ []), r.cur with
      | true, some c => s.ckReply j mgRsFailed [s.jobId j, c.gen, s.ownModule, rsHolder]
      | _, _ => s
    | none => s)

/-- Not every member has replied within 600 s: the next older candidate (R377). -/
def execRestoreTimeout (j : Nat) (s : State) : Host.Outcome State Fault Refusal :=
  .next (if s.ckPhase j = 5 ∧ s.coordOf j = s.ownModule then s.nextCandidate j else s)

end Sys2Proof.Machine
end

