-- ==== Sys2Proof/Machine/PortParse.lean ====
section
/-!
DEFINITION. The parser of the front ports and the match of a rule or a pattern, over the bytes of a frame without its FCS
(R548 to R552), and the checksums that a port verifies and fills in.
-/
namespace Sys2Proof.Machine

/-! ### Bytes in wire order -/

/-- `n` bytes from `o`. -/
def slice (bs : List Byte) (o n : Nat) : List Byte := (bs.drop o).take n

/-- A big-endian number. -/
def beAt (bs : List Byte) (o n : Nat) : Nat := (slice bs o n).foldl (fun a b => a * 256 + b.toNat) 0

/-- `n` big-endian bytes of a number. -/
def beOf (n v : Nat) : List Byte := (leBytes n v).reverse

/-- Bytes of a frame replaced from `o`. -/
def splice (bs : List Byte) (o : Nat) (new : List Byte) : List Byte := bs.take o ++ new ++ bs.drop (o + new.length)

/-! ### Internet checksums -/

/-- The sum of 16-bit words in ones' complement, an odd byte padded. -/
def onesSum : List Byte → Nat
  | a :: b :: l => let t := a.toNat * 256 + b.toNat + onesSum l; t % 65536 + t / 65536
  | [a] => a.toNat * 256
  | [] => 0

/-- The checksum field for a sum. -/
def onesCheck (bs : List Byte) : Nat := 0xFFFF - onesSum bs

/-! ### Parsed headers (R548) -/

/-- The IP header of a layer: version, its offset and its end, protocol, DSCP, addresses in 16 bytes, whether it is a
non-first fragment, and the end of the packet by its length. -/
structure IpHdr where
  ver : Nat
  off : Nat
  fin : Nat
  proto : Nat
  dscp : Nat
  src : List Byte
  dst : List Byte
  frag : Bool
  stop : Nat
deriving DecidableEq, Repr

/-- The transport header of a layer: protocol, offset and end; the ports of TCP and UDP; the flags of TCP. -/
structure L4Hdr where
  proto : Nat
  off : Nat
  fin : Nat
  ports : Option (Nat × Nat)
  flags : Option Nat
deriving DecidableEq, Repr

/-- One layer: its Ethernet header at `off`, the offset of each VLAN tag, the innermost EtherType, where it ends, and the
headers above; BTH by its offset. -/
structure Layer where
  off : Nat
  tags : List Nat
  etherType : Nat
  l2end : Nat
  ip : Option IpHdr
  l4 : Option L4Hdr
  bth : Option Nat
deriving DecidableEq, Repr

/-- A parsed frame: the outer layer; VNI and the inner layer of VXLAN; the offset of the payload. -/
structure Parsed where
  outer : Layer
  vni : Option Nat
  inner : Option Layer
  payload : Nat
deriving DecidableEq, Repr

/-! ### Parsing; none is a parse failure (R549) -/

def isVlan (t : Nat) : Bool := decide (t = 0x8100 ∨ t = 0x88A8)

/-- Tags, EtherType and end of an Ethernet header at `o`, with at most `max` tags; a further tag after two is a failure. -/
def parseEth (bs : List Byte) (o max : Nat) : Option (List Nat × Nat × Nat) :=
  let len := bs.length
  if len < o + 14 then none
  else
    let t1 := beAt bs (o + 12) 2
    if !isVlan t1 ∨ max = 0 then some ([], t1, o + 14)
    else if len < o + 18 then none
    else
      let t2 := beAt bs (o + 16) 2
      if t2 ≠ 0x8100 ∨ max = 1 then some ([o + 12], t2, o + 18)
      else if len < o + 22 then none
      else
        let t3 := beAt bs (o + 20) 2
        if isVlan t3 then none else some ([o + 12, o + 16], t3, o + 22)

/-- An IPv4 header at `o` (R548, R549). -/
def parseIp4 (bs : List Byte) (o : Nat) : Option IpHdr :=
  let ihl := beAt bs o 1 % 16
  if bs.length < o + 20 ∨ ihl < 5 ∨ bs.length < o + 4 * ihl ∨ bs.length < o + beAt bs (o + 2) 2 then none
  else if onesSum (slice bs o (4 * ihl)) ≠ 0xFFFF then none
  else some
    { ver := 4, off := o, fin := o + 4 * ihl, proto := beAt bs (o + 9) 1, dscp := beAt bs (o + 1) 1 / 4
      src := slice bs (o + 12) 4 ++ List.replicate 12 0, dst := slice bs (o + 16) 4 ++ List.replicate 12 0
      frag := decide (beAt bs (o + 6) 2 % 8192 ≠ 0), stop := o + beAt bs (o + 2) 2 }

/-- IPv6 extension headers from `o`: the last next header, the end, and whether it is a non-first fragment; a third one is a
failure (R548, R549). -/
def parseExt (bs : List Byte) : Nat → Nat → Nat → Bool → Option (Nat × Nat × Bool)
  | k, next, o, frag =>
    if next ≠ 0 ∧ next ≠ 43 ∧ next ≠ 60 ∧ next ≠ 44 then some (next, o, frag)
    else match k with
      | 0 => none
      | k + 1 =>
        let n := if next = 44 then 8 else 8 * (beAt bs (o + 1) 1 + 1)
        if bs.length < o + 8 ∨ bs.length < o + n then none
        else parseExt bs k (beAt bs o 1) (o + n) (frag || (decide (next = 44) && decide (beAt bs (o + 2) 2 / 8 ≠ 0)))

/-- An IPv6 header at `o`. -/
def parseIp6 (bs : List Byte) (o : Nat) : Option IpHdr :=
  if bs.length < o + 40 ∨ bs.length < o + 40 + beAt bs (o + 4) 2 then none
  else match parseExt bs 2 (beAt bs (o + 6) 1) (o + 40) false with
    | none => none
    | some (proto, fin, frag) => some
      { ver := 6, off := o, fin := fin, proto := proto, dscp := beAt bs o 2 / 64 % 64, src := slice bs (o + 8) 16
        dst := slice bs (o + 24) 16, frag := frag, stop := o + 40 + beAt bs (o + 4) 2 }

/-- The transport header of a packet that is no later fragment; a protocol that is not recognised has none. -/
def parseL4 (bs : List Byte) (p : IpHdr) : Option (Option L4Hdr) :=
  let o := p.fin
  let ports := some (beAt bs o 2, beAt bs (o + 2) 2)
  if p.frag then some none
  else if p.proto = 6 then
    let n := 4 * (beAt bs (o + 12) 1 / 16)
    if bs.length < o + 20 ∨ bs.length < o + n then none
    else some (some ⟨6, o, o + max 20 n, ports, some (beAt bs (o + 13) 1)⟩)
  else if p.proto = 17 then if bs.length < o + 8 then none else some (some ⟨17, o, o + 8, ports, none⟩)
  else if p.proto = 1 ∨ p.proto = 58 then
    if bs.length < o + 8 then none else some (some ⟨p.proto, o, o + 8, none, none⟩)
  else some none

/-- One layer from its Ethernet header at `o`. -/
def parseLayer (bs : List Byte) (o max : Nat) : Option Layer :=
  match parseEth bs o max with
  | none => none
  | some (tags, et, fin) =>
    let bare : Layer := ⟨o, tags, et, fin, none, none, none⟩
    if et ≠ 0x0800 ∧ et ≠ 0x86DD then some bare
    else match (if et = 0x0800 then parseIp4 bs fin else parseIp6 bs fin) with
      | none => none
      | some ip =>
        match parseL4 bs ip with
        | none => none
        | some l4 =>
          match l4 with
          | some h =>
            if h.proto = 17 ∧ (h.ports.map (·.2)) = some 4791 then
              if bs.length < h.fin + 12 then none else some { bare with ip := some ip, l4 := l4, bth := some h.fin }
            else some { bare with ip := some ip, l4 := l4 }
          | none => some { bare with ip := some ip }

/-- Where the headers of a layer end. -/
def Layer.fin (l : Layer) : Nat :=
  match l.bth, l.l4, l.ip with
  | some b, _, _ => b + 12
  | none, some h, _ => h.fin
  | none, none, some p => p.fin
  | none, none, none => l.l2end

/-- A frame parsed, with VXLAN on UDP port `vx` (R548, R549). -/
def parseFrame (bs : List Byte) (vx : Nat) : Option Parsed :=
  match parseLayer bs 0 2 with
  | none => none
  | some l =>
    match l.l4 with
    | some h =>
      if h.proto = 17 ∧ (h.ports.map (·.2)) = some vx then
        if bs.length < h.fin + 8 then none
        else match parseLayer bs (h.fin + 8) 1 with
          | none => none
          | some i => some ⟨{ l with bth := none }, some (beAt bs (h.fin + 4) 3), some i, i.fin⟩
      else some ⟨l, none, none, l.fin⟩
    | none => some ⟨l, none, none, l.fin⟩

/-! ### Key fields and patterns (R550 to R552) -/

/-- The key fields of a packet, by their offset in a rule entry; none is an absent field. -/
def Parsed.keys (p : Parsed) (bs : List Byte) (inner : Bool) : List (Nat × Nat × Option (List Byte)) :=
  let l := if inner then p.inner.getD p.outer else p.outer
  let vid := fun k => (l.tags[k]?).map (fun o => beOf 2 (beAt bs (o + 2) 2 % 4096))
  let is := fun v : Nat => decide (l.ip.map (·.ver) = some v)
  let frag := match l.ip with | some i => i.frag | none => false
  let present := [decide (1 ≤ l.tags.length), decide (2 ≤ l.tags.length), is 4, is 6, frag, p.vni.isSome, l.bth.isSome,
    l.l4.isSome]
  let mask := (present.zipIdx.map (fun x => if x.1 then 2 ^ x.2 else 0)).foldl (· + ·) 0
  [(0, 2, some (beOf 2 l.etherType)), (2, 2, vid 0), (4, 2, vid 1), (6, 1, some (beOf 1 mask)),
   (7, 1, l.ip.map (fun i => beOf 1 i.proto)), (8, 1, l.ip.map (fun i => beOf 1 i.dscp)),
   (9, 1, (l.l4.bind (·.flags)).map (beOf 1)), (10, 16, l.ip.map (·.src)), (26, 16, l.ip.map (·.dst)),
   (42, 2, (l.l4.bind (·.ports)).map (fun x => beOf 2 x.1)), (44, 2, (l.l4.bind (·.ports)).map (fun x => beOf 2 x.2)),
   (46, 3, p.vni.map (beOf 3)), (49, 3, l.bth.map (fun o => slice bs (o + 5) 3))]

/-- Two byte strings agree under a mask. -/
def maskedEq (a b m : List Byte) : Bool := decide (List.zipWith (· &&& ·) a m = List.zipWith (· &&& ·) b m)

/-- A rule's 128 bytes match a packet, apart from VALID and the pattern (R550, R551). -/
def ruleKeys (rule : List Byte) (p : Parsed) (bs : List Byte) : Bool :=
  let inner := (leAt rule 104 1).testBit 1
  (!inner || p.inner.isSome) &&
    (p.keys bs inner).all (fun k =>
      let v := slice rule k.1 k.2.1
      let m := slice rule (52 + k.1) k.2.1
      match k.2.2 with
      | some x => maskedEq x v m
      | none => m.all (· = 0))

/-- A pattern's 64 bytes match a payload (R552). -/
def patMatches (pat payload : List Byte) : Bool :=
  let o := leAt pat 48 1
  let n := leAt pat 49 1
  (leAt pat 50 1).testBit 0 && decide (1 ≤ n ∧ n ≤ 24 ∧ o + n ≤ 256 ∧ o + n ≤ payload.length) &&
    maskedEq (slice payload o n) (slice pat 0 n) (slice pat 24 n)

/-! ### Checksums of a packet -/

/-- The pseudo header of a transport checksum. -/
def pseudo (p : IpHdr) (n : Nat) : List Byte :=
  if p.ver = 4 then p.src.take 4 ++ p.dst.take 4 ++ beOf 2 p.proto ++ beOf 2 n else p.src ++ p.dst ++ beOf 4 n ++ beOf 4 p.proto

/-- The segment of a transport header, to the end of its packet. -/
def segment (bs : List Byte) (p : IpHdr) (h : L4Hdr) : List Byte := slice bs h.off (p.stop - h.off)

/-- L4_OK: the TCP or UDP checksum verifies; a UDP datagram without one has nothing to verify. -/
def l4Good (bs : List Byte) (l : Layer) : Bool :=
  match l.ip, l.l4 with
  | some p, some h =>
    let seg := segment bs p h
    (h.proto = 6 || (h.proto = 17 && decide (beAt bs (h.off + 6) 2 ≠ 0))) &&
      decide (onesSum (pseudo p seg.length ++ seg) = 0xFFFF)
  | _, _ => false

/-- The IPv4 header checksum is filled in. -/
def fixIp (bs : List Byte) (p : IpHdr) : List Byte :=
  if p.ver ≠ 4 then bs
  else
    let z := splice bs (p.off + 10) [0, 0]
    splice z (p.off + 10) (beOf 2 (onesCheck (slice z p.off (p.fin - p.off))))

/-- The TCP or UDP checksum is filled in. -/
def fixL4 (bs : List Byte) (p : IpHdr) (h : L4Hdr) : List Byte :=
  let o := if h.proto = 6 then h.off + 16 else h.off + 6
  if h.proto ≠ 6 ∧ h.proto ≠ 17 then bs
  else
    let z := splice bs o [0, 0]
    let seg := segment z p h
    let c := onesCheck (pseudo p seg.length ++ seg)
    splice z o (beOf 2 (if h.proto = 17 ∧ c = 0 then 0xFFFF else c))

end Sys2Proof.Machine
end

