-- ==== Sys2Proof/Machine/PortOps.lean ====
section
/-!
DEFINITION. Front ports: entries in the port's register space, the checks of rules and rings, doorbells, egress queues and
their scheduler, and PFC (R546, R551 to R554, R557 to R559, R561 to R563).
-/
namespace Sys2Proof.Machine

def blkFpp (p : Nat) : Blk := ⟨.fpp, p⟩
def blkFps (p : Nat) : Blk := ⟨.fps, p⟩

def State.port (s : State) (p : Nat) : Port := Tab.getD s.ports p Port.init
def State.modPort (s : State) (p : Nat) (f : Port → Port) : State := { s with ports := Tab.set s.ports p (f (s.port p)) }

/-- `n` bytes of an entry at an offset of register space. -/
def State.entryBytes (s : State) (off n : Nat) : List Byte :=
  (List.range (n / 4)).flatMap (fun i => leBytes 4 (s.reg (off + 4 * i)).toNat)

/-- A front port takes and sends frames: its link is up, its block enabled, and the module does not lose its power. -/
def State.portRuns (s : State) (p : Nat) : Bool :=
  s.flag (F.FPP_PORT_STS_UP p) && s.flag (blkFpp p).enable && !s.power.failing

/-! ### Action entries (R554) -/

/-- The fields of an action entry; rewrite operations in their order. -/
structure PAct where
  target : Nat
  index : Nat
  count : Option Nat
  police : Option Nat
  mirror : Option (Bool × Nat × Bool)
  decrypt : Option Nat
  ops : List (Nat × Nat)
deriving DecidableEq, Repr

def pact (a : Nat) : PAct :=
  { target := bits a 1 0, index := bits a 11 2, count := if a.testBit 12 then some (bits a 24 13) else none
    police := if a.testBit 25 then some (bits a 35 26) else none
    mirror := if a.testBit 36 then some (a.testBit 47, bits a 46 37, a.testBit 48) else none
    decrypt := if a.testBit 49 then some (bits a 61 50) else none
    ops := (List.range 4).map (fun k => let w := bits a (79 + 16 * k) (64 + 16 * k); (w % 16, w / 16 % 64)) }

/-- No reserved bit or encoding is used. -/
def pactClean (a : Nat) : Bool :=
  decide (bits a 63 62 = 0) &&
    (List.range 4).all (fun k => let w := bits a (79 + 16 * k) (64 + 16 * k); decide (w / 2 ^ 10 = 0 ∧ w % 16 ≤ 10))

/-! ### Rings (R559, R561) -/

/-- The fields of a ring entry. -/
structure PRing where
  on : Bool
  owner : Nat
  slotLog2 : Nat
  log2 : Nat
  queue : Nat
  area : Nat
  cpl : Nat
deriving DecidableEq, Repr

def pring (bs : List Byte) : PRing :=
  { on := (leAt bs 0 1).testBit 0, owner := leAt bs 2 2, slotLog2 := leAt bs 4 1, log2 := leAt bs 5 1, queue := leAt bs 5 1 % 8
    area := leAt bs 16 8, cpl := leAt bs 24 8 }

def State.rxEntry (s : State) (p r : Nat) : PRing := pring (s.entryBytes (F.FPP_RXRING p r 0).off 32)

/-- A transmit ring: byte 5 holds the size in its upper five bits and the egress queue in its lower three. -/
def State.txEntry (s : State) (p r : Nat) : PRing :=
  let x := pring (s.entryBytes (F.FPP_TXRING p r 0).off 32)
  { x with log2 := x.log2 / 8 }

/-- The checks at ENABLE: the OWNER's kind, the sizes, the alignments, and both areas in the owner's memory. -/
def State.ringOk (s : State) (x : PRing) (rx : Bool) : Bool :=
  let ownerPart := if x.owner / 0x4000 = 2 then x.owner % 16 else 16
  let area := if rx then 2 ^ (x.slotLog2 + x.log2) else 32 * 2 ^ x.log2
  let cpl := (if rx then 16 else 8) * 2 ^ x.log2
  decide (x.owner = 0 ∨ x.owner / 0x4000 = 2) && decide (4 ≤ x.log2 ∧ x.log2 ≤ 14) &&
    (!rx || decide (11 ≤ x.slotLog2 ∧ x.slotLog2 ≤ 14)) &&
    decide (x.area % (if rx then 4096 else 64) = 0 ∧ x.cpl % 64 = 0 ∧ x.area < 2 ^ 40 ∧ x.cpl < 2 ^ 40) &&
    s.rangeAllocated x.owner ownerPart x.area area && s.rangeAllocated x.owner ownerPart x.cpl cpl

/-! ### Rules (R550 to R553) -/

/-- The page of DECRYPT is bound for the owner of the ring: LOADED, of TYPE 0, with DEC, of that owner, and with
SEALED_ONLY only for slots in sealed memory (R439, R553). -/
def State.decryptBound (s : State) (x : PRing) (page : Nat) : Bool :=
  decide (s.pageSt page = pageLoaded) && decide (s.fld (F.KEY_PAGE_STS_TYPE page) = 0) &&
    s.pageAllows page x.owner useDec (s.rangeSealed x.owner x.area (2 ^ (x.slotLog2 + x.log2)))

/-- The check of a rule's action when VALID is set (R553). -/
def State.ruleOk (s : State) (p : Nat) (rule : List Byte) : Bool :=
  let a := leAt rule 112 16
  let x := pact a
  let ringOn := fun r => decide (r < 512) && (s.rxEntry p r).on
  let spare := (slice rule 107 5).all (· = 0)
  pactClean a && spare && decide (leAt rule 104 1 / 8 = 0 ∧ leAt rule 105 2 / 1024 = 0) &&
    (x.target ≠ 1 || ringOn x.index) && (x.target ≠ 3 || decide (x.index < 16)) &&
    (match x.mirror with
     | some (egress, i, _) => if egress then decide (i < 16) else ringOn i
     | none => true) &&
    (match x.decrypt with
     | some page => decide (x.target = 1) && s.decryptBound (s.rxEntry p x.index) page
     | none => true)

def State.ruleBytes (s : State) (p r : Nat) : List Byte := s.entryBytes (F.FPP_RULE p r 0).off 128

/-- VALID is set after the check of the action; where it fails VALID stays 0 and RULE_REFUSED sets (R553). -/
def State.ruleWrite (s : State) (m : Master) (p r k v : Nat) : State :=
  let off := (F.FPP_RULE p r k).off
  if k ≠ 26 ∨ v % 2 = 0 ∨ (s.reg off).toNat.testBit 0 then s.setReg off (BitVec.ofNat 32 v)
  else
    let t := s.setReg off (BitVec.ofNat 32 v)
    if t.ruleOk p (t.ruleBytes p r) then t
    else (s.setReg off (BitVec.ofNat 32 (v - v % 2))).raise (blkFpp p) 16 m off v

/-- Rules with VALID, lowest first. -/
def State.validRules (s : State) (p : Nat) : List Nat :=
  let b := (F.FPP_RULE p 0 26).off
  (s.regs.filter (fun x => decide (b ≤ x.1 ∧ x.1 < b + 0x80000 ∧ (x.1 - b) % 0x80 = 0 ∧ x.2.toNat % 2 = 1))).map
    (fun x => (x.1 - b) / 0x80)

/-- Rules that name a ring are checked again when it is rewritten (R553). -/
def State.recheckRules (s : State) (m : Master) (p r : Nat) : State :=
  (s.validRules p).foldl (fun s k =>
    let rule := s.ruleBytes p k
    let x := pact (leAt rule 112 16)
    let names := (x.target = 1 && x.index = r) || (match x.mirror with | some (e, i, _) => !e && decide (i = r) | none => false)
    if names && !s.ruleOk p rule then
      let off := (F.FPP_RULE p k 26).off
      (s.setReg off (BitVec.ofNat 32 ((s.reg off).toNat - 1))).raise (blkFpp p) 16 m off
    else s) s

/-- A word of a ring entry is written: ENABLE only after the checks; the rules that name the ring are checked again. -/
def State.ringWrite (s : State) (m : Master) (rx : Bool) (p r k v : Nat) : State :=
  let f := if rx then F.FPP_RXRING p r k else F.FPP_TXRING p r k
  let was := if rx then (s.rxEntry p r).on else (s.txEntry p r).on
  let t := s.setReg f.off (BitVec.ofNat 32 v)
  let x := if rx then t.rxEntry p r else t.txEntry p r
  let t :=
    if x.on && !t.ringOk x rx then
      let o := (if rx then F.FPP_RXRING p r 0 else F.FPP_TXRING p r 0).off
      t.setReg o (BitVec.ofNat 32 ((t.reg o).toNat - (t.reg o).toNat % 2))
    else if x.on && !was then
      t.modPort p (fun y => if rx then { y with rx := Tab.erase y.rx r } else { y with tx := Tab.erase y.tx r })
    else t
  if rx then t.recheckRules m p r else t

/-- A word of a default action entry: TARGET 0 or 1, neither DECRYPT nor REWRITE; another write is ignored (R558). -/
def State.defWrite (s : State) (m : Master) (p off k v : Nat) : State :=
  let bad := (k = 0 && decide (1 < v % 4)) || (k = 1 && v.testBit 17) || (decide (2 ≤ k) && decide (v ≠ 0))
  if bad then s.raiseAccess (blkFpp p) errBadAccess m off else s.setReg off (BitVec.ofNat 32 v)

/-! ### Policers (R557) -/

def State.policerRate (s : State) (p i : Nat) : Nat := s.fld (F.FPP_POLICER p i 0)
def State.policerBurst (s : State) (p i : Nat) : Nat := s.fld (F.FPP_POLICER p i 1) % 2 ^ 16

/-- A write of RATE or BURST refills the bucket to BURST. -/
def State.policerWrite (s : State) (p i k v : Nat) : State :=
  let s := s.setReg (F.FPP_POLICER p i k).off (BitVec.ofNat 32 v)
  if 2 ≤ k then s
  else s.modPort p (fun x => { x with tokens := Tab.put x.tokens i (s.policerBurst p i * 2 ^ 20) 0 })

/-- Every 1 µs each bucket gains RATE × 10^-6 tokens, up to BURST. -/
def State.policerRefill (s : State) (p : Nat) : State :=
  let b := (F.FPP_POLICER p 0 0).off
  let is := (s.regs.filter (fun x => decide (b ≤ x.1 ∧ x.1 < b + 0x4000 ∧ (x.1 - b) % 16 = 0))).map (fun x => (x.1 - b) / 16)
  is.foldl (fun s i => s.modPort p (fun x => { x with
    tokens := Tab.put x.tokens i
      (min (s.policerBurst p i * 2 ^ 20) (Tab.getD x.tokens i 0 + s.policerRate p i * 2 ^ 20 / 1000000)) 0 })) s

/-- A packet takes a token or is dropped and counted. -/
def State.policeOne (s : State) (p i : Nat) : State × Bool :=
  let t := Tab.getD (s.port p).tokens i 0
  if s.policerRate p i ≠ 0 ∧ 2 ^ 20 ≤ t then (s.modPort p (fun x => { x with tokens := Tab.put x.tokens i (t - 2 ^ 20) 0 }), true)
  else
    let lo := F.FPP_POLICER p i 2
    let hi := F.FPP_POLICER p i 3
    let n := s.fld lo + s.fld hi * 2 ^ 32 + 1
    (((s.setFld lo (n % 2 ^ 32)).setFld hi (n / 2 ^ 32 % 2 ^ 32)).count (F.FPP_POLICE_DROP p), false)

/-! ### Egress queues (R562, R563) -/

def State.egQueue (s : State) (p q : Nat) : List (List Byte) := Tab.getD (s.port p).queues q []

def bytesIn (l : List (List Byte)) : Nat := l.foldl (fun a x => a + x.length) 0

/-- Bytes in the 8 MiB buffer of a port. -/
def State.egHeld (s : State) (p : Nat) : Nat := (List.range 8).foldl (fun a q => a + bytesIn (s.egQueue p q)) 0

/-- A packet reaches an egress queue, or is dropped at its limit, at a full buffer, or while the link is down (R546, R563). -/
def State.egPut (s : State) (p q : Nat) (bs : List Byte) : State × Bool :=
  let l := s.egQueue p q
  if !s.flag (F.FPP_PORT_STS_UP p) ∨ s.fld (F.FPS_Q_CFG_LIMIT p q) * 65536 < bytesIn l + bs.length ∨
      2 ^ 23 < s.egHeld p + bs.length then (s.count (F.FPS_TAIL_DROP p q), false)
  else (s.modPort p (fun x => { x with queues := Tab.set x.queues q (l ++ [bs]) }), true)

/-- A queue has a packet and is not paused by PFC. -/
def State.egReady (s : State) (p q : Nat) : Bool :=
  decide (s.egQueue p q ≠ []) &&
    !(s.flag (F.FPS_Q_CFG_PFC_EN p q) && decide (s.fld (F.FPS_Q_CFG_PFC_PRIO p q) ∈ (s.port p).paused))

/-- The next queue of the round robin in packets, from queue `q` with `left` of its turn; an empty or paused one forfeits
it. -/
def State.egTurn (s : State) (p : Nat) : Nat → Nat → Nat → Option (Nat × Nat)
  | 0, _, _ => none
  | n + 1, q, left =>
    if s.egReady p q ∧ left ≠ 0 then some (q, left)
    else
      let r := if q = 7 then 2 else q + 1
      s.egTurn p n r (s.fld (F.FPS_Q_CFG_WEIGHT p r))

/-- The queue that sends next: 0, then 1, then the round robin (R562). -/
def State.egNext (s : State) (p : Nat) : Option (Nat × Nat × Nat) :=
  let x := s.port p
  if s.egReady p 0 then some (0, x.turn, x.left)
  else if s.egReady p 1 then some (1, x.turn, x.left)
  else (s.egTurn p 8 x.turn x.left).map (fun y => (y.1, y.1, y.2 - 1))

/-- The scheduler sends one packet. -/
def State.egSend (s : State) (p : Nat) : State :=
  if !s.flag (F.FPP_PORT_STS_UP p) ∨ !s.flag (blkFps p).enable ∨ s.power.failing then s
  else match s.egNext p with
    | none => s
    | some (q, turn, left) =>
      match s.egQueue p q with
      | [] => s
      | bs :: rest =>
        let s := s.modPort p (fun x => { x with queues := Tab.put x.queues q rest [], turn := turn, left := left })
        (s.count (F.FPS_TX_PKTS p q)).emit (.frame p bs)

/-- A received PFC frame: each enabled class pauses its priority, or ends its pause where its time is zero (R546, R562). -/
def State.pfcIn (s : State) (p mask : Nat) (times : List Nat) : State :=
  (List.range 8).foldl (fun s c =>
    if mask.testBit c then s.modPort p (fun x => { x with
      paused := if times.getD c 0 = 0 then x.paused.erase c else if c ∈ x.paused then x.paused else x.paused ++ [c] })
    else s) s

def State.pfcExpire (s : State) (p c : Nat) : State := s.modPort p (fun x => { x with paused := x.paused.erase c })

/-! ### Links (R545, R573) -/

/-- The fastest mode of a set. -/
def fastMode (m : Nat) : Option Nat := (List.range 3).find? (fun k => m.testBit k)

/-- A link comes up in the negotiated mode, or in the forced one toward an optical module, or goes down. -/
def State.portLink (s : State) (p : Nat) (up optical : Bool) (partner lanes : Nat) : State :=
  let was := s.flag (F.FPP_PORT_STS_UP p)
  let down := ((s.setFlag (F.FPP_PORT_STS_UP p) false).setFld (F.FPP_PORT_STS_LANES p) 0).setFlag (F.FPP_PORT_STS_OPTICAL p) optical
  let down := if was then down.raise (blkFpp p) 19 else down
  let mode := if optical then some (s.fld (F.FPP_PORT_CFG_MODE p))
    else fastMode (s.fld (F.FPP_MODE_ALLOW_MODE_ALLOW p) &&& partner)
  if !up ∨ !s.flag (blkFpp p).enable then down
  else match mode with
    | none => down
    | some k =>
      let s := (s.setFlag (F.FPP_PORT_STS_UP p) true).setFld (F.FPP_PORT_STS_LANES p) lanes
      (s.setFlag (F.FPP_PORT_STS_OPTICAL p) optical).setFld (F.FPP_PORT_STS_MODE p) k

/-- The rate of a port in Mbit/s. -/
def State.portRate (s : State) (p : Nat) : Nat :=
  match s.fld (F.FPP_PORT_STS_MODE p) with
  | 0 => 800000
  | 1 => 400000
  | _ => 200000

/-! ### Doorbells (R292, R559, R561) -/

/-- The owner's lectern cores, PF0, and firmware may ring the doorbell of a ring (R559). -/
def State.ringMaster (s : State) (m : Master) (owner : Nat) : Bool :=
  isFirmware m || (m.cls = .hostPf && m.index = 0) ||
    (m.cls = .lectern && owner / 0x4000 = 2 && s.partHasTile (owner % 16) m.index)

def rxDoorbellOff (p r : Nat) : Nat := 0x04B00000 + 8 * (512 * p + r)
def txDoorbellOff (p r : Nat) : Nat := 0x04C00000 + 8 * (512 * p + r)

/-- The owner reports the packets that it has consumed. -/
def State.rxDoorbell (s : State) (m : Master) (p r v : Nat) : State :=
  let x := s.rxEntry p r
  let y := Tab.getD (s.port p).rx r PortRing.init
  if !s.ringMaster m x.owner then s.guardViolation (blkFpp p) m (rxDoorbellOff p r) true
  else if 2 ^ x.log2 < (v + 2 ^ 32 - y.consumer) % 2 ^ 32 then s
  else s.modPort p (fun z => { z with rx := Tab.set z.rx r { y with consumer := v % 2 ^ 32 } })

/-- A producer doorbell makes descriptors available. -/
def State.txDoorbell (s : State) (m : Master) (p r v : Nat) : State :=
  let x := s.txEntry p r
  let y := Tab.getD (s.port p).tx r PortRing.init
  if !s.ringMaster m x.owner then s.guardViolation (blkFpp p) m (txDoorbellOff p r) true
  else if 2 ^ x.log2 < (v + 2 ^ 32 - y.consumer) % 2 ^ 32 then s
  else s.modPort p (fun z => { z with tx := Tab.set z.tx r { y with producer := v % 2 ^ 32 } })

/-- A write of a word of the port's tables, by its offset in the block. -/
def State.fppWrite (s : State) (m : Master) (p rel v : Nat) : State :=
  let off := (blkFpp p).base + rel
  if 0x100 ≤ rel ∧ rel < 0x120 then s.defWrite m p off (rel % 16 / 4) v
  else if 0x10000 ≤ rel ∧ rel < 0x90000 then s.ruleWrite m p ((rel - 0x10000) / 0x80) (rel % 0x80 / 4) v
  else if 0xA0000 ≤ rel ∧ rel < 0xB0000 then s.policerWrite p ((rel - 0xA0000) / 16) (rel % 16 / 4) v
  else if 0xD0000 ≤ rel ∧ rel < 0xD4000 then s.ringWrite m true p ((rel - 0xD0000) / 0x20) (rel % 0x20 / 4) v
  else if 0xD4000 ≤ rel then s.ringWrite m false p ((rel - 0xD4000) / 0x20) (rel % 0x20 / 4) v
  else s.setReg off (BitVec.ofNat 32 v)

end Sys2Proof.Machine
end

