-- ==== Sys2Proof/Machine/DoorOps.lean ====
section
/-!
DEFINITION. Doorbells of consumers: event rings (R467), RoCE receive rings (R567), and the telemetry ring with its
sampler's records (R569 to R571).
-/
namespace Sys2Proof.Machine

/-- A lost count is written as a SOURCE 0 record once there is room (R473, R500). -/
def State.lostRecord (s : State) (f : Nat) : State :=
  let x := s.fn f
  match x.ring with
  | none => s
  | some r =>
    if x.lost = 0 ∨ !s.busMaster f ∨ s.moving f ∨ 2 ^ r.log2 ≤ r.head - r.consumed then s
    else (s.modFn f (fun x => { x with lost := 0 })).writeEvent f r ⟨0, 0, f, x.lost, s.modTime % 2 ^ 32, 0⟩

/-- A consumer doorbell: only the function's own; PF0's write to another's is discarded and logged (R466, R467, R472). -/
def State.consumerDoorbell (s : State) (m : Master) (f v : Nat) : State :=
  if !isFirmware m ∧ m ≠ fnMaster f then s.guardViolation blkPce m (0x04900000 + 8 * f) true
  else match (s.fn f).ring with
    | none => s
    | some r =>
      let back := (r.head + 2 ^ 32 - v % 2 ^ 32) % 2 ^ 32
      (s.modFn f (fun x => { x with ring := some { r with consumed := r.head - back } })).lostRecord f

/-- The owner returns receive slots (R567). -/
def State.recvDoorbell (s : State) (m : Master) (c v : Nat) : State :=
  let x := s.ctx c
  if !s.ownsOrFw m x.owner then s.guardViolation blkGma m (0x04E00000 + 8 * c) true
  else if 2 ^ x.recvLog2 < (v + 2 ^ 32 - x.recvConsumed % 2 ^ 32) % 2 ^ 32 then s
  else s.modCtx c (fun x => { x with recvConsumed := v % 2 ^ 32 })

/-! ### Telemetry (R569 to R571) -/

def blkTel : Blk := ⟨.tel, 0⟩
def State.modTel (s : State) (f : Tel → Tel) : State := { s with tel := f s.tel }

/-- The distance of two counts of 32 bits. -/
def apart (a b : Nat) : Nat := (a + 2 ^ 32 - b % 2 ^ 32) % 2 ^ 32

/-- The depth of a queue by its ID, in the unit of its class; none for a reserved encoding (R569). -/
def State.queueDepth (s : State) (id : Nat) : Option Nat :=
  let i := id % 2 ^ 24
  match id / 2 ^ 24 with
  | 1 => if i < 16 then some (bytesIn (s.egQueue (i / 8) (i % 8))) else none
  | 2 => if i < 1024 then
      let y := Tab.getD (s.port (i / 512)).rx (i % 512) PortRing.init
      some (apart y.written y.consumer) else none
  | 3 => if i < 1024 then
      let y := Tab.getD (s.port (i / 512)).tx (i % 512) PortRing.init
      some (apart y.producer y.consumer) else none
  | 4 => if i < 384 then
      some ((((Tab.getD s.links (i / 8) Link.init).txq.filter (fun p => p.vc = i % 8)).map flitsOf).foldl (· + ·) 0) else none
  | 5 => if i = 0 then some (0x8000 - s.fld F.GMA_HOLD_STS_FREE_A)
      else if i = 1 then some (0x8000 - s.fld F.GMA_HOLD_STS_FREE_B) else none
  | 6 => if i < 262144 then some (apart (s.ctx i).producer (s.ctx i).consumer) else none
  | 7 => if 1 ≤ i / 65536 ∧ i / 65536 ≤ 64 ∧ i % 65536 ≠ 0 then
      match (Tab.find? s.store.ctrls (i / 65536)).bind (fun c => Tab.find? c.sqs (i % 65536)) with
      | some q => some ((q.tail + q.size - q.head) % q.size)
      | none => some 0
      else none
  | 8 => if i < 16 then some (apart (s.feedRing i).producer (s.feedRing i).consumer) else none
  | 9 => if i = 0 then some s.store.wb.length else none
  | _ => none

/-- QUEUE_ID of an entry is written: 0 or the ID of a queue; another is a reserved encoding (R48, R569, R577). -/
def State.selWrite (s : State) (m : Master) (i v : Nat) : State :=
  if v = 0 ∨ (s.queueDepth v).isSome then s.setFld (F.TEL_SEL_ID_QUEUE_ID i) v
  else s.raiseAccess blkTel errBadAccess m (F.TEL_SEL_ID_QUEUE_ID i).off

/-- A record goes to its entry of the ring (R571). -/
def State.telPut (s : State) (id depth delay : Nat) : State :=
  let base := s.fld F.TEL_RING_HI * 2 ^ 32 + s.fld F.TEL_RING_LO
  let k := s.tel.head
  let s := s.putMem (base + 16 * (k % 2 ^ s.fld F.TEL_CTRL_RING_LOG2))
    (leBytes 4 id ++ leBytes 4 depth ++ leBytes 4 delay ++ leBytes 4 s.modTime)
  s.modTel (fun t => { t with head := k + 1 })

def State.telFull (s : State) : Bool := decide (2 ^ s.fld F.TEL_CTRL_RING_LOG2 ≤ s.tel.head - s.tel.consumed)

/-- A sample reaches the ring; one that finds it full is counted, and the count is the first record once space frees. -/
def State.telRecord (s : State) (id depth delay : Nat) : State :=
  let s := if s.tel.lost = 0 ∨ s.telFull then s
    else (s.telPut 0 s.tel.lost 0).modTel (fun t => { t with lost := 0 })
  if s.telFull then (s.count F.TEL_SAMPLES_LOST).modTel (fun t => { t with lost := t.lost + 1 })
  else s.telPut id depth delay

/-- An entry's interval elapses: its queue is sampled, at most 16 in one µs (R570). -/
def State.telSample (s : State) (i delay : Nat) : State :=
  let id := s.fld (F.TEL_SEL_ID_QUEUE_ID i)
  if !s.flag F.TEL_CTRL_ENABLE ∨ id = 0 then s
  else match s.queueDepth id with
    | none => s
    | some depth =>
      let taken := if s.tel.us = s.time then s.tel.inUs else 0
      if 16 ≤ taken ∨ !s.coreUp 7 then s.count F.TEL_SAMPLES_SKIPPED
      else
        let dl := if depth = 0 then 0 else min delay 0xFFFFFFFF
        (s.modTel (fun t => { t with us := s.time, inUs := taken + 1, last := Tab.set t.last i (id, depth, dl, s.modTime % 2 ^ 32) })).telRecord
          id depth dl

/-- The consumer reports the records that it has consumed (R571). -/
def State.telDoorbell (s : State) (v : Nat) : State :=
  let back := apart (s.tel.head % 2 ^ 32) v
  if 2 ^ s.fld F.TEL_CTRL_RING_LOG2 < back ∨ s.tel.head < back then s else s.modTel (fun t => { t with consumed := t.head - back })

/-- TEL_SAMPLE (R570). -/
def execTelSample (i delay : Nat) (s : State) : Host.Outcome State Fault Refusal := .next (s.telSample i delay)
/-- TEL_CONSUMER_DOORBELL (R571). -/
def execTelConsumerDoorbell (_m : Master) (v : Nat) (s : State) : Host.Outcome State Fault Refusal := .next (s.telDoorbell v)

end Sys2Proof.Machine
end

