-- ==== Sys2Proof/Machine/LxCore.lean ====
section
/-!
DEFINITION. LX cores as units: their memories and sizes (R149, R177), the status register (R157), the interrupt sources
(R175), images and their loading (R180, R597), restart, halt and the doorbell (R187, R188).
-/
namespace Sys2Proof.Machine

/-! ### Sizes and features (R149, R151, R177) -/

/-- Bytes of a core's instruction memory: lectern cores 0 to 15, circulation cores 16 to 23, the librarian core 24. -/
def coreIm (c : Nat) : Nat := if c < 16 then 0x20000 else if c = 24 then 0x100000 else 0x80000

/-- Bytes of a core's data memory (R149). -/
def coreDm (c : Nat) : Nat := if c < 16 then 0x10000 else if c = 24 then 0x100000 else 0x40000

/-- LX_FEAT0 (R177). -/
def lxFeat0 (c : Nat) : Nat := if c < 16 then 0b11111 else 0b11110

/-- LX_FEAT1 (R177). -/
def lxFeat1 (c : Nat) : Nat := coreIm c / 1024 + coreDm c / 1024 * 2 ^ 16 + 0x20 * 2 ^ 32 + 0x10 * 2 ^ 40

/-- LX_VER at stepping B0 (R177). -/
def lxVer : Nat := 0x32160200

/-- First address of the windows of a core's own DM and IM (R151). -/
def dmWindow : Nat := 0xFFFFFF0000000000
def imWindow : Nat := 0xFFFFFE0000000000

/-! ### Status and interrupts (R157, R175) -/

/-- STATUS, with the secure attribute of the core's accesses now (R157). -/
def lxStatus (x : Core) (secure : Bool) : Nat :=
  ofBool secure * 16 + ofBool x.compat * 8 + ofBool x.we * 4 + ofBool x.ie * 2 + ofBool x.priv

/-- IRQ_PEND: TIMER while CYCLE has reached TIMER_CMP, the latched pulse sources, and the level sources that only
circulation cores and the librarian have (R170, R175). -/
def irqPend (c : Nat) (x : Core) : Nat :=
  (x.irqLatch &&& 0xE) ||| ofBool (decide (x.timerCmp ≤ x.cycle)) |||
    (if c < 16 then 0 else x.irqLevel &&& 0xFFFFFFF0)

/-- The pending sources that are enabled. -/
def irqReady (c : Nat) (x : Core) : Nat := irqPend c x &&& x.irqEn

/-! ### Images (R180) -/

/-- The fields of an image header that its loading uses, and its two parts (R180). -/
structure LxImage where
  compat : Bool
  entry : Nat
  code : List Byte
  data : List Byte
  zero : Nat
  ds : Nat
  rs : Nat
deriving DecidableEq, Repr

/-- The bit of CORES for a core's class (R180). -/
def coreClassBit (c : Nat) : Nat := if c < 16 then 48 else if c = 24 then 50 else 49

/-- An image read against the checks of R180, for core `c`. -/
def parseImage (c : Nat) (bs : List Byte) : Option LxImage :=
  let h := leAt bs 0 64
  let codeLen := bits h 127 96
  let dataLen := bits h 159 128
  let zeroLen := bits h 191 160
  let dsLen := bits h 287 256
  let rsLen := bits h 319 288
  if bs.length < 64 ∨ bits h 31 0 ≠ 0x4D49584C ∨ bits h 39 32 ≠ 1 ∨ 1 < bits h 41 40 then none
  else if bits h 47 42 ≠ 0 ∨ bits h 63 51 ≠ 0 ∨ bits h 255 224 ≠ 0 ∨ bits h 511 320 ≠ 0 then none
  else if !h.testBit (coreClassBit c) ∨ clearBits' (bits h 223 192) (lxFeat0 c) ≠ 0 then none
  else if coreIm c < codeLen ∨ codeLen ≤ bits h 95 64 then none
  else if dsLen % 64 ≠ 0 ∨ rsLen % 32 ≠ 0 ∨ coreDm c < dataLen + zeroLen + dsLen + rsLen then none
  else if bs.length < 64 + codeLen + dataLen then none
  else some
    { compat := decide (bits h 41 40 = 1), entry := bits h 95 64, code := (bs.drop 64).take codeLen,
      data := (bs.drop (64 + codeLen)).take dataLen, zero := zeroLen, ds := dsLen, rs := rsLen }
where
  /-- The bits of `v` outside `mask`. -/
  clearBits' (v mask : Nat) : Nat := v - (v &&& mask)

/-- Bytes from an offset upward as a sparse memory that reads zero elsewhere. -/
def memOfBytes : Nat → List Byte → Tab Byte
  | _, [] => []
  | o, b :: bs => if b = 0 then memOfBytes (o + 1) bs else (o, b) :: memOfBytes (o + 1) bs

/-- Where an image's stack regions lie: the data stack at the top of DM, the return stack below it (R180). -/
def LxImage.loaded (i : LxImage) (c : Nat) : LoadedImage :=
  let ds := dmWindow + coreDm c - i.ds
  { compat := i.compat, entry := i.entry, dsBase := ds, dsLimit := ds + i.ds, rsBase := ds - i.rs, rsLimit := ds }

/-- A core starts from its image's entry, its stacks empty, at the level of R156, with IE and WE zero; a core with no image
is held (R156, R157, R180, R187). -/
def Core.start (x : Core) (c : Nat) : Core :=
  match x.image with
  | none => { x with st := .held, wait := .none, frozen := false, ds := [], rs := [] }
  | some i =>
    { x with
      st := if x.halt then .debug else .running
      wait := .none, frozen := false, pc := i.entry, ds := [], rs := []
      dsBase := i.dsBase, dsLimit := i.dsLimit, dsMem := i.dsBase
      rsBase := i.rsBase, rsLimit := i.rsLimit, rsMem := i.rsBase
      priv := decide (16 ≤ c), ie := false, we := false, compat := i.compat
      cmp := { x.cmp with brTarget := none } }

/-- The librarian loads an image into a core: it holds the core, clears IM and DM, and starts it, or leaves it held where
the image is refused. The flag says that it started (R180, R597). -/
def State.loadImage (s : State) (c : Nat) (bs : List Byte) : State × Bool :=
  let blank := { Core.init with halt := (s.core c).halt }
  match parseImage c bs with
  | none => (s.setCore c blank, false)
  | some i =>
    let x := { blank with im := memOfBytes 0 i.code, dm := memOfBytes 0 i.data, image := some (i.loaded c) }
    (s.setCore c (x.start c), true)

/-! ### Control (R187, R188) -/

/-- RESTART: only the librarian core may write it; any other master violates the guard (R187). -/
def State.lxcRestart (s : State) (m : Master) (t : Nat) : State :=
  if m.cls = .librarian then s.modCore t (fun x => x.start t)
  else s.guardViolation (blkLxc t) m (F.LXC_CTRL_RESTART t).off true

/-- HALT: 1 stops the core in DEBUG after the instruction under way; 0 resumes it (R187). A waiting core enters DEBUG when
its instruction retires. -/
def State.lxcHalt (s : State) (t : Nat) (on : Bool) : State :=
  let s := s.setFlag (F.LXC_CTRL_HALT t) on
  s.modCore t (fun x =>
    { x with
      halt := on
      st := if on && x.st = .running then .debug else if !on && x.st = .debug then .running else x.st })

/-- STEP reads 1 while a single instruction is owed, which only a core in DEBUG owes (R187). -/
def State.lxcStepSet (s : State) (t : Nat) : State :=
  if (s.core t).st = .debug && !(s.core t).frozen then s.setFlag (F.LXC_CTRL_STEP t) true else s

end Sys2Proof.Machine
end

