-- ==== Sys2Proof/Machine/Memory.lean ====
section
/-!
DEFINITION. The scrubbers and the periodic work of the HBM and shelf controllers (R199 to R211, R220 to R224). The two
controllers carry the same registers at the same offsets.
-/
namespace Sys2Proof.Machine

/-- The controller of an HBM stack, or of the shelves of a die. -/
def memBlk (shelf : Bool) (i : Nat) : Blk := if shelf then blkShf i else blkHbc i

/-- A field of a controller, at its offset in the block. -/
def memFld (b : Blk) (off hi lo : Nat) : Fld := ⟨b.base + off, hi, lo⟩

/-- Start, length and destination of a pass, as the range registers hold them (R223). -/
def State.scrubWord (s : State) (b : Blk) (off : Nat) : Nat :=
  s.fld (memFld b off 31 0) + s.fld (memFld b (off + 4) 7 0) * 2 ^ 32

/-- The memory of a controller: first address and size (R35, R207). -/
def memRange (shelf : Bool) (i : Nat) : Nat × Nat :=
  if shelf then (shelfBase + i * (3 * shelfDieSize), 3 * shelfDieSize) else (i * stackSize, stackSize)

/-- Whether a range may be scrubbed: aligned, within the controller's memory and without a hole; its summary address is
there and does not overlap it (R207, R211). -/
def State.scrubAllowed (s : State) (shelf : Bool) (i a n dest : Nat) : Bool :=
  let (lo, size) := memRange shelf i
  a % 64 = 0 && n % 64 = 0 && decide (64 ≤ n) && decide (lo ≤ a) && decide (a + n ≤ lo + size) &&
    (s.firstHole Master.firmware a n).isNone && (s.firstHole Master.firmware dest 192).isNone &&
    (decide (dest + 192 ≤ a) || decide (a + n ≤ dest))

/-- GO of a scrubber (R207, R211, R223). -/
def State.scrubGo (s : State) (shelf : Bool) (i : Nat) : State :=
  let b := memBlk shelf i
  if s.flag (memFld b 0x11C 0 0) then s.raise b 19 Master.noMaster (b.base + 0x100)
  else
    let a := s.scrubWord b 0x104
    let n := s.scrubWord b 0x10C
    let d := s.scrubWord b 0x114
    if s.scrubAllowed shelf i a n d then
      { s.setFlag (memFld b 0x11C 0 0) true with
        scrubs := Tab.set s.scrubs b.base (s.flag (memFld b 0x100 2 2), a, n, d) }
    else (s.setFld (memFld b 0x11C 3 1) 3).raise b 20 Master.noMaster (b.base + 0x100)

/-- A pass ends after `done` bytes with a status of R210: what it covered is zeroed or checked, the summary is written,
and BUSY falls (R208 to R211). -/
def State.scrubEnd (s : State) (shelf : Bool) (i done : Nat) (aborted : Bool) : State :=
  let b := memBlk shelf i
  match Tab.find? s.scrubs b.base with
  | none => s
  | some (zero, a, n, d) =>
    let done := min done n
    let rec' := fun s : State => s.scrubRecord (if aborted then 1 else if zero then 2 else 0) a n done
    let s := if zero then s.zeroRange a done else s.checkPass Master.noMaster a done
    let (s, bad) := s.writeMem Master.noMaster d (rec' s)
    let s := { s with scrubs := Tab.erase s.scrubs b.base }
    (s.setFlag (memFld b 0x11C 0 0) false).setFld (memFld b 0x11C 3 1) (if bad then 4 else if aborted then 2 else 1)

/-- ABORT: the pass ends after the unit in progress; how far it came is a free value, in whole units of 64 bytes
(R223). -/
def State.scrubAbort (s : State) (shelf : Bool) (i : Nat) : State :=
  match Tab.find? s.scrubs (memBlk shelf i).base with
  | none => s
  | some (_, _, n, _) => s.drew.scrubEnd shelf i (s.freeNat % (n / 64 + 1) * 64) true

/-- GO is written 1 (R223). -/
def execHbcScrubGo (m : Master) (shelf : Bool) (i : Nat) (s : State) : Host.Outcome State Fault Refusal :=
  .next (s.viaReg m ((memBlk shelf i).base + 0x100) (fun s => s.scrubGo shelf i))

/-- ABORT is written 1 (R223). -/
def execHbcScrubAbort (m : Master) (shelf : Bool) (i : Nat) (s : State) : Host.Outcome State Fault Refusal :=
  .next (s.viaReg m ((memBlk shelf i).base + 0x100) (fun s => s.scrubAbort shelf i))

/-- A pass completes (R208 to R211). -/
def execScrubPassDone (shelf : Bool) (i : Nat) (s : State) : Host.Outcome State Fault Refusal :=
  .next (s.scrubEnd shelf i (2 ^ 40) false)

/-- A new one-second window of the error counters (R221, R222). -/
def execCeWindowStart (shelf : Bool) (i : Nat) (s : State) : Host.Outcome State Fault Refusal :=
  let sets := if shelf then (List.range 3).map (F.SHF_CE_WINDOW i) else [F.HBC_CE_WINDOW i]
  .next (sets.foldl (fun s f => { s.setFld f 0 with ceEvent := s.ceEvent.erase f.off }) s)

/-- The stack reports `count` on-die corrections since the last poll (R202, R221). -/
def execHbmOdeccPoll (i count : Nat) (s : State) : Host.Outcome State Fault Refusal :=
  .next (s.countBy (F.HBC_ODECC_CNT i) count)

/-- Refresh, at the doubled rate while the stack reports more than 85 °C (R200, R220). -/
def execHbmRefresh (i celsius : Nat) (s : State) : Host.Outcome State Fault Refusal :=
  .next (s.setFlag (F.HBC_STS_REFRESH_2X i) (decide (85 < celsius)))

/-- A row closes: no stored byte and no register changes (R200). -/
def execHbmRowClose (_i _chan : Nat) (s : State) : Host.Outcome State Fault Refusal := .next s

/-- Queued writes drain: a write was performed when the controller accepted it, so nothing changes (R200, R214). -/
def execHbmWriteBatch (_i : Nat) (s : State) : Host.Outcome State Fault Refusal := .next s

end Sys2Proof.Machine
end

