-- ==== Sys2Proof/Machine/Route.lean ====
section
/-!
DEFINITION. Access to register space by any master: the registers, the bit-alias region, the doorbells, and the effects
that a write starts in its block (R47, R67, R69, R292).
-/
namespace Sys2Proof.Machine

/-! ### Enabling and disabling a block (R50, R56, R61, R62) -/

/-- A block starts: ACTIVE sets; a link leaves DISABLED (R62, R230). -/
def State.blockStart (s : State) (b : Blk) : State :=
  let s := s.setFlag b.active true
  if b.kind = .myl then s.linkEnable b.inst else s

/-- A drain ends: ACTIVE falls (R56). -/
def State.blockRest (s : State) (b : Blk) : State := s.setFlag b.active false

/-- ENABLE is written 1: a drain is cancelled, an idle block starts, after a pass where CRC_CHECK is 1; the router
refuses to enable without a module ID (R44, R56, R62). -/
def State.enableBlock (s : State) (b : Blk) : State :=
  if s.flag b.enable ∨ (b.kind = .myr ∧ !s.flag F.MYR_FABRIC_ID_VALID) then s
  else
    let s := s.setFlag b.enable true
    if s.flag b.active then (if b.kind = .myl ∧ s.linkSt b.inst = linkActive then s.setUp b.inst true else s)
    else if s.flag b.crcCheck then s
    else s.blockStart b

/-- ENABLE is cleared: new work is refused, and accepted work drains; a link that is not ACTIVE is DISABLED at once, and a
pass at enable is given up (R56, R62, R130, R235). -/
def State.disableBlock (s : State) (b : Blk) : State :=
  if !s.flag b.enable then s
  else if b.kind = .til then s.tileOff b.inst
  else
    let s := s.setFlag b.enable false
    if b.kind = .myl then
      let (s, drains) := s.linkDisable b.inst
      if drains then s else s.blockRest b
    else s

/-- Whether work that the block has accepted is still under way, so far as the state shows it. -/
def State.blockBusy (s : State) (b : Blk) : Bool :=
  match b.kind with
  | .til => (s.tile b.inst).issued ≠ []
  | .myl => s.linkSt b.inst = linkActive
  | .shf => (Tab.find? s.scrubs b.base).isSome
  | .hbc => (Tab.find? s.scrubs b.base).isSome
  | .gma => !s.gma.trackers.isEmpty
  | .nvc => !s.store.ops.isEmpty
  | .fps => decide (s.egHeld b.inst ≠ 0)
  | _ => false

/-- The last accepted work of a disabled block completes (R56). -/
def State.blockDrained (s : State) (b : Blk) : State :=
  if s.flag b.enable ∨ !s.flag b.active ∨ s.blockBusy b then s
  else if b.kind = .til then s.tileDrained b.inst
  else s.blockRest b

/-! ### What a write starts in its block -/

/-- The entry of a repeated register. -/
def entryNo (rel base stride : Nat) : Nat := (rel - base) / stride

/-- Triggers of the MOD block: partitions, job slots, streams, checkpoints. -/
def State.trigMod (s : State) (m : Master) (rel lo v : Nat) : State :=
  let on := v = 1
  if rel < 0x2000 then
    let p := entryNo rel 0x1000 0x40
    if rel % 0x40 = 0 then (if on then s.partOn p else s.partOff p)
    else if rel % 0x40 = 0x10 then s.stepLoWrite m p v
    else s.stepHiWrite m p v
  else if rel < 0x3000 then
    let j := entryNo rel 0x2000 0x40
    if lo = 31 then (if on then s.slotOn j else s.slotOff j)
    else (s.setFlag (F.MOD_JOB_CFG_FOLLOW_SLOWEST j) on).applyOps
  else if rel < 0x4000 then
    let p := entryNo rel 0x3000 0x40
    if rel % 0x40 = 0 then (if on then s.streamOn p else s.streamOff p) else s.streamDoneWrite m p v
  else if on then s.manualTrigger (entryNo rel 0x4000 0x40) else s

/-- Triggers of the GMA block: arrivals, windows, barrier groups. -/
def State.trigGma (s : State) (m : Master) (rel v : Nat) : State :=
  if rel = 0x300 then s.barArriveWrite m v
  else if rel < 0x200000 then s.winEnable (entryNo rel 0x100000 0x20) (v = 1)
  else s.barEnable (entryNo rel 0x200000 0x20) (v = 1)

/-- Triggers of the LXC block (R187, R188). -/
def State.trigLxc (s : State) (m : Master) (t rel lo v : Nat) : State :=
  if rel = 8 then s.latchIrq t irqDoorbell
  else if lo = 0 then s.lxcHalt t (v = 1)
  else if v = 0 then s
  else if lo = 2 then s.lxcRestart m t
  else s.lxcStepSet t

/-- What a write starts in its block: the field at bit `lo` of the register at `rel` was written `v`. -/
def State.trigger (s : State) (m : Master) (b : Blk) (rel : Nat) (t : Trigger) : State :=
  let lo := t.1
  let v := t.2
  if rel = 0xFF04 then
    if lo = 31 then s.setFlag b.lock true
    else if v = 1 then s.enableBlock b
    else s.disableBlock b
  else match b.kind with
    | .mod => s.trigMod m rel lo v
    | .pwr => s.capPut m v
    | .til =>
      if rel = 8 then s.tileAction b.inst v
      else if v = 1 then s.tilResetGo m b.inst
      else s
    | .lxc => s.trigLxc m b.inst rel lo v
    | .shf => if v = 0 then s else if lo = 0 then s.scrubGo true b.inst else s.scrubAbort true b.inst
    | .hbc => if v = 0 then s else if lo = 0 then s.scrubGo false b.inst else s.scrubAbort false b.inst
    | .myl => if v = 1 then s.rekeyForce b.inst else s
    | .myr => if v = 1 then s.setFlag F.MYR_ROUTE_CTRL_SWAP true else s
    | .gma => s.trigGma m rel v
    | .tel => s.selWrite m (entryNo rel 0x1000 8) v
    | .nvc =>
      let p := entryNo rel 0x1000 0x20
      if !s.feedMaster m p then s.guardViolation b m (b.base + rel) true
      else if v = 1 then s.feedOn p
      else s.feedOff p
    | .fpp => s.fppWrite m b.inst rel v
    | _ => s

/-! ### Doorbells and emulated pages (R292, R599, R600) -/

/-- What lies at an offset of the doorbell region. -/
inductive DoorAt where
  | ctx (c : Nat)
  | cipher (r : Nat)
  | event (f : Nat)
  | feed (p : Nat)
  | rx (p r : Nat)
  | tx (p r : Nat)
  | tel
  | recv (c : Nat)
  | page (f off : Nat)
deriving DecidableEq, Repr

/-- The map of R599. A doorbell is the first word of its eight bytes; a page holds what R493 gives, for PF0 and the VFs. -/
def doorAt (off : Nat) : Option DoorAt :=
  let bell := fun base top (f : Nat → DoorAt) =>
    if base ≤ off ∧ off < top ∧ off % 8 = 0 then some (f ((off - base) / 8)) else none
  let page := (off - 0x0C000000) / 0x1000
  if 0x0C000000 ≤ off ∧ hasPage page ∧ pageHas (off % 0x1000) then some (.page page (off % 0x1000))
  else
    (bell 0x04000000 0x04200000 .ctx).or <| (bell 0x04800000 0x04802000 .cipher).or <|
      (bell 0x04900000 0x04900400 .event).or <| (bell 0x04A00000 0x04A00080 .feed).or <|
      (bell 0x04B00000 0x04B02000 (fun i => .rx (i / 512) (i % 512))).or <|
      (bell 0x04C00000 0x04C02000 (fun i => .tx (i / 512) (i % 512))).or <|
      (bell 0x04D00000 0x04D00008 (fun _ => .tel)).or (bell 0x04E00000 0x05000000 .recv)

/-- Bytes of the region that R599 lists, the second halves of doorbells and the gaps of a page included. -/
def inDoors (off : Nat) : Bool :=
  decide ((0x04000000 ≤ off ∧ off < 0x04200000) ∨ (0x04800000 ≤ off ∧ off < 0x04802000) ∨
    (0x04900000 ≤ off ∧ off < 0x04900400) ∨ (0x04A00000 ≤ off ∧ off < 0x04A00080) ∨
    (0x04B00000 ≤ off ∧ off < 0x04B02000) ∨ (0x04C00000 ≤ off ∧ off < 0x04C02000) ∨
    (0x04D00000 ≤ off ∧ off < 0x04D00008) ∨ (0x04E00000 ≤ off ∧ off < 0x05000000) ∨
    (0x0C000000 ≤ off ∧ off < 0x0C080000))

/-- An access of a doorbell or page that is not an aligned one of 32 bits is discarded (R600). -/
def State.badDoor (s : State) (m : Master) (off : Nat) : State := s.raiseAccess blkMod errBadAccess m off

/-- Pages 2 to 127 are guarded at their offsets (R599). -/
def State.pageGuard (s : State) (m : Master) (f : Nat) : Bool := decide (2 ≤ f) && !s.isSecure m

/-- A 32-bit write of a doorbell or page. -/
def State.doorWrite (s : State) (m : Master) (off v : Nat) : State :=
  match doorAt off with
  | none => s.hole m (regBase + off) true
  | some (.ctx c) => s.ctxDoorbell m c v
  | some (.cipher r) => s.cipDoorbell m r v
  | some (.event f) => s.consumerDoorbell m f v
  | some (.feed p) => s.feedDoorbell m p v
  | some (.rx p r) => s.rxDoorbell m p r v
  | some (.tx p r) => s.txDoorbell m p r v
  | some .tel => s.telDoorbell v
  | some (.recv c) => s.recvDoorbell m c v
  | some (.page f o) => if s.pageGuard m f then s.guardViolation blkFwm m off true else s.pageWrite f o v

/-- A 32-bit read: a doorbell reads zero (R600). -/
def State.doorRead (s : State) (m : Master) (off : Nat) : State × Nat :=
  match doorAt off with
  | none => (s.hole m (regBase + off) false, 0)
  | some (.page f o) => if s.pageGuard m f then (s.guardViolation blkFwm m off false, 0) else (s, s.pageRead f o)
  | some _ => (s, 0)

/-! ### Register space -/

/-- Registers that do not exist: blocks of a parked circulation die B (R668), and entries of the route tables beyond the
sizes of GROUP_SHIFT (R258, R283). -/
def State.regAbsent (s : State) (off : Nat) : Bool :=
  let dieB := (0x980000 ≤ off ∧ off < 0xB00000) ∨ (0x2320000 ≤ off ∧ off < 0x2340000) ∨
    (0x2500000 ≤ off ∧ off < 0x2600000) ∨ (0x2610000 ≤ off ∧ off < 0x2620000)
  let shift := s.fld F.MYR_ROUTE_CTRL_GROUP_SHIFT
  let t := off % 0x80000
  decide (s.flag F.MOD_PARKED2_CIRC_B ∧ dieB) ||
    decide (0xD00000 ≤ off ∧ off < 0xE00000 ∧
      (if t < 0x40000 then 2 ^ (20 - shift) ≤ t / 16 else 2 ^ shift ≤ (t - 0x40000) / 16))

/-- The triggers of a write, in turn. -/
def State.fire (s : State) (m : Master) (ts : List (Blk × Nat × Trigger)) : State :=
  ts.foldl (fun s t => s.trigger m t.1 t.2.1 t.2.2) s

/-- A write of register space. -/
def State.spaceWrite (s : State) (m : Master) (off width v : Nat) : State :=
  if inDoors off then (if width = 4 ∧ off % 4 = 0 then s.doorWrite m off v else s.badDoor m off)
  else if s.regAbsent off then s.hole m (regBase + off) true
  else
    let (s, ts) := s.regWrite m off width v
    s.fire m ts

/-- A 32-bit read of register space. -/
def State.spaceRead (s : State) (m : Master) (off : Nat) : State × Nat :=
  if inDoors off then s.doorRead m off
  else if s.regAbsent off then (s.hole m (regBase + off) false, 0)
  else s.regRead m off

/-- A write of the bit-alias region. -/
def State.aliasPut (s : State) (m : Master) (a v : Nat) : State :=
  if s.regAbsent (a / 128 * 4) then s.hole m (aliasBase + a) true
  else
    let (s, ts) := s.aliasWrite m a v
    s.fire m ts

/-- A read of the bit-alias region. -/
def State.aliasGet (s : State) (m : Master) (a : Nat) : State × Nat :=
  if s.regAbsent (a / 128 * 4) then (s.hole m (aliasBase + a) false, 0) else s.aliasRead m a

/-- A 32-bit read of a local address in register space or the bit-alias region (R35). -/
def State.localRegRead (s : State) (m : Master) (a : Nat) : State × Nat :=
  match regionOf a with
  | .regs off => s.spaceRead m off
  | .bitAlias x => s.aliasGet m x
  | _ => (s.hole m a false, 0)

/-- A write of a local address in register space or the bit-alias region (R35). -/
def State.localRegWrite (s : State) (m : Master) (a width v : Nat) : State :=
  match regionOf a with
  | .regs off => s.spaceWrite m off width v
  | .bitAlias x => s.aliasPut m x v
  | _ => s.hole m a true

/-- A read of `n` bytes at a local address by a master: memory as R205 gives; register space in 32-bit accesses, the lower
offset first, of which a narrower read takes its bytes (R47); the bit-alias region in one 32-bit access (R69). -/
def State.busRead (s : State) (m : Master) (a n : Nat) : State × List Byte × Option MemFault :=
  match regionOf a with
  | .regs off =>
    if inDoors off ∧ (n ≠ 4 ∨ off % 4 ≠ 0) then (s.badDoor m off, List.replicate n 0, none)
    else if n ≤ 4 then
      let (s, v) := s.spaceRead m off
      (s, ((leBytes 4 v).drop (off % 4)).take n, none)
    else if n = 8 then
      let (s, v) := s.spaceRead m off
      let (s, w) := s.spaceRead m (off + 4)
      (s, leBytes 4 v ++ leBytes 4 w, none)
    else (s.hole m a false, List.replicate n 0, some (.hole a))
  | .bitAlias x =>
    if n = 4 then
      let (s, v) := s.aliasGet m x
      (s, leBytes 4 v, none)
    else (s.hole m a false, List.replicate n 0, some (.hole a))
  | .reserved => (s.hole m a false, List.replicate n 0, some (.hole a))
  | _ => s.dmaRead m a n

/-- A write of bytes at a local address by a master (R47, R69, R203). -/
def State.busWrite (s : State) (m : Master) (a : Nat) (bs : List Byte) : State × Option MemFault :=
  match regionOf a with
  | .regs off =>
    if inDoors off ∧ (bs.length ≠ 4 ∨ off % 4 ≠ 0) then (s.badDoor m off, none)
    else if bs.length ≤ 4 then (s.spaceWrite m off bs.length (ofLe bs), none)
    else if bs.length = 8 then
      ((s.spaceWrite m off 4 (leAt bs 0 4)).spaceWrite m (off + 4) 4 (leAt bs 4 4), none)
    else (s.hole m a true, some (.hole a))
  | .bitAlias x => if bs.length = 4 then (s.aliasPut m x (ofLe bs), none) else (s.hole m a true, some (.hole a))
  | .reserved => (s.hole m a true, some (.hole a))
  | _ => s.dmaWrite m a bs

end Sys2Proof.Machine
end

