-- ==== Sys2Proof/Machine/LxOps.lean ====
section
/-!
DEFINITION. How an LX core executes one instruction: the checks in the order of R172, fills and spills of the stacks
(R152 to R154), loads and stores (R151, R168, R169, R205), watchpoints, traps and retirement (R171 to R176).
-/
namespace Sys2Proof.Machine

/-! ### Cells, stacks and private memories -/

/-- The cell that eight bytes spell. -/
def cellOfBytes (bs : List Byte) : LxCell := BitVec.ofNat 64 (ofLe bs)

/-- Cells of a byte string, in the order of their addresses. -/
def cellsOfBytes (bs : List Byte) : List LxCell := (chunksOf 8 bs).map cellOfBytes

/-- Bytes of cells, the first cell at the lowest address. -/
def bytesOfCells (cs : List LxCell) : List Byte := cs.flatMap (fun x => leBytes 8 x.toNat)

/-- The two stacks (R152). -/
inductive LxStack where
  | data | ret
deriving DecidableEq, Repr

def LxStack.hw : LxStack → Nat | .data => 32 | .ret => 16
def LxStack.group : LxStack → Nat | .data => 8 | .ret => 4
/-- TVAL of an underflow; an overflow is one more (R171). -/
def LxStack.under : LxStack → Nat | .data => 0 | .ret => 2

def Core.cells (x : Core) : LxStack → List LxCell | .data => x.ds | .ret => x.rs
def Core.memPtr (x : Core) : LxStack → Nat | .data => x.dsMem | .ret => x.rsMem
def Core.stBase (x : Core) : LxStack → Nat | .data => x.dsBase | .ret => x.rsBase
def Core.stLimit (x : Core) : LxStack → Nat | .data => x.dsLimit | .ret => x.rsLimit

/-- A stack's hardware cells and memory pointer take values. -/
def Core.setStack (x : Core) (k : LxStack) (cells : List LxCell) (mem : Nat) : Core :=
  match k with
  | .data => { x with ds := cells, dsMem := mem }
  | .ret => { x with rs := cells, rsMem := mem }

/-- Spilled cells of a stack (R152). -/
def Core.spilled (x : Core) (k : LxStack) : Nat := (x.memPtr k - x.stBase k) / 8

/-- The total depth of a stack (R152). -/
def Core.depth (x : Core) (k : LxStack) : Nat := (x.cells k).length + x.spilled k

/-- The 64-bit words of a private memory that a range touches. -/
def eccWords (o n : Nat) : List Nat := if n = 0 then [] else (List.range ((o + n - 1) / 8 - o / 8 + 1)).map (· + o / 8)

/-- A corrected error of a core's private memories counts; only lectern cores have the register (R150, R191). -/
def State.countCe (s : State) (c : Nat) (n : Nat) : State := if c < 16 ∧ n ≠ 0 then s.countBy (F.LXC_CE_CNT c) n else s

/-- Bytes of a core's IM from an offset; bytes beyond it read zero (R170). -/
def Core.imBytes (x : Core) (o n : Nat) : List Byte := (List.range n).map (fun i => Tab.getD x.im (o + i) 0)

/-- A read of the core's own DM: its bytes, or none on an uncorrectable word (R150, R205). -/
def State.dmLoad (s : State) (c o n : Nat) : State × Option (List Byte) :=
  let x := s.core c
  if (eccWords o n).any (· ∈ x.dmUe) then (s, none)
  else
    (s.countCe c ((eccWords o n).filter (· ∈ x.dmCe)).length,
      some ((List.range n).map (fun i => Tab.getD x.dm (o + i) 0)))

/-- A read of the core's own IM through its window. -/
def State.imLoad (s : State) (c o n : Nat) : State × Option (List Byte) :=
  let x := s.core c
  if (eccWords o n).any (· ∈ x.imUe) then (s, none)
  else (s.countCe c ((eccWords o n).filter (· ∈ x.imCe)).length, some (x.imBytes o n))

/-- Bytes take their place in a sparse memory that reads zero elsewhere. -/
def putBytes : List Byte → Nat → Tab Byte → Tab Byte
  | [], _, t => t
  | b :: bs, o, t => putBytes bs (o + 1) (Tab.put t o b 0)

/-- A write of the core's own DM: a whole word takes fresh check bits; a part of a word with an uncorrectable error is
discarded (R203). -/
def State.dmStore (s : State) (c o : Nat) (bs : List Byte) : State :=
  let x := s.core c
  let whole := fun w => decide (o ≤ 8 * w ∧ 8 * w + 8 ≤ o + bs.length)
  if (eccWords o bs.length).any (fun w => decide (w ∈ x.dmUe) && !whole w) then s
  else
    let part := ((eccWords o bs.length).filter (fun w => decide (w ∈ x.dmCe) && !whole w)).length
    let out := (eccWords o bs.length)
    (s.countCe c part).modCore c (fun x =>
      { x with dm := putBytes bs o x.dm, dmUe := x.dmUe.filter (fun w => decide (w ∉ out)), dmCe := x.dmCe.filter (fun w => decide (w ∉ out)) })

/-! ### Addresses (R151) -/

/-- What a load or store address reaches (R151). -/
inductive LxTarget where
  | loc (a : Nat)
  | dm (o : Nat)
  | im (o : Nat)
  | reserved
deriving DecidableEq, Repr

/-- The target of `n` bytes at an address of R151. IM is read-only. -/
def lxTarget (c addr n : Nat) (write : Bool) : LxTarget :=
  let top := addr / 2 ^ 40
  let o := addr % 2 ^ 32
  if top = 0 then .loc addr
  else if addr / 2 ^ 32 % 256 ≠ 0 then .reserved
  else if top = 0xFFFFFF then if o + n ≤ coreDm c then .dm o else .reserved
  else if top = 0xFFFFFE then if !write && decide (o + n ≤ coreIm c) then .im o else .reserved
  else .reserved

/-- An address of the IM window (R151). -/
def inImWindow (addr : Nat) : Bool := decide (addr / 2 ^ 32 = 0xFFFFFE00)

/-- Cycles of a load (R176). -/
def loadCycles (c addr : Nat) : Nat :=
  match lxTarget c addr 1 false with
  | .dm _ => 3
  | .im _ => 3
  | .loc a =>
    match regionOf a with
    | .regs off => if c < 16 ∧ (blkTil c).base ≤ off ∧ off < (blkTil c).base + 0x10000 then 4 else Config.accessCycles c addr
    | .carrel t => if c < 16 ∧ t = c then 12 else Config.accessCycles c addr
    | _ => Config.accessCycles c addr
  | .reserved => Config.accessCycles c addr

/-- TVAL of an uncorrectable error on a data access (R205). -/
def ueTval (addr : Nat) : Nat := 2 ^ 62 + addr % 2 ^ 62

/-- A load of `n` bytes: a hole or reserved address reads zero; none where an uncorrectable error is met (R151, R38,
R205). -/
def State.lxRead (s : State) (c addr n : Nat) : State × Option (List Byte) :=
  match lxTarget c addr n false with
  | .dm o => s.dmLoad c o n
  | .im o => s.imLoad c o n
  | .reserved => (s.hole (s.coreMaster c) addr false, some (List.replicate n 0))
  | .loc a =>
    match s.busRead (s.coreMaster c) a n with
    | (s, bs, none) => (s, some bs)
    | (s, _, some (.hole _)) => (s, some (List.replicate n 0))
    | (s, _, some (.ue _)) => (s, none)

/-- A store reaches its target (R151, R38, R203). -/
def State.lxWrite (s : State) (c addr : Nat) (bs : List Byte) : State :=
  match lxTarget c addr bs.length true with
  | .dm o => s.dmStore c o bs
  | .loc a => (s.busWrite (s.coreMaster c) a bs).1
  | _ => s.hole (s.coreMaster c) addr true

/-! ### The store buffer (R169) -/

def sbufEntries : Nat := 8

/-- Bytes that a buffered store puts over a loaded range. -/
def overlay (addr : Nat) (bs : List Byte) (e : SbEntry) : List Byte :=
  (List.range bs.length).map (fun i =>
    if e.addr ≤ addr + i ∧ addr + i < e.addr + e.width then (leBytes e.width e.data).getD (addr + i - e.addr) 0
    else bs.getD i 0)

/-- A load takes the data of the core's own buffered stores, the newest last (R169). -/
def forwarded (x : Core) (addr : Nat) (bs : List Byte) : List Byte := x.sbuf.foldl (overlay addr) bs

/-- A buffered store is performed at its target. -/
def State.performStore (s : State) (c : Nat) (e : SbEntry) : State := s.lxWrite c e.addr (leBytes e.width e.data)

/-- The tile and the tensor die that a register belongs to, if it belongs to one (R45, R668). -/
def regPlace (off : Nat) : Option Nat × Option Nat :=
  match blockAt off with
  | some (b, _) =>
    match b.kind with
    | .til => (some b.inst, some (b.inst / 2))
    | .lxc => (some b.inst, some (b.inst / 2))
    | .shf => (none, some b.inst)
    | .hbc => (none, some (b.inst / 2))
    | _ => (none, none)
  | none => (none, none)

/-- The tile that an address is private to, and the tensor die it lies on (R23, R35, R668). -/
def addrPlace (a : Nat) : Option Nat × Option Nat :=
  match regionOf a with
  | .carrel t => (some t, some (t / 2))
  | .shelf d _ => (none, some d)
  | .hbm i => (none, some (i / 2))
  | .regs off => regPlace off
  | .bitAlias x => regPlace (x / 128 * 4)
  | .reserved => (none, none)

/-- Whether a buffered store lies in a fence's scope: the own carrel and the own TIL and LXC registers; in addition the own
die; every store (R217). A core without a tile waits for every store. -/
def inFence (c scope : Nat) (e : SbEntry) : Bool :=
  let p := addrPlace e.addr
  decide (16 ≤ c) || decide (scope = 2) || decide (p.1 = some c) || (decide (scope = 1) && decide (p.2 = some (c / 2)))

/-- The stores of a fence's scope are performed in their order; the others stay (R217). -/
def State.drainFence (s : State) (c scope : Nat) : State :=
  let es := (s.core c).sbuf.filter (inFence c scope)
  let s := s.modCore c (fun x => { x with sbuf := x.sbuf.filter (fun e => !inFence c scope e) })
  es.foldl (fun s e => s.performStore c e) s

/-! ### Traps (R171 to R173, R190) -/

/-- A trap is entered: EPC, ESTATUS, CAUSE and TVAL are set, the level rises, interrupts are disabled, and PC goes to
the cause's vector (R171). -/
def Core.enterTrap (x : Core) (secure : Bool) (cause tval epc cost : Nat) : Core :=
  { x with
    epc := epc, estatus := lxStatus x secure, cause := cause, tval := tval, priv := true, ie := false
    compat := false
    pc := (x.vbase + 64 * cause) % 2 ^ 64
    st := .running, wait := .none
    cycle := (x.cycle + cost) % 2 ^ 64 }

/-- LXC_LAST_TRAP at a trap entry and at each stop (R190). -/
def State.lastTrap (s : State) (c cause : Nat) : State :=
  if c < 16 then
    (s.setFld (F.LXC_LAST_TRAP_CAUSE c) cause).setFlag (F.LXC_LAST_TRAP_FROM_PRIV c) (s.core c).priv
  else s

/-- A synchronous trap at the privileged level stops the core (R173). -/
def State.doubleTrap (s : State) (c cause : Nat) : State :=
  let s := s.modCore c (fun x => { x with st := .stopped, wait := .none })
  if c < 16 then s.raise (blkLxc c) 16 (s.coreMaster c) (F.LXC_LAST_TRAP_CAUSE c).off cause
  else s.postFw (Config.logCode 173) 0 cause

/-- A synchronous trap: the handler starts 4 cycles after the instruction would have retired (R171 to R173, R192). -/
def State.lxTrap (s : State) (c cause tval : Nat) : State :=
  let x := s.core c
  let s := s.lastTrap c cause
  let s :=
    if cause = 5 ∧ tval < 2 ^ 62 ∧ c < 16 then s.raise (blkLxc c) 17 (s.coreMaster c) (F.LXC_PC_PC c).off (tval % 2 ^ 32)
    else s
  if x.priv then s.doubleTrap c cause
  else s.modCore c (fun x => x.enterTrap (s.coreSecure c) cause tval x.pc 5)

/-! ### The checks before an instruction (R153, R171, R172) -/

/-- What an instruction, or a part of its preparation, comes to: on with so many cycles, or a trap with CAUSE and
TVAL. -/
inductive LxPrep where
  | go (s : State) (cost : Nat)
  | trap (s : State) (cause tval : Nat)
deriving DecidableEq, Repr

/-- What the effect of an instruction comes to: it retires, with the next PC and its cycles; it traps; or it stalls and
does not retire. -/
inductive LxRes where
  | done (s : State) (pc cost : Nat)
  | trap (s : State) (cause tval : Nat)
  | stall (s : State) (w : Wait)
deriving DecidableEq, Repr

/-- An instruction fetch of `n` bytes: none, or TVAL of the FETCH_UE it raises (R150, R163, R171). -/
def State.lxFetch (s : State) (c pc n : Nat) : State × Option Nat :=
  let x := s.core c
  if coreIm c ≤ pc then (s, some (2 ^ 63 + pc % 2 ^ 63))
  else if coreIm c < pc + n then (s, some (2 ^ 63 + coreIm c))
  else match (eccWords pc n).find? (· ∈ x.imUe) with
    | some w => (s, some (max pc (8 * w)))
    | none => (s.countCe c ((eccWords pc n).filter (· ∈ x.imCe)).length, none)

/-- Cells are filled from memory, a group or what is left of one at a time, until `need` are in hardware (R153). -/
def State.lxFill (c : Nat) (k : LxStack) (need : Nat) : Nat → State → Nat → LxPrep
  | 0, s, cost => .go s cost
  | fuel + 1, s, cost =>
    let x := s.core c
    let n := min k.group (x.spilled k)
    if need ≤ (x.cells k).length ∨ n = 0 then .go s cost
    else
      let a := x.memPtr k - 8 * n
      let t := match lxTarget c a (8 * n) false with | .dm _ => 6 | _ => 2 + loadCycles c a
      match s.lxRead c a (8 * n) with
      | (s, none) => .trap s 5 (ueTval a)
      | (s, some bs) =>
        let bs := forwarded x a bs
        let s := s.modCore c (fun x => x.setStack k (x.cells k ++ (cellsOfBytes bs).reverse) a)
        State.lxFill c k need fuel s (cost + t)

/-- Groups that must be spilled before an instruction that takes `n` cells and leaves `o` (R153). -/
def Core.spillGroups (x : Core) (k : LxStack) (n o : Nat) : Nat :=
  ((x.cells k).length + o - n - k.hw + k.group - 1) / k.group

/-- A spill would take the memory pointer past the limit (R153). -/
def Core.noRoom (x : Core) (k : LxStack) (n o : Nat) : Bool :=
  let g := x.spillGroups k n o
  decide (0 < g) && decide (x.stLimit k < x.memPtr k + 8 * k.group * g)

/-- The deepest `n` hardware cells are written at the memory pointer (R153). -/
def State.spillCells (s : State) (c : Nat) (k : LxStack) (n : Nat) : State :=
  let x := s.core c
  let l := x.cells k
  let a := x.memPtr k
  let s := s.lxWrite c a (bytesOfCells (lastN n l).reverse)
  s.modCore c (fun x => x.setStack k (l.take (l.length - n)) (a + 8 * n))

/-- Cycles of the spill of one group: 6 to DM, else 2 and a store (R153, R176). -/
def spillCycles (c a n : Nat) : Nat := match lxTarget c a n true with | .dm _ => 6 | _ => 3

/-- The deepest groups are written, one after another (R153). -/
def State.lxSpill (c : Nat) (k : LxStack) : Nat → State → Nat → State × Nat
  | 0, s, cost => (s, cost)
  | g + 1, s, cost =>
    let t := spillCycles c ((s.core c).memPtr k) (8 * k.group)
    State.lxSpill c k g (s.spillCells c k k.group) (cost + t)

/-- An instruction: its bytes; what it checks before and after its operands are in hardware; how many cells it takes and
leaves on each stack; the memory access that a watchpoint compares, with its kinds; and its effect (R159 to R178). -/
structure LxOp where
  bytes : List Byte
  emulate : Bool := false
  undef : Bool := false
  privOnly : Bool := false
  pick : Bool := false
  nd : Nat := 0
  od : Nat := 0
  nr : Nat := 0
  orr : Nat := 0
  late : Nat → Core → Option (Nat × Nat) := fun _ _ => none
  access : Core → Option (Nat × Nat) := fun _ => none
  run : State → Nat → LxRes := fun s c => .done s ((s.core c).pc + 1) 1

/-- The instruction's first 8 bytes: its own, and what follows in IM (R171). -/
def lxFirst8 (x : Core) (bs : List Byte) : Nat := leAt (bs ++ x.imBytes (x.pc + bs.length) 8) 0 8

/-- A watchpoint matches an address (R170). -/
def Core.watches (x : Core) (addr kind : Nat) : Bool :=
  x.we && decide (x.watchCtrl &&& kind ≠ 0) && decide ((addr ^^^ x.watchAddr) ||| x.watchMask = x.watchMask)

/-- The checks that come before the stacks are touched: FETCH_UE, EMULATE, UNDEF, PRIV (R172). -/
def State.lxCheck (s : State) (c : Nat) (i : LxOp) : LxPrep :=
  let x := s.core c
  match s.lxFetch c x.pc i.bytes.length with
  | (s, some tv) => .trap s 5 tv
  | (s, none) =>
    if i.emulate then .trap s 8 0
    else if i.undef then .trap s 1 (lxFirst8 x i.bytes)
    else if i.privOnly && !x.priv then .trap s 4 (lxFirst8 x i.bytes)
    else .go s 0

/-- The operands of one stack come into hardware, or the stack is too shallow (R153). -/
def State.lxNeed (s : State) (c : Nat) (k : LxStack) (n cost : Nat) : LxPrep :=
  if (s.core c).depth k < n then .trap s 3 k.under else State.lxFill c k n n s cost

/-- The operands of both stacks; PICK names its last operand by its first, up to 23 (R153, R160). The number of data
cells that the instruction needs is answered too. -/
def State.lxOperands (s : State) (c : Nat) (i : LxOp) : LxPrep × Nat :=
  let both := fun s nd cost => match State.lxNeed s c .data nd cost with
    | .trap s a b => .trap s a b
    | .go s cost => State.lxNeed s c .ret i.nr cost
  if i.pick then
    match s.lxNeed c .data 1 0 with
    | .trap s a b => (.trap s a b, 0)
    | .go s cost =>
      let x := s.core c
      let n := (x.ds.headD 0).toNat
      if 23 < n then (.trap s 1 (lxFirst8 x i.bytes), 0) else (both s (n + 2) cost, n + 2)
  else (both s i.nd 0, i.nd)

/-- The checks that need the operands, in the order of R172: overflow, UNDEF or PRIV or ALIGN of the operands, WATCH on
the fetch and on the access. -/
def lxLate (c : Nat) (x : Core) (i : LxOp) : Option (Nat × Nat) :=
  let ov := fun (k : LxStack) (n o : Nat) => if x.noRoom k n o then some (3, k.under + 1) else none
  let late := i.late c x
  let first := match late with | some (1, v) => some (1, v) | some (4, v) => some (4, v) | _ => none
  let data := if i.pick then ov .data 0 0 else ov .data i.nd i.od
  let fetchW := if x.watches x.pc 4 then some (7, x.pc) else none
  let dataW := match i.access x with
    | some (a, k) => if x.watches a k then some (7, a) else none
    | none => none
  first <|> data <|> ov .ret i.nr i.orr <|> late <|> fetchW <|> dataW

/-- The instruction's preparation after the first checks: operands, later checks, spills (R153, R172). -/
def State.lxPrepare (s : State) (c : Nat) (i : LxOp) : LxPrep :=
  match s.lxOperands c i with
  | (.trap s a b, _) => .trap s a b
  | (.go s cost, _) =>
    let x := s.core c
    match lxLate c x i with
    | some (a, b) => .trap s a b
    | none =>
      let (s, cost) := State.lxSpill c .data (if i.pick then 0 else x.spillGroups .data i.nd i.od) s cost
      let (s, cost) := State.lxSpill c .ret (x.spillGroups .ret i.nr i.orr) s cost
      .go s cost

/-- An instruction retires: PC and CYCLE move on, a division under way comes nearer, and a core with HALT set enters
DEBUG (R165, R170, R187). -/
def Core.retire (x : Core) (pc cost : Nat) : Core :=
  { x with
    pc := pc % 2 ^ 64
    cycle := (x.cycle + cost) % 2 ^ 64
    divQ := x.divQ.map (fun d => (d.1, d.2.1, d.2.2 - cost))
    st := if x.halt && x.st = .running then .debug else x.st }

/-- The stacks and PC go back to what they were before the instruction: it changed nothing (R171). -/
def Core.rewind (x old : Core) : Core :=
  { x with ds := old.ds, rs := old.rs, dsMem := old.dsMem, rsMem := old.rsMem, pc := old.pc }

/-- A core that froze within the instruction does not retire it; else it goes on (R64). -/
def State.unlessFrozen (s : State) (c : Nat) (old : Core) (f : State → State) : State :=
  if (s.core c).frozen then s.modCore c (fun x => x.rewind old) else f s

/-- One instruction of a core, whatever its state (R153, R171 to R176). -/
def State.lxExec (s : State) (c : Nat) (i : LxOp) : State :=
  let old := s.core c
  let trapTo := fun (s : State) (a b : Nat) =>
    s.unlessFrozen c old (fun s => (s.modCore c (fun x => x.rewind old)).lxTrap c a b)
  match s.lxCheck c i with
  | .trap s a b => trapTo s a b
  | .go s _ =>
    match s.lxPrepare c i with
    | .trap s a b => trapTo s a b
    | .go s cost =>
      match i.run s c with
      | .trap s a b => trapTo s a b
      | .stall s w =>
        s.unlessFrozen c old (fun s => s.modCore c (fun x =>
          { x.rewind old with st := if w = .none then x.st else .waiting, wait := w }))
      | .done s pc n => s.unlessFrozen c old (fun s => s.modCore c (fun x => x.retire pc (cost + n)))

/-- Whether a core can retire an instruction of its mode: started, not frozen, not waiting or halted; its tile neither calm
nor stopped, nor part of a function that is being moved (R131, R186, R504). -/
def State.coreRuns (s : State) (c : Nat) (compat : Bool) : Bool :=
  let x := s.core c
  decide (x.st = .running) && !x.frozen && decide (x.compat = compat) &&
    (decide (16 ≤ c) || (!(s.tile c).calm && !(match s.tileOwner c with | some o => s.ownerMoving o | none => false)))

/-- An instruction of the LX encoding issues. -/
def State.lxIssue (s : State) (c : Nat) (i : LxOp) : State := if s.coreRuns c false then s.lxExec c i else s

end Sys2Proof.Machine
end

