-- ==== Sys2Proof/Machine/LxStack.lean ====
section
/-!
DEFINITION. Stack and literal instructions, the special registers and SPILL (R154, R155, R160, R166, R170).
-/
namespace Sys2Proof.Machine

/-- An instruction that takes `n` data cells and leaves `o` in their place, in one cycle; cells are listed top first. -/
def lxPure (bytes : List Byte) (n o : Nat) (f : List LxCell → List LxCell) : LxOp :=
  { bytes := bytes, nd := n, od := o
    run := fun s c =>
      .done (s.modCore c (fun x => { x with ds := f (x.ds.take n) ++ x.ds.drop n }))
        ((s.core c).pc + bytes.length) 1 }

/-- Immediate bytes of an instruction, little-endian (R158). -/
def imm8 (v : BitVec 8) : List Byte := [v]
def imm16 (v : BitVec 16) : List Byte := leBytes 2 v.toNat
def imm32 (v : BitVec 32) : List Byte := leBytes 4 v.toNat
def imm64 (v : BitVec 64) : List Byte := leBytes 8 v.toNat

/-- Cell `i` from the top. -/
def nth (l : List LxCell) (i : Nat) : LxCell := l.getD i 0

/-! ### Stack instructions (R160) -/

def opNop : LxOp := lxPure [0x00] 0 0 (fun _ => [])
def opDrop : LxOp := lxPure [0x01] 1 0 (fun _ => [])
def opDup : LxOp := lxPure [0x02] 1 2 (fun l => [nth l 0, nth l 0])
def opSwap : LxOp := lxPure [0x03] 2 2 (fun l => [nth l 1, nth l 0])
def opOver : LxOp := lxPure [0x04] 2 3 (fun l => [nth l 1, nth l 0, nth l 1])
def opRot : LxOp := lxPure [0x05] 3 3 (fun l => [nth l 2, nth l 0, nth l 1])
def opNip : LxOp := lxPure [0x06] 2 1 (fun l => [nth l 0])
def opTuck : LxOp := lxPure [0x07] 2 3 (fun l => [nth l 0, nth l 1, nth l 0])
def opDrop2 : LxOp := lxPure [0x08] 2 0 (fun _ => [])
def opDup2 : LxOp := lxPure [0x09] 2 4 (fun l => [nth l 0, nth l 1, nth l 0, nth l 1])

/-- PICK: n is popped, and the cell n below what is then the top is copied; n above 23 is UNDEF (R160). -/
def opPick : LxOp :=
  { bytes := [0x0A], pick := true
    run := fun s c =>
      .done (s.modCore c (fun x => { x with ds := nth x.ds ((nth x.ds 0).toNat + 1) :: x.ds.drop 1 })) ((s.core c).pc + 1) 1 }

/-- PICKI (R160). -/
def opPicki (imm : BitVec 8) : LxOp :=
  { lxPure (0x17 :: imm8 imm) (imm.toNat + 1) (imm.toNat + 2) (fun l => nth l imm.toNat :: l) with
    undef := decide (23 < imm.toNat) }

/-- DEPTH: the total data depth before the push (R160). -/
def opDepth : LxOp :=
  { bytes := [0x0B], od := 1
    run := fun s c =>
      .done (s.modCore c (fun x => { x with ds := BitVec.ofNat 64 (x.depth .data) :: x.ds })) ((s.core c).pc + 1) 1 }

/-- TOR: a cell moves to the return stack (R155, R160). -/
def opTor : LxOp :=
  { bytes := [0x0C], nd := 1, orr := 1
    run := fun s c =>
      .done (s.modCore c (fun x => { x with ds := x.ds.drop 1, rs := nth x.ds 0 :: x.rs })) ((s.core c).pc + 1) 1 }

/-- FROMR: a cell moves from the return stack. -/
def opFromr : LxOp :=
  { bytes := [0x0D], od := 1, nr := 1
    run := fun s c =>
      .done (s.modCore c (fun x => { x with ds := nth x.rs 0 :: x.ds, rs := x.rs.drop 1 })) ((s.core c).pc + 1) 1 }

/-- RFETCH: a copy of the return stack's top. -/
def opRfetch : LxOp :=
  { bytes := [0x0E], od := 1, nr := 1, orr := 1
    run := fun s c => .done (s.modCore c (fun x => { x with ds := nth x.rs 0 :: x.ds })) ((s.core c).pc + 1) 1 }

/-- RDROP: the return stack's top is dropped. -/
def opRdrop : LxOp :=
  { bytes := [0x0F], nr := 1
    run := fun s c => .done (s.modCore c (fun x => { x with rs := x.rs.drop 1 })) ((s.core c).pc + 1) 1 }

/-! ### SPILL (R154, R160) -/

/-- Every hardware cell of a stack goes to memory, group by group, the last group as it is left (R154). -/
def State.spillAll (c : Nat) (k : LxStack) : Nat → State → Nat → State × Nat
  | 0, s, cost => (s, cost)
  | fuel + 1, s, cost =>
    let x := s.core c
    let n := min k.group (x.cells k).length
    if n = 0 then (s, cost)
    else State.spillAll c k fuel (s.spillCells c k n) (cost + spillCycles c (x.memPtr k) (8 * n))

/-- SPILL of a stack would pass its limit. -/
def Core.spillAllFails (x : Core) (k : LxStack) : Bool :=
  decide (0 < (x.cells k).length) && decide (x.stLimit k < x.memPtr k + 8 * (x.cells k).length)

/-- SPILL: one cycle, and a group's time for each group written (R160). -/
def opSpill : LxOp :=
  { bytes := [0x7B]
    late := fun _ x =>
      if x.spillAllFails .data then some (3, 1) else if x.spillAllFails .ret then some (3, 3) else none
    run := fun s c =>
      let pc := (s.core c).pc
      let (s, t) := State.spillAll c .data 5 s 1
      let (s, t) := State.spillAll c .ret 5 s t
      .done s (pc + 1) t }

/-! ### Literals (R158, R160) -/

/-- A literal instruction. -/
def lxLit (bytes : List Byte) (v : LxCell) : LxOp := lxPure bytes 0 1 (fun _ => [v])

def opLit8 (imm : BitVec 8) : LxOp := lxLit (0x10 :: imm8 imm) (imm.signExtend 64)
def opLit16 (imm : BitVec 16) : LxOp := lxLit (0x11 :: imm16 imm) (imm.signExtend 64)
def opLit32 (imm : BitVec 32) : LxOp := lxLit (0x12 :: imm32 imm) (imm.signExtend 64)
def opLit64 (imm : BitVec 64) : LxOp := lxLit (0x13 :: imm64 imm) imm
def opLitu32 (imm : BitVec 32) : LxOp := lxLit (0x16 :: imm32 imm) (imm.zeroExtend 64)
def opAddi8 (imm : BitVec 8) : LxOp := lxPure (0x14 :: imm8 imm) 1 1 (fun l => [nth l 0 + imm.signExtend 64])
def opAddi32 (imm : BitVec 32) : LxOp := lxPure (0x15 :: imm32 imm) 1 1 (fun l => [nth l 0 + imm.signExtend 64])

/-! ### Special registers (R157, R166, R170) -/

/-- Who may make an access of a special register (R170). -/
inductive SrAcc where
  | user | priv | never
deriving DecidableEq, Repr

/-- Reading and writing of a special register; an unlisted number allows neither (R170). -/
def srAccess (n : Nat) : SrAcc × SrAcc :=
  if n ≤ 0x03 then (.user, .never)
  else if n = 0x04 then (.user, .priv)
  else if 0x08 ≤ n ∧ n ≤ 0x0C then (.user, .user)
  else if n = 0x10 then (.user, .priv)
  else if 0x11 ≤ n ∧ n ≤ 0x14 then (.priv, .priv)
  else if n = 0x15 then (.priv, .never)
  else if 0x16 ≤ n ∧ n ≤ 0x18 then (.priv, .priv)
  else if n = 0x23 ∨ n = 0x27 then (.user, .never)
  else if 0x20 ≤ n ∧ n ≤ 0x26 then (.user, .priv)
  else if n = 0x30 ∨ n = 0x32 then (.priv, .priv)
  else if n = 0x31 then (.priv, .never)
  else if n = 0x33 then (.never, .priv)
  else if 0x38 ≤ n ∧ n ≤ 0x3A then (.priv, .priv)
  else (.never, .never)

/-- MST (R166): DIV_LEFT counts the cycles until the division writes. -/
def mstOf (x : Core) : Nat :=
  ofBool x.divLost * 4 + ofBool (x.mulQ ≠ []) +
    match x.divQ with
    | some d => max 1 (min d.2.2 255) * 2 ^ 8 + 2
    | none => 0

/-- What a special register reads as (R170). -/
def State.srRead (s : State) (c n : Nat) : LxCell :=
  let x := s.core c
  if n = 0x00 then BitVec.ofNat 64 lxVer
  else if n = 0x01 then BitVec.ofNat 64 (lxFeat0 c)
  else if n = 0x02 then BitVec.ofNat 64 (lxFeat1 c)
  else if n = 0x03 then (s.coreMaster c).word.zeroExtend 64
  else if n = 0x04 then BitVec.ofNat 64 x.cycle
  else if n = 0x08 then x.mlo
  else if n = 0x09 then x.mhi
  else if n = 0x0A then x.quo
  else if n = 0x0B then x.rem
  else if n = 0x0C then BitVec.ofNat 64 (mstOf x)
  else if n = 0x10 then BitVec.ofNat 64 (lxStatus x (s.coreSecure c))
  else if n = 0x11 then BitVec.ofNat 64 x.epc
  else if n = 0x12 then BitVec.ofNat 64 x.estatus
  else if n = 0x13 then BitVec.ofNat 64 x.cause
  else if n = 0x14 then BitVec.ofNat 64 x.tval
  else if n = 0x15 then cellOfBytes (x.imBytes (if x.estatus.testBit 3 then 4 * x.epc else x.epc) 8)
  else if n = 0x16 then BitVec.ofNat 64 x.vbase
  else if n = 0x17 then BitVec.ofNat 64 x.scratch0
  else if n = 0x18 then BitVec.ofNat 64 x.scratch1
  else if n = 0x20 then BitVec.ofNat 64 x.dsBase
  else if n = 0x21 then BitVec.ofNat 64 x.dsLimit
  else if n = 0x22 then BitVec.ofNat 64 x.dsMem
  else if n = 0x23 then BitVec.ofNat 64 x.ds.length
  else if n = 0x24 then BitVec.ofNat 64 x.rsBase
  else if n = 0x25 then BitVec.ofNat 64 x.rsLimit
  else if n = 0x26 then BitVec.ofNat 64 x.rsMem
  else if n = 0x27 then BitVec.ofNat 64 x.rs.length
  else if n = 0x30 then BitVec.ofNat 64 x.timerCmp
  else if n = 0x31 then BitVec.ofNat 64 (irqPend c x)
  else if n = 0x32 then BitVec.ofNat 64 x.irqEn
  else if n = 0x38 then BitVec.ofNat 64 x.watchAddr
  else if n = 0x39 then BitVec.ofNat 64 x.watchMask
  else if n = 0x3A then BitVec.ofNat 64 x.watchCtrl
  else 0

/-- A special register is written: fixed low bits, the rules of the stack registers, and the bits that do not exist
(R154, R157, R166, R170, R175). -/
def Core.srWrite (x : Core) (c n : Nat) (w : LxCell) : Core :=
  let v := w.toNat
  let v64 := v / 64 * 64
  let v32 := v / 32 * 32
  if n = 0x04 then { x with cycle := v }
  else if n = 0x08 then { x with mlo := w }
  else if n = 0x09 then { x with mhi := w }
  else if n = 0x0A then { x with quo := w }
  else if n = 0x0B then { x with rem := w }
  else if n = 0x0C then { x with divLost := v.testBit 2 }
  else if n = 0x10 then { x with we := v.testBit 2, ie := v.testBit 1, priv := v.testBit 0 }
  else if n = 0x11 then { x with epc := v }
  else if n = 0x12 then { x with estatus := v }
  else if n = 0x13 then { x with cause := v }
  else if n = 0x14 then { x with tval := v }
  else if n = 0x16 then { x with vbase := v64 }
  else if n = 0x17 then { x with scratch0 := v }
  else if n = 0x18 then { x with scratch1 := v }
  else if n = 0x20 then { x with dsBase := v64, dsMem := v64 }
  else if n = 0x21 then { x with dsLimit := v64 }
  else if n = 0x22 then if x.dsBase ≤ v64 ∧ v64 ≤ x.dsLimit then { x with dsMem := v64 } else x
  else if n = 0x24 then { x with rsBase := v32, rsMem := v32 }
  else if n = 0x25 then { x with rsLimit := v32 }
  else if n = 0x26 then if x.rsBase ≤ v32 ∧ v32 ≤ x.rsLimit then { x with rsMem := v32 } else x
  else if n = 0x30 then { x with timerCmp := v }
  else if n = 0x32 then { x with irqEn := if c < 16 then v % 16 else v % 2 ^ 32 }
  else if n = 0x33 then { x with irqLatch := x.irqLatch - (x.irqLatch &&& v) }
  else if n = 0x38 then { x with watchAddr := v }
  else if n = 0x39 then { x with watchMask := v }
  else if n = 0x3A then { x with watchCtrl := v % 8 }
  else x

/-- RSP (R160, R170). -/
def opRsp (imm : BitVec 8) : LxOp :=
  { bytes := 0x18 :: imm8 imm, od := 1
    undef := (srAccess imm.toNat).1 = .never, privOnly := (srAccess imm.toNat).1 = .priv
    run := fun s c =>
      .done (s.modCore c (fun x => { x with ds := s.srRead c imm.toNat :: x.ds })) ((s.core c).pc + 2) 1 }

/-- WSP: two cycles for a stack register (R160, R170). -/
def opWsp (imm : BitVec 8) : LxOp :=
  { bytes := 0x19 :: imm8 imm, nd := 1
    undef := (srAccess imm.toNat).2 = .never, privOnly := (srAccess imm.toNat).2 = .priv
    run := fun s c =>
      .done (s.modCore c (fun x => Core.srWrite { x with ds := x.ds.drop 1 } c imm.toNat (nth x.ds 0)))
        ((s.core c).pc + 2) (if 0x20 ≤ imm.toNat ∧ imm.toNat ≤ 0x26 then 2 else 1) }

/-! ### The commands -/

/-- NOP (R160). -/
def execNop (c : Nat) (s : State) : Host.Outcome State Fault Refusal := .next (s.lxIssue c opNop)
/-- DROP (R160). -/
def execDrop (c : Nat) (s : State) : Host.Outcome State Fault Refusal := .next (s.lxIssue c opDrop)
/-- DUP (R160). -/
def execDup (c : Nat) (s : State) : Host.Outcome State Fault Refusal := .next (s.lxIssue c opDup)
/-- SWAP (R160). -/
def execSwap (c : Nat) (s : State) : Host.Outcome State Fault Refusal := .next (s.lxIssue c opSwap)
/-- OVER (R160). -/
def execOver (c : Nat) (s : State) : Host.Outcome State Fault Refusal := .next (s.lxIssue c opOver)
/-- ROT (R160). -/
def execRot (c : Nat) (s : State) : Host.Outcome State Fault Refusal := .next (s.lxIssue c opRot)
/-- NIP (R160). -/
def execNip (c : Nat) (s : State) : Host.Outcome State Fault Refusal := .next (s.lxIssue c opNip)
/-- TUCK (R160). -/
def execTuck (c : Nat) (s : State) : Host.Outcome State Fault Refusal := .next (s.lxIssue c opTuck)
/-- DROP2 (R160). -/
def execDrop2 (c : Nat) (s : State) : Host.Outcome State Fault Refusal := .next (s.lxIssue c opDrop2)
/-- DUP2 (R160). -/
def execDup2 (c : Nat) (s : State) : Host.Outcome State Fault Refusal := .next (s.lxIssue c opDup2)
/-- PICK (R160). -/
def execPick (c : Nat) (s : State) : Host.Outcome State Fault Refusal := .next (s.lxIssue c opPick)
/-- DEPTH (R160). -/
def execDepth (c : Nat) (s : State) : Host.Outcome State Fault Refusal := .next (s.lxIssue c opDepth)
/-- TOR (R160). -/
def execTor (c : Nat) (s : State) : Host.Outcome State Fault Refusal := .next (s.lxIssue c opTor)
/-- FROMR (R160). -/
def execFromr (c : Nat) (s : State) : Host.Outcome State Fault Refusal := .next (s.lxIssue c opFromr)
/-- RFETCH (R160). -/
def execRfetch (c : Nat) (s : State) : Host.Outcome State Fault Refusal := .next (s.lxIssue c opRfetch)
/-- RDROP (R160). -/
def execRdrop (c : Nat) (s : State) : Host.Outcome State Fault Refusal := .next (s.lxIssue c opRdrop)
/-- SPILL (R160). -/
def execSpill (c : Nat) (s : State) : Host.Outcome State Fault Refusal := .next (s.lxIssue c opSpill)
/-- LIT8 (R160). -/
def execLit8 (c : Nat) (imm : BitVec 8) (s : State) : Host.Outcome State Fault Refusal := .next (s.lxIssue c (opLit8 imm))
/-- ADDI8 (R160). -/
def execAddi8 (c : Nat) (imm : BitVec 8) (s : State) : Host.Outcome State Fault Refusal := .next (s.lxIssue c (opAddi8 imm))
/-- PICKI (R160). -/
def execPicki (c : Nat) (imm : BitVec 8) (s : State) : Host.Outcome State Fault Refusal := .next (s.lxIssue c (opPicki imm))
/-- RSP (R160). -/
def execRsp (c : Nat) (imm : BitVec 8) (s : State) : Host.Outcome State Fault Refusal := .next (s.lxIssue c (opRsp imm))
/-- WSP (R160). -/
def execWsp (c : Nat) (imm : BitVec 8) (s : State) : Host.Outcome State Fault Refusal := .next (s.lxIssue c (opWsp imm))
/-- LIT16 (R160). -/
def execLit16 (c : Nat) (imm : BitVec 16) (s : State) : Host.Outcome State Fault Refusal := .next (s.lxIssue c (opLit16 imm))
/-- LIT32 (R160). -/
def execLit32 (c : Nat) (imm : BitVec 32) (s : State) : Host.Outcome State Fault Refusal := .next (s.lxIssue c (opLit32 imm))
/-- ADDI32 (R160). -/
def execAddi32 (c : Nat) (imm : BitVec 32) (s : State) : Host.Outcome State Fault Refusal := .next (s.lxIssue c (opAddi32 imm))
/-- LITU32 (R160). -/
def execLitu32 (c : Nat) (imm : BitVec 32) (s : State) : Host.Outcome State Fault Refusal := .next (s.lxIssue c (opLitu32 imm))
/-- LIT64 (R160). -/
def execLit64 (c : Nat) (imm : BitVec 64) (s : State) : Host.Outcome State Fault Refusal := .next (s.lxIssue c (opLit64 imm))

end Sys2Proof.Machine
end

