-- ==== Sys2Proof/Machine/HostOps.lean ====
section
/-!
DEFINITION. The PCIe endpoint: what several commands share. Requests to the host and their tags (R461, R470, R475),
VFs and their masters (R462), completions to the host (R468), and what ends with Bus Master Enable.
-/
namespace Sys2Proof.Machine

/-- Outstanding reads of all functions (R461). -/
def State.hostReads (s : State) : Nat := s.host.fns.foldl (fun a p => a + p.2.reads.length) 0

/-- The lowest tag that a function does not use or keep reserved (R470). -/
def Fn.freeTag (x : Fn) : Nat :=
  ((List.range (x.reads.length + x.staleTags.length + 1)).find? (fun t =>
    decide (t ∉ x.staleTags) && x.reads.all (fun r => decide (r.tag ≠ t)))).getD 0

/-- Whether one more read may be outstanding (R461). -/
def State.readRoom (s : State) : Bool := decide (s.hostReads < 1024)

/-- Pages of a range of addresses (R471). -/
def pagesOf (iova len : Nat) : List Nat := (List.range ((iova + len - 1) / 4096 - iova / 4096 + 1)).map (iova / 4096 + ·)

/-- The translations of a request are in the cache, where ATS is enabled for the function; it holds 8,192 entries (R471). -/
def State.atsUse (s : State) (f pasid iova len : Nat) : State :=
  if !(s.fn f).atsEnable then s
  else
    let new := ((pagesOf iova len).map (AtsEnt.mk f pasid)).filter (fun e => decide (e ∉ s.host.ats))
    { s with host := { s.host with ats := (new ++ s.host.ats).take 8192 } }

/-- A read of host memory is requested under the next free tag (R469, R470, R471). -/
def State.masterRead (s : State) (f : Nat) (use : RdUse) (iova pasid len : Nat) : State :=
  let s := s.atsUse f pasid iova len
  let tag := (s.fn f).freeTag
  (s.modFn f (fun x => { x with reads := x.reads ++ [⟨tag, use, iova, pasid, len, [], false⟩] })).emit (.hostRead f tag iova len)

/-- A completion for a BAR read: successful, or Unsupported Request, which is counted (R38, R468, R482). -/
def State.complete (s : State) (f tag : Nat) (bs : List Byte) : State := s.emit (.completion f tag 0 false bs)

def State.unsupported (s : State) (f tag : Nat) : State := (s.count F.PCE_UR_SENT).emit (.completion f tag 1 false [])

/-- Memory space of a function is decoded: Memory Space Enable, its PF in D0, no FLR under way, PERST_N high, and an IDE
stream in the secure state that covers it (R455, R476, R478, R479). -/
def State.decodes (s : State) (f : Nat) : Bool :=
  (s.fn f).mse && (s.fn (pfOf f)).dstate = 0 && !(s.fn f).flr && s.host.perstHigh && s.ideSecure f

end Sys2Proof.Machine
end

