-- ==== Sys2Proof/Machine/GmaSend.lean ====
section
/-!
DEFINITION. The sending side of a queue context: fetching and checking descriptors, starting operations, waits, and what
responses, refusals and timeouts do to an outstanding message (R291 to R300, R309 to R311, R317, R322, R324).
-/
namespace Sys2Proof.Machine

/-! ### Descriptors (R291, R293, R294) -/

/-- The constraints on SPACE, MODULE, LENGTH and alignment of an operation (R293, R294). -/
def descShape (x : Ctx) (d : Nat) : Bool :=
  let n := bits d 63 32
  let la := bits d 127 64
  let r := bits d 191 128
  let loc := gLocal r
  let peer := decide (gModule r = x.peerModule)
  let wordReg := decide (gSpace r = 2 ∧ n = 4 ∧ loc % 4 = 0)
  let inUnit := fun a : Nat => decide (a % 8 = 0 ∧ a % 64 + n ≤ 64)
  match bits d 7 0 with
  | 1 => peer && decide (n ≠ 0) && (decide (gSpace r = 1) || wordReg)
  | 2 => peer && decide (gSpace r = 1 ∧ 8 ≤ n ∧ n ≤ 64 ∧ n % 8 = 0) && inUnit la && inUnit loc
  | 3 => peer && decide (n ≠ 0) && (decide (gSpace r = 1) || wordReg)
  | 4 => peer && decide (gSpace r = 1 ∧ n = 8 ∧ la % 8 = 0 ∧ loc % 8 = 0 ∧ bits d 199 192 ≤ 9)
  | 5 => peer && decide (gSpace r = 3 ∧ n ≠ 0 ∧ n % 32 = 0 ∧ la % 32 = 0 ∧ loc % 32 = 0)
  | 6 => true
  | 7 => true
  | 8 => decide (n ≠ 0 ∧ n % 32 = 0 ∧ n ≤ 65536 ∧ la % 32 = 0 ∧ loc % 32 = 0)
  | _ => false

/-- Whether a descriptor is well formed: reserved bits, encodings, constraints, the owner of a watched context, the
group of a REDUCE, and end-to-end encryption (R293, R294, R317, R329, R448). -/
def State.descOk (s : State) (x : Ctx) (d : Nat) : Bool :=
  let op := bits d 7 0
  decide (bits d 15 11 = 0 ∧ bits d 229 213 = 0 ∧ bits d 255 249 = 0 ∧ bits d 511 384 = 0) && descShape x d &&
    (op ≠ 6 || decide ((s.ctx (bits d 247 230)).owner = x.owner)) &&
    (op ≠ 8 || s.flag (F.GMA_BAR_CFG_REDUCE_EN (bits d 211 200))) &&
    (!d.testBit 10 || (x.e2e && op = 1 && decide (gSpace (bits d 191 128) = 1)))

/-- The same for a RoCE context: OPs 0x20 to 0x23, LENGTH up to 2^31, no E2E bit (R448, R566). -/
def roceDescOk (d : Nat) : Bool :=
  decide (bits d 15 11 = 0 ∧ bits d 229 213 = 0 ∧ bits d 255 249 = 0 ∧ bits d 511 384 = 0) &&
    decide (0x20 ≤ bits d 7 0 ∧ bits d 7 0 ≤ 0x23 ∧ 1 ≤ bits d 63 32 ∧ bits d 63 32 ≤ 2 ^ 31) && !d.testBit 10

/-- A fetched descriptor is checked: a bad one puts the context in ERROR with BAD_DESC; a good one waits its turn
(R291, R294). -/
def State.descArrived (s : State) (c d : Nat) : State :=
  let x := s.ctx c
  let i := x.consumer
  let s := s.setCtx c { x with consumer := (i + 1) % 2 ^ 32 }
  if (if x.typ = 1 then roceDescOk d else s.descOk x d) then s.modCtx c (fun x => { x with fetched := x.fetched ++ [(i, d)] })
  else s.ctxError c ceBadDesc (bits d 7 0) i (bits d 191 128)

/-- A ring fetch that fails puts the context in ERROR with LOCAL_FAULT (R291). -/
def State.descFailed (s : State) (c : Nat) : State := s.ctxError c ceLocalFault 0 (s.ctx c).consumer 0

/-- Whether a context fetches its next descriptor: READY, present, with one in the ring, no WAIT before it, and no fetch
from the host under way (R291, R314, R317). -/
def State.fetches (s : State) (c : Nat) : Bool :=
  let x := s.ctx c
  s.flag blkGma.enable && s.admits && !s.ownerMoving x.owner && x.st = .ready && c ∈ s.gma.cache && decide (x.consumer ≠ x.producer) &&
    x.fetched.all (fun p => decide (bits p.2 7 0 ≠ 6)) && x.ops.all (fun p => decide (p.2.op ≠ 6)) &&
    s.host.fns.all (fun f => f.2.reads.all (fun r => decide (r.use ≠ .ctxRing c)))

/-- A context fetches its next ring descriptor, from memory or from the host (R291). -/
def State.descFetch (s : State) (c : Nat) : State :=
  let x := s.ctx c
  if !s.fetches c then s
  else
    let a := x.ringBase + 64 * (x.consumer % 2 ^ x.ringLog2)
    if x.ringHost then
      match s.ownerFn x.owner with
      | none => s.descFailed c
      | some f => if !s.busMaster f then s.descFailed c else if s.readRoom then s.masterRead f (.ctxRing c) a x.pasid 64 else s
    else
      let (s, bs, f) := s.dmaRead (s.ctxMaster c) a 64
      if f.isSome then s.descFailed c else s.descArrived c (ofLe bs)

/-! ### Starting an operation -/

/-- The oldest fetched descriptor, where it has an opcode and may start: the context READY, every earlier operation cut
wholly into messages, FENCE met, and for a PUT_FLAG no earlier one outstanding (R293, R304). -/
def State.headDesc (s : State) (c op : Nat) : Option (Nat × Nat) :=
  let x := s.ctx c
  match x.fetched with
  | [] => none
  | (i, d) :: _ =>
    if bits d 7 0 = op ∧ x.st = .ready ∧ (d.testBit 8 → x.ops = []) ∧
        x.ops.all (fun p => p.2.length ≤ p.2.sent) ∧ (op = 2 → x.ops.all (fun p => p.2.op ≠ 2)) then some (i, d)
    else none

def State.popDesc (s : State) (c : Nat) : State := s.modCtx c (fun x => { x with fetched := x.fetched.drop 1 })

/-- The operation of a ring descriptor. -/
def descOp (i d : Nat) : COp :=
  { op := bits d 7 0, index := i, tag := bits d 31 16, notify := d.testBit 9, tile := none,
    regions := [⟨bits d 191 128, bits d 127 64, bits d 63 32, 1, 0, 0⟩], length := bits d 63 32, sent := 0, okBytes := 0,
    failed := false, waiting := false, e2e := d.testBit 10,
    aux := if bits d 7 0 = 4 then leBytes 8 (bits d 199 192) ++ leBytes 8 (bits d 319 256) ++ leBytes 8 (bits d 383 320)
      else [] }

/-- An operation that sends starts; a module without an identity refuses it at issue (R44, R294). -/
def State.startXfer (s : State) (c op : Nat) : State :=
  match s.headDesc c op with
  | none => s
  | some (i, d) =>
    let s := s.popDesc c
    if s.flag F.MYR_FABRIC_ID_VALID then (s.startOp c (descOp i d)).1
    else
      let x := s.ctx c
      (s.setCtx c { x with ops := Tab.set x.ops x.nextOp (descOp i d), nextOp := x.nextOp + 1 }).failOp c x.nextOp
        ceLocalFault (bits d 191 128) false false

/-- A NOP completes at once (R299). -/
def State.startNop (s : State) (c : Nat) : State :=
  match s.headDesc c 7 with
  | none => s
  | some (i, d) => ((s.popDesc c).startOp c { descOp i d with regions := [], length := 0 }).1

/-- A WAIT holds the context in WAITING until its counter has reached its value (R317). -/
def State.startWait (s : State) (c : Nat) : State :=
  match s.headDesc c 6 with
  | none => s
  | some (i, d) =>
    let (s, _) := (s.popDesc c).startOp c { descOp i d with regions := [], length := 0, waiting := true }
    (s.modCtx c (fun x => { x with
      st := .waiting, wait := some ⟨bits d 247 230, d.testBit 248, bits d 303 256, bits d 351 320⟩ })).waitTest c

/-- A WAIT with a TIMEOUT that is not met in time fails (R317). -/
def State.waitTimeout (s : State) (c : Nat) : State :=
  let x := s.ctx c
  match x.wait, x.ops.find? (fun p => p.2.op = 6 && p.2.waiting) with
  | some w, some p =>
    if x.st = .waiting ∧ w.timeout ≠ 0 ∧ !s.waitMet w then s.failOp c p.1 ceWaitTimeout 0 false false else s
  | _, _ => s

/-- A REDUCE contributes to the reduction of its group and counts as an arrival (R326, R329). On a group that takes no
arrivals it fails with REDUCE_FAIL. -/
def State.startReduce (s : State) (c : Nat) : State :=
  match s.headDesc c 8 with
  | none => s
  | some (i, d) =>
    let g := bits d 211 200
    let o := { descOp i d with sent := bits d 63 32, waiting := true, aux := if d.testBit 212 then [1#8] else [] }
    let (s, n) := (s.popDesc c).startOp c o
    if !s.flag (F.GMA_BAR_CFG_ENABLE g) ∨ s.fld (F.GMA_BAR_STS_STATE g) = barBroken then
      s.failOp c n ceReduceFail (bits d 191 128) false false
    else
      let (s, gen) := s.barArrive g
      (s.modBar g (fun b => { b with reduces := b.reduces ++ [(gen, c, n)] })).barCheck g

/-! ### Ends of messages (R298, R299, R308 to R311, R324) -/

/-- COMPLETION ends a message of PUT, PUT_FLAG or LEDGER_ADD; another is discarded (R299, R324). -/
def State.completionIn (s : State) (p : Packet) : State :=
  match s.msgOf p.endpoint p.msgId with
  | none => s
  | some m => if m.opcode = opGetReq ∨ m.opcode = opAtomicReq then s else s.endMsgOk p.endpoint m

/-- An atomic's response: the old value goes to LOCAL and the atomic completes (R299); a fault on the local write is a
LOCAL_FAULT. -/
def State.atomicRspIn (s : State) (p : Packet) : State :=
  let c := p.endpoint
  match s.msgOf c p.msgId with
  | none => s
  | some m =>
    if m.opcode ≠ opAtomicReq then s
    else
      let (s, f) := s.dmaWrite (s.ctxMaster c) m.localAddr (p.payload.take 8)
      match f with
      | none => s.endMsgOk c m
      | some g => s.endMsgFail c m ceLocalFault (match g with | .hole a => a | .ue a => a) false

/-- Whether a context's number names a live connection whose messages take responses (R289). -/
def State.acceptsRsp (s : State) (c : Nat) : Bool :=
  match (s.ctx c).st with
  | .free => false
  | .lost => false
  | _ => true

/-- The bytes of a response are placed: a tile's in its command's buffer, others at the destination of the message. -/
def State.placeRsp (s : State) (c : Nat) (m : Msg) (off : Nat) (bs : List Byte) : State × Option MemFault :=
  match (Tab.find? (s.ctx c).ops m.opNo).bind (fun o => o.tile) with
  | some (t, slot) =>
    (s.modTile t (fun x => { x with
      issued := x.issued.map (fun i =>
        if i.slot = slot ∧ i.remote = some (c, m.opNo) then { i with buf := i.buf ++ [(m.localAddr + off, bs)] } else i) }),
      none)
  | none => s.dmaWrite (s.ctxMaster c) (m.localAddr + off) bs

/-- A well-formed GET_RSP packet (R296, R306). -/
def getRspOk (p : Packet) (len : Nat) : Bool :=
  decide (p.offset % 4096 = 0 ∧ p.offset + p.length ≤ 262144 ∧ p.offset < len ∧
    p.length = min 4096 (len - p.offset) ∧ p.payload.length = p.length)

/-- A GET_RSP is placed once and completes the message with its last missing packet; a local fault fails it (R298, R299,
R307). -/
def State.getRspIn (s : State) (p : Packet) : State :=
  let c := p.endpoint
  match s.msgOf c p.msgId with
  | none => s
  | some m =>
    let k := p.offset / 4096
    if m.opcode ≠ opGetReq ∨ !getRspOk p m.len ∨ m.bitmap.testBit k then s
    else
      let (s, f) := s.placeRsp c m p.offset p.payload
      match f with
      | some g => s.endMsgFail c m ceLocalFault (match g with | .hole a => a | .ue a => a) false
      | none =>
        let m := { m with bitmap := m.bitmap ||| 2 ^ k, resends := 0 }
        let s := s.setMsg c m
        if m.bitmap + 1 = 2 ^ ((m.len + 4095) / 4096) then s.endMsgOk c m else s

/-- The codes that are violations at the target (R321). -/
def isViolation (code : Nat) : Bool := code = ceNoEndpoint || code = ceWindow || code = ceRegRefused

/-- A violation is recorded in the list of 0x3022:01 (R343). -/
def State.recordViol (s : State) (v : Viol) : State :=
  { s with gma := { s.gma with violLog := (v :: s.gma.violLog).take 64 } }

/-- A NACK: BUSY is remembered until its resend; a violation freezes the context; any other code fails the operation
(R311, R321, R322, R324). -/
def State.nackIn (s : State) (p : Packet) : State :=
  let c := p.endpoint
  match s.msgOf c p.msgId with
  | none => s
  | some m =>
    let code := leAt p.payload 0 1
    let off := leAt p.payload 4 4
    let a := leAt p.payload 8 5
    if code = ceBusy then
      s.setMsg c { m with busy := if off / 4096 ∈ m.busy then m.busy else m.busy ++ [off / 4096] }
    else
      let g := mkGlobal m.space p.src (if m.opcode = opGetReq then a else a + off)
      let s := if isViolation code then s.recordViol ⟨false, c, p.src, code, leAt p.payload 1 1, off, a, s.modTime⟩ else s
      s.endMsgFail c m code g (isViolation code)

/-! ### Sending again (R309 to R311) -/

/-- Packets of an outstanding message whose numbers satisfy `keep` are sent again; a fault on local data fails it. -/
def State.resend (s : State) (c : Nat) (m : Msg) (keep : Nat → Bool) : State :=
  let (s, ps, f) := s.msgPackets c m
  let s := (ps.filter (fun q => keep (q.offset / 4096))).foldl State.inject s
  match f with
  | none => s
  | some g => s.endMsgFail c m ceLocalFault (match g with | .hole a => a | .ue a => a) false

/-- A RESEND_REQ of a tracker at the target: every packet whose bit is clear is sent again (R309). -/
def State.resendReqIn (s : State) (p : Packet) : State :=
  match s.msgOf p.endpoint p.msgId with
  | none => s
  | some m => if m.opcode = opGetReq then s else s.resend p.endpoint m (fun k => !(leAt p.payload 0 8).testBit k)

/-- The message is sent again as a whole, at most three times; then it fails with TIMEOUT at its first byte (R310). -/
def State.repeatMsg (s : State) (c : Nat) (m : Msg) : State :=
  if 3 ≤ m.repeats then s.endMsgFail c m ceTimeout (mkGlobal m.space (s.ctx c).peerModule m.remote) false
  else
    let m := { m with repeats := m.repeats + 1, busy := [] }
    (s.setMsg c m).resend c m (fun _ => true)

/-- MSG_TIMEOUT of a message expires (R310, R337). -/
def State.msgTimeout (s : State) (c id : Nat) : State :=
  match s.msgOf c id with
  | none => s
  | some m => (s.count (F.GMA_CNT 4)).repeatMsg c m

/-- The packets of a message that were refused with BUSY are sent again (R311). -/
def State.busyResend (s : State) (c id : Nat) : State :=
  match s.msgOf c id with
  | none => s
  | some m =>
    if m.busy = [] then s
    else
      let s := (s.count (F.GMA_CNT 2)).setMsg c { m with busy := [] }
      s.resend c m (fun k => decide (k ∈ m.busy))

/-- The tracker of a GET's responses sees no new packet for 2 ms: RESEND_REQ to the peer, with ADDR and OFFSET of the
GET_REQ, whose total the requester knows; after four without progress the GET_REQ is sent again (R309, R310). -/
def State.getIdle (s : State) (c id : Nat) : State :=
  match s.msgOf c id with
  | none => s
  | some m =>
    if m.opcode ≠ opGetReq then s
    else if 4 ≤ m.resends then s.repeatMsg c { m with bitmap := 0, resends := 0 }
    else match Tab.find? (s.ctx c).ops m.opNo with
      | none => s
      | some o =>
        let s := (s.count (F.GMA_CNT 3)).setMsg c { m with resends := m.resends + 1 }
        let pay := leBytes 8 m.bitmap ++ leBytes 8 3
        s.inject ({ s.reqHeader c (s.ctx c) m o with
          opcode := opResendReq, offset := m.len, length := 16, payload := pay } : Packet)

end Sys2Proof.Machine
end

