-- ==== Sys2Proof/Machine/GmaRx.lean ====
section
/-!
DEFINITION. The receiving side of a queue context: the checks of a request in the order of R321, refusals and violations,
placement, duplicates, atomics, ledger additions, trackers, encrypted messages, flagged writes and the hold shelf (R300 to
R323, R449).
-/
namespace Sys2Proof.Machine

/-! ### Answers (R299, R321, R322) -/

/-- An answer to a request goes to SRC_CTX at SRC_MODULE on a response VC (R250, R321). -/
def State.answer (s : State) (q : Packet) (opcode : Nat) (payload : List Byte) : State :=
  s.inject ({ pktZero with
    dst := q.src, src := s.ownModule, endpoint := q.srcCtx, vc := 3, opcode := opcode, msgId := q.msgId,
    length := payload.length, first := true, last := true, policy := (s.ctx q.endpoint).policy,
    srcCtx := q.endpoint, payload := payload } : Packet)

def State.completion (s : State) (q : Packet) : State := s.answer q opCompletion []

/-- The 16-byte record of a NACK (R322). -/
def nackRecord (code opcode offset addr : Nat) : List Byte :=
  leBytes 1 code ++ leBytes 1 opcode ++ leBytes 2 0 ++ leBytes 4 offset ++ leBytes 5 addr ++ leBytes 3 0

def State.nack (s : State) (q : Packet) (code : Nat) : State :=
  s.answer q opNack (nackRecord code q.opcode q.offset q.addr)

/-! ### Message identifiers (R288, R304, R308) -/

/-- How far a message ID lies above EXP_MSG, as a signed 24-bit difference (R308). -/
def Ctx.ahead (x : Ctx) (id : Nat) : Int := sext 24 (id + 2 ^ 24 - x.expMsg % 2 ^ 24)

/-- A duplicate (R308). -/
def Ctx.isDup (x : Ctx) (id : Nat) : Bool :=
  decide (x.ahead id < 0) || x.done.testBit (x.ahead id).toNat

/-- EXP_MSG passes the messages that are complete. -/
def Ctx.advanceExp : Nat → Ctx → Ctx
  | 0, x => x
  | k + 1, x =>
    if x.done.testBit 0 then Ctx.advanceExp k { x with expMsg := (x.expMsg + 1) % 2 ^ 24, done := x.done / 2 } else x

/-- A message is marked complete in DONE, and EXP_MSG advances (R288, R304). -/
def Ctx.markDone (x : Ctx) (id : Nat) : Ctx :=
  if x.ahead id < 0 ∨ 64 ≤ x.ahead id then x
  else Ctx.advanceExp 64 { x with done := x.done ||| 2 ^ (x.ahead id).toNat }

/-! ### Refusals (R305, R321 to R323) -/

/-- The tracker of an inbound message (R306). -/
def State.trackerOf (s : State) (c id : Nat) : Option Tracker :=
  s.gma.trackers.find? (fun t => t.ctx = c && t.msgId = id)

/-- The trackers without that of a message. -/
def State.dropTracker (s : State) (c id : Nat) : State :=
  { s with gma := { s.gma with trackers := s.gma.trackers.filter (fun t => !(t.ctx = c && t.msgId = id)) } }

/-- The tracker of a message is freed; a GET that waited for one is sent (R298). -/
def State.freeTracker (s : State) (c id : Nat) : State :=
  if s.trackersUsed < 65536 then s.dropTracker c id else (s.dropTracker c id).pumpAll

def State.putTracker (s : State) (t : Tracker) : State :=
  let s := s.dropTracker t.ctx t.msgId
  { s with gma := { s.gma with trackers := s.gma.trackers ++ [t] } }

/-- Whether a request is of its endpoint's connection: check 2 of R321. -/
def State.connected (s : State) (q : Packet) : Bool :=
  let x := s.ctx q.endpoint
  x.st ≠ .free && x.typ = 0 && q.src = x.peerModule && q.srcCtx = x.peerCtx

/-- The first byte that a request addresses (R318). -/
def reqFirst (q : Packet) : Nat := if q.opcode = opGetReq then q.addr else q.addr + q.offset

/-- A violation at the target: counted, captured, logged (R323, R338, R343, R667). -/
def State.violationIn (s : State) (q : Packet) (code : Nat) : State :=
  let s := s.count (F.GMA_CNT 5)
  let s :=
    if s.flag F.GMA_VIOL_CAP0_CAPTURED then s
    else
      let s := s.setFld F.GMA_VIOL_CAP0_CODE code
      let s := s.setFld F.GMA_VIOL_CAP0_SPACE q.space
      let s := s.setFld F.GMA_VIOL_CAP0_SRC_MODULE q.src
      let s := s.setFld F.GMA_VIOL_CAP1_OPCODE q.opcode
      let s := s.setFld F.GMA_VIOL_CAP1_ENDPOINT q.endpoint
      let s := s.setFld F.GMA_VIOL_CAP2 (q.addr % 2 ^ 32)
      let s := s.setFld F.GMA_VIOL_CAP3 (q.addr / 2 ^ 32)
      s.setFlag F.GMA_VIOL_CAP0_CAPTURED true
  let a := reqFirst q
  let s := s.recordViol ⟨true, q.endpoint, q.src, code, q.opcode, q.offset, q.addr, s.modTime⟩
  s.raise blkGma 16 ⟨.remoteQueue, q.endpoint, false⟩ (a % 2 ^ 32)
    (bits a 39 32 + q.src % 2 ^ 20 * 2 ^ 8 + code % 16 * 2 ^ 28)

/-- FLAG_BLOCK sets, and a parked flagged write is discarded with FLAG_BLOCKED, which completes its message (R305). -/
def State.blockFlags (s : State) (c : Nat) (keepParked : Bool) : State :=
  let s := s.modCtx c (fun x => { x with flagBlock := true })
  match (s.ctx c).parked with
  | some p =>
    if keepParked then s
    else (s.nack p ceFlagBlocked).modCtx c (fun x => { x with parked := none }.markDone p.msgId)
  | none => s

/-- A refusal: a NACK; a violation is recorded; a refusal of the connection, but for BUSY, blocks later flags and completes
the message (R305, R321, R323). -/
def State.refuse (s : State) (q : Packet) (code : Nat) (keepParked : Bool := false) : State :=
  let s := s.nack q code
  let s := if isViolation code then s.violationIn q code else s
  if code = ceBusy ∨ !s.connected q then s
  else ((s.freeTracker q.endpoint q.msgId).blockFlags q.endpoint keepParked).modCtx q.endpoint (fun x => x.markDone q.msgId)

/-! ### Form and admission (R306, R318, R320) -/

/-- The bytes that a request addresses. -/
def reqBytes (q : Packet) : Nat := if q.opcode = opGetReq then q.offset else q.length

/-- Every byte of a range lies within HBM, shelf or carrel (R35, R41). -/
def inMemory (a n : Nat) : Bool :=
  decide (a + n ≤ shelfBase + 8 * (3 * shelfDieSize)) ||
    (decide (carrelBase ≤ a) && decide (a + n ≤ carrelBase + 16 * carrelSize))

/-- The form of a request (R306). -/
def reqFormed (q : Packet) : Bool :=
  let place := (q.space ≠ 1 && q.space ≠ 3) || inMemory (reqFirst q) (reqBytes q)
  let data := decide (q.offset % 4096 = 0 ∧ 1 ≤ q.length ∧ q.length ≤ 4096 ∧ q.offset + q.length ≤ 262144) &&
    (q.last || q.length = 4096) && (q.first = decide (q.offset = 0))
  let single := q.first && q.last && q.offset = 0
  place && match q.opcode with
    | 1 => data && (q.space = 1 || q.space = 2)
    | 5 => data && q.space = 3 && decide (q.length % 32 = 0 ∧ q.addr % 32 = 0)
    | 3 => q.length = 0 && decide (1 ≤ q.offset ∧ q.offset ≤ 262144) && (q.space = 1 || q.space = 2)
    | 2 => single && decide (8 ≤ q.length ∧ q.length ≤ 64 ∧ q.length % 8 = 0 ∧ q.addr % 8 = 0 ∧ q.addr % 64 + q.length ≤ 64) &&
        q.space = 1
    | 4 => single && q.length = 24 && q.addr % 8 = 0 && q.space = 1
    | _ => false

/-- Window `w` admits a range to a request (R318). -/
def State.winAdmits (s : State) (q : Packet) (a n w : Nat) : Bool :=
  let perm := match q.opcode with
    | 3 => F.GMA_WIN_CTRL_READ w
    | 4 => F.GMA_WIN_CTRL_ATOMIC w
    | 5 => F.GMA_WIN_CTRL_LEDGER w
    | _ => F.GMA_WIN_CTRL_WRITE w
  s.flag (F.GMA_WIN_CTRL_ENABLE w) && s.fld (F.GMA_WIN_CTRL_OWNER w) = (s.ctx q.endpoint).owner &&
    (q.src ^^^ s.fld (F.GMA_WIN_SRC w)) &&& s.fld (F.GMA_WIN_SRCMASK w) = 0 && s.flag perm &&
    decide (s.fld (F.GMA_WIN_LO w) * 4096 ≤ a ∧ a + n ≤ (s.fld (F.GMA_WIN_HI w) + 1) * 4096)

/-- Some enabled window admits the range. Only windows whose registers were written are enabled. -/
def State.windowed (s : State) (q : Packet) (a n : Nat) : Bool :=
  (s.regs.filter (fun r => decide (0x1100000 ≤ r.1 ∧ r.1 < 0x1120000 ∧ r.1 % 0x20 = 0))).any
    (fun r => s.winAdmits q a n ((r.1 - 0x1100000) / 0x20))

/-- Whether the block of a register space or bit-alias address is open to remote access (R320, R333). -/
def State.rregOpen (s : State) (a : Nat) : Bool :=
  let off := match regionOf a with
    | .regs off => some off
    | .bitAlias x => some (x / 128 * 4)
    | _ => none
  match off.bind blockAt with
  | some (b, _) =>
    let r := blockRowOf b.kind
    r ≠ 6 && r ≠ 7 && (s.reg F.GMA_RREG_BLOCKS_BLOCKS_HI.off).toNat.testBit r
  | none => false

/-- Admission by windows or by the remote register mask: check 7 of R321. The range of an encrypted message is its data
range, which its packet 0 names (R449). -/
def State.admitAt (s : State) (q : Packet) (a n : Nat) : Option Nat :=
  let x := s.ctx q.endpoint
  if q.space = 2 then
    if reqBytes q = 4 ∧ x.secure ∧ x.rreg ∧ s.rregOpen (reqFirst q) then none else some ceRegRefused
  else if s.windowed q a n then none
  else some ceWindow

/-! ### Performing (R298 to R304) -/

/-- A write of a request's payload to memory: the refusal code where it fails (check 9 of R321). -/
def State.placeBytes (s : State) (c a : Nat) (bs : List Byte) : State × Option Nat :=
  match s.dmaWrite (s.ctxMaster c) a bs with
  | (s, some (.hole _)) => (s, some ceAddrHole)
  | (s, some (.ue _)) => (s, some ceMemError)
  | (s, none) => (s, none)

/-- Ledger words are added in ascending order from `a`; a word whose read is uncorrectable ends the packet (R302). Where
anchors mix, the value is free (R94). -/
def State.addWords (m : Master) : List LWord → Nat → State → State × Option Nat
  | [], _, s => (s, none)
  | w :: ws, a, s =>
    match s.dmaRead m a 32 with
    | (s, bs, none) =>
      let fv := s.freeNat
      State.addWords m ws (a + 32) (s.drew.rmwStore a (ledgerAdd fv (LWord.ofBytes bs) w).bytes)
    | (s, _, some (.hole _)) => (s, some ceAddrHole)
    | (s, _, some (.ue _)) => (s, some ceMemError)

/-- A whole LEDGER_ADD packet: its range is checked for holes before any word is added (R302). -/
def State.ledgerPacket (s : State) (c a : Nat) (bs : List Byte) : State × Option Nat :=
  let m := s.ctxMaster c
  match s.firstHole m a bs.length with
  | some h => (s.memRefuse m h true, some ceAddrHole)
  | none => State.addWords m (wordsOf bs) a s

/-- The new value of an atomic (R300). -/
def atomicResult (aop old x cmp : Nat) : Nat :=
  let lt := fun a b : Nat => decide (sext 64 a < sext 64 b)
  match aop with
  | 0 => (old + x) % 2 ^ 64
  | 1 => x
  | 2 => if old = cmp then x else old
  | 3 => old &&& x
  | 4 => old ||| x
  | 5 => old ^^^ x
  | 6 => if lt old x then x else old
  | 7 => if lt x old then x else old
  | 8 => max old x
  | 9 => min old x
  | _ => old

/-- The message is performed: COMPLETION, and DONE (R299, R304). -/
def State.performed (s : State) (q : Packet) : State :=
  (s.completion q).modCtx q.endpoint (fun x => x.markDone q.msgId)

/-- A flagged write is placed as one write; ARRIVE_CNT counts it (R304). -/
def State.placeFlag (s : State) (q : Packet) : State :=
  match s.placeBytes q.endpoint q.addr q.payload with
  | (s, some code) => s.refuse q code
  | (s, none) => (s.modCtx q.endpoint (fun x => { x with arriveCnt := (x.arriveCnt + 1) % 2 ^ 48 })).performed q

/-- A flagged write that passed every check is placed in its turn, or parked; a repeat of the parked one is discarded, and
another early one is refused (R304). -/
def State.flagIn (s : State) (q : Packet) : State :=
  let x := s.ctx q.endpoint
  if x.expMsg = q.msgId then s.placeFlag q
  else match x.parked with
    | none => s.setCtx q.endpoint { x with parked := some q }
    | some p => if p.msgId = q.msgId then s else s.refuse q ceBadPacket true

/-- EXP_MSG has reached the parked flag: its window is checked again, and it is placed (R304, R319). A flag that is still
parked while FLAG_BLOCK is set is discarded then (R305). -/
def State.parkedPlace (s : State) (c : Nat) : State :=
  let x := s.ctx c
  match x.parked with
  | none => s
  | some q =>
    if x.expMsg ≠ q.msgId then s
    else
      let s := s.setCtx c { x with parked := none }
      if x.flagBlock then s.refuse q ceFlagBlocked
      else match s.admitAt q q.addr q.length with
        | some code => s.refuse q code
        | none => s.placeFlag q

/-- The bytes that a GET reads: memory, or a register (R298, R320). -/
def State.getSource (s : State) (q : Packet) : State × List Byte × Option Nat :=
  let m := s.ctxMaster q.endpoint
  if q.space = 2 then
    let (s, v) := s.localRegRead m q.addr
    (s, leBytes 4 v, none)
  else match s.dmaRead m q.addr q.offset with
    | (s, bs, none) => (s, bs, none)
    | (s, _, some (.hole _)) => (s, [], some ceAddrHole)
    | (s, _, some (.ue _)) => (s, [], some ceMemError)

/-- GET_RSP packets of the requested range, but for those that the requester has (R298, R309). -/
def State.serveGet (s : State) (q : Packet) (have_ : Nat) : State :=
  match s.getSource q with
  | (s, _, some code) => s.refuse q code
  | (s, bs, none) =>
    let h : Packet := { pktZero with
      dst := q.src, src := s.ownModule, endpoint := q.srcCtx, vc := 3, opcode := opGetRsp, msgId := q.msgId,
      policy := (s.ctx q.endpoint).policy, addr := q.addr, space := q.space, srcCtx := q.endpoint }
    let ps := (cutPackets h bs).filter (fun p => !have_.testBit (p.offset / 4096))
    (ps.foldl State.inject s).modCtx q.endpoint (fun x => x.markDone q.msgId)

/-- An atomic is performed, logged and answered (R300). -/
def State.atomicIn (s : State) (q : Packet) : State :=
  let c := q.endpoint
  let m := s.ctxMaster c
  match s.dmaRead m q.addr 8 with
  | (s, _, some (.hole _)) => s.refuse q ceAddrHole
  | (s, _, some (.ue _)) => s.refuse q ceMemError
  | (s, bs, none) =>
    let old := ofLe bs
    let new := atomicResult (leAt q.payload 0 1) old (leAt q.payload 8 8) (leAt q.payload 16 8)
    let s := s.rmwStore q.addr (leBytes 8 new)
    let s := s.modCtx c (fun x => { x with
      atomicLog := Tab.set x.atomicLog (leAt q.payload 1 1 % 4) (q.msgId, old) }.markDone q.msgId)
    s.answer q opAtomicRsp (leBytes 8 old)

/-! ### Encrypted messages (R448, R449) -/

/-- The parts of a message that have arrived, in order. -/
def joinParts (parts : List (Nat × List Byte)) (n : Nat) : List Byte :=
  (List.range ((n + 4095) / 4096)).flatMap (fun k => ((parts.find? (fun p => p.1 = k)).map (fun p => p.2)).getD [])

/-- The data length that packet 0 of an encrypted message names. -/
def e2eLen (parts : List (Nat × List Byte)) : Option Nat :=
  (parts.find? (fun p => p.1 = 0)).map (fun p => leAt p.2 24 4)

/-- A complete encrypted message: the plaintext is placed where the tag matches; where it does not, the data range is
zeroed, counted, and the message refused (R449). -/
def State.e2eDone (s : State) (q : Packet) (t : Tracker) (total : Nat) : State :=
  let c := q.endpoint
  let x := s.ctx c
  let n := (e2eLen t.parts).getD 0
  match s.e2eOpen x.keyPage q.src s.ownModule q.addr (joinParts t.parts total) with
  | some bs =>
    match s.placeBytes c q.addr (bs.take n) with
    | (s, some code) => s.refuse q code
    | (s, none) => (s.freeTracker c q.msgId).performed q
  | none =>
    let (s, _) := s.placeBytes c q.addr (List.replicate n 0)
    let s := (s.count F.CIP_E2E_TAG_CNT).raise blkCip 19
    (s.secEvent x.owner c 5).refuse q ceBadPacket

/-! ### Placement of data packets (R306, R307) -/

/-- One data packet at its place: a register, memory, or ledger words (R254, R302, R320). -/
def State.placePacket (s : State) (q : Packet) : State × Option Nat :=
  if q.space = 2 then
    (s.localRegWrite (s.ctxMaster q.endpoint) (q.addr + q.offset) 4 (ofLe (q.payload.take 4)), none)
  else if q.opcode = opLedgerAdd then s.ledgerPacket q.endpoint (q.addr + q.offset) q.payload
  else s.placeBytes q.endpoint (q.addr + q.offset) q.payload

/-- A new tracker for the message of a packet. -/
def newTracker (q : Packet) : Tracker :=
  { ctx := q.endpoint, msgId := q.msgId, opcode := q.opcode, src := q.src, srcCtx := q.srcCtx, bitmap := 0, count := 0,
    total := none, resends := 0, addr := q.addr, parts := [] }

/-- A tracker with one more packet (R307). -/
def Tracker.take (t : Tracker) (q : Packet) : Tracker :=
  { t with
    bitmap := t.bitmap ||| 2 ^ (q.offset / 4096), count := t.count + q.length, resends := 0
    total := if q.last then some (q.offset + q.length) else t.total
    parts := if q.encrypted then t.parts ++ [(q.offset / 4096, q.payload)] else [] }

/-- Whether a tracker has its whole message (R307). -/
def Tracker.whole (t : Tracker) : Bool := t.total = some t.count

/-- A packet of PUT or LEDGER_ADD that passed checks 1 to 7: placed once, and the message completes with its last missing
packet (R299, R302, R306, R307, R449). -/
def State.dataIn (s : State) (q : Packet) : State :=
  let c := q.endpoint
  let t := (s.trackerOf c q.msgId).getD (newTracker q)
  if t.bitmap.testBit (q.offset / 4096) then s
  else if q.encrypted then
    let t := t.take q
    let s := s.putTracker t
    if t.whole then s.e2eDone q t t.count else s
  else
    match s.placePacket q with
    | (s, some code) => s.refuse q code
    | (s, none) =>
      if q.first ∧ q.last then s.performed q
      else
        let t := t.take q
        if t.whole then (s.freeTracker c q.msgId).performed q else s.putTracker t

/-- A duplicate is answered and not applied (R308). -/
def State.dupIn (s : State) (q : Packet) : State :=
  let s := s.count (F.GMA_CNT 7)
  match q.opcode with
  | 3 => s.serveGet q 0
  | 4 =>
    match Tab.find? (s.ctx q.endpoint).atomicLog (leAt q.payload 1 1 % 4) with
    | some (id, old) => if id = q.msgId then s.answer q opAtomicRsp (leBytes 8 old) else s
    | none => s
  | _ => s.completion q

/-- The range that a data packet's window check covers: its own bytes, or the data range of an encrypted message once
packet 0 has named it (R318, R449). -/
def State.admitRange (s : State) (q : Packet) : Nat × Nat :=
  if q.encrypted then
    let parts := ((s.trackerOf q.endpoint q.msgId).map (fun t => t.parts)).getD []
    let parts := if q.offset = 0 then (0, q.payload) :: parts else parts
    (q.addr, (e2eLen parts).getD 1)
  else (reqFirst q, reqBytes q)

/-- Whether a packet needs a tracker that is not free: check 6 of R321. -/
def State.noTracker (s : State) (q : Packet) : Bool :=
  !(q.first && q.last) && (q.opcode = opPut || q.opcode = opLedgerAdd) && (s.trackerOf q.endpoint q.msgId).isNone &&
    decide (65536 ≤ s.trackersUsed)

/-- A request packet under the checks of R321, in their order. -/
def State.request (s : State) (q : Packet) : State :=
  let x := s.ctx q.endpoint
  if !s.connected q then s.refuse q ceNoEndpoint
  else if x.st ≠ .ready ∧ x.st ≠ .waiting then s.refuse q ceEndpointState
  else if !reqFormed q ∨ (q.encrypted ∧ (!x.e2e ∨ q.opcode ≠ opPut)) then s.refuse q ceBadPacket
  else if x.isDup q.msgId then s.dupIn q
  else if s.noTracker q then s.refuse q ceBusy
  else match s.admitAt q (s.admitRange q).1 (s.admitRange q).2 with
    | some code => s.refuse q code
    | none =>
      match q.opcode with
      | 1 => s.dataIn q
      | 2 => if x.flagBlock then s.refuse q ceFlagBlocked else s.flagIn q
      | 3 => s.serveGet q 0
      | 4 => s.atomicIn q
      | 5 => s.dataIn q
      | _ => s

/-- A RESEND_REQ for GET_RSP packets: the range is served again but for the packets its bitmap holds (R309). It is checked
as a GET_REQ is, but a context whose messages have ended serves it too. -/
def State.getResendIn (s : State) (p : Packet) : State :=
  let q := { p with opcode := opGetReq, length := 0, payload := [] }
  if !s.connected q then s.refuse q ceNoEndpoint
  else if (s.ctx q.endpoint).st ≠ .ready ∧ (s.ctx q.endpoint).st ≠ .waiting then s.refuse q ceEndpointState
  else if !reqFormed q then s.refuse q ceBadPacket
  else match s.admitAt q (reqFirst q) (reqBytes q) with
    | some code => s.refuse q code
    | none => s.serveGet q (leAt p.payload 0 8)

/-- A RESEND_REQ, by the kind of tracker that sent it (R309). -/
def State.resendIn (s : State) (p : Packet) : State :=
  if (leAt p.payload 8 1).testBit 1 then s.getResendIn p else s.resendReqIn p

/-! ### Idle trackers of inbound messages (R309) -/

/-- A tracker sees no new packet for 2 ms: RESEND_REQ; after four without progress a PUT is forgotten, and a LEDGER_ADD is
answered with TIMEOUT and marked complete. -/
def State.trackerIdle (s : State) (c id : Nat) : State :=
  match s.trackerOf c id with
  | none => s.getIdle c id
  | some t =>
    let q : Packet := { pktZero with
      src := t.src, srcCtx := t.srcCtx, endpoint := c, msgId := id, opcode := t.opcode, addr := t.addr }
    if t.resends < 4 then
      let s := (s.count (F.GMA_CNT 3)).putTracker { t with resends := t.resends + 1 }
      s.inject ({ pktZero with
        dst := t.src, src := s.ownModule, endpoint := t.srcCtx, opcode := opResendReq, msgId := id, length := 16,
        first := true, last := true, policy := (s.ctx c).policy, srcCtx := c,
        payload := leBytes 8 t.bitmap ++ leBytes 8 (ofBool t.total.isSome) } : Packet)
    else if t.opcode = opLedgerAdd then
      (((s.nack q ceTimeout).freeTracker c id).blockFlags c false).modCtx c (fun x => x.markDone id)
    else s.freeTracker c id

/-! ### The cache and the hold shelf (R313 to R316) -/

/-- Free flits of a hold shelf: half A or B (R315, R334). -/
def holdFld (half : Nat) : Fld := if half = 0 then F.GMA_HOLD_STS_FREE_A else F.GMA_HOLD_STS_FREE_B

/-- A request reaches its endpoint context: at once where the context is cached; else it waits on the hold shelf for the
fetch; a packet that finds no room there stays in its link's receive buffer (R314, R315). -/
def State.reqArrive (s : State) (op : Nat) (p : Packet) (half : Nat) (f : State → State) : State :=
  if p.opcode ≠ op then s
  else if p.endpoint ∈ s.gma.cache then f (s.touch p.endpoint)
  else
    let s := s.startFetch p.endpoint
    let n := flitsOf p
    if s.fld (holdFld half) < n then s.count (F.GMA_CNT 1)
    else
      (s.setFld (holdFld half) (s.fld (holdFld half) - n)).modCtx p.endpoint
        (fun x => { x with holding := x.holding ++ [(p, half)] })

/-- A packet that waited on the hold shelf is checked once its context is present. -/
def State.requestNow (s : State) (p : Packet) : State := if p.opcode = opResendReq then s.resendIn p else s.request p

/-- Flits that a RoCE packet takes on the hold shelf. -/
def roceFlits (bs : List Byte) : Nat := (bs.length + 55) / 56

/-- The packets that waited for a context leave the hold shelf in arrival order; RoCE packets are handed over
again, now that the context is present (R314, R568). -/
def State.releaseHeld (s : State) (c : Nat) : State :=
  let held := (s.ctx c).holding
  let roce := (s.ctx c).roceHold
  let s := s.modCtx c (fun x => { x with holding := [], roceHold := [] })
  let s := held.foldl (fun s (h : Packet × Nat) =>
    (s.setFld (holdFld h.2) (s.fld (holdFld h.2) + flitsOf h.1)).requestNow h.1) s
  roce.foldl (fun s (h : Nat × List Byte) =>
    (s.setFld (holdFld h.1) (s.fld (holdFld h.1) + roceFlits h.2)).emit (.roce h.1 h.2)) s

/-- The way that a fetched context takes: free, or that of the least recently used context that is neither busy nor pinned;
none where every way is busy or pinned (R312, R313). -/
def State.cacheRoom (s : State) (c : Nat) : Option (List Nat) :=
  let same := s.gma.cache.filter (fun k => k % 1024 = c % 1024)
  if same.length < 16 then some s.gma.cache
  else match same.reverse.find? (fun k => !(s.ctx k).pin && !s.ctxBusy k) with
    | some v => some (s.gma.cache.erase v)
    | none => none

/-- The address of a context's entry in the backing table (R312, R332). -/
def State.backingAddr (s : State) (c : Nat) : Nat :=
  s.fld F.GMA_CTX_BASE_LO_BASE * 2 ^ 26 + s.fld F.GMA_CTX_BASE_HI_BASE * 2 ^ 32 + 256 * c

/-- A fetch completes: the entry is read from HBM under its error correction, or arrives from the host, authentic or not;
a bad entry makes the context LOST (R314, R316). The packets that waited are then checked. -/
def State.fetchDone (s : State) (c : Nat) (auth : Bool) : State :=
  if c ∉ s.gma.fetches then s
  else match s.cacheRoom c with
    | none => s
    | some rest =>
      let s := { s with gma := { s.gma with fetches := s.gma.fetches.erase c, cache := c :: rest } }
      let s := s.setFld F.GMA_CACHE_STS_FETCHING (min 32 s.gma.fetches.length)
      let (s, lost) :=
        if s.flag F.GMA_CTX_LOC_HOST ∧ !(s.ctx c).secure then (s, !auth || !s.busMaster 0)
        else
          let (s, u) := s.readCheck Master.firmware (s.backingAddr c) 256
          (s, u.isSome)
      let s :=
        if lost ∧ (s.ctx c).st ≠ .free then
          ((s.modCtx c (fun x => { x with st := .lost, wait := none })).raise blkGma 19 (s.ctxMaster c)).ctxEvent c ceCtxLost
        else s
      s.releaseHeld c

end Sys2Proof.Machine
end

