-- ==== Sys2Proof/Machine/Nvme.lean ====
section
/-!
DEFINITION. The NVMe controllers: queues and their doorbells, admin commands, and I/O commands (R513 to R534).
-/
namespace Sys2Proof.Machine

/-! ### Doorbells and the fetch (R515, R527, R528) -/

/-- A submission queue tail doorbell (R528). One for a queue that is not there, or beyond its size, changes nothing. -/
def State.sqDoorbell (s : State) (c q tail : Nat) : State :=
  match Tab.find? (s.nvCtrl c).sqs q with
  | some x => if tail < x.size then s.modCtrl c (fun y => { y with sqs := Tab.set y.sqs q { x with tail := tail } }) else s
  | none => s

def execNvmeSqDoorbell (ctrl qid tail : Nat) (s : State) : Host.Outcome State Fault Refusal :=
  .next (s.sqDoorbell ctrl qid tail)

/-- Completions that wait are written while there is room (R528). -/
def State.nvFlushHeld (s : State) (c q : Nat) : List NvCpl → State
  | [] => s
  | e :: es =>
    match Tab.find? (s.nvCtrl c).cqs q with
    | some cq =>
      if cq.room then
        State.nvFlushHeld ((s.modCtrl c (fun y => { y with cqs := Tab.set y.cqs q { cq with held := es } })).nvWrite c q e) c q es
      else s
    | none => s

/-- A completion queue head doorbell frees entries (R528). -/
def State.cqDoorbell (s : State) (c q head : Nat) : State :=
  match Tab.find? (s.nvCtrl c).cqs q with
  | some x =>
    if head < x.size then
      (s.modCtrl c (fun y => { y with cqs := Tab.set y.cqs q { x with head := head } })).nvFlushHeld c q x.held
    else s
  | none => s

def execNvmeCqDoorbell (ctrl qid head : Nat) (s : State) : Host.Outcome State Fault Refusal :=
  .next (s.cqDoorbell ctrl qid head)

/-- A queue holds a command that is not fetched yet. -/
def NvSq.waiting (q : NvSq) : Bool := decide (q.head ≠ q.tail)

/-- Arbitration lets a queue be served: the admin queue first, then, under weighted round robin, the urgent class strictly
before the others (R527). -/
def NvCtrl.turn (x : NvCtrl) (q : Nat) : Bool :=
  q = 0 ||
    (!x.sqs.any (fun p => p.1 = 0 && p.2.waiting) &&
      (!x.wrr || (match Tab.find? x.sqs q with | some y => decide (y.prio = 0) | none => false) ||
        !x.sqs.any (fun p => decide (p.1 ≠ 0) && decide (p.2.prio = 0) && p.2.waiting)))

/-- The command at the head of a submission queue is fetched: the controller is ready and may master the bus, it is the
queue's turn, and fewer than 4,096 commands are in progress (R398, R527, R528). -/
def State.nvFetch (s : State) (h : NvHdr) : Option State :=
  let x := s.nvCtrl h.ctrl
  match Tab.find? x.sqs h.sq with
  | none => none
  | some q =>
    if x.rdy ∧ q.waiting ∧ x.turn h.sq ∧ s.busMaster (ctrlFn h.ctrl) ∧ s.flag blkNvc.enable ∧ s.admits ∧ s.coreUp (if h.sq = 0 then 1 else 4) ∧
        s.store.cmds.length < 4096 then
      some (s.modCtrl h.ctrl (fun y => { y with sqs := Tab.set y.sqs h.sq { q with head := (q.head + 1) % q.size } }))
    else none

/-- A fetched command: without a command to fetch nothing happens; one with a reserved field or FUSE set fails (R514,
R529). `ok` does the rest. -/
def State.nvCommand (s : State) (h : NvHdr) (ok : State → State) : State :=
  match s.nvFetch h with
  | none => s
  | some s => if h.bad then s.nvDone h nvInvalidField else ok s

/-- An admin command comes from the admin queue; on an I/O queue its opcode is not listed (R514). -/
def State.nvAdmin (s : State) (h : NvHdr) (ok : State → State) : State :=
  match s.nvFetch h with
  | none => s
  | some s => if h.sq ≠ 0 then s.nvDone h nvInvalidOpcode else if h.bad then s.nvDone h nvInvalidField else ok s

/-- The primary controller alone (R514). -/
def State.nvPrimary (s : State) (h : NvHdr) (ok : State → State) : State :=
  match s.nvFetch h with
  | none => s
  | some s =>
    if h.sq ≠ 0 ∨ h.ctrl ≠ 1 then s.nvDone h nvInvalidOpcode else if h.bad then s.nvDone h nvInvalidField else ok s

def execNvmeUnsupported (h : NvHdr) (_op : Nat) (s : State) : Host.Outcome State Fault Refusal :=
  .next (match s.nvFetch h with
    | none => s
    | some s => s.nvDone h nvInvalidOpcode)

/-! ### Queues (R513, R514, R534) -/

/-- Statuses of NVMe 2.0 for queue commands. -/
def nvCqInvalid : Nat := 0x100
def nvQueueId : Nat := 0x101
def nvQueueSize : Nat := 0x102
def nvQueueVector : Nat := 0x108
def nvQueueDelete : Nat := 0x10C
def nvSequence : Nat := 0x0C

/-- MSI-X vectors of a controller (R513). -/
def ctrlVectors (c : Nat) : Nat := if c = 1 then 1024 else 64

/-- Create I/O Completion Queue (R514). -/
def State.createCq (s : State) (h : NvHdr) (qid size vec : Nat) (ien contig : Bool) : State :=
  let x := s.nvCtrl h.ctrl
  if qid = 0 ∨ x.granted < qid ∨ (Tab.find? x.cqs qid).isSome then s.nvDone h nvQueueId
  else if size < 2 ∨ 65536 < size then s.nvDone h nvQueueSize
  else if ctrlVectors h.ctrl ≤ vec then s.nvDone h nvQueueVector
  else if !contig then s.nvDone h nvInvalidField
  else (s.modCtrl h.ctrl (fun y => { y with cqs := Tab.set y.cqs qid ⟨size, 0, 0, vec, ien, [], 0⟩ })).nvDone h 0

def execCreateIoCq (h : NvHdr) (qid size vec : Nat) (ien contig : Bool) (s : State) : Host.Outcome State Fault Refusal :=
  .next (s.nvAdmin h (fun s => s.createCq h qid size vec ien contig))

/-- Create I/O Submission Queue (R514). -/
def State.createSq (s : State) (h : NvHdr) (qid size cq prio : Nat) (contig : Bool) : State :=
  let x := s.nvCtrl h.ctrl
  if cq = 0 ∨ (Tab.find? x.cqs cq).isNone then s.nvDone h nvCqInvalid
  else if qid = 0 ∨ x.granted < qid ∨ (Tab.find? x.sqs qid).isSome then s.nvDone h nvQueueId
  else if size < 2 ∨ 65536 < size then s.nvDone h nvQueueSize
  else if !contig then s.nvDone h nvInvalidField
  else (s.modCtrl h.ctrl (fun y => { y with sqs := Tab.set y.sqs qid ⟨size, 0, 0, cq, prio⟩ })).nvDone h 0

def execCreateIoSq (h : NvHdr) (qid size cq prio : Nat) (contig : Bool) (s : State) : Host.Outcome State Fault Refusal :=
  .next (s.nvAdmin h (fun s => s.createSq h qid size cq prio contig))

/-- A command in progress ends with a status, its drive work left to itself (R529, R531). -/
def State.cutCmd (s : State) (n status : Nat) : State :=
  match Tab.find? s.store.cmds n with
  | none => s
  | some c =>
    let s := s.modStore (fun t => { t with cmds := Tab.erase t.cmds n })
    let data := if c.op = 2 then (List.replicate c.nlb zeroBlock).flatten else []
    (s.nvPost c.ctrl ⟨c.sq, c.cid, status, 0, data⟩ c.slba).settleNs c.ns

/-- Delete I/O Submission Queue: its commands end with Command Aborted due to SQ Deletion (R529, R534). -/
def State.deleteSq (s : State) (h : NvHdr) (qid : Nat) : State :=
  if qid = 0 ∨ (Tab.find? (s.nvCtrl h.ctrl).sqs qid).isNone then s.nvDone h nvQueueId
  else
    let mine := s.store.cmds.filter (fun p => decide (p.2.ctrl = h.ctrl ∧ p.2.sq = qid))
    let s := mine.foldl (fun s p => s.cutCmd p.1 nvSqDeleted) s
    (s.modCtrl h.ctrl (fun y => { y with sqs := Tab.erase y.sqs qid })).nvDone h 0

def execDeleteIoSq (h : NvHdr) (qid : Nat) (s : State) : Host.Outcome State Fault Refusal :=
  .next (s.nvAdmin h (fun s => s.deleteSq h qid))

/-- Delete I/O Completion Queue; one that a submission queue names stays (R514). -/
def State.deleteCq (s : State) (h : NvHdr) (qid : Nat) : State :=
  let x := s.nvCtrl h.ctrl
  if qid = 0 ∨ (Tab.find? x.cqs qid).isNone then s.nvDone h nvQueueId
  else if x.sqs.any (fun p => decide (p.2.cq = qid)) then s.nvDone h nvQueueDelete
  else (s.modCtrl h.ctrl (fun y => { y with cqs := Tab.erase y.cqs qid })).nvDone h 0

def execDeleteIoCq (h : NvHdr) (qid : Nat) (s : State) : Host.Outcome State Fault Refusal :=
  .next (s.nvAdmin h (fun s => s.deleteCq h qid))

/-! ### Identify and log pages (R513 to R515, R519, R526, R529 to R531) -/

/-- A structure of NVMe 2.0: the bytes that the manual fixes, by offset; the others are the implementation's. -/
def nvPage (kind obj size : Nat) (known : List (Nat × List Byte)) : List Byte :=
  (List.range size).map (fun i =>
    match known.find? (fun p => decide (p.1 ≤ i ∧ i < p.1 + p.2.length)) with
    | some p => p.2.getD (i - p.1) 0
    | none => BitVec.ofNat 8 (Config.nvmeByte kind obj i))

/-- "nqn.2024-01.com.zainrex:rzl3216:" (R513). -/
def nqnPrefix : List Byte :=
  ([0x6E, 0x71, 0x6E, 0x2E, 0x32, 0x30, 0x32, 0x34, 0x2D, 0x30, 0x31, 0x2E, 0x63, 0x6F, 0x6D, 0x2E, 0x7A, 0x61, 0x69, 0x6E,
    0x72, 0x65, 0x78, 0x3A, 0x72, 0x7A, 0x6C, 0x33, 0x32, 0x31, 0x36, 0x3A] : List Nat).map (BitVec.ofNat 8)

/-- Identify Controller: MDTS 9, controller ID, version 2.0, 1,024 namespaces, no atomicity beyond a block, NQN with the
module serial number (R513 to R515, R519, R531). -/
def State.identCtrl (_s : State) (c : Nat) : List Byte :=
  nvPage 1 c 4096 [(77, leBytes 1 9), (78, leBytes 2 c), (80, leBytes 4 0x20000), (516, leBytes 4 1024), (522, leBytes 2 0),
    (526, leBytes 2 0), (528, leBytes 2 0), (768, nqnPrefix ++ Config.serial)]

/-- Identify Namespace: NSZE, NCAP and NUSE, DLFEAT 0, NABSN, NABO and NABSPF 0, a 4 KiB LBA format (R516, R519, R530,
R531); a namespace that is not attached reads zero. -/
def State.identNs (s : State) (c n : Nat) : List Byte :=
  match s.ns? n with
  | some x =>
    if x.r.ctrl = c then
      let z := leBytes 8 (nsSize x.r)
      nvPage 2 n 4096 [(0, z ++ z ++ z), (33, leBytes 1 0), (38, leBytes 6 0), (128, leBytes 4 0x0C0000)]
    else List.replicate 4096 0
  | none => List.replicate 4096 0

/-- Attached namespaces above `n`, rising. -/
def State.nsList (s : State) (c n : Nat) : List Byte :=
  let l := (s.store.ns.filter (fun p => decide (p.2.r.ctrl = c ∧ n < p.1))).map (·.1)
  (l ++ List.replicate (1024 - l.length) 0).flatMap (leBytes 4)

/-- Identify, by CNS: 0 a namespace, 1 the controller, 2 the active namespaces; another is not supported (R514). -/
def State.identifyCmd (s : State) (h : NvHdr) (cns : Nat) : State :=
  match cns with
  | 0 =>
    if (s.ns? h.nsid).isSome then s.nvDone h 0 0 (s.identNs h.ctrl h.nsid) else s.nvDone h nvInvalidNs
  | 1 => s.nvDone h 0 0 (s.identCtrl h.ctrl)
  | 2 => s.nvDone h 0 0 (s.nsList h.ctrl h.nsid)
  | _ => s.nvDone h nvInvalidField

def execIdentify (h : NvHdr) (cns : Nat) (s : State) : Host.Outcome State Fault Refusal :=
  .next (s.nvAdmin h (fun s => s.identifyCmd h cns))

/-- Opcodes of a controller, admin and I/O (R514). -/
def adminOps (c : Nat) : List Nat :=
  [0x00, 0x01, 0x02, 0x04, 0x05, 0x06, 0x08, 0x09, 0x0A, 0x0C] ++ (if c = 1 then [0x0D, 0x10, 0x11, 0x15] else [])

def ioOps : List Nat := [0x00, 0x01, 0x02, 0x08, 0x09]

/-- An attached namespace has lost writes (R526). -/
def State.lostNs (s : State) (c : Nat) : Bool := s.store.ns.any (fun p => p.2.r.ctrl = c && p.2.r.lost)

/-- Error Information: 64 bytes for each failure, newest first (R529). -/
def errPage (x : NvCtrl) : List Byte :=
  (x.errLog.zipIdx).flatMap (fun e => leBytes 8 (x.errLog.length - e.2) ++ leBytes 2 e.1.1 ++ leBytes 2 e.1.2.1 ++
    leBytes 2 (e.1.2.2.1 * 2) ++ leBytes 2 0 ++ leBytes 8 e.1.2.2.2 ++ leBytes 40 0)

/-- Get Log Page; a page that is not listed is not supported (R514). -/
def State.logPage (s : State) (h : NvHdr) (lid : Nat) : State :=
  let x := s.nvCtrl h.ctrl
  match lid with
  | 1 => s.nvDone h 0 0 (errPage x)
  | 2 => s.nvDone h 0 0 (nvPage 3 h.ctrl 512 [(0, leBytes 1 (if s.lostNs h.ctrl then 4 else 0))])
  | 3 => s.nvDone h 0 0 (nvPage 4 h.ctrl 512 ((0, leBytes 1 (s.mgmt.flash.active + 1 +
      16 * (match s.mgmt.flash.pending with | some k => k + 1 | none => 0))) ::
      ((List.range 7).filter (fun k => (Tab.find? s.mgmt.flash.slots k).isNone)).map (fun k => (8 + 8 * k, leBytes 8 0))))
  | 4 =>
    let s := s.modCtrl h.ctrl (fun y => { y with changed := [] })
    s.nvDone h 0 0 ((x.changed ++ List.replicate (1024 - x.changed.length) 0).flatMap (leBytes 4))
  | 5 => s.nvDone h 0 0 ((List.range 512).flatMap (fun i => leBytes 4 (ofBool (
      if i < 256 then decide (i ∈ adminOps h.ctrl) else decide (i - 256 ∈ ioOps)))) ++ leBytes 2048 0)
  | _ => s.nvDone h 0x109

def execGetLogPage (h : NvHdr) (lid : Nat) (s : State) : Host.Outcome State Fault Refusal :=
  .next (s.nvAdmin h (fun s => s.logPage h lid))

/-- Abort: a command in progress ends with Command Abort Requested; bit 0 of the result says that none was (R529). -/
def State.abortCmd (s : State) (h : NvHdr) (sq cid : Nat) : State :=
  match s.store.cmds.find? (fun p => decide (p.2.ctrl = h.ctrl ∧ p.2.sq = sq ∧ p.2.cid = cid ∧ p.2.op ≠ 0x10D)) with
  | some p => (s.cutCmd p.1 nvAborted).nvDone h 0 0
  | none => s.nvDone h 0 1

def execNvmeAbort (h : NvHdr) (sq cid : Nat) (s : State) : Host.Outcome State Fault Refusal :=
  .next (s.nvAdmin h (fun s => s.abortCmd h sq cid))

/-! ### Features (R513, R514) -/

/-- Queue pairs that the pool still has for the primary controller (R485, R513). -/
def State.pairsLeft (s : State) : Nat := 4096 - s.host.pools.nvmeQp.foldl (fun a p => a + p.2) 0

/-- Pairs a controller may be granted: 1,024 from the pool, or its allocation (R513). -/
def State.pairLimit (s : State) (c : Nat) : Nat :=
  if c = 1 then min 1024 s.pairsLeft else Tab.getD s.host.pools.nvmeQp (ctrlFn c) 0

/-- Features by identifier that are kept as they were set (R514). -/
def featKept : List Nat := [0x01, 0x04, 0x06, 0x08, 0x0B]

/-- The value of a feature nothing has set: Volatile Write Cache enabled, the others zero. -/
def featDefault (fid : Nat) : Nat := if fid = 0x06 then 1 else 0

/-- Set Features (R513, R514). -/
def State.setFeature (s : State) (h : NvHdr) (fid v : Nat) : State :=
  let put := fun (s : State) (k v : Nat) => s.modCtrl h.ctrl (fun y => { y with feats := Tab.set y.feats k v })
  if fid ∈ featKept then (put s fid v).nvDone h 0
  else if fid = 0x02 then (if v % 32 = 0 then s.nvDone h 0 else s.nvDone h nvInvalidField)
  else if fid = 0x09 then
    if v % 65536 < ctrlVectors h.ctrl then (put s (0x900 + v % 65536) v).nvDone h 0 else s.nvDone h nvInvalidField
  else if fid = 0x07 then
    if (s.nvCtrl h.ctrl).sqs.length ≠ 1 ∨ (s.nvCtrl h.ctrl).cqs.length ≠ 1 then s.nvDone h nvSequence
    else
      let g := min (max (v % 65536 + 1) (v / 65536 + 1)) (s.pairLimit h.ctrl)
      let s := s.modCtrl h.ctrl (fun y => { y with granted := g })
      s.nvDone h 0 ((g + 65535) % 65536 * 65537)
  else s.nvDone h nvInvalidField

def execSetFeatures (h : NvHdr) (fid value : Nat) (s : State) : Host.Outcome State Fault Refusal :=
  .next (s.nvAdmin h (fun s => s.setFeature h fid value))

/-- Get Features (R514). -/
def State.getFeature (s : State) (h : NvHdr) (fid vec : Nat) : State :=
  let x := s.nvCtrl h.ctrl
  if fid ∈ featKept then s.nvDone h 0 (Tab.getD x.feats fid (featDefault fid))
  else if fid = 0x02 then s.nvDone h 0 0
  else if fid = 0x09 then s.nvDone h 0 (Tab.getD x.feats (0x900 + vec) vec)
  else if fid = 0x07 then s.nvDone h 0 ((x.granted + 65535) % 65536 * 65537)
  else s.nvDone h nvInvalidField

def execGetFeatures (h : NvHdr) (fid vec : Nat) (s : State) : Host.Outcome State Fault Refusal :=
  .next (s.nvAdmin h (fun s => s.getFeature h fid vec))

/-- Asynchronous Event Request: it takes an event that waits, or waits (R514). -/
def State.asyncReq (s : State) (h : NvHdr) : State :=
  match (s.nvCtrl h.ctrl).events with
  | [] => s.modCtrl h.ctrl (fun y => { y with aers := y.aers ++ [h.cid] })
  | e :: es => (s.modCtrl h.ctrl (fun y => { y with events := es })).nvDone h 0 e

def execAsyncEventRequest (h : NvHdr) (s : State) : Host.Outcome State Fault Refusal :=
  .next (s.nvAdmin h (fun s => s.asyncReq h))

/-! ### Namespace management (R519, R521, R534) -/

/-- The lowest NSID that is free. -/
def State.freeNsid (s : State) : Option Nat := ((List.range 1024).map (· + 1)).find? (fun n => (s.ns? n).isNone)

/-- A namespace is created: its extents are taken in rising order, a nonce is drawn, and with KEY_SOURCE 0 its KCV is taken
and it is READY; nothing is allocated where the extents or an NSID are not free (R519, R520). -/
def State.nsCreate (s : State) (a : NsAsk) : State × Option Nat :=
  match s.freeNsid with
  | none => (s, none)
  | some n =>
    let durables := (s.store.ns.filter (fun p => p.2.r.durable)).length
    if a.stripe = [] ∨ a.extents = 0 ∨ (a.durable ∧ 16 ≤ durables) ∨ a.stripe.any (fun k =>
        !s.driveUp k || s.flag (F.NVC_DRIVE_STS_BLANK k) || decide ((s.driveFree k).length < a.extents)) then (s, none)
    else
      let nonce := s.freeNat % 2 ^ 128
      let kcv := if a.keySource = 0 then kcvOf (nsKey rootKeyBytes n (leNats 16 nonce)) else []
      let r : NsRec := ⟨a.durable, a.keySource, a.job, nonce, a.stripe, a.stripe.map (fun k => (s.driveFree k).take a.extents),
        1, 0, none, kcv, false, false⟩
      (((s.modStore (fun t => { t with ns := Tab.set t.ns n ⟨r, if a.keySource = 0 then 0 else 1, none, false, []⟩ })).writeLabel).drew,
        some n)

/-- A delete begins: the namespace is detached, and it ends once its commands and feeds have (R521). -/
def State.nsDelete (s : State) (n : Nat) : State :=
  match s.ns? n with
  | none => s
  | some x =>
    let c := x.r.ctrl
    ((s.modNs n (fun x => { x with deleting := true, r := { x.r with ctrl := 0, owner := 1 } })).writeLabel).nsChanged c n

/-- Namespace Management: creates a STANDARD namespace over every drive that has not failed, its size rounded up; or
deletes one. DURABLE namespaces are the installer's (R519, R521). -/
def State.nsManage (s : State) (h : NvHdr) (del : Bool) (nsze : Nat) : State :=
  if del then
    match s.ns? h.nsid with
    | none => s.nvDone h nvInvalidNs
    | some x =>
      if x.r.durable ∨ x.deleting then s.nvDone h nvInvalidNs
      else
        let c : NvCmd := ⟨h.ctrl, h.sq, h.cid, 0x10D, h.nsid, 0, 0, 0, 0, [], [], [], [], []⟩
        let s := s.modStore (fun t => { t with cmds := Tab.set t.cmds t.nextCmd c, nextCmd := t.nextCmd + 1 })
        (s.nsDelete h.nsid).settleNs h.nsid
  else
    let ks := (List.range 8).filter (fun k => s.driveUp k && !s.flag (F.NVC_DRIVE_STS_BLANK k))
    let w := ks.length * 262144
    if s.freeNsid = none then s.nvDone h 0x116
    else match s.nsCreate ⟨false, 0, 0, ks, (nsze + w - 1) / w⟩ with
      | (s, some n) => s.nvDone h 0 n
      | (s, none) => s.nvDone h 0x115

def execNamespaceManagement (h : NvHdr) (del : Bool) (nsze : Nat) (s : State) : Host.Outcome State Fault Refusal :=
  .next (s.nvPrimary h (fun s => s.nsManage h del nsze))

/-- A controller that exists: the primary, or one of a provisioned VF of PF1 (R513). -/
def State.ctrlExists (s : State) (c : Nat) : Bool :=
  c = 1 || (decide (2 ≤ c ∧ c ≤ 64) && decide (Tab.getD s.host.pools.nvmeQp (ctrlFn c) 0 ≠ 0))

/-- A namespace is attached to a controller: its OWNER is the controller's function (R519). -/
def State.nsAttach (s : State) (n c : Nat) : State :=
  ((s.modNs n (fun x => { x with r := { x.r with ctrl := c, owner := fnOwner (ctrlFn c) } })).writeLabel).nsChanged c n

/-- A namespace is detached (R519, R534). -/
def State.nsDetach (s : State) (n : Nat) : State :=
  match s.ns? n with
  | none => s
  | some x => ((s.modNs n (fun x => { x with r := { x.r with ctrl := 0, owner := 1 } })).writeLabel).nsChanged x.r.ctrl n

/-- Namespace Attachment: at most one controller has a namespace (R519). -/
def State.nsAttachCmd (s : State) (h : NvHdr) (detach : Bool) (ctrls : List Nat) : State :=
  match s.ns? h.nsid, ctrls with
  | none, _ => s.nvDone h nvInvalidNs
  | some x, [c] =>
    if !s.ctrlExists c ∨ x.deleting then s.nvDone h 0x11C
    else if detach then
      if x.r.ctrl = c then (s.nsDetach h.nsid).nvDone h 0 else s.nvDone h 0x11A
    else if x.r.ctrl = c then s.nvDone h 0x118
    else if x.r.ctrl ≠ 0 then s.nvDone h 0x119
    else (s.nsAttach h.nsid c).nvDone h 0
  | some _, _ => s.nvDone h 0x11C

def execNamespaceAttachment (h : NvHdr) (detach : Bool) (ctrls : List Nat) (s : State) : Host.Outcome State Fault Refusal :=
  .next (s.nvPrimary h (fun s => s.nsAttachCmd h detach ctrls))

/-! ### I/O commands (R522 to R533) -/

/-- The status that stops an I/O command before its work, in the order of R529. -/
def State.ioStop (s : State) (h : NvHdr) (slba nlb mdts use : Nat) (engine transfer : Bool) : Nat :=
  match s.ns? h.nsid with
  | none => if mdts < nlb then nvInvalidField else nvInvalidNs
  | some x =>
    if mdts < nlb then nvInvalidField
    else if x.r.ctrl ≠ h.ctrl then nvInvalidNs
    else if nsSize x.r < slba + nlb then nvLbaRange
    else if !s.nsServes x then (if x.st = 3 then nvNotReady + nvDnr else nvNotReady)
    else if !s.nsKeyAllowed x use false then nvDenied
    else if engine then nvInternal
    else if !transfer then nvTransfer
    else 0

/-- A command that stops: its status, with the engine fault or the refused reference it comes from; a read that fails
leaves zeros in the host's buffer (R439, R443, R529). -/
def State.ioStopped (s : State) (h : NvHdr) (slba st : Nat) (engine : Option Nat) (zeros : Nat) : State :=
  let page := (s.ns? h.nsid).bind (·.page)
  let s := match engine with
    | some e => if st = nvInternal then s.engineFault e page else s
    | none => s
  let s := if st = nvDenied then (match page, s.ns? h.nsid with | some i, some x => s.keyRefused x.r.owner i | _, _ => s) else s
  s.nvPost h.ctrl ⟨h.sq, h.cid, st, 0, (List.replicate zeros zeroBlock).flatten⟩ slba

/-- Blocks of plaintext, encrypted each under its data unit number (R522). -/
def encryptBlocks (key : List Nat) (slba : Nat) (blocks : List (List Byte)) : List (List Byte) :=
  (blocks.zipIdx).map (fun b => cipherBlock key (slba + b.2) b.1)

/-- A write completes in the buffer: a STANDARD namespace, mode ON, the Volatile Write Cache enabled, FUA clear (R524). -/
def State.buffered (s : State) (x : Ns) (c : Nat) (fua : Bool) : Bool :=
  !x.r.durable && decide (s.fld F.NVC_WB_STS_MODE = 1) && decide (Tab.getD (s.nvCtrl c).feats 6 (featDefault 6) % 2 = 1) && !fua

/-- Encrypted blocks go to the medium: one write with FUA for each piece of a stripe unit; a buffered copy of a block is
replaced first, so that no older copy reaches the drive afterwards (R523, R524). -/
def State.writeMedium (s : State) (n num slba : Nat) (blocks : List (List Byte)) : State :=
  let s := (blocks.zipIdx).foldl (fun s b =>
    let key := wbKey n (slba + b.2)
    if (Tab.find? s.store.wb key).isSome then
      let ver := s.store.wbVer
      (s.wbPut n (slba + b.2) b.1).modCmd num (fun c => { c with copies := c.copies ++ [(key, ver)] })
    else s) s
  let ps := pieces slba blocks.length
  let s := s.modCmd num (fun c => { c with ops := ps.length })
  ps.foldl (fun s p => s.drvSend 2 n p.1 p.2 (.cmd num) ((blocks.drop (p.1 - slba)).take p.2).flatten) s

/-- A write of blocks that passed its checks (R524). -/
def State.ioWrite (s : State) (h : NvHdr) (op slba : Nat) (fua : Bool) (plain : List (List Byte)) : State :=
  match s.ns? h.nsid with
  | none => s
  | some x =>
    match s.nsKeyPair h.nsid x with
    | none => s.nvDone h nvNotReady
    | some k =>
      let blocks := encryptBlocks k slba plain
      let num := s.store.nextCmd
      let buf := s.buffered x h.ctrl fua
      let wait := buf && !s.wbRoom h.nsid slba plain.length
      let c : NvCmd := ⟨h.ctrl, h.sq, h.cid, op, h.nsid, slba, plain.length, 0, 0, if wait then blocks else [], [], [], [], []⟩
      let s := s.modStore (fun t => { t with cmds := Tab.set t.cmds num c, nextCmd := t.nextCmd + 1 })
      if wait then s.count F.NVC_WB_FULL_WAITS
      else if buf then (s.bufferBlocks h.nsid slba blocks).cmdStep num
      else s.writeMedium h.nsid num slba blocks

def State.nvWriteCmd (s : State) (h : NvHdr) (slba nlb : Nat) (fua : Bool) (data : Option (List Byte)) (engine : Option Nat) :
    State :=
  let st := s.ioStop h slba nlb 512 useEnc engine.isSome data.isSome
  if st = 0 then s.ioWrite h 1 slba fua ((chunksOf 4096 (data.getD [])).take nlb) else s.ioStopped h slba st engine 0

/-- An I/O command is not for the admin queue (R514). -/
def State.nvIo (s : State) (h : NvHdr) (ok : State → State) : State :=
  match s.nvFetch h with
  | none => s
  | some s => if h.sq = 0 then s.nvDone h nvInvalidOpcode else if h.bad then s.nvDone h nvInvalidField else ok s

def execNvmeWrite (h : NvHdr) (slba nlb : Nat) (fua : Bool) (data : Option (List Byte)) (engine : Option Nat) (s : State) :
    Host.Outcome State Fault Refusal := .next (s.nvIo h (fun s => s.nvWriteCmd h slba nlb fua data engine))

/-- Write Zeroes stores encrypted zero blocks (R530). -/
def State.nvZeroCmd (s : State) (h : NvHdr) (slba nlb : Nat) (fua : Bool) (engine : Option Nat) : State :=
  let st := s.ioStop h slba nlb 65536 useEnc engine.isSome true
  if st = 0 then s.ioWrite h 8 slba fua (List.replicate nlb zeroBlock) else s.ioStopped h slba st engine 0

def execWriteZeroes (h : NvHdr) (slba nlb : Nat) (fua : Bool) (engine : Option Nat) (s : State) :
    Host.Outcome State Fault Refusal := .next (s.nvIo h (fun s => s.nvZeroCmd h slba nlb fua engine))

/-- Blocks of a read: those of the buffer are there; the others are read from the drives, piece by piece of neighbouring
blocks; the plaintext and the failure of a buffered copy are kept in the command (R522, R524, R529). -/
def State.readBuffered (s : State) (n num slba : Nat) (key : List Nat) (i : Nat) : State :=
  match Tab.find? s.store.wb (wbKey n (slba + i)) with
  | none => s
  | some e =>
    let (s, bs, ok) := s.wbGet e
    if ok then s.modCmd num (fun c => { c with got := Tab.set c.got i (plainBlock key (slba + i) bs) })
    else s.modCmd num (fun c => { c.fail nvReadError with got := Tab.set c.got i zeroBlock })

/-- The runs of consecutive numbers in a rising list of blocks, cut at stripe units. -/
def runs : List Nat → List (Nat × Nat)
  | [] => []
  | a :: as =>
    match runs as with
    | (b, n) :: rest => if a + 1 = b ∧ b % 32 ≠ 0 then (a, n + 1) :: rest else (a, 1) :: (b, n) :: rest
    | [] => [(a, 1)]

/-- Blocks of a range that have no buffered copy. -/
def State.unbuffered (s : State) (n slba nlb : Nat) : List Nat :=
  ((List.range nlb).map (slba + ·)).filter (fun l => (Tab.find? s.store.wb (wbKey n l)).isNone)

def State.nvReadCmd (s : State) (h : NvHdr) (slba nlb : Nat) (transfer : Bool) (engine : Option Nat) : State :=
  let st := s.ioStop h slba nlb 512 useDec engine.isSome transfer
  match s.ns? h.nsid with
  | none => s.ioStopped h slba st engine nlb
  | some x =>
    match st, s.nsKeyPair h.nsid x with
    | 0, some k =>
      let num := s.store.nextCmd
      let ps := runs (s.unbuffered h.nsid slba nlb)
      let c : NvCmd := ⟨h.ctrl, h.sq, h.cid, 2, h.nsid, slba, nlb, ps.length, 0, [], [], [], [], []⟩
      let s := s.modStore (fun t => { t with cmds := Tab.set t.cmds num c, nextCmd := t.nextCmd + 1 })
      let s := (List.range nlb).foldl (fun s i => s.readBuffered h.nsid num slba k i) s
      (ps.foldl (fun s p => s.drvSend 0 h.nsid p.1 p.2 (.cmd num) []) s).cmdStep num
    | 0, none => s.ioStopped h slba nvNotReady engine nlb
    | _, _ => s.ioStopped h slba st engine (if nlb ≤ 512 then nlb else 0)

def execNvmeRead (h : NvHdr) (slba nlb : Nat) (transfer : Bool) (engine : Option Nat) (s : State) :
    Host.Outcome State Fault Refusal := .next (s.nvIo h (fun s => s.nvReadCmd h slba nlb transfer engine))

/-- The stripe units that a range wholly covers, as first blocks (R530). -/
def wholeUnits (r : Nat × Nat) : List Nat :=
  let lo := (r.1 + 31) / 32
  let hi := (r.1 + r.2) / 32
  (List.range (hi - lo)).map (fun i => (lo + i) * 32)

/-- Dataset Management: Deallocate goes to the drives for whole stripe units; other attributes are ignored (R530). -/
def State.nvDsm (s : State) (h : NvHdr) (deallocate : Bool) (ranges : List (Nat × Nat)) : State :=
  let bad := (ranges.map (fun r => s.ioStop h r.1 r.2 (2 ^ 64) useEnc false true)).find? (· ≠ 0)
  let st := bad.getD (s.ioStop h 0 0 (2 ^ 64) useEnc false true)
  if st ≠ 0 then s.ioStopped h 0 st none 0
  else if !deallocate then s.nvDone h 0
  else
    let us := ranges.flatMap wholeUnits
    let num := s.store.nextCmd
    let c : NvCmd := ⟨h.ctrl, h.sq, h.cid, 9, h.nsid, 0, 0, us.length, 0, [], [], [], [], []⟩
    let s := s.modStore (fun t => { t with cmds := Tab.set t.cmds num c, nextCmd := t.nextCmd + 1 })
    (us.foldl (fun s u => s.drvSend 4 h.nsid u 32 (.cmd num) []) s).cmdStep num

def execDatasetManagement (h : NvHdr) (deallocate : Bool) (ranges : List (Nat × Nat)) (s : State) :
    Host.Outcome State Fault Refusal := .next (s.nvIo h (fun s => s.nvDsm h deallocate ranges))

/-- Namespaces that a Flush covers: its own, or every attached one (R533). -/
def State.flushSet (s : State) (h : NvHdr) : List Nat :=
  if h.nsid = 0xFFFFFFFF then (s.store.ns.filter (fun p => decide (p.2.r.ctrl = h.ctrl))).map (·.1) else [h.nsid]

/-- Flush: the buffered blocks of the writes it covers are destaged, and then Flush goes to their drives; with none it
completes at once (R533). -/
def State.nvFlushCmd (s : State) (h : NvHdr) : State :=
  let st := if h.nsid = 0xFFFFFFFF then 0 else s.ioStop h 0 0 512 useEnc false true
  if st ≠ 0 then s.ioStopped h 0 st none 0
  else
    let ns := s.flushSet h
    let need := ns.flatMap (fun n => (s.wbOf n).map (fun p => (p.1, p.2.ver)))
    if need = [] then s.nvDone h 0
    else
      let drives := ((List.range 8).filter (fun k => ns.any (fun n => match s.ns? n with
        | some x => (s.wbOf n).any (fun p => decide ((nsPlace x.r (p.1 % 2 ^ 64)).1 = k))
        | none => false)))
      let num := s.store.nextCmd
      let c : NvCmd := ⟨h.ctrl, h.sq, h.cid, 0, ns.headD 0, 0, 0, 0, 0, [], [], need, drives, []⟩
      let s := s.modStore (fun t => { t with cmds := Tab.set t.cmds num c, nextCmd := t.nextCmd + 1 })
      ns.foldl State.destageNs s

def execNvmeFlush (h : NvHdr) (s : State) : Host.Outcome State Fault Refusal := .next (s.nvIo h (fun s => s.nvFlushCmd h))

/-! ### Controllers (R515, R534) -/

/-- CC.EN is set: the admin queues exist, and the controller becomes ready where its function is in service (R515). -/
def State.ctrlOn (s : State) (c ams asqs acqs : Nat) : State :=
  if (s.nvCtrl c).en ∨ !s.ctrlExists c then s
  else s.modCtrl c (fun y => { y with
    en := true, rdy := true, wrr := decide (ams = 1), shst := 0, sqs := [(0, ⟨asqs, 0, 0, 0, 0⟩)],
    cqs := [(0, ⟨acqs, 0, 0, 0, true, [], 0⟩)] })

def execControllerEnable (ctrl ams asqs acqs : Nat) (s : State) : Host.Outcome State Fault Refusal :=
  .next (s.ctrlOn ctrl ams asqs acqs)

/-- The commands of a controller end with no completion entry; a delete in progress takes effect by itself (R534). -/
def State.ctrlAbort (s : State) (c : Nat) : State :=
  let mine := s.store.cmds.filter (fun p => decide (p.2.ctrl = c))
  let s := s.modStore (fun t => { t with cmds := t.cmds.filter (fun p => decide (p.2.ctrl ≠ c)) })
  mine.foldl (fun s p => s.settleNs p.2.ns) s

/-- A controller reset: commands aborted, I/O queues deleted, pairs returned, a partial image discarded; buffered blocks
stay (R513, R534). -/
def State.ctrlReset (s : State) (c : Nat) : State := (s.modCtrl c (fun _ => NvCtrl.init)).ctrlAbort c

def execControllerReset (ctrl : Nat) (s : State) : Host.Outcome State Fault Refusal := .next (s.ctrlReset ctrl)

/-- Namespaces of a controller. -/
def State.ctrlNs (s : State) (c : Nat) : List Nat := (s.store.ns.filter (fun p => decide (p.2.r.ctrl = c))).map (·.1)

/-- A shutdown is over once no buffered block of the controller's namespaces is left: CSTS.SHST reads 10b (R534). -/
def State.shutStep (s : State) (c : Nat) : State :=
  if (s.nvCtrl c).shst = 1 ∧ (s.ctrlNs c).all (fun n => decide (s.wbOf n = [])) then s.modCtrl c (fun y => { y with shst := 2 })
  else s

/-- CC.SHN = 01b: the buffered blocks of the controller's namespaces are destaged and their drives flushed (R534). -/
def State.shutNormal (s : State) (c : Nat) : State :=
  let s := s.modCtrl c (fun y => { y with shst := 1 })
  let drives := (List.range 8).filter (fun k => (s.ctrlNs c).any (fun n => match s.ns? n with
    | some x => decide (k ∈ x.r.stripe)
    | none => false))
  let s := (s.ctrlNs c).foldl State.destageNs s
  (drives.foldl (fun s k => s.drvFlush k 0 .other) s).shutStep c

def execNormalShutdown (ctrl : Nat) (s : State) : Host.Outcome State Fault Refusal := .next (s.shutNormal ctrl)

/-- CC.SHN = 10b: as a controller reset; destage goes on in the background (R534). -/
def State.shutAbrupt (s : State) (c : Nat) : State := (s.ctrlReset c).modCtrl c (fun y => { y with shst := 2 })

def execAbruptShutdown (ctrl : Nat) (s : State) : Host.Outcome State Fault Refusal := .next (s.shutAbrupt ctrl)

/-- The aggregation time of a completion queue expires: its pending interrupt is sent (R514). -/
def State.aggExpiry (s : State) (c q : Nat) : State :=
  match Tab.find? (s.nvCtrl c).cqs q with
  | some x =>
    if x.agg = 0 then s
    else (s.modCtrl c (fun y => { y with cqs := Tab.set y.cqs q { x with agg := 0 } })).sendMsix (ctrlFn c) x.vec
  | none => s

def execAggregationTimeExpiry (ctrl cq : Nat) (s : State) : Host.Outcome State Fault Refusal := .next (s.aggExpiry ctrl cq)

end Sys2Proof.Machine
end

