-- ==== Sys2Proof/Machine/StoreCmds.lean ====
section
/-!
DEFINITION. The drives and the write buffer: completions of drive commands, destage, failures and later arrivals (R516 to
R518, R523 to R526, R585).
-/
namespace Sys2Proof.Machine

/-- A drive answers a command (R524, R528): the command, destage, feed or checkpoint that it serves goes on. -/
def State.driveEnd (s : State) (n : Nat) (ok : Bool) (data : List Byte) : State :=
  match Tab.find? s.store.ops n with
  | none => s
  | some o =>
    let s := s.modStore (fun t => { t with ops := Tab.erase t.ops n })
    match o.use with
    | .cmd c => s.cmdDrive c o ok data
    | .destage key ver => s.destaged o.ns key ver ok
    | .feed p f => s.feedDrive p f o ok data
    | .shard j part => s.shardDrive j part ok
    | .other => s

/-- Shutdowns whose buffered blocks are gone are over (R534). -/
def State.shutSteps (s : State) : State := s.store.ctrls.foldl (fun s p => s.shutStep p.1) s

def execDriveCompletion (n : Nat) (ok : Bool) (data : List Byte) (s : State) : Host.Outcome State Fault Refusal :=
  .next (s.driveEnd n ok data).shutSteps

def execDestageBlock (ns lba : Nat) (s : State) : Host.Outcome State Fault Refusal := .next (s.destage ns lba)

/-- A namespace that held no buffered block for 1 s is clean again (R524). -/
def execDirtyClear (ns : Nat) (s : State) : Host.Outcome State Fault Refusal :=
  .next (match s.ns? ns with
    | some x =>
      if x.r.dirty ∧ s.wbOf ns = [] then (s.modNs ns (fun x => { x with r := { x.r with dirty := false } })).writeLabel else s
    | none => s)

/-- The hold-up store's charge as measured: HOLDUP_OK from 90 % (R416), and the mode that follows (R525). -/
def State.holdupShow (s : State) (pct energy : Nat) : State :=
  let s := (s.setFld F.PWR_HOLDUP_CHARGE_PCT pct).setFld F.PWR_HOLDUP_ENERGY_J energy
  s.setFlag F.PWR_STS_HOLDUP_OK (decide (90 ≤ pct))

def execWbModeChange (pct energy : Nat) (s : State) : Host.Outcome State Fault Refusal :=
  .next (s.holdupShow pct energy).judgeWbMode

/-- A namespace with an extent on a failed drive enters FAILED; its buffered blocks are discarded and it is marked
LOST_WRITES (R518). -/
def State.failNs (s : State) (n : Nat) : State :=
  let gone := s.wbOf n
  let s := s.modNs n (fun x => { x with st := 3 })
  if gone = [] then s
  else
    let s := gone.foldl (fun s p => s.wbDrop p.1 p.2.ver) s
    s.markLost n

/-- A drive fails or has lost its link for more than 1 s (R518): FAILED sets, its commands end, and its namespaces fail. -/
def State.driveFail (s : State) (k : Nat) : State :=
  if s.flag (F.NVC_DRIVE_STS_FAILED k) ∨ !s.flag (F.NVC_DRIVE_STS_PRESENT k) then s
  else
    let s := (s.setFlag (F.NVC_DRIVE_STS_FAILED k) true).setFlag (F.NVC_DRIVE_STS_UP k) false
    let s := s.raise blkNvc 16 Master.noMaster (F.NVC_DRIVE_STS_FAILED k).off k
    let s := ((s.store.ns.filter (fun p => decide (k ∈ p.2.r.stripe))).map (·.1)).foldl State.failNs s
    let lost := (s.store.ops.filter (fun p => decide (p.2.drive = k))).map (·.1)
    (lost.foldl (fun s n => s.driveEnd n false []) s).shutSteps

def execDriveFailure (k : Nat) (s : State) : Host.Outcome State Fault Refusal := .next (s.driveFail k)

/-- The newest label copy of a list (R517). -/
def newestLabel (ls : List DrvLabel) : Option DrvLabel :=
  ls.foldl (fun a l => match a with
    | none => some l
    | some b => if b.gen < l.gen then some l else a) none

/-- The module takes a label as its namespace table; each namespace takes the state that its key gives (R517, R520). After a start
that found FLUSH_INCOMPLETE, a STANDARD namespace with DIRTY set is marked LOST_WRITES (R526). -/
def State.takeLabel (s : State) (l : DrvLabel) : State :=
  let s := s.modStore (fun t => { t with
    gen := l.gen, ns := l.recs.foldl (fun a p => Tab.set a p.1 ⟨p.2, 1, none, false, []⟩) [] })
  let s := l.recs.foldl (fun s p => s.judgeNs p.1) s
  if !s.mgmt.lostFlush then s
  else (l.recs.filter (fun p => p.2.dirty && !p.2.durable)).foldl (fun s p => s.markLost p.1) s

/-- Drive k is there on a half that exists: half 1 only where its port is bifurcated (R516). -/
def State.halfExists (s : State) (k : Nat) : Bool := k % 2 = 0 || s.flag (F.RTP_CFG_BIFURCATE (k / 2))

/-- A drive becomes ready: PRESENT and UP, FAILED where it does not meet R516, its label and extents; a newer label becomes
the namespace table, and the namespaces on the drive are available (R516, R517, R585). -/
def State.driveJoin (s : State) (k : Nat) (d : DriveInfo) : State :=
  if !s.halfExists k ∨ s.flag (F.NVC_DRIVE_STS_UP k) then s
  else
    let s := if k % 2 = 0 then (s.setFld (F.RTP_STS_SPEED0 (k / 2)) d.speed).setFld (F.RTP_STS_WIDTH0 (k / 2)) d.width
      else (s.setFld (F.RTP_STS_SPEED1 (k / 2)) d.speed).setFld (F.RTP_STS_WIDTH1 (k / 2)) d.width
    let s := (s.setFlag (F.NVC_DRIVE_STS_PRESENT k) true).setFlag (F.NVC_DRIVE_STS_FAILED k) (!d.good)
    if !d.good then s.raise blkNvc 16 Master.noMaster (F.NVC_DRIVE_STS_FAILED k).off k
    else
      let s := s.modStore (fun t => { t with drives := Tab.set t.drives k ⟨d.extents, d.info, d.labels⟩ })
      let s := (s.setFlag (F.NVC_DRIVE_STS_UP k) true).setFlag (F.NVC_DRIVE_STS_LABEL_OK k) (decide (d.labels ≠ []))
      let s := s.setFlag (F.NVC_DRIVE_STS_BLANK k) (decide (d.labels = []))
      let s := match newestLabel d.labels with
        | some l => if s.store.gen < l.gen then s.takeLabel l else s
        | none => s
      s.showExtents

def execDriveJoin (k : Nat) (d : DriveInfo) (s : State) : Host.Outcome State Fault Refusal := .next (s.driveJoin k d)

end Sys2Proof.Machine
end

