-- ==== Sys2Proof/Machine/VfOps.lean ====
section
/-!
DEFINITION. Virtual functions: resource sets and places, destroying the objects of an owner, and the end of a migration
(R434, R462, R485 to R491, R501, R507, R508).
-/
namespace Sys2Proof.Machine

/-! ### Functions (R462) -/

/-- The number of a VF under its PF. -/
def vfNumber (f : Nat) : Nat := if f < 65 then f - 1 else f - 64

/-- A function is there on PCIe: a PF, or a VF that VF Enable and NumVFs cover (R489). -/
def State.fnPresent (s : State) (f : Nat) : Bool :=
  if f < 2 then true
  else if f < 65 then s.host.vfEnable0 && decide (vfNumber f ≤ s.host.numVfs0)
  else s.host.vfEnable1 && decide (vfNumber f ≤ s.host.numVfs1)

def State.modHost (s : State) (g : Endpoint → Endpoint) : State := { s with host := g s.host }
def State.modPools (s : State) (g : Pools → Pools) : State := s.modHost (fun h => { h with pools := g h.pools })

/-- The VFs of a PF. -/
def vfsOf (pf : Nat) : List Nat := if pf = 0 then (List.range 63).map (· + 2) else (List.range 63).map (· + 65)

/-- VF STATE of R489. -/
def vfAbsent : Nat := 0
def vfEmpty : Nat := 1
def vfReady : Nat := 2
def vfMoving : Nat := 3

def State.vfSt (s : State) (f : Nat) : Nat := s.fld (F.VFN_STS_STATE f)

/-! ### Resource sets (R491) -/

/-- What a resource set names: tiles, granules, context blocks, key pages, windows, groups, rings and queue pairs. -/
structure ResSet where
  tiles : List Nat
  hbm : List Nat
  shelf : List Nat
  blocks : List Nat
  keys : List Nat
  wins : List Nat
  bars : List Nat
  rings : List Nat
  qp : Nat
deriving DecidableEq, Repr

/-- Bytes 2 to 165 of the body of VF_CREATE (R491). -/
def resSet (bs : List Byte) : ResSet :=
  let span := fun lo : Nat => (List.range (leAt bs (lo + 2) 2)).map (leAt bs lo 2 + ·)
  { tiles := setBitsOf 16 (leAt bs 0 2), hbm := setBitsOf 768 (leAt bs 2 96), shelf := setBitsOf 120 (leAt bs 98 16),
    blocks := setBitsOf 256 (leAt bs 114 32), keys := span 146, wins := span 150, bars := span 154, rings := span 158,
    qp := leAt bs 162 2 }

/-- Resources take a place; the pool is not listed. -/
def putPlaces (t : Tab Place) (l : List Nat) (p : Place) : Tab Place := l.foldl (fun t i => Tab.put t i p .pool) t

def Pools.place (x : Pools) (r : ResSet) (p : Place) : Pools :=
  { x with
    tiles := putPlaces x.tiles r.tiles p, hbm := putPlaces x.hbm r.hbm p, shelf := putPlaces x.shelf r.shelf p,
    ctxBlocks := putPlaces x.ctxBlocks r.blocks p, keys := putPlaces x.keys r.keys p, wins := putPlaces x.wins r.wins p,
    bars := putPlaces x.bars r.bars p, rings := putPlaces x.rings r.rings p }

/-- The resource set of a VF; none where it is not provisioned. -/
def State.vfSet (s : State) (f : Nat) : Option ResSet := (Tab.find? s.host.pools.sets f).map resSet

/-- Owners that stand for a function: itself, and the partitions it owns (R288). -/
def State.ownersOf (s : State) (f : Nat) : List Nat :=
  fnOwner f :: ((List.range 16).filter (fun p => s.fld (F.MOD_PART_CFG_OWNER p) = fnOwner f &&
    (s.flag (F.MOD_PART_CFG_ENABLE p) || s.flag (F.MOD_PART_CFG_ACTIVE p) || s.fld (F.MOD_PART_TILES_TILES p) ≠ 0))).map partOwner

/-- Partitions that a function owns. -/
def State.partsOwned (s : State) (f : Nat) : List Nat :=
  (List.range 16).filter (fun p => s.fld (F.MOD_PART_CFG_OWNER p) = fnOwner f && s.fld (F.MOD_PART_TILES_TILES p) ≠ 0)

/-- Contexts of a function and of its partitions. -/
def State.ctxsOwned (s : State) (f : Nat) : List Nat :=
  let os := s.ownersOf f
  (s.gma.ctxs.filter (fun c => decide (c.2.owner ∈ os) && decide (c.2.st ≠ .free))).map (·.1)

/-! ### Destroying objects (R434, R488) -/

/-- A context becomes FREE: its place in the cache, its fetch and its trackers end. -/
def State.ctxFree (s : State) (c : Nat) : State :=
  let s := s.setCtx c Ctx.init
  { s with gma := { s.gma with
      ctxs := Tab.erase s.gma.ctxs c, cache := s.gma.cache.erase c, fetches := s.gma.fetches.erase c,
      trackers := s.gma.trackers.filter (fun t => decide (t.ctx ≠ c)) } }

/-- A partition is destroyed: disabled, its tiles released and held, its entry cleared (R346). -/
def State.partFree (s : State) (p : Nat) : State :=
  let ts := maskTiles (s.fld (F.MOD_PART_TILES_TILES p))
  let s := s.partOff p
  let s := ts.foldl State.holdCore s
  let s := (s.setReg (F.MOD_PART_CFG_ENABLE p).off 0).setFld (F.MOD_PART_TILES_TILES p) 0
  s.modPools (fun x => { x with tiles := ts.foldl (fun t i =>
    if Tab.getD t i .pool = .pf0 then Tab.put t i .pool .pool else t) x.tiles })

/-- A cipher ring is destroyed. -/
def State.ringFree (s : State) (r : Nat) : State := s.modTrust (fun t => { t with rings := Tab.erase t.rings r })

/-- Every object that a function owns is destroyed (R488). -/
def State.destroyOwned (s : State) (f : Nat) : State :=
  let owners := s.ownersOf f
  let ctxs := s.ctxsOwned f
  let parts := s.partsOwned f
  let wins := (List.range 4096).filter (fun w => s.flag (F.GMA_WIN_CTRL_ENABLE w) && decide (s.fld (F.GMA_WIN_CTRL_OWNER w) ∈ owners))
  let s := ctxs.foldl State.ctxFree s
  let s := wins.foldl (fun s w => s.setReg (F.GMA_WIN_CTRL_ENABLE w).off 0) s
  let s := parts.foldl State.partFree s
  let rings := (s.trust.rings.filter (fun r => decide (r.2.owner ∈ owners))).map (·.1)
  let s := rings.foldl State.ringFree s
  s.modFn f (fun x => { x with slots := [] })

/-- The resources of a set are cleared: granules and carrels zeroed, key pages zeroised, groups reset (R434, R488). -/
def State.clearSet (s : State) (r : ResSet) : State :=
  let s := r.hbm.foldl (fun s g => s.zeroRange (g * 2 ^ 30) (2 ^ 30)) s
  let s := r.shelf.foldl (fun s h => s.zeroRange (shelfBase + h * 2 ^ 28) (2 ^ 28)) s
  let s := r.tiles.foldl (fun s t => s.zeroRange (carrelAddr t 0) carrelSize) s
  let s := r.keys.foldl (fun s i => (s.freePage i).pageLeft i) s
  r.bars.foldl (fun s g => s.modBar g (fun _ => Bar.init)) s

/-! ### The end of a migration (R501, R507, R508) -/

/-- MOD_STS.MOVING is 1 while any VF is MOVING (R508). -/
def State.showMoving (s : State) : State := s.setFlag F.MOD_STS_MOVING (decide (s.host.moves ≠ []))

/-- A migration ends: its key is zeroised, the VF is READY, and the log keeps the last 32 (R503, R512). -/
def State.moveEnd (s : State) (f : Nat) (ok : Bool) (reason : Nat) : State :=
  match Tab.find? s.host.moves f with
  | none => s
  | some m =>
    let s := s.freePage m.keyPage
    let s := s.modHost (fun h => { h with
      moves := Tab.erase h.moves f, moveLog :=
        ([f, m.peerModule, ofBool m.source, ofBool ok, reason, m.bytes, m.began, s.modTime] :: h.moveLog).take 32 })
    let s := (s.setFld (F.VFN_STS_STATE f) vfReady).setFld (F.VFN_STS_MOVE_PHASE f) 0
    s.showMoving

/-- A restore fails: granules and carrels zeroed, pages zeroised, the VF READY with no objects (R507). -/
def State.moveFail (s : State) (f reason : Nat) : State :=
  let s := s.destroyOwned f
  let s := match s.vfSet f with | some r => s.clearSet r | none => s
  ((s.moveEnd f false reason).count F.VFN_MOVES_FAILED).raise blkVfn 17 Master.noMaster (F.VFN_STS_STATE f).off f

/-- An FLR ends a migration of the VF (R501). -/
def State.moveFlr (s : State) (f : Nat) : State :=
  match Tab.find? s.host.moves f with
  | none => s
  | some m => if m.source then s.moveEnd f false 1 else s.moveFail f 1

end Sys2Proof.Machine
end

