-- ==== Sys2Proof/Machine/HostCmds.lean ====
section
/-!
DEFINITION. The commands of the PCIe endpoint (R461 to R480).
-/
namespace Sys2Proof.Machine

/-! ### Configuration requests (R462, R476, R480) -/

/-- Device ID and class code of a function (R462). -/
def deviceId (f : Nat) : Nat := if f = 0 then 0x3216 else if f = 1 then 0x3217 else if f < 65 then 0x3218 else 0x3219
def classCode (f : Nat) : Nat := if pfOf f = 0 then 0x120000 else 0x010802

/-- A dword of configuration space: identity, Command and class are the manual's; the others are the implementation's. -/
def State.cfgRead (s : State) (f reg : Nat) : Nat :=
  if reg = 0 then deviceId f * 2 ^ 16 + Config.vendorId % 2 ^ 16
  else if reg = 1 then ofBool (s.fn f).mse * 2 + ofBool (s.fn f).bme * 4
  else if reg = 2 then classCode f * 256 + 0xB0
  else Config.cfgSpace f reg % 2 ^ 32

/-- What a configuration write changes. -/
def State.cfgWrite (s : State) (f : Nat) : CfgReq → State
  | .read _ => s
  | .mse on => s.modFn f (fun x => { x with mse := on })
  | .pmeEn on => s.modFn f (fun x => { x with pmeEn := on })
  | .fnMask on =>
    let s := s.modFn f (fun x => { x with fnMask := on })
    if on then s
    else
      let due := (s.fn f).pba
      due.foldl (fun s v => s.sendMsix f v) (s.modFn f (fun x => { x with pba := [] }))
  | .ats on =>
    let s := s.modFn f (fun x => { x with atsEnable := on })
    if on then s else s.modHost (fun h => { h with ats := h.ats.filter (fun e => decide (e.f ≠ f)) })

/-- A configuration request is served; during an FLR and until the endpoint is ready it completes with CRS; to a function
that is not there, with Unsupported Request (R476, R480). -/
def State.config (s : State) (f tag : Nat) (r : CfgReq) : State :=
  if !s.host.perstHigh then s
  else if !s.fnPresent f then s.unsupported f tag
  else if (s.fn f).flr ∨ !s.host.ready then s.emit (.completion f tag 2 false [])
  else
    match r with
    | .read reg => s.complete f tag (leBytes 4 (s.cfgRead f reg))
    | r => (s.cfgWrite f r).complete f tag []

def execConfigRequest (f tag : Nat) (r : CfgReq) (s : State) : Host.Outcome State Fault Refusal := .next (s.config f tag r)

/-! ### The HBM aperture (R461, R468, R499, R504) -/

/-- Functions with a BAR 2: PF0 and its VFs (R464). -/
def hasBar2 (f : Nat) : Bool := f = 0 || decide (2 ≤ f ∧ f < 65)

/-- Accesses of a frozen VF, or of one that is moved, are discarded (R499, R504). -/
def State.shutOut (s : State) (f : Nat) : Bool :=
  decide (2 ≤ f) && (s.flag (F.VFN_STS_FROZEN f) || (s.moving f && match Tab.find? s.host.moves f with | some m => m.source | none => false))

/-- The local address of a BAR 2 offset; none where its slot is not mapped (R468). -/
def State.aperture (s : State) (f off : Nat) : Option Nat :=
  (Tab.find? (s.fn f).slots (off / 2 ^ 30)).map (fun g => g * 2 ^ 30 + off % 2 ^ 30)

/-- A BAR 2 read (R38, R205, R468). -/
def State.barRead (s : State) (f tag off len : Nat) : State :=
  if !hasBar2 f ∨ !s.decodes f then s.unsupported f tag
  else if s.shutOut f then (s.count F.VFN_FROZEN_DISCARDS).complete f tag (List.replicate len 0)
  else match s.aperture f off with
    | none => (s.hole (fnMaster f) off false).unsupported f tag
    | some a =>
      let (s, bs, e) := s.dmaRead (fnMaster f) a len
      match e with
      | none => s.complete f tag bs
      | some (.hole _) => s.unsupported f tag
      | some (.ue _) =>
        ((s.count F.PCE_POISON_SENT).raise blkPce 18 (fnMaster f) 0 (a % 2 ^ 32)).emit
          (.completion f tag 0 true (List.replicate len 0))

def execBar2Read (f tag off len : Nat) (s : State) : Host.Outcome State Fault Refusal := .next (s.barRead f tag off len)

/-- A BAR 2 write (R38, R201, R203, R468). -/
def State.barWrite (s : State) (f off : Nat) (bs : List Byte) : State :=
  if !hasBar2 f ∨ !s.decodes f then s
  else if s.shutOut f then s.count F.VFN_FROZEN_DISCARDS
  else match s.aperture f off with
    | none => s.hole (fnMaster f) off true
    | some a => (s.dmaWrite (fnMaster f) a bs).1

def execBar2Write (f off : Nat) (bs : List Byte) (s : State) : Host.Outcome State Fault Refusal := .next (s.barWrite f off bs)

/-- The value that an AtomicOp leaves (R461). -/
def atomicNew (width old : Nat) : PcieAtomic → Nat
  | .fetchAdd v => (old + v) % 256 ^ width
  | .swap v => v % 256 ^ width
  | .cas c v => if old = c % 256 ^ width then v % 256 ^ width else old

/-- A BAR 2 AtomicOp: 32 or 64 bits, naturally aligned; it answers with the old value (R201, R461, R468). -/
def State.barAtomic (s : State) (f tag off width : Nat) (op : PcieAtomic) : State :=
  if !hasBar2 f ∨ !s.decodes f ∨ width = 16 ∨ off % width ≠ 0 then s.unsupported f tag
  else if s.shutOut f then (s.count F.VFN_FROZEN_DISCARDS).complete f tag (List.replicate width 0)
  else match s.aperture f off with
    | none => (s.hole (fnMaster f) off false).unsupported f tag
    | some a =>
      let (s, bs, e) := s.dmaRead (fnMaster f) a width
      match e with
      | none => (s.rmwStore a (leBytes width (atomicNew width (ofLe bs) op))).complete f tag bs
      | some (.hole _) => s.unsupported f tag
      | some (.ue _) =>
        ((s.count F.PCE_POISON_SENT).raise blkPce 18 (fnMaster f) 0 (a % 2 ^ 32)).emit
          (.completion f tag 0 true (List.replicate width 0))

def execBar2Atomic (f tag off width : Nat) (op : PcieAtomic) (s : State) : Host.Outcome State Fault Refusal :=
  .next (s.barAtomic f tag off width op)

/-! ### Reads of host memory (R469, R470, R475, R477) -/

/-- A completion without a request it belongs to is discarded, reported and logged (R477). -/
def State.unexpected (s : State) (f tag : Nat) : State :=
  let s := s.modFn f (fun x => { x with staleTags := x.staleTags.erase tag })
  ((s.count F.PCE_UNEXP_CPL).raise blkPce 17 (fnMaster f) tag f).emit (.pcie 4 f tag)

def execUnexpectedCompletion (f tag : Nat) (s : State) : Host.Outcome State Fault Refusal := .next (s.unexpected f tag)

/-- A read is over for its tag. -/
def State.dropRead (s : State) (f tag : Nat) : State :=
  s.modFn f (fun x => { x with reads := x.reads.filter (fun r => decide (r.tag ≠ tag)) })

/-- The unit of a read gets its bytes, or its failure (R291, R470, R471). -/
def State.readDone (s : State) (use : RdUse) (bs : Option (List Byte)) : State :=
  match use, bs with
  | .ctxRing c, some bs => s.descArrived c (ofLe bs)
  | .ctxRing c, none => s.descFailed c

/-- Bytes of a read arrive by offset. -/
def gather (got : Tab Byte) (off : Nat) (bs : List Byte) : Tab Byte :=
  (bs.zipIdx).foldl (fun g b => Tab.set g (off + b.2) b.1) got

/-- A completion for a master read: reassembled by tag and offset; with the last byte the unit gets them; one with an error
or for a request that was stopped ends it (R469, R475). -/
def State.readAnswer (s : State) (f tag off : Nat) (bs : List Byte) (ok : Bool) : State :=
  match (s.fn f).reads.find? (fun r => decide (r.tag = tag)) with
  | none => s.unexpected f tag
  | some r =>
    let got := gather r.got off (bs.take (r.len - off))
    let whole := decide (r.len ≤ got.length)
    if r.dropped then
      let s := s.count F.PCE_BME_DISCARD
      if whole ∨ !ok then s.dropRead f tag
      else s.modFn f (fun x => { x with reads := x.reads.map (fun q => if q.tag = tag then { q with got := got } else q) })
    else if !ok then (s.dropRead f tag).readDone r.use none
    else if whole then (s.dropRead f tag).readDone r.use (some ((List.range r.len).map (fun i => Tab.getD got i 0)))
    else s.modFn f (fun x => { x with reads := x.reads.map (fun q => if q.tag = tag then { q with got := got } else q) })

def execReadCompletion (f tag off : Nat) (bs : List Byte) (ok : Bool) (s : State) : Host.Outcome State Fault Refusal :=
  .next (s.readAnswer f tag off bs ok)

/-- A read reaches its completion timeout: an error toward its unit, counted; its tag stays reserved. During an FLR it is
not reported (R470, R476). -/
def State.readTimeout (s : State) (f tag : Nat) : State :=
  match (s.fn f).reads.find? (fun r => decide (r.tag = tag)) with
  | none => s
  | some r =>
    let s := (s.dropRead f tag).modFn f (fun x => { x with staleTags := x.staleTags ++ [tag] })
    if (s.fn f).flr then s
    else
      let s := (s.count F.PCE_CPL_TIMEOUT).raise blkPce 16 (fnMaster f) tag f
      if r.dropped then s else s.readDone r.use none

def execCompletionTimeout (f tag : Nat) (s : State) : Host.Outcome State Fault Refusal := .next (s.readTimeout f tag)

/-! ### ATS (R471) -/

/-- An entry or a read is hit by an invalidation. -/
def AtsInv.hits (i : AtsInv) (f pasid page : Nat) : Bool :=
  f = i.f && (match i.pasid with | none => true | some p => decide (pasid = p)) && decide (i.page ≤ page ∧ page < i.page + i.pages)

/-- An Invalidate Request: matching entries serve no new use; the reads that used them are noted. -/
def State.atsInvalidate (s : State) (f : Nat) (pasid : Option Nat) (page pages : Nat) : State :=
  let i : AtsInv := ⟨f, pasid, page, pages, []⟩
  let tags := ((s.fn f).reads.filter (fun r => (pagesOf r.iova r.len).any (i.hits f r.pasid))).map (·.tag)
  s.modHost (fun h => { h with
    ats := h.ats.filter (fun e => !i.hits e.f e.pasid e.page), atsInv := h.atsInv ++ [{ i with tags := tags }] })

def execAtsInvalidate (f : Nat) (pasid : Option Nat) (page pages : Nat) (s : State) : Host.Outcome State Fault Refusal :=
  .next (s.atsInvalidate f pasid page pages)

/-- The uses of the oldest invalidation of a function have drained: the Invalidate Completion is sent (R471). -/
def State.atsDone (s : State) (f : Nat) : State :=
  match s.host.atsInv.find? (fun i => i.f = f && i.tags.all (fun t => (s.fn f).reads.all (fun r => decide (r.tag ≠ t)))) with
  | none => s
  | some i => ((s.modHost (fun h => { h with atsInv := h.atsInv.erase i })).count F.PCE_ATS_INV).emit (.pcie 2 f i.page)

def execAtsInvalidateDone (f : Nat) (s : State) : Host.Outcome State Fault Refusal := .next (s.atsDone f)

/-! ### Events and MSI-X (R467, R472 to R474) -/

/-- Events held are written in their order (R475). -/
def State.writeHeld (s : State) (f : Nat) : State :=
  let held := (s.fn f).held
  held.foldl (fun s e => s.postEvent f e) (s.modFn f (fun x => { x with held := [] }))

def execEventConsumerDoorbell (m : Master) (f v : Nat) (s : State) : Host.Outcome State Fault Refusal :=
  .next (s.consumerDoorbell m f v)

/-- The moderation timer expires: one message for each vector that waits (R474). -/
def State.moderationEnd (s : State) (f : Nat) : State :=
  let l := (s.fn f).modPend
  l.foldl (fun s v => s.sendMsix f v) (s.modFn f (fun x => { x with modPend := [] }))

def execMsixModerationExpiry (f : Nat) (s : State) : Host.Outcome State Fault Refusal := .next (s.moderationEnd f)

/-- A vector's entry is written with its mask clear: its pending message is sent (R474). -/
def State.msixUnmask (s : State) (f vec addr data : Nat) : State :=
  let due := vec ∈ (s.fn f).pba
  let s := s.modFn f (fun x => { x with msix := Tab.set x.msix vec ⟨addr, data, false⟩ })
  if due then (s.modFn f (fun x => { x with pba := x.pba.erase vec })).sendMsix f vec else s

def execMsixUnmask (f vec addr data : Nat) (s : State) : Host.Outcome State Fault Refusal :=
  .next (s.msixUnmask f vec addr data)

/-! ### Bus Master Enable (R475) -/

/-- The controller of a function, where it has one (R513). -/
def fnCtrl (f : Nat) : Option Nat := if f = 1 then some 1 else if 65 ≤ f then some (f - 63) else none

/-- A function stops issuing requests: outstanding reads are only waited for, and their contexts fail; NVMe commands that
need the host end, and completion entries not written are discarded (R475, R534). -/
def State.stopMaster (s : State) (f : Nat) : State :=
  let live := (s.fn f).reads.filter (fun r => !r.dropped)
  let s := s.modFn f (fun x => { x with reads := x.reads.map (fun r => { r with dropped := true }) })
  let s := live.foldl (fun s r => s.readDone r.use none) s
  match fnCtrl f with
  | none => s
  | some c =>
    let mine := s.store.cmds.filter (fun p => decide (p.2.ctrl = c ∧ p.2.op = 2))
    let s := mine.foldl (fun s p => s.cutCmd p.1 nvTransfer) s
    s.modCtrl c (fun y => { y with cqs := y.cqs.map (fun q => (q.1, { q.2 with held := [] })) })

/-- A function may issue requests again: held events are written, and pending messages sent (R475). -/
def State.startMaster (s : State) (f : Nat) : State :=
  if !s.busMaster f then s
  else
    let s := s.writeHeld f
    let due := (s.fn f).pba
    due.foldl (fun s v => s.sendMsix f v) (s.modFn f (fun x => { x with pba := [] }))

def State.bmeClear (s : State) (f : Nat) : State :=
  if (s.fn f).bme then (s.modFn f (fun x => { x with bme := false })).stopMaster f else s

def State.bmeSet (s : State) (f : Nat) : State := (s.modFn f (fun x => { x with bme := true })).startMaster f

def execBmeClear (f : Nat) (s : State) : Host.Outcome State Fault Refusal := .next (s.bmeClear f)
def execBmeSet (f : Nat) (s : State) : Host.Outcome State Fault Refusal := .next (s.bmeSet f)

/-! ### Function-level reset (R476, R500, R501) -/

/-- An FLR begins: the function stops issuing requests, and events from now on are lost until a ring is set again (R476,
R500). -/
def State.flrStart (s : State) (f : Nat) : State :=
  if (s.fn f).flr ∨ !s.fnPresent f then s
  else
    let s := (s.modFn f (fun x => { x with flr := true, ring := none, held := [], lost := 0, modPend := [] })).stopMaster f
    let s := if f = 0 then s.endSession 0 else s
    if 2 ≤ f then s.count F.VFN_VF_FLRS else s

def execFlr (f : Nat) (s : State) : Host.Outcome State Fault Refusal := .next (s.flrStart f)

/-- A context of a function that was reset enters ERROR with ENDPOINT_STATE and awaits its reset (R476). -/
def State.flrCtx (s : State) (c : Nat) : State :=
  (s.modCtx c (fun x => { x with
    st := .error, wait := none, fetched := [], errCode := ceEndpointState, errOp := 0, errIndex := x.consumer, errRemote := 0 })).modHost
    (fun h => { h with flrCtx := if c ∈ h.flrCtx then h.flrCtx else h.flrCtx ++ [c] })

/-- The state of one function is reset: MSI-X, event ring, mailbox, slot mappings, cipher rings, partitions, contexts and NVMe
controller; its migration ends; allocation, pages, bindings, seals and FROZEN stay (R476, R500, R501, R534). -/
def State.flrState (s : State) (f : Nat) : State :=
  let s := s.moveFlr f
  let ctxs := s.ctxsOwned f
  let parts := s.partsOwned f
  let rings := (s.trust.rings.filter (fun r => decide (r.2.owner ∈ s.ownersOf f))).map (·.1)
  let s := rings.foldl State.ringFree s
  let s := parts.foldl State.partOff s
  let s := ctxs.foldl State.flrCtx s
  let s := match fnCtrl f with | some c => s.ctrlReset c | none => s
  s.modFn f (fun x => { Fn.init with
    staleTags := x.staleTags ++ x.reads.map (·.tag), lost := x.lost, dstate := x.dstate, pmeEn := x.pmeEn })

/-- VF Enable of a PF is cleared: each VF is reset and becomes ABSENT (R476, R490). -/
def State.vfsAbsent (s : State) (pf : Nat) : State :=
  let s := (vfsOf pf).foldl (fun s f => if s.fnPresent f then (s.flrState f).setFld (F.VFN_STS_STATE f) vfAbsent else s) s
  s.modHost (fun h => if pf = 0 then { h with vfEnable0 := false } else { h with vfEnable1 := false })

/-- The FLR completes once the outstanding reads have ended or 90 ms have passed (R476). -/
def State.flrEnd (s : State) (f : Nat) (late : Bool) : State :=
  if !(s.fn f).flr ∨ ((s.fn f).reads ≠ [] ∧ !late) then s
  else
    let s := s.flrState f
    let s := if f < 2 then s.vfsAbsent f else s
    s.emit (.pcie 3 f 0)

def execFlrResetState (f : Nat) (late : Bool) (s : State) : Host.Outcome State Fault Refusal := .next (s.flrEnd f late)

/-- Once a context's outstanding messages have ended, firmware resets it to message ID 0 (R476). -/
def State.ctxFlrReset (s : State) (c : Nat) : State :=
  if c ∈ s.host.flrCtx ∧ (s.ctx c).msgs = [] then
    (s.ctxReset c 0).modHost (fun h => { h with flrCtx := h.flrCtx.erase c })
  else s

def execCtxFlrReset (c : Nat) (s : State) : Host.Outcome State Fault Refusal := .next (s.ctxFlrReset c)

/-! ### Power states and readiness (R478 to R480) -/

/-- A PF moves between D0, D3hot and D3cold; its VFs follow (R478). -/
def State.powerState (s : State) (f d : Nat) : State :=
  let old := (s.fn f).dstate
  let fs := f :: vfsOf f
  if old = d then s
  else
    let s := if old = 0 then fs.foldl (fun s g => s.stopMaster g) s else s
    let s := s.modFn f (fun x => { x with dstate := d })
    if d = 0 then fs.foldl (fun s g => s.startMaster g) s
    else if fs.any (fun g => decide ((s.fn g).held ≠ [])) then s.wake f
    else s

def execPowerStateChange (f d : Nat) (s : State) : Host.Outcome State Fault Refusal := .next (s.powerState f d)

/-- PERST_N, a hot reset or a link disable: an FLR of both PFs and every VF at once, and nothing else (R479). -/
def State.perstOn (s : State) : State :=
  let s := s.modHost (fun h => { h with perstHigh := false, ready := false, ats := [], atsInv := [] })
  let s := [0, 1].foldl (fun s f => (((s.flrStart f).flrState f).vfsAbsent f)) s
  (s.setFlag F.PCE_LINK_STS_READY false).setReg F.PCE_LINK_STS_STATE.off 0

def execPerstAssert (s : State) : Host.Outcome State Fault Refusal := .next s.perstOn

/-- PERST_N is deasserted: WAKE_N is released and link training starts (R478, R480). -/
def State.perstOff (s : State) : State :=
  if s.host.perstHigh then s
  else
    let s := s.modHost (fun h => { h with perstHigh := true })
    let s := [0, 1].foldl (fun s f => s.modFn f (fun x => { x with dstate := 0 })) s
    (s.setFld F.PCE_LINK_STS_STATE 1).emit (.pcie 6 0 0)

def execPerstDeassert (s : State) : Host.Outcome State Fault Refusal := .next s.perstOff

/-- The endpoint is ready: the module in SERVICE, READY or QUIESCED, and no FLR under way; a Device Readiness Status is sent
(R480). -/
def State.endpointUp (s : State) : State :=
  let st := s.fld F.MOD_STS_STATE
  if !s.host.perstHigh ∨ s.host.ready ∨ st < 5 ∨ 7 < st ∨ (s.fn 0).flr ∨ (s.fn 1).flr then s
  else ((s.modHost (fun h => { h with ready := true })).setFlag F.PCE_LINK_STS_READY true).emit (.pcie 0 0 0)

def execEndpointReady (s : State) : Host.Outcome State Fault Refusal := .next s.endpointUp

/-- The PCIe link changes: PCE_LINK_STS shows it; leaving L0 or L1 other than through a reset or a recovery sets LINK_DOWN
(R481, R483). -/
def State.linkChange (s : State) (st speed width : Nat) (flit : Bool) : State :=
  let old := s.fld F.PCE_LINK_STS_STATE
  let down := (old = 2 ∨ old = 3) ∧ (st = 0 ∨ st = 1)
  let s := (s.setFld F.PCE_LINK_STS_STATE st).setFld F.PCE_LINK_STS_SPEED speed
  let s := (s.setFld F.PCE_LINK_STS_WIDTH width).setFlag F.PCE_LINK_STS_FLIT flit
  if down then s.raise blkPce 21 Master.noMaster F.PCE_LINK_STS_STATE.off else s

def execEndpointLinkChange (state speed width : Nat) (flit : Bool) (s : State) : Host.Outcome State Fault Refusal :=
  .next (s.linkChange state speed width flit)

end Sys2Proof.Machine
end

