-- ==== Sys2Proof/Machine/Trust.lean ====
section
/-!
DEFINITION. Attestation and secure sessions (R451 to R453), tenant binding, keys and seals (R432 to R441), and PCIe IDE
(R454, R455). SPDM message codes are those of SPDM 1.2 (PRESUMED: the spec names the messages).
-/
namespace Sys2Proof.Machine

/-! ### Responses (R451) -/

/-- Bytes of one chunk of a response. -/
def chunkBytes : Nat := 4096

/-- A response: what a requester may fetch in chunks is the last one. -/
def State.spdmSay (s : State) (req code : Nat) (bs : List Byte) : State :=
  (s.modTrust (fun t => { t with chunks := Tab.set t.chunks (2 * req + 1) bs })).emit (.spdm req code bs)

/-- Error codes of an ERROR response. -/
def spdmInvalid : Nat := 0x01
def spdmInvalidSession : Nat := 0x02
def spdmUnexpected : Nat := 0x04
def spdmDecrypt : Nat := 0x06
def spdmUnsupportedErr : Nat := 0x07
def spdmSessionLimit : Nat := 0x0A

def State.spdmError (s : State) (req code : Nat) : State := s.emit (.spdm req 0x7F (leBytes 1 code))

def State.conn (s : State) (req : Nat) : Nat := Tab.getD s.trust.conns req 0
def State.setConn (s : State) (req v : Nat) : State := s.modTrust (fun t => { t with conns := Tab.set t.conns req v })

/-- A request after the connection's negotiation; before it, it is unexpected. -/
def State.negotiated (s : State) (req : Nat) (f : State → State) : State :=
  if s.conn req < 3 then s.spdmError req spdmUnexpected else f s

/-- GET_VERSION starts a connection anew: SPDM 1.2. -/
def State.spdmVersion (s : State) (req : Nat) : State := (s.setConn req 1).spdmSay req 0x04 [0x00, 0x12]

/-- The capabilities of R451: CERT, CHAL, MEAS with signature, MEAS_FRESH, KEY_EX, ENCRYPT, MAC, MUT_AUTH, HBEAT, KEY_UPD,
CHUNK. -/
def spdmCaps : Nat := 2 ^ 1 + 2 ^ 2 + 2 * 2 ^ 3 + 2 ^ 5 + 2 ^ 6 + 2 ^ 7 + 2 ^ 8 + 2 ^ 9 + 2 ^ 13 + 2 ^ 14 + 2 ^ 17

def State.spdmCapabilities (s : State) (req : Nat) : State :=
  if s.conn req = 0 then s.spdmError req spdmUnexpected else (s.setConn req 2).spdmSay req 0x61 (leBytes 4 spdmCaps)

/-- The module selects from what is offered the only algorithms it has (R451). -/
def State.spdmAlgorithms (s : State) (req asym hash meas dhe aead reqAsym : Nat) : State :=
  if s.conn req < 2 then s.spdmError req spdmUnexpected
  else
    (s.setConn req 3).spdmSay req 0x63
      (leBytes 4 (asym &&& 0x80) ++ leBytes 4 (hash &&& 2) ++ leBytes 1 (meas &&& 4) ++ leBytes 2 (dhe &&& 0x10) ++
        leBytes 2 (aead &&& 2) ++ leBytes 2 (reqAsym &&& 0x80) ++ leBytes 2 1)

/-! ### Identity and measurements (R452, R453) -/

/-- A measurement as last computed; all zero where there is none (R452). -/
def State.measure (s : State) (i : Nat) : List Nat := Tab.getD s.trust.measures i (List.replicate 48 0)

/-- The certificate chain of slot 0: it follows from measurement 2 (R453). -/
def State.certs (s : State) : List Byte := Config.certChain (ofLeNats (s.measure 2))

/-- What the security configuration comprises: 0x5010 and the IDE policy (R452). -/
def State.secConfig (s : State) : List Nat :=
  leNats 4 (s.dictVal 0x5010 1 0) ++ natsOf (Tab.getD s.dict (dictKey 0x5010 2) []) ++
    s.trust.ide.flatMap (fun p => [p.1, p.2.keySet, ofBool p.2.secure] ++ p.2.fns)

/-- Measurement 6 is recomputed with each change of the security configuration (R452). -/
def State.measureSecurity (s : State) : State :=
  s.modTrust (fun t => { t with measures := Tab.set t.measures 6 (natsOf (Config.measurement 6 s.secConfig)) })

/-- Measurement 0x10 + p changes at each create, seal or unseal: the images, the seal and the bound key (R452). -/
def State.measurePart (s : State) (p : Nat) : State :=
  let key := (Tab.find? s.trust.binds (s.fld (F.MOD_PART_CFG_OWNER p))).getD []
  let content := Tab.getD s.trust.images p [] ++ [ofBool (s.flag (F.MOD_PART_CFG_SEALED p))] ++ natsOf key
  s.modTrust (fun t => { t with measures := Tab.set t.measures (0x10 + p) (natsOf (Config.measurement (0x10 + p) content)) })

/-- The indices of R452. -/
def measureIndices : List Nat := (List.range 7).map (· + 1) ++ (List.range 16).map (· + 0x10)

/-- A measurement block of the DMTF format with a SHA-384 digest. -/
def State.measureBlock (s : State) (i : Nat) : List Byte :=
  leBytes 1 i ++ leBytes 1 1 ++ leBytes 2 51 ++ leBytes 1 (Config.measType i) ++ leBytes 2 48 ++
    bytesOf (s.measure i)

/-- GET_DIGESTS: the digest of slot 0. -/
def State.spdmDigests (s : State) (req : Nat) : State :=
  s.negotiated req (fun s => s.spdmSay req 0x01 ([0x01] ++ bytesOf (sha384 (natsOf s.certs))))

/-- GET_CERTIFICATE: a portion of slot 0's chain, with the bytes that remain. -/
def State.spdmCertificate (s : State) (req slot off len : Nat) : State :=
  s.negotiated req (fun s =>
    if slot ≠ 0 ∨ (s.certs.length ≤ off ∧ off ≠ 0) then s.spdmError req spdmInvalid
    else
      let part := (s.certs.drop off).take len
      s.spdmSay req 0x02 (leBytes 2 part.length ++ leBytes 2 (s.certs.length - off - part.length) ++ part))

/-- CHALLENGE: a signature over the requester's nonce and the chain's digest, with a nonce of the module. -/
def State.spdmChallenge (s : State) (req slot : Nat) (nonce : List Byte) : State :=
  s.negotiated req (fun s =>
    if slot ≠ 0 then s.spdmError req spdmInvalid
    else
      let body := bytesOf (sha384 (natsOf s.certs)) ++ leBytes 32 s.freeNat
      (s.drew).spdmSay req 0x03 (body ++ Config.sign (natsOf (nonce ++ body))))

/-- GET_MEASUREMENTS: 0 asks for their number, 0xFF for all, another value for one block; signed with the Alias key (R452). -/
def State.spdmMeasurements (s : State) (req op : Nat) (signed : Bool) (nonce : List Byte) : State :=
  s.negotiated req (fun s =>
    if op ≠ 0 ∧ op ≠ 0xFF ∧ op ∉ measureIndices then s.spdmError req spdmInvalid
    else
      let sel := if op = 0 then [] else if op = 0xFF then measureIndices else [op]
      let blocks := sel.flatMap s.measureBlock
      let body := leBytes 1 (if op = 0 then measureIndices.length else sel.length) ++ leBytes 3 blocks.length ++ blocks ++
        leBytes 32 s.freeNat
      (s.drew).spdmSay req 0x60 (body ++ if signed then Config.sign (natsOf (nonce ++ body)) else []))

/-! ### Sessions (R451) -/

def maxSessions : Nat := 64

def State.session (s : State) (id : Nat) : Option Session := Tab.find? s.trust.sessions id

/-- SPDM_SESSIONS of 0x5001:01. -/
def State.openSessions (s : State) : Nat := s.trust.sessions.length

/-- The lowest responder half of a session ID that no session has. -/
def State.freeRspId (s : State) : Nat :=
  ((List.range 65).find? (fun r => s.trust.sessions.all (fun p => decide (p.1 / 2 ^ 16 ≠ r)))).getD 64

/-- KEY_EXCHANGE opens a session, up to 64; the secret is what the exchange agreed on (R451). -/
def State.spdmKeyExchange (s : State) (req reqId : Nat) (secret : List Byte) : State :=
  s.negotiated req (fun s =>
    if maxSessions ≤ s.openSessions then s.spdmError req spdmSessionLimit
    else
      let rsp := s.freeRspId
      let id := reqId % 2 ^ 16 + rsp * 2 ^ 16
      let s := s.modTrust (fun t => { t with sessions := Tab.set t.sessions id ⟨req, none, false, natsOf secret⟩ })
      s.spdmSay req 0x64 (leBytes 2 rsp ++ Config.sign (natsOf secret)))

/-- FINISH: with the requester's verified key where it authenticated; a check that fails ends the session. -/
def State.spdmFinish (s : State) (id : Nat) (key : Option (List Byte)) (ok : Bool) : State :=
  match s.session id with
  | none => s.emit (.spdm 0 0x7F (leBytes 1 spdmInvalidSession))
  | some x =>
    if x.finished then s.spdmError x.req spdmUnexpected
    else if !ok then (s.modTrust (fun t => { t with sessions := Tab.erase t.sessions id })).spdmError x.req spdmDecrypt
    else
      (s.modTrust (fun t => { t with sessions := Tab.set t.sessions id { x with finished := true, key := key } })).spdmSay
        x.req 0x65 []

/-- A request inside a finished session. -/
def State.inSession (s : State) (id : Nat) (f : State → Session → State) : State :=
  match s.session id with
  | none => s.emit (.spdm 0 0x7F (leBytes 1 spdmInvalidSession))
  | some x => if x.finished then f s x else s.spdmError x.req spdmUnexpected

def State.spdmHeartbeat (s : State) (id : Nat) : State := s.inSession id (fun s x => s.spdmSay x.req 0x68 [])

/-- KEY_UPDATE: operations 1 to 3. -/
def State.spdmKeyUpdate (s : State) (id op : Nat) : State :=
  s.inSession id (fun s x => if 1 ≤ op ∧ op ≤ 3 then s.spdmSay x.req 0x69 (leBytes 1 op) else s.spdmError x.req spdmInvalid)

def State.spdmEnd (s : State) (id : Nat) : State :=
  s.inSession id (fun s x =>
    (s.modTrust (fun t => { t with sessions := Tab.erase t.sessions id })).spdmSay x.req 0x6C [])

/-! ### Chunks (R451) -/

/-- CHUNK_SEND: chunk 0 starts a message, each later one extends it. -/
def State.spdmChunkSend (s : State) (req seq : Nat) (last : Bool) (bs : List Byte) : State :=
  s.negotiated req (fun s =>
    let got := if seq = 0 then [] else Tab.getD s.trust.chunks (2 * req) []
    if got.length ≠ seq * chunkBytes ∨ (!last && decide (bs.length ≠ chunkBytes)) then s.spdmError req spdmInvalid
    else
      (s.modTrust (fun t => { t with chunks := Tab.set t.chunks (2 * req) (got ++ bs) })).emit (.spdm req 0x05 (leBytes 2 seq)))

/-- CHUNK_GET: a piece of the last response. -/
def State.spdmChunkGet (s : State) (req seq : Nat) : State :=
  s.negotiated req (fun s =>
    let whole := Tab.getD s.trust.chunks (2 * req + 1) []
    if whole.length ≤ seq * chunkBytes then s.spdmError req spdmInvalid
    else
      let part := (whole.drop (seq * chunkBytes)).take chunkBytes
      s.emit (.spdm req 0x06 (leBytes 1 (ofBool (decide (whole.length ≤ (seq + 1) * chunkBytes))) ++ leBytes 2 seq ++ part)))

/-! ### Vendor-defined requests (R440, R441) -/

def vsDone : Nat := 0
def vsRefused : Nat := 1
def vsWrapFail : Nat := 2
def vsBadType : Nat := 3
def vsNoPage : Nat := 4
def vsDuplicate : Nat := 5

def State.vendorSay (s : State) (req outcome : Nat) (bs : List Byte) : State :=
  s.spdmSay req 0x7E (Config.vendorStatus outcome :: bs)

/-- A vendor request of a requester that authenticated with its own key (R440). -/
def State.tenant (s : State) (id : Nat) (f : State → Session → List Byte → State) : State :=
  s.inSession id (fun s x => match x.key with | some k => f s x k | none => s.vendorSay x.req vsRefused [])

/-- An OWNER is bound to a key. -/
def State.boundTo (s : State) (owner : Nat) (k : List Byte) : Bool := decide (Tab.find? s.trust.binds owner = some k)

/-- BIND: refused where the OWNER is bound to another key (R440). -/
def State.tenantBind (s : State) (id owner : Nat) : State :=
  s.tenant id (fun s x k =>
    match Tab.find? s.trust.binds owner with
    | some k' => s.vendorSay x.req (if k' = k then vsDone else vsRefused) []
    | none => (s.modTrust (fun t => { t with binds := Tab.set t.binds owner k })).vendorSay x.req vsDone [])

/-- Every other request is refused unless its OWNER is bound to the requester's key (R440). -/
def State.tenantOf (s : State) (id owner : Nat) (f : State → Session → State) : State :=
  s.tenant id (fun s x k => if s.boundTo owner k then f s x else s.vendorSay x.req vsRefused [])

/-- A page is FREE and among those of an owner (R437, R441). -/
def State.pageFreeFor (s : State) (owner i : Nat) : Bool :=
  decide (s.pageSt i = pageFree) && decide (Tab.getD s.host.pools.keys i .pool = s.ownerPlace owner)

/-- A TYPE with usage bits it allows (R439). -/
def typeOk (typ usage : Nat) : Bool := decide (typ ≤ 3) && decide (usage &&& typeUsage typ = usage) && decide (usage ≠ 0)

/-- KEY_IMPORT: the wrapped key is unwrapped and loaded, or refused with the page left FREE (R441). -/
def State.tenantImport (s : State) (id owner page typ usage : Nat) (sealedOnly : Bool) (wrapped : List Byte) : State :=
  s.tenantOf id owner (fun s x =>
    match kwUnwrap (tnImport x.secret id page owner) (natsOf wrapped) with
    | none => s.vendorSay x.req vsWrapFail []
    | some key =>
      if !typeOk typ usage ∨ key.length ≠ typeBytes typ then s.vendorSay x.req vsBadType []
      else if !s.pageFreeFor owner page then s.vendorSay x.req vsNoPage []
      else if s.trust.pages.any (fun p => decide (p.2.key = key ∧ s.pageSt p.1 = pageLoaded)) then s.vendorSay x.req vsDuplicate []
      else (s.loadPage page owner typ usage sealedOnly key).vendorSay x.req vsDone [])

/-- KEY_DERIVE: the child of a LOADED derivation key goes into a FREE page of the same owner (R439, R440). -/
def State.tenantDerive (s : State) (id owner page child typ usage : Nat) (ctx : List Byte) : State :=
  s.tenantOf id owner (fun s x =>
    if s.pageSt page ≠ pageLoaded ∨ s.fld (F.KEY_PAGE_STS_TYPE page) ≠ 3 ∨ s.fld (F.KEY_PAGE_STS_OWNER page) ≠ owner ∨
        !s.pageUse page useKdf then s.vendorSay x.req vsRefused []
    else if !typeOk typ usage then s.vendorSay x.req vsBadType []
    else if !s.pageFreeFor owner child then s.vendorSay x.req vsNoPage []
    else
      let key := tnChild (s.page page).key (natsOf ctx) (8 * typeBytes typ)
      (s.loadPage child owner typ usage (s.flag (F.KEY_PAGE_STS_SEALED_ONLY page)) key).vendorSay x.req vsDone [])

/-- KEY_RELEASE (R438, R440). -/
def State.tenantRelease (s : State) (id page : Nat) : State :=
  s.tenantOf id (s.fld (F.KEY_PAGE_STS_OWNER page)) (fun s x =>
    if s.pageSt page = pageLoaded ∨ s.pageSt page = pageQuarantined then ((s.releasePage page).pageLeft page).vendorSay x.req vsDone []
    else s.vendorSay x.req vsRefused [])

/-- KEY_QUERY: STATE, TYPE, usage and OWNER of the owner's pages (R440). -/
def State.tenantQuery (s : State) (id owner : Nat) : State :=
  s.tenantOf id owner (fun s x =>
    let mine := s.trust.pages.filter (fun p => decide (s.fld (F.KEY_PAGE_STS_OWNER p.1) = owner))
    s.vendorSay x.req vsDone
      (mine.flatMap (fun p => leBytes 2 p.1 ++ leBytes 4 (s.reg (F.KEY_PAGE_STS_STATE p.1).off).toNat)))

/-- Jobs under way on a page. -/
def State.pageBusy (s : State) (i : Nat) : Bool := s.trust.rings.any (fun r => r.2.jobs.any (fun j => decide (j.page = some i)))

/-- The last job on a ZEROISING page has ended: the page is zeroed and FREE (R438). -/
def State.zeroiseDone (s : State) (i : Nat) : State :=
  if s.pageSt i = pageZeroising ∧ !s.pageBusy i then s.freePage i else s

/-! ### Sealing (R432 to R434) -/

/-- The granules of a partition. -/
def State.partGranules (s : State) (p : Nat) : List Nat := Tab.getD s.host.pools.partGran p []

def State.partTiles (s : State) (p : Nat) : List Nat := maskTiles (s.fld (F.MOD_PART_TILES_TILES p))

/-- Granules are zeroed by a zeroing scrub (R209). -/
def State.zeroGranules (s : State) (gs : List Nat) : State :=
  gs.foldl (fun s g => s.zeroRange (granuleRange g).1 (granuleRange g).2) s

def State.zeroCarrels (s : State) (ts : List Nat) : State := ts.foldl (fun s t => s.zeroRange (carrelAddr t 0) carrelSize) s

/-- Every BAR 2 mapping of some granules is removed (R433). -/
def State.unmapGranules (s : State) (gs : List Nat) : State :=
  s.modHost (fun h => { h with fns := h.fns.map (fun p => (p.1, { p.2 with slots := p.2.slots.filter (fun x => decide (x.2 ∉ gs)) })) })

/-- A partition is sealed, in the steps of R433. -/
def State.sealPart (s : State) (p : Nat) : State :=
  let gs := s.partGranules p
  let s := ((s.unmapGranules gs).zeroGranules gs).zeroCarrels (s.partTiles p)
  let s := s.setFlag (F.MOD_PART_CFG_SEALED p) true
  (s.modTrust (fun t => { t with sealed := gs.foldl (fun t g => Tab.set t g p) t.sealed })).measurePart p

/-- The resources of a sealed context are cleared in full (R434): granules, carrels, tiles with their cores, contexts with
SECURE set, and key pages. -/
def State.clearSealed (s : State) (p : Nat) : State :=
  let ts := s.partTiles p
  let s := (s.zeroGranules (s.partGranules p)).zeroCarrels ts
  let s := ts.foldl State.tileResetNow s
  let ctxs := (s.gma.ctxs.filter (fun c => decide (c.2.owner = partOwner p) && c.2.secure)).map (·.1)
  let s := ctxs.foldl State.ctxFree s
  let pages := (s.trust.pages.filter (fun k => decide (s.fld (F.KEY_PAGE_STS_OWNER k.1) = partOwner p))).map (·.1)
  pages.foldl (fun s i => (s.freePage i).pageLeft i) s

/-- The mark of a sealed context is removed (R434, R440). -/
def State.unsealPart (s : State) (p : Nat) : State :=
  let s := (s.clearSealed p).setFlag (F.MOD_PART_CFG_SEALED p) false
  (s.modTrust (fun t => { t with sealed := t.sealed.filter (fun g => decide (g.2 ≠ p)) })).measurePart p

/-- The OWNER by which a tenant names a partition: the partition's own, or the function that owns it. -/
def State.sealOwner (s : State) (p : Nat) : Nat :=
  if (Tab.find? s.trust.binds (partOwner p)).isSome then partOwner p else s.fld (F.MOD_PART_CFG_OWNER p)

/-- SEAL and UNSEAL of a partition of a bound OWNER (R440). -/
def State.tenantSeal (s : State) (id p : Nat) (on : Bool) : State :=
  s.tenantOf id (s.sealOwner p) (fun s x =>
    if s.fld (F.MOD_PART_TILES_TILES p) = 0 ∨ s.flag (F.MOD_PART_CFG_SEALED p) = on then s.vendorSay x.req vsRefused []
    else (if on then s.sealPart p else s.unsealPart p).vendorSay x.req vsDone [])

/-! ### PCIe IDE (R454, R455) -/

/-- The DOE mailbox of PF0, over which IDE_KM runs (R454). -/
def reqPf0Doe : Nat := 2

def State.ideStream (s : State) (n : Nat) : IdeStream := Tab.getD s.trust.ide n ⟨[], 0, false, []⟩

/-- Functions with state of their own, in routing order. -/
def allFns : List Nat := List.range 128

/-- An IDE stream changes; functions that become covered may issue requests again, and those that lose their cover act as
when Bus Master Enable is cleared; measurement 6 follows (R452, R455). -/
def State.setIde (s : State) (n : Nat) (x : IdeStream) : State :=
  let before := allFns.filter s.ideSecure
  let s := s.modTrust (fun t => { t with ide := Tab.set t.ide n x })
  let s := if n = 0 then s.setFlag F.PCE_LINK_STS_IDE_SECURE x.secure else s
  let s := allFns.foldl (fun s f =>
    if s.ideSecure f = decide (f ∈ before) then s else if f ∈ before then s.stopMaster f else s.startMaster f) s
  s.measureSecurity

/-- A covering stream leaves the secure state, with a security event (R455). -/
def State.ideInsecure (s : State) (n : Nat) : State :=
  let x := s.ideStream n
  if x.secure then (s.setIde n { x with secure := false }).secEvent fwOwner n 10 else s

/-- An IDE_KM message over a session on the PF0 DOE mailbox (R454). -/
def State.ideKm (s : State) (id : Nat) (op : IdeKm) : State :=
  s.inSession id (fun s x =>
    if x.req ≠ reqPf0Doe then s.vendorSay x.req vsRefused []
    else match op with
      | .prog n k key fns =>
        let y := s.ideStream n
        (s.setIde n { y with keys := Tab.set y.keys k key, fns := if n = 0 then [] else fns }).vendorSay x.req vsDone []
      | .go n k =>
        let y := s.ideStream n
        if (Tab.find? y.keys k).isSome then (s.setIde n { y with keySet := k, secure := true }).vendorSay x.req vsDone []
        else s.vendorSay x.req vsRefused []
      | .stop n k =>
        let y := s.ideStream n
        let s := if y.secure ∧ y.keySet = k then s.ideInsecure n else s
        s.vendorSay x.req vsDone [])

/-! ### The commands -/

/-- GET_VERSION (R451). -/
def execGetVersion (req : Nat) (s : State) : Host.Outcome State Fault Refusal := .next (s.lib (fun s => s.spdmVersion req))
/-- GET_CAPABILITIES (R451). -/
def execGetCapabilities (req : Nat) (s : State) : Host.Outcome State Fault Refusal := .next (s.lib (fun s => s.spdmCapabilities req))
/-- NEGOTIATE_ALGORITHMS (R451). -/
def execNegotiateAlgorithms (req asym hash meas dhe aead reqAsym : Nat) (s : State) : Host.Outcome State Fault Refusal := .next (s.lib (fun s => s.spdmAlgorithms req asym hash meas dhe aead reqAsym))
/-- GET_DIGESTS (R451). -/
def execGetDigests (req : Nat) (s : State) : Host.Outcome State Fault Refusal := .next (s.lib (fun s => s.spdmDigests req))
/-- GET_CERTIFICATE (R451). -/
def execGetCertificate (req slot off len : Nat) (s : State) : Host.Outcome State Fault Refusal := .next (s.lib (fun s => s.spdmCertificate req slot off len))
/-- CHALLENGE (R451). -/
def execChallenge (req slot : Nat) (nonce : List Byte) (s : State) : Host.Outcome State Fault Refusal := .next (s.lib (fun s => s.spdmChallenge req slot nonce))
/-- GET_MEASUREMENTS (R452). -/
def execGetMeasurements (req op : Nat) (signed : Bool) (nonce : List Byte) (s : State) : Host.Outcome State Fault Refusal := .next (s.lib (fun s => s.spdmMeasurements req op signed nonce))
/-- KEY_EXCHANGE (R451). -/
def execKeyExchange (req reqId : Nat) (secret : List Byte) (s : State) : Host.Outcome State Fault Refusal := .next (s.lib (fun s => s.spdmKeyExchange req reqId secret))
/-- FINISH (R451). -/
def execFinish (sess : Nat) (key : Option (List Byte)) (ok : Bool) (s : State) : Host.Outcome State Fault Refusal := .next (s.lib (fun s => s.spdmFinish sess key ok))
/-- HEARTBEAT (R451). -/
def execHeartbeat (sess : Nat) (s : State) : Host.Outcome State Fault Refusal := .next (s.lib (fun s => s.spdmHeartbeat sess))
/-- KEY_UPDATE (R451). -/
def execKeyUpdate (sess op : Nat) (s : State) : Host.Outcome State Fault Refusal := .next (s.lib (fun s => s.spdmKeyUpdate sess op))
/-- END_SESSION (R451). -/
def execEndSession (sess : Nat) (s : State) : Host.Outcome State Fault Refusal := .next (s.lib (fun s => s.spdmEnd sess))
/-- CHUNK_SEND (R451). -/
def execChunkSend (req seq : Nat) (last : Bool) (bs : List Byte) (s : State) : Host.Outcome State Fault Refusal := .next (s.lib (fun s => s.spdmChunkSend req seq last bs))
/-- CHUNK_GET (R451). -/
def execChunkGet (req seq : Nat) (s : State) : Host.Outcome State Fault Refusal := .next (s.lib (fun s => s.spdmChunkGet req seq))
/-- SPDM_UNSUPPORTED: an error response (R451). -/
def execSpdmUnsupported (req _code : Nat) (s : State) : Host.Outcome State Fault Refusal := .next (s.lib (fun s => s.spdmError req spdmUnsupportedErr))
/-- BIND (R440). -/
def execBind (sess owner : Nat) (s : State) : Host.Outcome State Fault Refusal := .next (s.tenantBind sess owner)
/-- KEY_IMPORT (R441). -/
def execKeyImport (sess owner page typ usage : Nat) (sealedOnly : Bool) (wrapped : List Byte) (s : State) : Host.Outcome State Fault Refusal := .next (s.tenantImport sess owner page typ usage sealedOnly wrapped)
/-- KEY_DERIVE (R440). -/
def execKeyDerive (sess owner page child typ usage : Nat) (ctx : List Byte) (s : State) : Host.Outcome State Fault Refusal := .next (s.tenantDerive sess owner page child typ usage ctx)
/-- KEY_RELEASE (R438). -/
def execKeyRelease (sess page : Nat) (s : State) : Host.Outcome State Fault Refusal := .next (s.tenantRelease sess page)
/-- KEY_QUERY (R440). -/
def execKeyQuery (sess owner : Nat) (s : State) : Host.Outcome State Fault Refusal := .next (s.tenantQuery sess owner)
/-- SEAL (R433). -/
def execSeal (sess p : Nat) (s : State) : Host.Outcome State Fault Refusal := .next (s.tenantSeal sess p true)
/-- UNSEAL (R440). -/
def execUnseal (sess p : Nat) (s : State) : Host.Outcome State Fault Refusal := .next (s.tenantSeal sess p false)
/-- KEY_ZEROISE_DONE (R438). -/
def execKeyZeroiseDone (i : Nat) (s : State) : Host.Outcome State Fault Refusal := .next (s.zeroiseDone i)
/-- IDE_KM_REQUEST (R454). -/
def execIdeKmRequest (sess : Nat) (op : IdeKm) (s : State) : Host.Outcome State Fault Refusal := .next (s.ideKm sess op)
/-- IDE_STREAM_INSECURE (R455). -/
def execIdeStreamInsecure (stream : Nat) (s : State) : Host.Outcome State Fault Refusal := .next (s.ideInsecure stream)

end Sys2Proof.Machine
end

