-- ==== Sys2Proof/Machine/Mailbox.lean ====
section
/-!
DEFINITION. The requests of the mailbox that concern a function's own objects (R287, R290, R313, R319, R325, R344, R345,
R446, R468, R472, R486, R492, R494).
-/
namespace Sys2Proof.Machine

/-- What a request comes to: an abort code with nothing changed, or the state it leaves and the body of its response. -/
inductive MbRes where
  | refuse (code : Nat)
  | ok (s : State) (body : List Byte)

/-- The functions a request may come from (R494). -/
inductive MbFrom where
  | any | pf0 | pf0Side
deriving DecidableEq, Repr

/-- PF0, or a VF of PF0. -/
def onPf0 (f : Nat) : Bool := decide (f = 0 ∨ (2 ≤ f ∧ f < 65))

def MbFrom.admits (w : MbFrom) (f : Nat) : Bool :=
  match w with
  | .any => true
  | .pf0 => f = 0
  | .pf0Side => onPf0 f

/-- Firmware serves the request that a function's mailbox holds, where it is the one named: its effects stand in full, or
not at all (R494). -/
def State.serve (s : State) (f code : Nat) (who : MbFrom) (run : State → MbRes) : State :=
  match (s.fn f).mbBusy with
  | none => s
  | some (c, seq) =>
    if c ≠ code ∨ !s.coreUp 0 then s
    else if !who.admits f then s.mbDone f seq abRole []
    else match run s with
      | .refuse a => s.mbDone f seq a []
      | .ok t body => t.mbDone f seq 0 body

/-! ### Resources of a function (R486, R492) -/

/-- Whether a function may use a pooled resource: its own, or for PF0 one that the pool still has; else why not. -/
def placeCode (f : Nat) (p : Place) : Nat :=
  match p with
  | .parked => abParked
  | .pool => if f = 0 then 0 else abNoResource
  | .pf0 => if f = 0 then 0 else abNotOwned
  | .vf g => if g = f then 0 else abNotOwned
  | .firmware => abNotOwned

/-- The first refusal of a list of checks. -/
def firstCode (l : List Nat) : Nat := (l.find? (· ≠ 0)).getD 0

/-- A resource that PF0 uses is drawn from the pool (R486). -/
def drawPlaces (f : Nat) (t : Tab Place) (l : List Nat) : Tab Place := if f = 0 then putPlaces t l .pf0 else t

/-- A resource that PF0 no longer uses returns to the pool (R486). -/
def returnPlaces (f : Nat) (t : Tab Place) (l : List Nat) : Tab Place := if f = 0 then putPlaces t l .pool else t

/-- The OWNER of an object that a function asks for: itself, or a partition of its own; none where the partition is
another's. -/
def State.reqOwner (s : State) (f : Nat) (part : Option Nat) : Option Nat :=
  match part with
  | none => some (fnOwner f)
  | some p => if p ∈ s.partsOwned f then some (partOwner p) else none

/-- A bitmap of numbers, in whole bytes. -/
def bitmap (bytes : Nat) (l : List Nat) : List Byte := leBytes bytes (l.foldl (fun a i => a ||| 2 ^ i) 0)

/-- The resource set of PF0 as far as bitmaps show it. -/
def Pools.ofPf0 (x : Pools) : List Byte :=
  let mine := fun t : Tab Place => (t.filter (fun p => decide (p.2 = .pf0))).map (·.1)
  bitmap 2 (mine x.tiles) ++ bitmap 96 (mine x.hbm) ++ bitmap 16 (mine x.shelf) ++ bitmap 32 (mine x.ctxBlocks) ++
    List.replicate 18 0

/-- GET_RESOURCES: the resource set (R491 bytes 2 to 165) and the weights. -/
def State.getResources (s : State) (f : Nat) : MbRes :=
  let set := if f = 0 then s.host.pools.ofPf0 else Tab.getD s.host.pools.sets f (List.replicate 164 0)
  let w := if f = 0 then leBytes 1 (s.dictVal 0x6004 1 16) ++ leBytes 1 (s.dictVal 0x6004 2 16)
    else leBytes 1 (s.fld (F.VFN_QOS_HBM_WEIGHT f)) ++ leBytes 1 (s.fld (F.VFN_QOS_SEND_WEIGHT f))
  .ok s (set ++ w)

/-! ### Partitions (R344, R345) -/

/-- The checks of R344 on a new partition: compute is up, the entry is unused, the role is known, its tiles are there, not
parked, in no other partition and the owner's, its granules are the owner's and not sealed, and every image is good. -/
def State.partCheck (s : State) (f : Nat) (r : PartReq) : Nat :=
  let ts := maskTiles r.tiles
  let used := (List.range 16).any (fun p => ts.any (fun t => (s.fld (F.MOD_PART_TILES_TILES p)).testBit t))
  firstCode (
    [if 4 < r.role then abReserved else 0,
     if s.fld (F.MOD_PART_TILES_TILES r.p) ≠ 0 ∨ ts = [] ∨ used then abInconsistent else 0,
     if r.images.length ≠ ts.length then abInconsistent else 0,
     if (ts.zip r.images).any (fun x => (parseImage x.1 x.2).isNone) then abImage else 0,
     if s.fld F.MOD_STS_STATE < 6 then abModuleState else 0] ++
    r.granules.map (fun g => placeCode f (s.granulePlace g)) ++
    ts.map (fun t => placeCode f (Tab.getD s.host.pools.tiles t .pool)) ++
    ts.map (fun t => if (s.fld F.MOD_PARKED0_TILES).testBit t then abParked else 0) ++
    r.granules.map (fun g => if (Tab.find? s.trust.sealed g).isSome then abSealed else 0))

/-- Granules of a list, HBM and shelf apart. -/
def hbmOf (gs : List Nat) : List Nat := gs.filter (· < 1000)
def shelfOf (gs : List Nat) : List Nat := (gs.filter (1000 ≤ ·)).map (· - 1000)

/-- A partition is created in the steps of R345. -/
def State.partMake (s : State) (f : Nat) (r : PartReq) : State :=
  let ts := maskTiles r.tiles
  let s := s.modPools (fun x => { x with
    tiles := drawPlaces f x.tiles ts, hbm := drawPlaces f x.hbm (hbmOf r.granules)
    shelf := drawPlaces f x.shelf (shelfOf r.granules), partGran := Tab.set x.partGran r.p r.granules })
  let s := (s.setFld (F.MOD_PART_CFG_OWNER r.p) (fnOwner f)).setFld (F.MOD_PART_CFG_ROLE r.p) r.role
  let s := (s.setFld (F.MOD_PART_CFG_JOB_SLOT r.p) (r.job.getD 0)).setFlag (F.MOD_PART_CFG_JOB_VALID r.p) r.job.isSome
  let s := s.setFld (F.MOD_PART_TILES_TILES r.p) r.tiles
  let s := (ts.zip r.images).foldl (fun s x => (s.loadImage x.1 x.2).1) s
  let s := s.modTrust (fun t => { t with images := Tab.set t.images r.p (sha384 (natsOf r.images.flatten)) })
  let s := if r.sealIt then s.sealPart r.p else s
  (s.partOn r.p).measurePart r.p

def State.partCreate (s : State) (f : Nat) (r : PartReq) : MbRes :=
  let c := s.partCheck f r
  if c ≠ 0 then .refuse c else .ok (s.partMake f r) []

/-- A partition is destroyed: what is sealed is cleared first, its tiles and granules leave it, its measurement is zero and
its bindings end (R346, R434, R440, R452, R494). -/
def State.partDestroyNow (s : State) (f p : Nat) : State :=
  let gs := s.partGranules p
  let s := if s.flag (F.MOD_PART_CFG_SEALED p) then s.unsealPart p else s
  let s := s.partFree p
  let s := s.modPools (fun x => { x with
    hbm := returnPlaces f x.hbm (hbmOf gs), shelf := returnPlaces f x.shelf (shelfOf gs), partGran := Tab.erase x.partGran p })
  s.modTrust (fun t => { t with
    measures := Tab.erase t.measures (0x10 + p), images := Tab.erase t.images p, binds := Tab.erase t.binds (partOwner p) })

/-- PART_DESTROY: a partition must be disabled and drained first (R346). -/
def State.partDestroy (s : State) (f p : Nat) : MbRes :=
  if p ∉ s.partsOwned f then .refuse abNotOwned
  else if s.flag (F.MOD_PART_CFG_ENABLE p) ∨ s.flag (F.MOD_PART_CFG_ACTIVE p) then .refuse abBusy
  else .ok (s.partDestroyNow f p) []

/-! ### Queue contexts (R287 to R290, R313, R439, R565) -/

/-- The block of contexts that holds a context (R485). -/
def ctxBlock (c : Nat) : Nat := c / 1024

/-- The checks of a new context. -/
def State.ctxCheck (s : State) (f c : Nat) (r : CtxReq) (owner : Nat) : Nat :=
  let sealedPart := match r.part with | some p => s.flag (F.MOD_PART_CFG_SEALED p) | none => false
  firstCode
    [if r.maxOut < 1 ∨ 64 < r.maxOut ∨ r.ringLog2 < 4 ∨ 16 < r.ringLog2 then abRange else 0,
     if r.typ = 1 ∧ (r.retryCnt < 1 ∨ r.slotLog2 < 11 ∨ 14 < r.slotLog2 ∨ r.recvLog2 < 4 ∨ 12 < r.recvLog2) then abRange else 0,
     if (r.secure && !sealedPart) || (r.typ = 1 && sealedPart && !r.e2e) then abInconsistent else 0,
     if r.e2e && (s.pageSt r.keyPage ≠ pageLoaded || s.fld (F.KEY_PAGE_STS_TYPE r.keyPage) ≠ 3) then abInconsistent else 0,
     if (s.ctx c).st ≠ .free then abBusy else 0,
     placeCode f (Tab.getD s.host.pools.ctxBlocks (ctxBlock c) .pool),
     if r.e2e && !s.pageAllows r.keyPage owner useKdf true then abNotOwned else 0]

/-- The entry of a new context (R288, R565). DESIGN CHOICE (log 120): the spec gives RATE no first value; it starts at the
port rate. -/
def newCtx (r : CtxReq) (owner : Nat) : Ctx :=
  { Ctx.init with
    st := .ready, typ := r.typ, secure := r.secure, rreg := r.rreg, owner := owner, maxOut := r.maxOut
    peerModule := r.peerModule, peerCtx := r.peerCtx, policy := r.policy, keyPage := r.keyPage, e2e := r.e2e
    ringHost := r.ringHost, ringBase := r.ringBase, ringLog2 := r.ringLog2, pasid := r.pasid, nextMsg := r.msgId
    expMsg := r.msgId, vec := r.vec, destQpn := r.destQpn, port := r.port, egressQ := r.egressQ, pmtu := r.pmtu
    psnSend := r.psnSend, psnRecv := r.psnRecv, psnAck := r.psnSend, peerIp := r.peerIp, localIp := r.localIp, l2 := r.l2
    dscp := r.dscp, retryCnt := r.retryCnt, retries := r.retryCnt, timeout := r.timeout, regionBase := r.regionBase
    regionLen := r.regionLen, remWrite := r.remWrite, remRead := r.remRead, rkey := r.rkey, recvBase := r.recvBase
    slotLog2 := r.slotLog2, recvLog2 := r.recvLog2 }

def State.ctxCreate (s : State) (f c : Nat) (r : CtxReq) : MbRes :=
  match s.reqOwner f r.part with
  | none => .refuse abNotOwned
  | some owner =>
    let e := s.ctxCheck f c r owner
    if e ≠ 0 then .refuse e
    else .ok ((s.setCtx c { newCtx r owner with rate := if r.typ = 1 then s.portRate r.port else 0 }).modPools (fun x => { x with
      ctxBlocks := drawPlaces f x.ctxBlocks [ctxBlock c] })) []

/-- A request about a context of the function's own. -/
def State.ownCtx (s : State) (f c : Nat) (run : Ctx → MbRes) : MbRes :=
  if (s.ctx c).st = .free ∨ (s.ctx c).owner ∉ s.ownersOf f then .refuse abNotOwned else run (s.ctx c)

/-- CTX_RESET: out of ERROR or FROZEN, once no message of the context is outstanding (R290, R476). -/
def State.ctxResetReq (s : State) (f c msgId : Nat) : MbRes :=
  s.ownCtx f c (fun x =>
    if x.st ≠ .error ∧ x.st ≠ .frozen then .refuse abInconsistent
    else if x.msgs ≠ [] ∨ c ∈ s.host.flrCtx then .refuse abBusy
    else .ok (s.ctxReset c msgId) [])

/-- Pinned contexts of a set of the cache. -/
def State.pinnedIn (s : State) (c : Nat) : Nat :=
  (s.gma.ctxs.filter (fun p => p.2.pin && decide (p.1 % 1024 = c % 1024))).length

/-- CTX_PIN: at most 8 of a set (R313). -/
def State.ctxPinReq (s : State) (f c : Nat) (on : Bool) : MbRes :=
  s.ownCtx f c (fun x =>
    if on && !x.pin && decide (8 ≤ s.pinnedIn c) then .refuse abLimit
    else .ok (s.modCtx c (fun x => { x with pin := on })) [])

/-- CTX_DESTROY; a block of PF0's without contexts returns to the pool (R486). -/
def State.ctxDestroyReq (s : State) (f c : Nat) : MbRes :=
  s.ownCtx f c (fun _ =>
    let s := s.ctxFree c
    let empty := s.gma.ctxs.all (fun p => decide (ctxBlock p.1 ≠ ctxBlock c))
    .ok (if empty then s.modPools (fun x => { x with ctxBlocks := returnPlaces f x.ctxBlocks [ctxBlock c] }) else s) [])

/-! ### Windows, groups, rings (R318, R319, R325, R446) -/

/-- The range of local addresses that a window's limits name (R318). -/
def winRange (lo hi : Nat) : Nat × Nat := (lo * 2 ^ 12, (hi + 1 - lo) * 2 ^ 12)

/-- WIN_WRITE: one entry, gated by itself; an enabled one covers memory of its owner alone (R319, R492). -/
def State.winWrite (s : State) (f w ctrl lo hi src mask ref : Nat) : MbRes :=
  let owner := bits ctrl 15 0
  let on := ctrl.testBit 31
  let r := winRange lo hi
  let e := firstCode
    [if on && decide (hi < lo) then abRange else 0,
     if (s.flag (F.GMA_WIN_CTRL_ENABLE w) || s.flag (F.GMA_WIN_CTRL_ACTIVE w)) && on then abBusy else 0,
     placeCode f (Tab.getD s.host.pools.wins w .pool),
     if owner ∉ s.ownersOf f then abNotOwned else 0,
     if on && !s.rangeAllocated owner (ownerPart owner) r.1 r.2 then abNotOwned else 0]
  if e ≠ 0 then .refuse e
  else
    let s := s.winEnable w false
    let s := s.setReg (F.GMA_WIN_CTRL_ENABLE w).off (BitVec.ofNat 32 (ctrl &&& 0x0F00FFFF))
    let s := (s.setFld (F.GMA_WIN_LO w) lo).setFld (F.GMA_WIN_HI w) hi
    let s := ((s.setFld (F.GMA_WIN_SRC w) src).setFld (F.GMA_WIN_SRCMASK w) mask).setFld (F.GMA_WIN_REF w) ref
    let s := s.modPools (fun x => { x with wins := drawPlaces f x.wins [w] })
    .ok (if on then s.winEnable w true else s) []

/-- BARRIER_WRITE: one entry, gated by itself (R325, R341). -/
def State.barrierWrite (s : State) (f g cfg childLo childHi : Nat) : MbRes :=
  let on := cfg.testBit 31
  let e := firstCode
    [if s.flag (F.GMA_BAR_CFG_ENABLE g) && on then abBusy else 0,
     placeCode f (Tab.getD s.host.pools.bars g .pool),
     if bits childHi 31 16 ∉ s.ownersOf f then abNotOwned else 0]
  if e ≠ 0 then .refuse e
  else
    let s := s.setReg (F.GMA_BAR_CFG_ENABLE g).off (BitVec.ofNat 32 (cfg &&& 0x7FFFF000))
    let s := s.setReg (F.GMA_BAR_CHILD_LO_CHILD g).off (BitVec.ofNat 32 childLo)
    let s := s.setReg (F.GMA_BAR_CHILD_HI_OWNER g).off (BitVec.ofNat 32 childHi)
    let s := s.modPools (fun x => { x with bars := drawPlaces f x.bars [g] })
    .ok (if on then s.barEnable g true else s) []

/-- RING_CREATE: descriptor ring and completion area lie in the owner's memory (R446, R492). -/
def State.ringCreate (s : State) (f r : Nat) (part : Option Nat) (base log2 cpl vec : Nat) : MbRes :=
  match s.reqOwner f part with
  | none => .refuse abNotOwned
  | some owner =>
    let e := firstCode
      [if log2 < 4 ∨ 12 < log2 then abRange else 0,
       if (s.cipRing r).isSome then abBusy else 0,
       placeCode f (Tab.getD s.host.pools.rings r .pool),
       if !s.rangeAllocated owner (ownerPart owner) base (64 * 2 ^ log2) ∨
         !s.rangeAllocated owner (ownerPart owner) cpl (8 * 2 ^ log2) then abNotOwned else 0]
    if e ≠ 0 then .refuse e
    else
      let s := s.modTrust (fun t => { t with rings := Tab.set t.rings r ⟨owner, base, log2, cpl, 0, 0, 0, [], vec⟩ })
      .ok (s.modPools (fun x => { x with rings := drawPlaces f x.rings [r] })) []

/-- RING_DESTROY: not while a job of the ring is in progress. -/
def State.ringDestroy (s : State) (f r : Nat) : MbRes :=
  match s.cipRing r with
  | none => .refuse abNotOwned
  | some x =>
    if x.owner ∉ s.ownersOf f then .refuse abNotOwned
    else if x.jobs ≠ [] then .refuse abBusy
    else .ok ((s.ringFree r).modPools (fun x => { x with rings := returnPlaces f x.rings [r] })) []

/-! ### BAR 2 slots and event rings (R468, R472, R474, R500) -/

/-- Slots that a function's BAR 2 can have at its largest size (R464). -/
def slotLimit (f : Nat) : Nat := if f = 0 then 1024 else 64

/-- SLOT_MAP: an open granule of the function's own (R468). -/
def State.slotMap (s : State) (f slot g : Nat) : MbRes :=
  let e := firstCode
    [if slotLimit f ≤ slot then abRange else 0,
     if (Tab.find? s.trust.sealed g).isSome then abSealed else 0,
     placeCode f (Tab.getD s.host.pools.hbm g .pool)]
  if e ≠ 0 then .refuse e
  else .ok ((s.modFn f (fun x => { x with slots := Tab.set x.slots slot g })).modPools (fun x => { x with
    hbm := drawPlaces f x.hbm [g] })) []

def State.slotUnmap (s : State) (f slot : Nat) : MbRes :=
  if slotLimit f ≤ slot then .refuse abRange else .ok (s.modFn f (fun x => { x with slots := Tab.erase x.slots slot })) []

/-- EVENT_RING_SET: the first record of a new ring is the count of what was lost, where something was (R472, R473, R500). -/
def State.eventRingSet (s : State) (f iova pasid log2 moderation : Nat) : MbRes :=
  if log2 < 6 ∨ 16 < log2 ∨ 1000 < moderation then .refuse abRange
  else
    let s := s.modFn f (fun x => { x with ring := some ⟨iova, pasid, log2, 0, 0⟩, moderation := moderation })
    .ok (s.lostRecord f) []

/-! ### The commands -/

/-- MAILBOX_GO (R494). -/
def execMailboxGo (f : Nat) (s : State) : Host.Outcome State Fault Refusal := .next (s.mbTake f)
/-- GET_RESOURCES (R494). -/
def execGetResources (f : Nat) (s : State) : Host.Outcome State Fault Refusal :=
  .next (s.serve f 0x01 .any (fun s => s.getResources f))
/-- PART_CREATE (R345). -/
def execPartCreate (f : Nat) (r : PartReq) (s : State) : Host.Outcome State Fault Refusal :=
  .next (s.serve f 0x10 .pf0Side (fun s => s.partCreate f r))
/-- PART_DESTROY (R494). -/
def execPartDestroy (f p : Nat) (s : State) : Host.Outcome State Fault Refusal :=
  .next (s.serve f 0x11 .pf0Side (fun s => s.partDestroy f p))
/-- CTX_CREATE (R287). -/
def execCtxCreate (f c : Nat) (r : CtxReq) (s : State) : Host.Outcome State Fault Refusal :=
  .next (s.serve f 0x20 .pf0Side (fun s => s.ctxCreate f c r))
/-- CTX_RESET (R290). -/
def execCtxReset (f c msgId : Nat) (s : State) : Host.Outcome State Fault Refusal :=
  .next (s.serve f 0x21 .pf0Side (fun s => s.ctxResetReq f c msgId))
/-- CTX_PIN (R313). -/
def execCtxPin (f c : Nat) (on : Bool) (s : State) : Host.Outcome State Fault Refusal :=
  .next (s.serve f 0x22 .pf0Side (fun s => s.ctxPinReq f c on))
/-- CTX_DESTROY (R494). -/
def execCtxDestroy (f c : Nat) (s : State) : Host.Outcome State Fault Refusal :=
  .next (s.serve f 0x23 .pf0Side (fun s => s.ctxDestroyReq f c))
/-- WIN_WRITE (R494). -/
def execWinWrite (f w ctrl lo hi src mask ref : Nat) (s : State) : Host.Outcome State Fault Refusal :=
  .next (s.serve f 0x30 .pf0Side (fun s => s.winWrite f w ctrl lo hi src mask ref))
/-- BARRIER_WRITE (R494). -/
def execBarrierWrite (f g cfg childLo childHi : Nat) (s : State) : Host.Outcome State Fault Refusal :=
  .next (s.serve f 0x31 .pf0Side (fun s => s.barrierWrite f g cfg childLo childHi))
/-- RING_CREATE (R446). -/
def execRingCreate (f r : Nat) (part : Option Nat) (base log2 cpl vec : Nat) (s : State) :
    Host.Outcome State Fault Refusal :=
  .next (s.serve f 0x32 .pf0Side (fun s => s.ringCreate f r part base log2 cpl vec))
/-- RING_DESTROY (R494). -/
def execRingDestroy (f r : Nat) (s : State) : Host.Outcome State Fault Refusal :=
  .next (s.serve f 0x33 .pf0Side (fun s => s.ringDestroy f r))
/-- SLOT_MAP (R468). -/
def execSlotMap (f slot g : Nat) (s : State) : Host.Outcome State Fault Refusal :=
  .next (s.serve f 0x40 .pf0Side (fun s => s.slotMap f slot g))
/-- SLOT_UNMAP (R468). -/
def execSlotUnmap (f slot : Nat) (s : State) : Host.Outcome State Fault Refusal :=
  .next (s.serve f 0x41 .pf0Side (fun s => s.slotUnmap f slot))
/-- EVENT_RING_SET (R472). -/
def execEventRingSet (f iova pasid log2 moderation : Nat) (s : State) : Host.Outcome State Fault Refusal :=
  .next (s.serve f 0x50 .pf0Side (fun s => s.eventRingSet f iova pasid log2 moderation))

end Sys2Proof.Machine
end

