-- ==== Sys2Proof/Machine/VfCmds.lean ====
section
/-!
DEFINITION. Provisioning and life of virtual functions (R434, R486 to R491, R496, R499, R501, R512).
-/
namespace Sys2Proof.Machine

/-! ### VF_CREATE (R487, R491) -/

/-- The function number of a VF of a PF (R462). -/
def vfFn (pf v : Nat) : Nat := if pf = 0 then v + 1 else v + 64

/-- A resource that a new VF names: free in the pool, parked, or another's. -/
def drawCode (p : Place) : Nat :=
  match p with
  | .pool => 0
  | .parked => abParked
  | _ => abNoResource

/-- The link shares of all VFs but one, in percent. -/
def State.otherShares (s : State) (v : Nat) : Nat :=
  ((List.range 126).map (· + 2)).foldl (fun a f => if f = v then a else a + s.fld (F.VFN_QOS_LINK_SHARE f)) 0

/-- A VF of PF1 names no tile, granule, context block, window or group, and carries no link share or send weight; a VF of
PF0 names no queue pairs (R491). -/
def pf1Bad (body : List Byte) (r : ResSet) : Bool :=
  if leAt body 1 1 = 0 then decide (r.qp ≠ 0) || decide (leAt body 166 1 < 1) || decide (leAt body 168 1 = 0)
  else decide (r.tiles ≠ [] ∨ r.hbm ≠ [] ∨ r.shelf ≠ [] ∨ r.blocks ≠ [] ∨ r.wins ≠ [] ∨ r.bars ≠ []) ||
    decide (leAt body 166 1 ≠ 0 ∨ leAt body 168 1 ≠ 0)

/-- Pages that hold firmware's keys, or anyone's: a page that is not FREE is not in the pool. -/
def State.keyPlace (s : State) (i : Nat) : Place :=
  let p := Tab.getD s.host.pools.keys i .pool
  if p = .pool ∧ s.pageSt i ≠ pageFree then .firmware else p

/-- The checks of VF_CREATE, the earliest cause of R634 first. -/
def State.vfCreateCode (s : State) (body : List Byte) : Nat :=
  let v := leAt body 0 1
  let pf := leAt body 1 1
  let f := vfFn pf v
  let r := resSet (body.drop 2)
  let p := s.host.pools
  let all := fun (t : Tab Place) (l : List Nat) => l.map (fun i => drawCode (Tab.getD t i .pool))
  let codes := all p.tiles r.tiles ++ all p.hbm r.hbm ++ all p.shelf r.shelf ++ all p.ctxBlocks r.blocks ++
    r.keys.map (fun i => drawCode (s.keyPlace i)) ++ all p.wins r.wins ++ all p.bars r.bars ++ all p.rings r.rings ++
    r.tiles.map (fun t => if (s.fld F.MOD_PARKED0_TILES).testBit t then abParked else 0)
  let pairs := p.nvmeQp.foldl (fun a x => a + x.2) 0
  if bits (leAt body 114 2) 15 8 ≠ 0 ∨ leAt body 169 7 ≠ 0 then abMalformed
  else if v < 1 ∨ 63 < v ∨ 1 < pf ∨ leAt body 167 1 = 0 ∨ 99 < leAt body 166 1 ∨ (pf = 1 ∧ (r.qp < 1 ∨ 256 < r.qp)) then abRange
  else if r.keys.any (4096 ≤ ·) ∨ r.wins.any (4096 ≤ ·) ∨ r.bars.any (4096 ≤ ·) ∨ r.rings.any (1024 ≤ ·) then abRange
  else if pf1Bad body r ∨ (Tab.find? p.sets f).isSome then abInconsistent
  else if 99 < s.otherShares f + leAt body 166 1 ∨ 4096 < pairs + r.qp ∨ codes.any (· = abNoResource) then abNoResource
  else firstCode codes

/-- Every resource that the body names goes to the VF, which becomes READY if it is present (R487, R491). -/
def State.vfMake (s : State) (body : List Byte) : State :=
  let pf := leAt body 1 1
  let f := vfFn pf (leAt body 0 1)
  let set := (body.drop 2).take 164
  let r := resSet set
  let s := s.modPools (fun x => { x.place r (.vf f) with
    sets := Tab.set x.sets f set, nvmeQp := Tab.put x.nvmeQp f r.qp 0 })
  let s := (s.setFld (F.VFN_QOS_LINK_SHARE f) (leAt body 166 1)).setFld (F.VFN_QOS_HBM_WEIGHT f) (leAt body 167 1)
  let s := s.setFld (F.VFN_QOS_SEND_WEIGHT f) (leAt body 168 1)
  if s.fnPresent f then s.setFld (F.VFN_STS_STATE f) vfReady else s

def State.vfCreate (s : State) (body : List Byte) : MbRes :=
  let c := s.vfCreateCode body
  if c ≠ 0 then .refuse c else .ok (s.vfMake body) []

/-! ### VF_DESTROY (R488) -/

/-- Bindings of a function's OWNER code and of its partitions end (R488). -/
def State.endBinds (s : State) (f : Nat) : State :=
  let os := s.ownersOf f
  s.modTrust (fun t => { t with binds := t.binds.filter (fun p => decide (p.1 ∉ os)) })

/-- Objects destroyed, resources cleared and given back, the VF not provisioned any more (R434, R488). -/
def State.vfRemove (s : State) (f : Nat) : State :=
  match s.vfSet f with
  | none => s
  | some r =>
    let s := ((s.endBinds f).destroyOwned f).clearSet r
    let s := s.modPools (fun x => { x.place r .pool with sets := Tab.erase x.sets f, nvmeQp := Tab.erase x.nvmeQp f })
    let s := s.setReg (F.VFN_QOS_LINK_SHARE f).off 0
    s.setFld (F.VFN_STS_STATE f) (if s.fnPresent f then vfEmpty else vfAbsent)

def State.vfDestroy (s : State) (f : Nat) : MbRes :=
  if f < 2 ∨ 127 < f then .refuse abRange
  else if (s.vfSet f).isNone then .refuse abNoResource
  else if s.vfSt f = vfMoving then .refuse abMoving
  else if (s.partsOwned f).any (fun p => s.flag (F.MOD_PART_CFG_ACTIVE p)) then .refuse abBusy
  else .ok (s.vfRemove f) []

/-! ### Weights and the freeze (R496, R499) -/

/-- VF_SET_QOS: the weights of a provisioned VF of PF0; a VF of PF1 has an HBM weight alone (R491, R496). -/
def State.vfSetQos (s : State) (f hbm send : Nat) : MbRes :=
  if hbm = 0 ∨ (f < 65 ∧ send = 0) ∨ (65 ≤ f ∧ send ≠ 0) then .refuse abRange
  else if (s.vfSet f).isNone then .refuse abNoResource
  else .ok ((s.setFld (F.VFN_QOS_HBM_WEIGHT f) hbm).setFld (F.VFN_QOS_SEND_WEIGHT f) send) []

/-- VF_UNFREEZE (R499). -/
def State.vfUnfreeze (s : State) (f : Nat) : MbRes := .ok (s.setFlag (F.VFN_STS_FROZEN f) false) []

/-! ### VF Enable and NumVFs (R490) -/

/-- VFs that are no longer covered are reset and become ABSENT; VFs that are covered again return to READY, or to EMPTY if
they were never provisioned. -/
def State.vfEnableChange (s : State) (pf : Nat) (on : Bool) (num : Nat) : State :=
  let old := (vfsOf pf).filter s.fnPresent
  let t := s.modHost (fun h =>
    if pf = 0 then { h with vfEnable0 := on, numVfs0 := num } else { h with vfEnable1 := on, numVfs1 := num })
  let new := (vfsOf pf).filter t.fnPresent
  let t := (old.filter (fun f => decide (f ∉ new))).foldl (fun t f =>
    (t.flrState f).setFld (F.VFN_STS_STATE f) vfAbsent) t
  (new.filter (fun f => decide (f ∉ old))).foldl (fun t f =>
    t.setFld (F.VFN_STS_STATE f) (if (t.vfSet f).isSome then vfReady else vfEmpty)) t

/-! ### The commands -/

/-- VF_CREATE (R487). -/
def execVfCreate (f : Nat) (body : List Byte) (s : State) : Host.Outcome State Fault Refusal :=
  .next (s.serve f 0x100 .pf0 (fun s => s.vfCreate body))
/-- VF_DESTROY (R488). -/
def execVfDestroy (f v : Nat) (s : State) : Host.Outcome State Fault Refusal :=
  .next (s.serve f 0x101 .pf0 (fun s => s.vfDestroy v))
/-- VF_SET_QOS (R496). -/
def execVfSetQos (f v hbm send : Nat) (s : State) : Host.Outcome State Fault Refusal :=
  .next (s.serve f 0x102 .pf0 (fun s => s.vfSetQos v hbm send))
/-- VF_UNFREEZE (R499). -/
def execVfUnfreeze (f v : Nat) (s : State) : Host.Outcome State Fault Refusal :=
  .next (s.serve f 0x103 .pf0 (fun s => s.vfUnfreeze v))
/-- VF_ENABLE_CHANGE (R490). -/
def execVfEnableChange (pf : Nat) (on : Bool) (num : Nat) (s : State) : Host.Outcome State Fault Refusal :=
  .next (s.vfEnableChange pf on num)

end Sys2Proof.Machine
end

