-- ==== Sys2Proof/Machine/Migrate.lean ====
section
/-!
DEFINITION. Migration of a VF: the phases, the state stream and its chunks, the tile state image, and the restore (R501 to
R508). The content of HEADER, FUNCTION, CONTEXTS and KEYS chunks is the model's own layout: the spec says what they carry.
-/
namespace Sys2Proof.Machine

/-! ### Records of a chunk -/

/-- A record of a chunk: a kind and its items. -/
structure MigRec where
  kind : Nat
  items : List Nat
deriving DecidableEq, Repr

/-- A record: kind and number of items in 4 bytes, and each item in 8. -/
def MigRec.bytes (r : MigRec) : List Byte :=
  leBytes 2 r.kind ++ leBytes 2 r.items.length ++ r.items.flatMap (leBytes 8)

/-- The records of a chunk's content; at most `n`. -/
def migRecs : Nat → List Byte → List MigRec
  | 0, _ => []
  | n + 1, bs =>
    if bs.length < 4 then []
    else
      let k := leAt bs 2 2
      ⟨leAt bs 0 2, (List.range k).map (fun i => leAt bs (4 + 8 * i) 8)⟩ :: migRecs n (bs.drop (4 + 8 * k))

def migOfBytes (bs : List Byte) : List MigRec := migRecs bs.length bs

/-! ### The tile state image (R506) -/

def tileImageSize : Nat := 84148224

/-- The bytes of a bank: one ledger word per processing element; of an accumulator with LONG the value is free (R85). -/
def bankBytes (b : Bank) (ctr : Nat) (first n : Nat) : List Byte :=
  (List.range n).flatMap (fun k =>
    ((Tab.getD b.cells (first + k) b.base).toWord b.anchor (Config.freeNat (ctr + first + k))).bytes)

/-- The first 64 KiB of the image. -/
def State.tileHead (s : State) (t : Nat) : List Byte :=
  let x := s.tile t
  let c := s.core t
  let pad := fun n (l : List Byte) => l ++ List.replicate (n - l.length) 0
  let reg := fun f : Fld => leBytes 4 (s.reg f.off).toNat
  pad 0x1000 (x.queue.flatMap (fun q => leBytes 64 q.desc.toNat)) ++
  pad 64 (leBytes 1 x.queue.length ++ leBytes 1 (x.bank0.st.code + 4 * x.bank1.st.code) ++ [0, 0] ++
    (List.range 4).flatMap (fun i => reg (F.TIL_SIG_CNT t i)) ++ reg (F.TIL_HSR_SEED_LO_SEED t) ++ reg (F.TIL_HSR_SEED_HI_SEED t) ++
    reg (F.TIL_HSR_STEP t) ++ reg (F.TIL_ARITH_FLAGS_OVER t) ++ reg (F.TIL_CMD_ABORTS t)) ++
  pad 0xFC0 ((List.range 64).flatMap (fun i => leBytes 2 (s.fld (F.TIL_META t i)))) ++
  (List.range 64).flatMap (fun n => leBytes 8 (s.srRead t n).toNat) ++
  pad 256 (bytesOfCells c.ds.reverse) ++ pad 128 (bytesOfCells c.rs.reverse) ++
  pad 64 (bytesOfCells c.staging) ++ pad 0xDC40 (leBytes 4 c.pc)

/-- 1 MiB, the most that a chunk holds (R505). -/
def mib : Nat := 2 ^ 20

/-- The image in chunks: offset and bytes. -/
def State.tileChunks (s : State) (t : Nat) : List (Nat × List Byte) :=
  let x := s.tile t
  let c := s.core t
  let ctr := s.freeCtr + t * 2 ^ 19
  [(0, s.tileHead t)] ++
  (List.range 8).map (fun k => (0x10000 + k * mib, bankBytes x.bank0 ctr (k * 2 ^ 15) (2 ^ 15))) ++
  (List.range 8).map (fun k => (0x810000 + k * mib, bankBytes x.bank1 (ctr + 2 ^ 18) (k * 2 ^ 15) (2 ^ 15))) ++
  [(0x1010000, (List.range (coreIm t)).map (fun i => Tab.getD c.im i 0)),
   (0x1030000, (List.range (coreDm t)).map (fun i => Tab.getD c.dm i 0))] ++
  (List.range 64).map (fun k => (0x1040000 + k * mib, s.readBytes (carrelAddr t (k * mib)) mib))

/-- The accumulator that a ledger word of an image holds. -/
def Accum.ofWord (w : LWord) : Accum := ⟨w.value.setWidth 128, w.flags, w.terms⟩

/-- A bank as an image holds it. -/
def bankOf (st : Nat) (bs : List Byte) : Bank :=
  let ws := (chunksOf 32 bs).map LWord.ofBytes
  { st := if st = 0 then .free else if st = 1 then .opened else .poisoned
    anchor := (ws.head?.map LWord.anchor).getD 0
    base := Accum.zero
    cells := ((ws.map Accum.ofWord).zipIdx.filter (fun p => decide (p.1 ≠ Accum.zero))).map (fun p => (p.2, p.1)) }

/-- A tile and its lectern core take the state of an image; the queue's commands are those of the restored core (R506,
R507). -/
def State.tileRestore (s : State) (t : Nat) (img : List Byte) : State :=
  let at8 := fun o => leAt img o 8
  let n := leAt img 0x1000 1
  let b := leAt img 0x1001 1
  let q := (List.range n).map (fun i => (⟨BitVec.ofNat 512 (leAt img (64 * i) 64), s.coreSecure t, none⟩ : TCmd))
  let s := s.modTile t (fun x => { x with
    queue := q, issued := [], failed := none, syncHeld := false, syncArrived := none
    bank0 := bankOf (b % 4) ((img.drop 0x10000).take (8 * mib)), bank1 := bankOf (b / 4 % 4) ((img.drop 0x810000).take (8 * mib)) })
  let put := fun (s : State) (f : Fld) (o : Nat) => s.setReg f.off (BitVec.ofNat 32 (leAt img o 4))
  let s := (List.range 4).foldl (fun s i => put s (F.TIL_SIG_CNT t i) (0x1004 + 4 * i)) s
  let s := put (put (put s (F.TIL_HSR_SEED_LO_SEED t) 0x1014) (F.TIL_HSR_SEED_HI_SEED t) 0x1018) (F.TIL_HSR_STEP t) 0x101C
  let s := put (put s (F.TIL_ARITH_FLAGS_OVER t) 0x1020) (F.TIL_CMD_ABORTS t) 0x1024
  let s := (List.range 64).foldl (fun s i => s.setFld (F.TIL_META t i) (leAt img (0x1040 + 2 * i) 2)) s
  let s := s.setFld (F.TIL_CMD_TAIL_TAIL t) ((s.fld (F.TIL_CMD_HEAD_HEAD t) + n) % 128)
  let cells := fun o k => (cellsOfBytes ((img.drop o).take (8 * k))).reverse
  let s := s.modCore t (fun x =>
    let x := { Core.init with
      st := x.st, halt := x.halt, image := x.image, cmp := x.cmp, compat := (at8 0x2080).testBit 3
      ds := cells 0x2200 (at8 (0x2000 + 8 * 0x23)), rs := cells 0x2300 (at8 (0x2000 + 8 * 0x27))
      staging := cellsOfBytes ((img.drop 0x2380).take 64), pc := leAt img 0x23C0 4
      im := memOfBytes 0 ((img.drop 0x1010000).take (coreIm t)), dm := memOfBytes 0 ((img.drop 0x1030000).take (coreDm t)) }
    let x := (List.range 64).foldl (fun x k => Core.srWrite x t k (BitVec.ofNat 64 (at8 (0x2000 + 8 * k)))) x
    { x with irqLatch := at8 (0x2000 + 8 * 0x31) % 16 / 2 * 2 })
  s.putMem (carrelAddr t 0) ((img.drop 0x1040000).take carrelSize)

/-! ### What the other chunks carry (R505) -/

/-- The registers of compatibility mode as items. -/
def Compat.items (k : Compat) : List Nat :=
  (List.range 32).map (fun i => Tab.getD k.g i 0) ++
    [k.aluA, k.aluR, k.mulA, k.mulR, k.lsuAddr, k.lsuData, k.lsuR, k.cond, (k.brTarget.map (· + 1)).getD 0] ++
    k.mulQ.flatMap (fun p => [p.1, p.2])

def pairsOf : List Nat → List (Nat × Nat)
  | a :: b :: l => (a, b) :: pairsOf l
  | _ => []

def Compat.ofItems (l : List Nat) : Compat :=
  let i := fun k => l.getD k 0
  { g := (List.range 32).foldl (fun t k => Tab.put t k (i k) 0) [], aluA := i 32, aluR := i 33, mulA := i 34, mulR := i 35
    lsuAddr := i 36, lsuData := i 37, lsuR := i 38, cond := i 39, brTarget := if i 40 = 0 then none else some (i 40 - 1)
    mulQ := pairsOf (l.drop 41) }

def CoreSt.code : CoreSt → Nat
  | .held => 0 | .running => 1 | .waiting => 2 | .debug => 3 | .stopped => 4

/-- The run state of a core that resumes: one that waited executes its instruction again (R172, R507). -/
def CoreSt.ofCode : Nat → CoreSt
  | 1 => .running | 2 => .running | 3 => .debug | 4 => .stopped | _ => .held

/-- What a lectern core and its tile hold beyond the image. -/
def State.coreRec (s : State) (t : Nat) : MigRec :=
  let x := s.core t
  let im := match x.image with
    | none => [0, 0, 0, 0, 0, 0, 0]
    | some i => [1, ofBool i.compat, i.entry, i.dsBase, i.dsLimit, i.rsBase, i.rsLimit]
  ⟨7, [t, x.st.code, ofBool x.halt, s.fld (F.TIL_CMD_HEAD_HEAD t)] ++ im ++ x.cmp.items⟩

/-- A partition: its entry, step, granules and the digest of its images. -/
def State.partRec (s : State) (p : Nat) : MigRec :=
  let gs := s.partGranules p
  ⟨3, [p, (s.reg (F.MOD_PART_CFG_ENABLE p).off).toNat, s.fld (F.MOD_PART_TILES_TILES p), s.fld (F.MOD_PART_STEP_LO p),
    s.fld (F.MOD_PART_STEP_HI p), gs.length] ++ gs ++ Tab.getD s.trust.images p []⟩

/-- The FUNCTION chunk: slot mappings, events held, and the function's partitions, windows, groups and rings. -/
def State.functionChunk (s : State) (f : Nat) (r : ResSet) : List Byte :=
  let x := s.fn f
  let parts := s.partsOwned f
  let regs := fun base n => (List.range n).map (fun i => (s.reg (base + 4 * i)).toNat)
  let rings := s.trust.rings.filter (fun q => decide (q.2.owner ∈ s.ownersOf f))
  (x.slots.map (fun p => (⟨1, [p.1, p.2]⟩ : MigRec)) ++
   x.held.map (fun e => (⟨2, [e.src, e.code, e.obj, e.detail, e.time, e.vec]⟩ : MigRec)) ++
   parts.map s.partRec ++
   r.wins.map (fun w => (⟨4, w :: regs (F.GMA_WIN_CTRL_ENABLE w).off 6⟩ : MigRec)) ++
   r.bars.map (fun g => (⟨5, g :: regs (F.GMA_BAR_CFG_ENABLE g).off 3⟩ : MigRec)) ++
   rings.map (fun q => (⟨6, [q.1, q.2.owner, q.2.base, q.2.log2, q.2.cpl, q.2.producer, q.2.consumer, q.2.written, q.2.vec]⟩ : MigRec)) ++
   r.tiles.map s.coreRec).flatMap MigRec.bytes

/-- A context as items: the fields of its entry that outlast a reset; a ring in host memory is not carried. -/
def ctxItems (c : Nat) (x : Ctx) : List Nat :=
  [c, x.typ, ofBool x.secure, ofBool x.pin, ofBool x.rreg, x.owner, x.maxOut, x.peerModule, x.peerCtx, x.policy, x.keyPage,
   ofBool x.e2e, ofBool x.ringHost, if x.ringHost then 0 else x.ringBase, x.ringLog2, x.pasid, x.producer, x.consumer,
   x.compCnt, x.arriveCnt, x.nextMsg, x.expMsg, x.vec, x.errCode, x.errOp, x.errIndex, x.errRemote,
   if x.st = .frozen then 4 else if x.st = .lost then 5 else 3,
   x.psnSend, x.psnRecv, x.psnAck, x.rate, x.destQpn, x.port, x.pmtu, x.rkey, x.regionBase, x.regionLen,
   ofBool x.remWrite, ofBool x.remRead, x.recvBase, x.slotLog2, x.recvLog2, x.recvConsumed, x.retryCnt, x.egressQ, x.peerIp,
   x.localIp, x.l2, x.dscp, x.timeout]

def ctxOfItems (l : List Nat) : Ctx :=
  let i := fun k => l.getD k 0
  let b := fun k => decide (i k ≠ 0)
  { Ctx.init with
    st := if i 27 = 4 then .frozen else if i 27 = 5 then .lost else .error
    typ := i 1, secure := b 2, pin := b 3, rreg := b 4, owner := i 5, maxOut := i 6, peerModule := i 7, peerCtx := i 8
    policy := i 9, keyPage := i 10, e2e := b 11, ringHost := b 12, ringBase := i 13, ringLog2 := i 14, pasid := i 15
    producer := i 16, consumer := i 17, compCnt := i 18, arriveCnt := i 19, nextMsg := i 20, expMsg := i 21, vec := i 22
    errCode := i 23, errOp := i 24, errIndex := i 25, errRemote := i 26, psnSend := i 28, psnRecv := i 29, psnAck := i 30
    rate := i 31, destQpn := i 32, port := i 33, pmtu := i 34, rkey := i 35, regionBase := i 36, regionLen := i 37
    remWrite := b 38, remRead := b 39, recvBase := i 40, slotLog2 := i 41, recvLog2 := i 42, recvConsumed := i 43
    retryCnt := i 44, retries := i 44, egressQ := i 45, peerIp := i 46, localIp := i 47, l2 := i 48, dscp := i 49, timeout := i 50 }

/-- The CONTEXTS chunk of a block. -/
def State.contextsChunk (s : State) (f b : Nat) : List Byte :=
  let os := s.ownersOf f
  ((s.gma.ctxs.filter (fun p => decide (ctxBlock p.1 = b ∧ p.2.owner ∈ os ∧ p.2.st ≠ .free))).map
    (fun p => (⟨1, ctxItems p.1 p.2⟩ : MigRec))).flatMap MigRec.bytes

/-- The KEYS chunk: the function's pages with their attributes, and its owner bindings. -/
def State.keysChunk (s : State) (f : Nat) (r : ResSet) : List Byte :=
  let os := s.ownersOf f
  let pages := r.keys.filter (fun i => decide (s.pageSt i ≠ pageFree))
  (pages.map (fun i =>
     let p := s.page i
     (⟨1, [i, (s.reg (F.KEY_PAGE_STS_STATE i).off).toNat, p.counter, p.nonce.length] ++ p.nonce ++ p.key⟩ : MigRec)) ++
   (s.trust.binds.filter (fun b => decide (b.1 ∈ os))).map (fun b =>
     (⟨2, b.1 :: natsOf b.2⟩ : MigRec))).flatMap MigRec.bytes

/-- The HEADER chunk: source module ID, VF, resource set, FROZEN. -/
def State.headerChunk (s : State) (f : Nat) : List Byte :=
  leBytes 4 s.ownModule ++ leBytes 2 f ++ Tab.getD s.host.pools.sets f [] ++ leBytes 1 (ofBool (s.flag (F.VFN_STS_FROZEN f)))

/-! ### Chunks (R505) -/

/-- A chunk before it is numbered: TYPE, INDEX, address or offset, and content. -/
structure Chunk where
  typ : Nat
  index : Nat
  addr : Nat
  data : List Byte
deriving DecidableEq, Repr

/-- The header of chunk `n`. -/
def Chunk.header (c : Chunk) (n : Nat) : List Byte :=
  leBytes 8 c.typ ++ leBytes 8 n ++ leBytes 4 c.data.length ++ leBytes 4 c.index ++ leBytes 8 c.addr

/-- The IV of chunk `n`. -/
def chunkIv (n : Nat) : List Nat := leNats 4 0 ++ leNats 8 n

/-- Chunk `n` on its way: header, ciphertext, tag. -/
def Chunk.seal (c : Chunk) (key : List Nat) (n : Nat) : List Byte :=
  let h := c.header n
  let ct := gcmCtr key (chunkIv n) (natsOf c.data)
  h ++ bytesOf ct ++ bytesOf (gcmTag key (chunkIv n) (natsOf h) ct)

/-- The state stream without END: header, function, contexts, tiles, keys, memory (R505). -/
def State.stream1 (s : State) (f : Nat) (r : ResSet) : List Chunk :=
  [⟨1, 0, 0, s.headerChunk f⟩, ⟨2, 0, 0, s.functionChunk f r⟩] ++
  r.blocks.map (fun b => ⟨3, b, 0, s.contextsChunk f b⟩) ++
  r.tiles.flatMap (fun t => (s.tileChunks t).map (fun p => ⟨4, t, p.1, p.2⟩)) ++
  [⟨5, r.keys.headD 0, 0, s.keysChunk f r⟩] ++
  r.hbm.flatMap (fun g => (List.range 1024).map (fun k =>
    ⟨6, 0, g * 2 ^ 30 + k * mib, s.readBytes (g * 2 ^ 30 + k * mib) mib⟩)) ++
  r.shelf.flatMap (fun h => (List.range 256).map (fun k =>
    ⟨6, 0, shelfBase + h * 2 ^ 28 + k * mib, s.readBytes (shelfBase + h * 2 ^ 28 + k * mib) mib⟩))

/-- END: the chunk count, itself included, and the SHA-384 of every header in COUNTER order. -/
def endChunk (cs : List Chunk) : Chunk :=
  let n := cs.length
  let body := fun d : List Byte => leBytes 8 (n + 1) ++ d
  let blank : Chunk := ⟨7, 0, 0, body (List.replicate 48 0)⟩
  let hs := (cs.zipIdx.flatMap (fun p => p.1.header p.2)) ++ blank.header n
  ⟨7, 0, 0, body (bytesOf (sha384 (natsOf hs)))⟩

/-! ### The source (R503, R504, R508) -/

def State.modMig (s : State) (f : Nat) (g : Mig → Mig) : State :=
  match Tab.find? s.host.moves f with
  | some m => s.modHost (fun h => { h with moves := Tab.set h.moves f (g m) })
  | none => s

/-- The phase of a VF that moves. -/
def State.phase (s : State) (f : Nat) : Nat := s.fld (F.VFN_STS_MOVE_PHASE f)

/-- A FREE page that firmware takes for a migration key: which one is not given (R503). -/
def State.firmwarePage (s : State) : Option Nat :=
  let l := (List.range 4096).filter (fun i => decide (s.pageSt i = pageFree) && decide (s.keyPlace i = .pool ∨ s.keyPlace i = .firmware))
  match l with
  | [] => none
  | _ => l[s.freeNat % l.length]?

def mgMigrationKey : Nat := 3

/-- A migration opens: its key goes into a firmware page, and the VF is MOVING. -/
def State.migOpen (s : State) (f page : Nat) (key : List Nat) (source : Bool) (peer peerVf ph : Nat) : State :=
  let s := s.loadPage page fwOwner 0 (useEnc + useDec) false key
  let s := s.modHost (fun h => { h with moves := Tab.set h.moves f ⟨source, peer, peerVf, page, 0, [], [], [], [], false, 0, s.modTime⟩ })
  ((s.setFld (F.VFN_STS_STATE f) vfMoving).setFld (F.VFN_STS_MOVE_PHASE f) ph).showMoving

/-- A VF of PF0. -/
def vfOfPf0 (f : Nat) : Bool := decide (2 ≤ f ∧ f < 65)

/-- MOVE_PREPARE: `trusted` says that the target's chain and security version passed (R503). -/
def State.movePrepare (s : State) (f dst dstVf : Nat) (trusted : Bool) : MbRes :=
  if !vfOfPf0 f then .refuse abRange
  else if s.vfSt f = vfMoving then .refuse abMoving
  else if s.vfSt f ≠ vfReady then .refuse abModuleState
  else match s.firmwarePage with
    | none => .refuse abNoResource
    | some page =>
      if !trusted then .refuse abFailed
      else
        let s := s.drew
        let key := leNats 32 s.freeNat
        let s := s.drew.migOpen f page key true dst dstVf 0
        .ok (s.emit (.mgmt dst mgMigrationKey [dstVf])) []

/-- A request about a migration whose source is here, in one of some phases. -/
def State.moveReq (s : State) (f : Nat) (phases : List Nat) (run : Mig → MbRes) : MbRes :=
  match Tab.find? s.host.moves f with
  | none => .refuse abInconsistent
  | some m => if m.source ∧ s.phase f ∈ phases then run m else .refuse abInconsistent

/-- MOVE_FREEZE: HALTING (R504). -/
def State.moveFreeze (s : State) (f : Nat) : MbRes :=
  s.moveReq f [0] (fun _ => .ok (s.setFld (F.VFN_STS_MOVE_PHASE f) 1) [])

/-- No issued command, cipher job or outstanding message of the VF is left (R504). -/
def State.quiet (s : State) (f : Nat) : Bool :=
  let os := s.ownersOf f
  (s.partsOwned f).all (fun p => (s.partTiles p).all (fun t => decide ((s.tile t).issued = []))) &&
    s.trust.rings.all (fun r => decide (r.2.owner ∉ os ∨ r.2.jobs = [])) &&
    s.gma.ctxs.all (fun c => decide (c.2.owner ∉ os ∨ (c.2.msgs = [] ∧ (c.2.typ ≠ 1 ∨ c.2.st ≠ .ready ∨ c.2.psnAck = c.2.psnSend))))

/-- The multiplier and the divider of a core end what they do: the core has stopped (R504). -/
def Core.unitsEnd (x : Core) : Core :=
  let x := match x.mulQ.getLast? with
    | some p => { x with mlo := p.1, mhi := p.2, mulQ := [] }
    | none => x
  match x.divQ with
  | some d => { x with quo := d.1, rem := d.2.1, divQ := none }
  | none => x

/-- Stores that a stopped core still buffers are performed. -/
def State.coreSettle (s : State) (c : Nat) : State :=
  let s := (s.core c).sbuf.foldl (fun s e => s.performStore c e) s
  s.modCore c (fun x => { x.unitsEnd with sbuf := [] })

/-- HALTED: the VF's contexts go to ERROR with ENDPOINT_STATE (R504). -/
def State.moveHalted (s : State) (f : Nat) : State :=
  match Tab.find? s.host.moves f with
  | none => s
  | some m =>
    if !m.source ∨ s.phase f ≠ 1 ∨ !s.quiet f then s
    else
      let tiles := (s.partsOwned f).flatMap s.partTiles
      let ctxs := s.ctxsOwned f
      let s := tiles.foldl State.coreSettle s
      let s := ctxs.foldl (fun s c => s.modCtx c (fun x =>
        if x.st = .ready ∨ x.st = .waiting then
          { x with st := .error, wait := none, errCode := ceEndpointState, errOp := 0, errIndex := 0, errRemote := 0 } else x)) s
      s.setFld (F.VFN_STS_MOVE_PHASE f) 2

/-- MOVE_SAVE: SAVING; the stream goes out (R504, R505). -/
def State.moveSave (s : State) (f : Nat) : MbRes :=
  s.moveReq f [2] (fun m =>
    match s.vfSet f with
    | none => .refuse abInconsistent
    | some r =>
      let cs := s.stream1 f r
      let cs := cs ++ [endChunk cs]
      let key := (s.page m.keyPage).key
      let s := { s with freeCtr := s.freeCtr + 16 * 2 ^ 19 }
      let s := cs.zipIdx.foldl (fun s p => s.emit (.chunk f (p.1.seal key p.2))) s
      let bytes := cs.foldl (fun a c => a + c.data.length) 0
      .ok ((s.modMig f (fun m => { m with sent := cs.length, bytes := bytes })).setFld (F.VFN_STS_MOVE_PHASE f) 3) [])

/-- SAVED: the last chunk is sent (R504, R511). -/
def State.moveSaved (s : State) (f : Nat) : State :=
  if (Tab.find? s.host.moves f).isSome ∧ s.phase f = 3 then (s.setFld (F.VFN_STS_MOVE_PHASE f) 4).count F.VFN_MOVES_SAVED else s

/-- MOVE_COMMIT: the VF's objects end and its resources are cleared; it stays provisioned (R508). -/
def State.moveCommit (s : State) (f : Nat) : MbRes :=
  s.moveReq f [4] (fun _ =>
    let s := (s.endBinds f).destroyOwned f
    let s := match s.vfSet f with | some r => s.clearSet r | none => s
    .ok ((s.moveEnd f true 0).writeHeld f) [])

/-- Why a migration did not succeed, as the log of 0x6005 keeps it. -/
def mvFlr : Nat := 1
def mvCounter : Nat := 2
def mvTag : Nat := 3
def mvSet : Nat := 4
def mvDuplicate : Nat := 5
def mvTile : Nat := 6
def mvEnd : Nat := 7
def mvTimeout : Nat := 8
def mvCancel : Nat := 9

/-- MOVE_CANCEL in HALTED or SAVED (R508). -/
def State.moveCancel (s : State) (f : Nat) : MbRes :=
  s.moveReq f [2, 4] (fun _ => .ok ((s.moveEnd f false mvCancel).writeHeld f) [])

/-! ### The target (R502, R507) -/

/-- MOVE_RESTORE: the target VF is READY and owns no objects; its key came with MOVE_PREPARE (R502, R503). -/
def State.moveRestore (s : State) (f src srcVf : Nat) (key : List Byte) : MbRes :=
  if !vfOfPf0 f then .refuse abRange
  else if s.vfSt f = vfMoving then .refuse abMoving
  else if s.vfSt f ≠ vfReady then .refuse abModuleState
  else if s.partsOwned f ≠ [] ∨ s.ctxsOwned f ≠ [] ∨ (s.fn f).slots ≠ [] ∨
      s.trust.rings.any (fun r => decide (r.2.owner ∈ s.ownersOf f)) then .refuse abInconsistent
  else match s.firmwarePage with
    | none => .refuse abNoResource
    | some page => .ok (s.drew.migOpen f page (natsOf key) false src srcVf 5) []

/-- Two ranges of bytes have one in common. -/
def rangesMeet (a n b m : Nat) : Bool := decide (a < b + m ∧ b < a + n)

/-- An OWNER code of the source as it is at the target: the VF's own code, or a partition's. -/
def mapOwner (m : Mig) (f o : Nat) : Nat := if o = fnOwner m.peerVf then fnOwner f else o

/-- One record of the FUNCTION chunk takes effect (R505, R507). -/
def State.applyFn (s : State) (f : Nat) (m : Mig) (r : MigRec) : State :=
  let i := fun k => r.items.getD k 0
  let w := fun k => BitVec.ofNat 32 (i k)
  match r.kind with
  | 1 => s.modFn f (fun x => { x with slots := Tab.set x.slots (i 0) (i 1) })
  | 2 => s.modFn f (fun x => { x with held := (x.held ++ [(⟨i 0, i 1, i 2, i 3, i 4, i 5⟩ : EvRec)]).take 256 })
  | 3 =>
    let p := i 0
    let gs := (r.items.drop 6).take (i 5)
    let cfg := setBits (i 1 % 2 ^ 30) 15 0 (mapOwner m f (i 1 % 2 ^ 16))
    let s := s.setReg (F.MOD_PART_CFG_ENABLE p).off (BitVec.ofNat 32 cfg)
    let s := ((s.setFld (F.MOD_PART_TILES_TILES p) (i 2)).setFld (F.MOD_PART_STEP_LO p) (i 3)).setFld (F.MOD_PART_STEP_HI p) (i 4)
    let s := s.setFlag (F.MOD_PART_CFG_ACTIVE p) false
    let s := s.modPools (fun x => { x with partGran := Tab.set x.partGran p gs })
    let s := s.modTrust (fun t => { t with
      images := Tab.set t.images p (r.items.drop (6 + i 5))
      sealed := if (i 1).testBit 29 then gs.foldl (fun z g => Tab.set z g p) t.sealed else t.sealed })
    (if (i 1).testBit 31 then s.partOn p else s).measurePart p
  | 4 =>
    let b := (F.GMA_WIN_CTRL_ENABLE (i 0)).off
    let s := (List.range 5).foldl (fun s k => s.setReg (b + 4 * (k + 1)) (w (k + 2))) s
    let s := s.setReg b (BitVec.ofNat 32 (setBits (i 1 % 2 ^ 30) 15 0 (mapOwner m f (i 1 % 2 ^ 16))))
    let s := s.setFld (F.GMA_WIN_REF (i 0)) (crc32c (s.winImage (i 0)))
    if (i 1).testBit 31 then s.winEnable (i 0) true else s
  | 5 =>
    let b := (F.GMA_BAR_CFG_ENABLE (i 0)).off
    let s := (s.setReg b (BitVec.ofNat 32 (i 1 % 2 ^ 31))).setReg (b + 4) (w 2)
    let s := s.setReg (b + 8) (BitVec.ofNat 32 (mapOwner m f (i 3 / 2 ^ 16) * 2 ^ 16 + i 3 % 2 ^ 16))
    if (i 1).testBit 31 then s.barEnable (i 0) true else s
  | 6 =>
    s.modTrust (fun t => { t with
      rings := Tab.set t.rings (i 0) ⟨mapOwner m f (i 1), i 2, i 3, i 4, i 5, i 6, i 7, [], i 8⟩ })
  | 7 =>
    let s := s.setFld (F.TIL_CMD_HEAD_HEAD (i 0)) (i 3)
    s.modCore (i 0) (fun x => { x with
      st := CoreSt.ofCode (i 1), wait := .none, halt := decide (i 2 ≠ 0)
      image := if i 4 = 0 then none else some ⟨decide (i 5 ≠ 0), i 6, i 7, i 8, i 9, i 10⟩
      cmp := Compat.ofItems (r.items.drop 11) })
  | _ => s

/-- One record of a KEYS chunk takes effect: a page with its attributes, or a binding. -/
def State.applyKey (s : State) (f : Nat) (m : Mig) (r : MigRec) : State :=
  let i := fun k => r.items.getD k 0
  match r.kind with
  | 1 =>
    let sts := setBits (i 1) 31 16 (mapOwner m f (i 1 / 2 ^ 16))
    let s := s.setReg (F.KEY_PAGE_STS_STATE (i 0)).off (BitVec.ofNat 32 sts)
    let s := s.setFld F.KEY_FREE (s.fld F.KEY_FREE - 1)
    s.modTrust (fun t => { t with pages := Tab.set t.pages (i 0) ⟨r.items.drop (4 + i 3), (r.items.drop 4).take (i 3), i 2⟩ })
  | 2 => s.modTrust (fun t => { t with binds := Tab.set t.binds (mapOwner m f (i 0)) (bytesOf (r.items.drop 1)) })
  | _ => s

/-- One record of a CONTEXTS chunk: the context stands in ERROR (R507). -/
def State.applyCtx (s : State) (f : Nat) (m : Mig) (r : MigRec) : State :=
  let x := ctxOfItems r.items
  s.setCtx (r.items.getD 0 0) { x with owner := mapOwner m f x.owner }

/-- The parts of a tile's image joined in order of their offsets, where they cover it once (R506). -/
def imageOf (parts : List (Nat × Nat × List Byte)) (t : Nat) : Option (List Byte) :=
  let mine := (parts.filter (fun p => p.1 = t)).map (fun p => (p.2.1, p.2.2))
  let sorted := mine.foldl (fun (a : Tab (List Byte)) p => Tab.set a p.1 p.2) []
  let bs := sorted.flatMap (·.2)
  let starts := (sorted.foldl (fun (a : Bool × Nat) p => (a.1 && decide (p.1 = a.2), a.2 + p.2.length)) (true, 0))
  if starts.1 ∧ bs.length = tileImageSize ∧ sorted.length = mine.length then some bs else none

/-- A restore has succeeded: keys, function, tiles and contexts take effect, and the VF is READY (R507, R511). -/
def State.restoreDone (s : State) (f : Nat) (m : Mig) (r : ResSet) : State :=
  let recs := fun ty => (m.held.filter (fun h => h.1 = ty)).flatMap (fun h => migOfBytes h.2.2)
  let s := (recs 5).foldl (fun s x => s.applyKey f m x) s
  let s := (recs 2).foldl (fun s x => s.applyFn f m x) s
  let s := r.tiles.foldl (fun s t => match imageOf m.tileParts t with | some b => s.tileRestore t b | none => s) s
  let s := (recs 3).foldl (fun s x => s.applyCtx f m x) s
  ((s.moveEnd f true 0).writeHeld f).count F.VFN_MOVES_RESTORED

/-- A key page of a KEYS chunk that R441 would refuse as DUPLICATE. -/
def State.dupKey (s : State) (recs : List MigRec) : Bool :=
  let keys := (recs.filter (fun r => r.kind = 1)).map (fun r => r.items.drop (4 + r.items.getD 3 0))
  keys.any (fun k => s.trust.pages.any (fun p => decide (p.2.key = k ∧ s.pageSt p.1 = pageLoaded))) ||
    decide (keys.any (fun k => decide (1 < (keys.filter (· = k)).length)))

/-- END: the count and the digest of the headers, and every tile image whole (R505 to R507). -/
def State.restoreEnd (s : State) (f : Nat) (m : Mig) (r : ResSet) (data : List Byte) : State :=
  let hs := m.headers.flatMap (·.2)
  if leAt data 0 8 ≠ m.counters.length ∨ natsOf ((data.drop 8).take 48) ≠ sha384 (natsOf hs) then s.moveFail f mvEnd
  else if !m.headed then s.moveFail f mvSet
  else if r.tiles.any (fun t => (imageOf m.tileParts t).isNone) then s.moveFail f mvTile
  else s.restoreDone f m r

/-- The content of a chunk whose tag has matched (R505 to R507). -/
def State.chunkApply (s : State) (f : Nat) (m : Mig) (r : ResSet) (typ index addr : Nat) (data : List Byte) : State :=
  let hold := s.modMig f (fun m => { m with held := m.held ++ [(typ, index, data)] })
  match typ with
  | 1 =>
    if (data.drop 6).take 164 ≠ Tab.getD s.host.pools.sets f [] then s.moveFail f mvSet
    else
      let s := s.modMig f (fun m => { m with headed := true })
      if leAt data 170 1 % 2 = 1 then s.setFlag (F.VFN_STS_FROZEN f) true else s
  | 2 => hold
  | 3 => if index ∈ r.blocks then hold else s.moveFail f mvSet
  | 4 =>
    if index ∉ r.tiles then s.moveFail f mvSet
    else if tileImageSize < addr + data.length ∨
        m.tileParts.any (fun p => decide (p.1 = index) && rangesMeet p.2.1 p.2.2.length addr data.length) then s.moveFail f mvTile
    else s.modMig f (fun m => { m with tileParts := m.tileParts ++ [(index, addr, data)] })
  | 5 => if s.dupKey (migOfBytes data) then s.moveFail f mvDuplicate else hold
  | 6 =>
    let inHbm := r.hbm.any (fun g => decide (g * 2 ^ 30 ≤ addr ∧ addr + data.length ≤ (g + 1) * 2 ^ 30))
    let inShelf := r.shelf.any (fun h => decide (shelfBase + h * 2 ^ 28 ≤ addr ∧ addr + data.length ≤ shelfBase + (h + 1) * 2 ^ 28))
    if inHbm ∨ inShelf then s.putMem addr data else s.moveFail f mvSet
  | 7 => s.restoreEnd f m r data
  | _ => s.moveFail f mvTag

/-- A chunk arrives at a VF in RESTORING (R507). -/
def State.chunkIn (s : State) (f : Nat) (bs : List Byte) : State :=
  match Tab.find? s.host.moves f, s.vfSet f with
  | some m, some r =>
    if m.source ∨ s.phase f ≠ 5 then s
    else
      let h := bs.take 32
      let n := leAt h 8 8
      let len := leAt h 16 4
      let ct := natsOf ((bs.drop 32).take len)
      let key := (s.page m.keyPage).key
      if n ∈ m.counters then s.moveFail f mvCounter
      else if mib < len ∨ bs.length ≠ 32 + len + 16 ∨
          gcmTag key (chunkIv n) (natsOf h) ct ≠ natsOf ((bs.drop (32 + len)).take 16) then s.moveFail f mvTag
      else
        let m := { m with counters := m.counters ++ [n], headers := Tab.set m.headers n h, bytes := m.bytes + len }
        let s := s.modMig f (fun _ => m)
        s.chunkApply f m r (leAt h 0 1) (leAt h 20 4) (leAt h 24 8) (bytesOf (gcmCtr key (chunkIv n) ct))
  | _, _ => s

/-- 10 s without a chunk (R507). -/
def State.chunkLate (s : State) (f : Nat) : State :=
  match Tab.find? s.host.moves f with
  | some m => if m.source ∨ s.phase f ≠ 5 then s else s.moveFail f mvTimeout
  | none => s

/-! ### The commands -/

/-- MOVE_PREPARE (R503). -/
def execMovePrepare (f v dst dstVf : Nat) (trusted : Bool) (s : State) : Host.Outcome State Fault Refusal :=
  .next (s.serve f 0x110 .pf0 (fun s => s.movePrepare v dst dstVf trusted))
/-- MOVE_FREEZE (R504). -/
def execMoveFreeze (f v : Nat) (s : State) : Host.Outcome State Fault Refusal :=
  .next (s.serve f 0x111 .pf0 (fun s => s.moveFreeze v))
/-- MOVE_HALTED (R504). -/
def execMoveHalted (v : Nat) (s : State) : Host.Outcome State Fault Refusal := .next (s.moveHalted v)
/-- MOVE_SAVE (R505). -/
def execMoveSave (f v : Nat) (s : State) : Host.Outcome State Fault Refusal :=
  .next (s.serve f 0x112 .pf0 (fun s => s.moveSave v))
/-- MOVE_SAVED (R504). -/
def execMoveSaved (v : Nat) (s : State) : Host.Outcome State Fault Refusal := .next (s.moveSaved v)
/-- MOVE_RESTORE (R507). -/
def execMoveRestore (f v src srcVf : Nat) (key : List Byte) (s : State) : Host.Outcome State Fault Refusal :=
  .next (s.serve f 0x113 .pf0 (fun s => s.moveRestore v src srcVf key))
/-- MOVE_CHUNK_RECEIVE (R507). -/
def execMoveChunkReceive (v : Nat) (bs : List Byte) (s : State) : Host.Outcome State Fault Refusal := .next (s.chunkIn v bs)
/-- MOVE_CHUNK_TIMEOUT (R507). -/
def execMoveChunkTimeout (v : Nat) (s : State) : Host.Outcome State Fault Refusal := .next (s.chunkLate v)
/-- MOVE_COMMIT (R508). -/
def execMoveCommit (f v : Nat) (s : State) : Host.Outcome State Fault Refusal :=
  .next (s.serve f 0x114 .pf0 (fun s => s.moveCommit v))
/-- MOVE_CANCEL (R508). -/
def execMoveCancel (f v : Nat) (s : State) : Host.Outcome State Fault Refusal :=
  .next (s.serve f 0x115 .pf0 (fun s => s.moveCancel v))

end Sys2Proof.Machine
end

