-- ==== Sys2Proof/Machine/LogOps.lean ====
section
/-!
DEFINITION. The management cycle of the log ring: what the module does while no command waits (R606).
-/
namespace Sys2Proof.Machine

/-- The oldest entry of the FIFO takes its place in the ring: entry n at slot n mod 1,024, LOG_HEAD counts it, and one of
SEVERITY 2 or more goes to the flash journal, which keeps the newest 65,536 (R606). -/
def State.storeLog (s : State) : State :=
  match s.logFifo with
  | [] => s
  | e :: rest =>
    let n := s.fld F.LOG_HEAD
    let s := { s with logFifo := rest, logRing := Tab.set s.logRing (n % 1024) e }
    let s := s.setFld F.LOG_HEAD ((n + 1) % 2 ^ 32)
    if 2 ≤ e.severity then { s with journal := lastN 65536 (s.journal ++ [(n, e)]) } else s

/-- What happens while no command waits: one management cycle of the log ring. -/
def State.tick (s : State) : State := s.storeLog

end Sys2Proof.Machine
end

