-- ==== Sys2Proof/Machine/StartOps.lean ====
section
/-!
DEFINITION. Power-up to READY: what survives a start, its steps, parking, and the minimum sets (R579 to R591, R615 to R617).
-/
namespace Sys2Proof.Machine

/-! ### Boot flash and the firmware status register (R608, R611, R618, R619) -/

/-- DIGEST matches the payload (R615); the image of manufacture is taken as it is. -/
def FwImg.digestOk (i : FwImg) : Bool := i.digest.isEmpty || decide (i.digest = digestOf i.payload)

/-- A slot passes the verification of R615; whether it authenticates and its signature verifies is the report's. -/
def State.slotGood (s : State) (r : StartReport) (k : Nat) : Bool :=
  match Tab.find? s.mgmt.flash.slots k with
  | none => false
  | some i => r.slotOk.getD k false && i.digestOk && decide (s.mgmt.flash.fusedMin ≤ i.svn)

/-- A catalogue copy qualifies beside a bundle: it verifies, and COMPAT agrees both ways (R616). -/
def State.catGood (s : State) (r : StartReport) (k : Nat) : Bool :=
  match Tab.find? s.mgmt.flash.cats k, Tab.find? s.mgmt.flash.slots s.mgmt.flash.active with
  | some c, some b =>
    r.catOk.getD k false && c.digestOk && decide (c.compat ≤ b.version) && decide (b.compat ≤ c.version)
  | _, _ => false

/-! ### What a module keeps without power (R213, R579, R590, R605, R628) -/

/-- Lifetime totals that firmware keeps: object, subindex, and the counter since the start (R226, R460, R544). -/
def totals : List (Nat × Nat × Fld) :=
  (List.range 16).flatMap (fun i => [(0xA100, i + 1, F.HBC_CE_CNT i), (0xA101, i + 1, F.HBC_UE_CNT i)]) ++
  (List.range 24).flatMap (fun i =>
    [(0xA102, i + 1, F.SHF_CE_CNT (i / 3) (i % 3)), (0xA103, i + 1, F.SHF_UE_CNT (i / 3) (i % 3))]) ++
  (List.range 16).flatMap (fun i => [(0xA104, i + 1, F.TIL_CARREL_CE_CNT i), (0xA105, i + 1, F.TIL_CARREL_UE_CNT i)]) ++
  (List.range 6).flatMap (fun i => [(0x4013, i + 1, ⟨0x2200040 + 4 * i, 31, 0⟩), (0x5003, i + 1, ⟨0x2800040 + 4 * i, 31, 0⟩)])

/-- Firmware writes the lifetime totals to flash. -/
def State.foldTotals (s : State) : State :=
  totals.foldl (fun s x =>
    if s.fld x.2.2 = 0 then s
    else s.setObj x.1 x.2.1 (leBytes 8 ((s.storedNat x.1 x.2.1 + s.fld x.2.2) % 2 ^ 64))) s

/-- Entries that wait before the log ring are stored (R408, R606). -/
def State.logTail (s : State) : State := Nat.repeat State.storeLog s.logFifo.length s

/-- Objects that configuration flash holds (R628). -/
def keptObject (key : Nat) : Bool := (objRow (key / 256) (key % 256)).any (fun r => r.pers = 1)

/-- The rails fall: the module is in STANDBY or OFF (R579). What is in flash, the inputs of the standby rail and what has
left the module stay; all else is as after reset (R212, R213, R628). `cause` is the CAUSE of the next start (R593). -/
def State.powerDown (s : State) (st cause : Nat) : State :=
  let s := s.logTail.foldTotals
  let g := s.mgmt
  let t : State := { State.reset with
    pending := s.pending, out := s.out, freeCtr := s.freeCtr, journal := s.journal,
    dict := s.dict.filter (fun p => keptObject p.1),
    power := { Power.init with log := s.power.log, incomplete := s.power.incomplete, trip := s.power.trip },
    trust := { Trust.init with secLog := s.trust.secLog },
    host := { Endpoint.init with perstHigh := s.host.perstHigh, moveLog := s.host.moveLog },
    mgmt := { Mgmt.init with
      audit := g.audit, auditSeq := g.auditSeq, flash := g.flash, parkList := g.parkList, cause := cause,
      needCycle := g.needCycle, leakLow := g.leakLow, holdover := g.holdover, slotId := g.slotId, tables := g.tables } }
  let t := (t.setFld F.MOD_STS_STATE st).setFlag F.THM_STS_LEAK g.leakLow
  if st = 0 then t
  else
    let t := (t.setFld F.PWR_HOLDUP_CHARGE_PCT (s.fld F.PWR_HOLDUP_CHARGE_PCT)).setFld F.PWR_HOLDUP_ENERGY_J
      (s.fld F.PWR_HOLDUP_ENERGY_J)
    t.setFlag F.PWR_STS_HOLDUP_OK (s.flag F.PWR_STS_HOLDUP_OK)

/-! ### Parking (R26, R37, R581, R590, R594) -/

def unitTiles : ModUnit → List Nat
  | .tile i => [i] | .die d => [2 * d, 2 * d + 1] | .band d => [2 * d, 2 * d + 1] | _ => []
def unitStacks : ModUnit → List Nat
  | .stack i => [i] | .die d => [2 * d, 2 * d + 1] | _ => []
def unitShelves : ModUnit → List Nat
  | .shelf i => [i] | .die d => [3 * d, 3 * d + 1, 3 * d + 2] | .band d => [3 * d, 3 * d + 1, 3 * d + 2] | _ => []

/-- Granules of a stack and of a shelf die (R485). -/
def stackGranules (i : Nat) : List Nat := (List.range 48).map (48 * i + ·)
def shelfGranules (i : Nat) : List Nat := (List.range 5).map (15 * (i / 3) + 5 * (i % 3) + ·)

/-- Bits are set in a field. -/
def State.setBitsIn (s : State) (f : Fld) (l : List Nat) : State := l.foldl (fun s i => s.setMaskBit f i true) s

/-- A unit takes no part in the start: the registers show it and every unit it contains, and its resources are parked. -/
def State.showParked (s : State) (u : ModUnit) : State :=
  let s := (s.setBitsIn F.MOD_PARKED0_TILES (unitTiles u)).setBitsIn F.MOD_PARKED0_STACKS (unitStacks u)
  let s := s.setBitsIn F.MOD_PARKED1_SHELVES (unitShelves u)
  let s := match u with
    | .die d => s.setBitsIn F.MOD_PARKED1_DIES [d]
    | .dieB => (s.setFlag F.MOD_PARKED2_CIRC_B true).setBitsIn F.CIP_ENGINE_STS_PARKED ((List.range 16).map (16 + ·))
    | _ => s
  let s := (unitStacks u).foldl (fun s i => s.setFlag (F.HBC_STS_PARKED i) true) s
  let s := (unitShelves u).foldl (fun s i => s.setMaskBit (F.SHF_STS_PARKED (i / 3)) (i % 3) true) s
  s.modPools (fun x => { x with
    tiles := putPlaces x.tiles (unitTiles u) .parked,
    hbm := putPlaces x.hbm ((unitStacks u).flatMap stackGranules) .parked,
    shelf := putPlaces x.shelf ((unitShelves u).flatMap shelfGranules) .parked })

/-- The registers show a unit parked (R594). -/
def State.shownParked (s : State) : ModUnit → Bool
  | .die d => (s.fld F.MOD_PARKED1_DIES).testBit d
  | .dieB => s.flag F.MOD_PARKED2_CIRC_B
  | u => (unitTiles u).all (fun i => (s.fld F.MOD_PARKED0_TILES).testBit i) &&
      (unitStacks u).all (fun i => (s.fld F.MOD_PARKED0_STACKS).testBit i) &&
      (unitShelves u).all (fun i => (s.fld F.MOD_PARKED1_SHELVES).testBit i)

def State.onParkList (s : State) (u : ModUnit) : Bool := s.mgmt.parkList.any (fun p => p.1 = u)

/-- A unit fails a step of the start and is parked (R581, R590, R595). -/
def State.parkUnit (s : State) (u : ModUnit) (why : Nat) : State :=
  let fresh := !s.onParkList u
  let s := s.showParked u
  let s := s.modMgmt (fun g => { g with parkList := g.parkList.filter (fun p => p.1 ≠ u) ++ [(u, why, s.modTime)] })
  if fresh then s.raise blkMod 16 else s

/-- Marks of 0xA300:02, two bytes each: the kind of unit (0 stack, 1 tile, 2 shelf die, 3 tensor die, 4 band, 5 circulation die
B) and its number. -/
def unitOfMark (kind i : Nat) : ModUnit :=
  match kind with
  | 0 => .stack i | 1 => .tile i | 2 => .shelf i | 3 => .die i | 4 => .band i | _ => .dieB

def markOfUnit : ModUnit → List Byte
  | .stack i => leBytes 1 0 ++ leBytes 1 i | .tile i => leBytes 1 1 ++ leBytes 1 i | .shelf i => leBytes 1 2 ++ leBytes 1 i
  | .die i => leBytes 1 3 ++ leBytes 1 i | .band i => leBytes 1 4 ++ leBytes 1 i | .dieB => leBytes 1 5 ++ leBytes 1 0

def marksOf (bs : List Byte) : List ModUnit :=
  (chunksOf 2 bs).map (fun x => unitOfMark (leAt x 0 1) (leAt x 1 1))

/-! ### Steps 3 and 4: the boot ROM and calibration (R582, R615) -/

/-- R586: the module is held where it is; the stop code goes to boot flash, and ALERT_N is asserted. -/
def State.holdModule (s : State) (code : Nat) : State :=
  (s.modMgmt (fun g => { g with held := code, start := none })).modFlash (fun f => { f with stop := code })

/-- The slot that the boot ROM starts from, and whether it fell back to it (R615, R617): the PENDING slot first, else the
active one; a trial that was not confirmed counts as a failed verification. -/
def State.bootChoice (s : State) (r : StartReport) : Option (Nat × Bool) :=
  let f := s.mgmt.flash
  let first := f.pending.getD f.active
  let ok := s.slotGood r first && !(f.pending.isNone && f.trial)
  if ok then some (first, false)
  else if s.slotGood r (1 - first) then some (1 - first, true)
  else none

/-- Step 3 (R615): librarian firmware starts from the slot chosen. -/
def State.bootSlot (s : State) (r : StartReport) : State :=
  match s.bootChoice r with
  | none => s.holdModule 3
  | some (k, fell) =>
    let s := s.modFlash (fun f => { f with
      active := k, trial := f.pending.isSome && !fell, trialBad := false, pending := none, deferred := false, due := none,
      staged := f.staged && f.pending.isNone, failed := fell })
    let s := s.setFlag F.FWM_STS_FALLBACK fell
    if fell then s.raise blkFwm 19 else s

/-- The versions of what verified, and the SVN in use (R619). -/
def State.showVersions (s : State) (r : StartReport) : State :=
  let v := fun (t : Tab FwImg) (k : Nat) => ((Tab.find? t k).map (·.version)).getD 0
  let f := s.mgmt.flash
  let s := s.setReg F.FWM_VER_A.off (BitVec.ofNat 32 (if s.slotGood r 0 then v f.slots 0 else 0))
  let s := s.setReg F.FWM_VER_B.off (BitVec.ofNat 32 (if s.slotGood r 1 then v f.slots 1 else 0))
  s.setFld F.FWM_SVN_ACTIVE (((Tab.find? f.slots f.active).map (·.svn)).getD 0)

/-- The ceiling of each tile, after the ageing measurement; one below OP 4 parks the tile (R393, R581). -/
def State.setCeilings (s : State) (low : List Nat) : State :=
  (List.range 16).foldl (fun s t =>
    let s := (s.setFld (F.PWR_TILE_OP_CEIL t) (s.ceiling t)).ageing t (decide (t ∈ low))
    if s.fld (F.PWR_TILE_OP_CEIL t) < 4 ∧ !s.shownParked (.tile t) then s.parkUnit (.tile t) 4 else s) s

/-- Units that fail a step; one that is parked already was not tested. -/
def State.parkFails (s : State) (r : StartReport) (step : Nat) : State :=
  (r.fails.filter (fun x => decide (x.1 = step))).foldl (fun s x =>
    if s.shownParked x.2.1 then s else s.parkUnit x.2.1 x.2.2) s

/-- Sensors that fail their self-check hold their die's term at 4 (R411, R582). -/
def State.badSensors (s : State) (bad : List Nat) : State :=
  if bad = [] then s
  else
    let dies := (List.range 8).filter (fun d => ((dieSensors d).take 6).any (fun i => decide (i ∈ bad)))
    (s.modPower (fun p => { p with sensorBad := dies })).raise blkThm 21

/-- Step 4 (R582, R590): units on the park list and not marked for a retest are parked; then the tests, the floor, and what
the last power-fail or trip left to show (R409, R411). -/
def State.calibrate (s : State) (r : StartReport) : State :=
  let s := s.setFld F.MOD_STS_STATE 3
  let marks := marksOf (s.stored 0xA300 2)
  let keep := s.mgmt.parkList.filter (fun p => decide (p.1 ∉ marks))
  let s := keep.foldl (fun s p => s.showParked p.1) s
  let s := (((s.parkFails r 4).badSensors r.sensorsBad).setFld F.PWR_FLOOR_FLOOR_W r.floorW).setCeilings r.lowMargin
  let s := (List.range 16).foldl (fun s i =>
    s.setFlag (F.HBC_STS_TRAINED i) (!(s.fld F.MOD_PARKED0_STACKS).testBit i)) s
  let s := s.setFlag F.THM_STS_TRIP_LAST s.power.trip
  let inc := s.power.incomplete
  let s := (s.modPower (fun p => { p with trip := false, incomplete := false })).modMgmt (fun g => { g with lostFlush := inc })
  (if inc then s.raise blkPwr 20 else s).applyOps

/-- Step 5 (R212, R213): every memory is filled with zeros. -/
def State.fillMemory (s : State) (r : StartReport) : State :=
  let s := { s.setFld F.MOD_STS_STATE 4 with mem := [], ue := [], ce := [] }
  let s := s.parkFails r 5
  let s := (List.range 16).foldl (fun s i =>
    s.setFlag (F.HBC_STS_INIT_DONE i) (!(s.fld F.MOD_PARKED0_STACKS).testBit i)) s
  let s := (List.range 8).foldl (fun s d =>
    s.setFlag (F.SHF_STS_INIT_DONE d) (decide (s.fld (F.SHF_STS_PARKED d) ≠ 7))) s
  { s with carrelInit := true }

/-! ### Step 7: firmware load and block configuration (R584, R597, R616) -/

def State.dieB (s : State) : Bool := !s.flag F.MOD_PARKED2_CIRC_B

/-- The catalogue that the librarian chooses: the PENDING copy or the one in use, else the other (R616). -/
def State.chooseCatalogue (s : State) (r : StartReport) : State :=
  let f := s.mgmt.flash
  let first := f.catPending.getD f.catActive
  let ok := s.catGood r first && !(f.catPending.isNone && f.catTrial)
  let other := s.catGood r (1 - first)
  let s := s.modFlash (fun f => { f with
    catActive := if ok ∨ !other then first else 1 - first, catTrial := f.catPending.isSome && ok, catPending := none,
    catStaged := f.catStaged && f.catPending.isNone, failed := f.failed || !ok })
  let s := s.setFlag F.FWM_STS_CAT_FALLBACK (!ok && other)
  let s := if !ok && other then s.raise blkFwm 20 else s
  let v := if ok ∨ other then ((Tab.find? s.mgmt.flash.cats s.mgmt.flash.catActive).map (·.version)).getD 0 else 0
  s.setReg F.FWM_VER_CAT.off (BitVec.ofNat 32 v)

/-- A catalogue is in use. -/
def State.catalogueUp (s : State) (r : StartReport) : Bool := s.catGood r s.mgmt.flash.catActive

/-- A register takes the value of an object. -/
def State.loadReg (s : State) (f : Fld) (idx sub : Nat) : State := s.setReg f.off (BitVec.ofNat 32 (s.storedNat idx sub))

/-- The persistent objects that are loaded at start (R226, R286, R343, R417 to R419, R426, R431, R509, R543, R572, R578). -/
def State.loadObjects (s : State) : State :=
  let s := (List.range 16).foldl (fun s i => s.loadReg (F.HBC_CE_THRESH i) 0xA110 1) s
  let s := (List.range 8).foldl (fun s i => s.loadReg (F.SHF_CE_THRESH i) 0xA110 1) s
  let s := s.loadReg F.MYR_FABRIC_ID_VALID 0x3001 1
  let s := (List.range 48).foldl (fun s n =>
    (s.loadReg (F.MYL_CFG_RATE_ALLOW n) 0x3010 (n + 1)).loadReg (F.MYL_EXPECT_CHECK n) 0x3011 (n + 1)) s
  let s := (s.loadReg F.GMA_MSG_TIMEOUT 0x3020 2).loadReg F.GMA_RREG_BLOCKS_BLOCKS_LO 0x3020 3
  let s := s.setFlag F.GMA_CTX_LOC_HOST (decide (s.storedNat 0x3020 1 = 1))
  let s := s.setFld F.PWR_CAP_CAP_W (s.storedNat 0x2001 1)
  let s := ((s.setFld F.PWR_LIMITS_SLEW (s.storedNat 0x2002 1)).setFld F.PWR_LIMITS_WARN_DV (s.storedNat 0x2002 2)).setFld
    F.PWR_LIMITS_MAX_HOLD_MS (s.storedNat 0x2002 3)
  let s := (s.setFld F.THM_CFG_THROTTLE_C (s.storedNat 0x2003 1)).setFld F.THM_CFG_LEAK_ACTION (s.storedNat 0x2003 2)
  let s := (s.setFld (F.VFN_QOS_HBM_WEIGHT 0) (s.storedNat 0x6004 1)).setFld (F.VFN_QOS_SEND_WEIGHT 0) (s.storedNat 0x6004 2)
  let s := (List.range 4).foldl (fun s r => s.loadReg (F.RTP_CFG_BIFURCATE r) 0x4020 (r + 1)) s
  let s := (List.range 2).foldl (fun s i =>
    let v := s.storedNat 0x3040 (i + 1)
    (s.setReg (F.FPP_PORT_CFG_MODE i).off (BitVec.ofNat 32 v)).setReg (F.FPP_MODE_ALLOW_MODE_ALLOW i).off
      (BitVec.ofNat 32 (v / 2 ^ 32))) s
  let sel := s.stored 0x8001 1
  (List.range (sel.length / 8)).foldl (fun s i =>
    (s.setReg (F.TEL_SEL_ID_QUEUE_ID i).off (BitVec.ofNat 32 (leAt sel (8 * i) 4))).setReg (F.TEL_SEL_INT i).off
      (BitVec.ofNat 32 (leAt sel (8 * i + 4) 4))) s

/-- Bits [49:0] of a route entry are written to a bank (R261, R263). -/
def State.putRoute (s : State) (bank1 : Bool) (x : Bool × Nat × Nat) : State :=
  let j := (if x.1 then 0x10000 else 0) + 4 * x.2.1
  let f := fun w => if bank1 then F.MYR_BANK1 (j + w) else F.MYR_BANK0 (j + w)
  (s.setReg (f 0).off (BitVec.ofNat 32 x.2.2)).setReg (f 1).off (BitVec.ofNat 32 (x.2.2 / 2 ^ 32))

/-- The route tables of 0x3013 go to the bank in use (R286). -/
def State.loadRoutes (s : State) : State :=
  match s.mgmt.tables with
  | some l => l.foldl (fun s x => s.putRoute false x) s
  | none => (Config.referenceTables (s.fld F.MYR_FABRIC_ID_MODULE_ID)).foldl (fun s x => s.putRoute false x) s

/-- The granules that firmware withholds: the one of the context backing table, and the one of the write buffer (R523,
R584). -/
def State.withhold (s : State) : State :=
  let up := (List.range 16).filter (fun i => !(s.fld F.MOD_PARKED0_STACKS).testBit i)
  match up.getLast? with
  | none => s
  | some i =>
    let g := 48 * i + 47
    let base := g * 2 ^ 30 + 0x3C000000
    let s := (s.setReg F.GMA_CTX_BASE_LO_BASE.off (BitVec.ofNat 32 base)).setReg F.GMA_CTX_BASE_HI_BASE.off
      (BitVec.ofNat 32 (base / 2 ^ 32))
    let wb := s.storedNat 0x4001 1 = 1
    let s := s.modPools (fun x => { x with
      hbm := putPlaces (putPlaces x.hbm [767] (if i = 15 then .pool else .parked)) (if wb then [g, g - 1] else [g]) .firmware })
    s.modStore (fun t => { t with wbBase := if wb then some ((g - 1) * 2 ^ 30) else none })

/-- A block that firmware configured: its reference CRC is committed, and it starts with CRC_CHECK (R58 to R62, R584). -/
def State.commitBlock (s : State) (b : Blk) : State :=
  let (s, _) := s.crcPass b
  let s := s.setReg b.cfgRefOff (s.reg b.cfgCrcOff)
  (s.enableBlock b).setFlag b.crcCheck true

/-- The blocks that firmware configures and starts in step 7. -/
def State.firmwareBlocks (s : State) : List Blk :=
  let two := fun (k : BlockKind) (n : Nat) => (List.range n).map (fun i => (⟨k, i⟩ : Blk))
  (two .hbc 16).filter (fun b => !(s.fld F.MOD_PARKED0_STACKS).testBit b.inst) ++
  (two .shf 8).filter (fun b => decide (s.fld (F.SHF_STS_PARKED b.inst) ≠ 7)) ++
  [⟨.gma, 0⟩, ⟨.pce, 0⟩, ⟨.vfn, 0⟩, ⟨.nvc, 0⟩] ++ two .rtp (if s.dieB then 4 else 2) ++
  two .fpp (if s.dieB then 2 else 1) ++ two .fps (if s.dieB then 2 else 1) ++ [⟨.cip, 0⟩, ⟨.myr, 0⟩]

/-- Circulation cores run, and the librarian core (R597, R620); those of a parked die B stay HELD. -/
def State.coresUp (s : State) : State :=
  ((List.range 4) ++ (if s.dieB then [4, 5, 6, 7] else []) ++ [8]).foldl (fun s k => s.setFld (F.FWM_CORE_STS_STATE k) 1) s

/-- Measurements 0x01 to 0x05 and 0x07, which change only at a start (R452). -/
def State.measureStart (s : State) : State :=
  let f := s.mgmt.flash
  let b := natsOf (((Tab.find? f.slots f.active).map (·.payload)).getD [])
  let c := natsOf (((Tab.find? f.cats f.catActive).map (·.payload)).getD [])
  let v := ((Tab.find? f.slots f.active).map (·.version)).getD 0
  let put := fun (s : State) (i : Nat) (x : List Nat) =>
    s.modTrust (fun t => { t with measures := Tab.set t.measures i (natsOf (Config.measurement i x)) })
  ((put (put (put (put (put (put s 1 [f.fusedMin]) 2 (v :: b)) 3 (v :: b)) 4 c) 5 c) 7 [0])).measureSecurity

/-- Marks are consumed; a unit that was retested and passed leaves the park list (R590). -/
def State.endRetest (s : State) : State :=
  let marks := marksOf (s.stored 0xA300 2)
  let s := s.modMgmt (fun g => { g with parkList := g.parkList.filter (fun p => !(decide (p.1 ∈ marks) && !s.shownParked p.1)) })
  s.setObj 0xA300 2 []

/-- Step 7. -/
def State.loadFirmware (s : State) (r : StartReport) : State :=
  let s := ((s.parkFails r 7).chooseCatalogue r).coresUp
  let s := (s.loadObjects.withhold.loadRoutes.setBitsIn F.CIP_ENGINE_STS_PARKED r.enginesBad).measureStart
  let s := s.endRetest
  (s.firmwareBlocks.foldl State.commitBlock s).judgeWbMode.applyOps

/-! ### Steps 8 and 9: links, and the end of a start (R585, R587, R589, R617) -/

/-- Step 8 (R585): links train; front ports and drives come up by commands of their own. -/
def State.startLinks (s : State) : State :=
  (List.range (if s.dieB then 48 else 24)).foldl (fun s n => s.commitBlock ⟨.myl, n⟩) s

/-- The minimum set for compute (R587): a tensor die that is not parked with an unparked tile and an unparked stack. -/
def State.computeSet (s : State) : Bool :=
  (List.range 8).any (fun d =>
    let t := s.fld F.MOD_PARKED0_TILES
    let k := s.fld F.MOD_PARKED0_STACKS
    !(s.fld F.MOD_PARKED1_DIES).testBit d && (!t.testBit (2 * d) || !t.testBit (2 * d + 1)) &&
      (!k.testBit (2 * d) || !k.testBit (2 * d + 1)))

/-- The content of a readiness message (R589). -/
def State.readiness (s : State) : State :=
  s.emit (.mctp 0 [s.fld F.MOD_STS_STATE, (s.reg F.MOD_START_START_MS.off).toNat, (s.reg F.MOD_PARKED0_TILES.off).toNat,
    (s.reg F.MOD_PARKED1_DIES.off).toNat, (s.reg F.MOD_PARKED2_CIRC_B.off).toNat])

/-- A trial is confirmed (R617): the fused minimum rises to the SVN of the bundle. -/
def State.confirmTrial (s : State) : State :=
  s.modFlash (fun f =>
    if f.trialBad then f
    else { f with
      trial := false, catTrial := false,
      fusedMin := if f.trial then max f.fusedMin (((Tab.find? f.slots f.active).map (·.svn)).getD 0) else f.fusedMin })

/-- Step 9: READY or SERVICE (R587, R589, R593). -/
def State.endStart (s : State) (r : StartReport) : State :=
  let next := s.storedNat 0xA300 3 = 1
  let full := s.computeSet && s.catalogueUp r
  let why := if !full then 1 else if next then 2 else 0
  let s := if next then s.setObj 0xA300 3 [0] else s
  let s := s.setFld F.MOD_STS_STATE (if why = 0 then 6 else 5)
  let s := s.setFlag F.MOD_STS_READY (why = 0)
  let s := ((s.setFld F.MOD_START_START_MS r.ms).setFld F.MOD_START_SERVICE_WHY why).setFld F.MOD_START_STOP_CODE
    s.mgmt.flash.stop
  let s := (s.setFld F.MOD_START_CAUSE s.mgmt.cause).modFlash (fun f => { f with stop := 0 })
  let s := if why = 0 then s else s.raise blkMod 17
  let s := if why ≠ 1 then s.confirmTrial else s
  (s.modMgmt (fun g => { g with start := none })).showFw.readiness

/-! ### The sequence (R580, R581, R586) -/

/-- What a step of the start does. -/
def State.startStep (s : State) (r : StartReport) : Nat → State
  | 1 => s.modMgmt (fun g => { g with slotId := r.slotId })
  | 3 => (((s.setFld F.MOD_STS_STATE 2).bootSlot r).showVersions r).showFw
  | 4 => s.calibrate r
  | 5 => s.fillMemory r
  | 6 => s.parkFails r 6
  | 7 => s.loadFirmware r
  | 8 => s.startLinks
  | 9 => s.endStart r
  | _ => s

/-- The steps from `n` on, each after the one before it, until the start ends, is held, or waits for the limit of a step. -/
def State.startFrom (r : StartReport) : Nat → Nat → State → State
  | 0, _, s => s
  | k + 1, n, s =>
    let s := s.setFld F.MOD_STS_STEP n
    if r.stop.1 = n ∧ r.stop.2 ≠ 0 then s.holdModule r.stop.2
    else
      let s := s.startStep r n
      if s.mgmt.held ≠ 0 ∨ r.stalls.any (fun x => decide (x.1 = n)) then s
      else State.startFrom r k (n + 1) s

/-- A start begins: PWR_EN has been asserted for 1 ms with the input in range; not while LEAK_N is low or a PWR_EN cycle is
owed (R411, R580, R586, R659). -/
def State.startSequence (s : State) (r : StartReport) : State :=
  if s.fld F.MOD_STS_STATE ≠ 1 ∨ s.mgmt.start.isSome ∨ s.mgmt.held ≠ 0 ∨ s.mgmt.needCycle ∨ s.mgmt.leakLow then s
  else State.startFrom r 9 1 (s.modMgmt (fun g => { g with start := some r }))

/-- A step reaches its limit: the units that have not passed it are parked, and the start goes on (R580, R581). -/
def State.stepLimit (s : State) : State :=
  match s.mgmt.start with
  | none => s
  | some r =>
    let n := s.fld F.MOD_STS_STEP
    match r.stalls.find? (fun x => decide (x.1 = n)) with
    | none => s
    | some x => State.startFrom r (9 - n) (n + 1) (if n = 8 then s else
      x.2.foldl (fun s u => if s.shownParked u then s else s.parkUnit u 8) s)

def execStartSequence (r : StartReport) (s : State) : Host.Outcome State Fault Refusal := .next (s.startSequence r)

def execStartStepLimit (s : State) : Host.Outcome State Fault Refusal := .next s.stepLimit

/-- The input reaches 40 V (R579). -/
def execInputApplied (s : State) : Host.Outcome State Fault Refusal :=
  .next (if s.fld F.MOD_STS_STATE = 0 ∧ !s.power.failing then s.setFld F.MOD_STS_STATE 1 else s)

end Sys2Proof.Machine
end

