-- ==== Sys2Proof/Machine/PowerFail.lean ====
section
/-!
DEFINITION. What ends in STANDBY or OFF: the power-fail sequence, overvoltage, trips, leaks and the deassertion of PWR_EN (R405,
R408, R409, R411, R413, R588, R652, R654, R659).
-/
namespace Sys2Proof.Machine

/-- The 2 µs row of R408: every tile is calm, and lectern cores stop with their tiles. -/
def State.allCalm (s : State) : State :=
  (List.range 16).foldl (fun s t => (s.calmRequest t).clockStopped t) s

/-- The 10 µs row of R408: each ACTIVE link sends DOWN with reason DISABLED. -/
def State.linksDown (s : State) : State :=
  (List.range 48).foldl (fun s n =>
    if s.linkSt n ≠ linkActive then s
    else ((s.sendControl n [3, 0, 0, 0, 12]).setReason n 12).dropLink n linkDisabled) s

/-- The 50 µs row of R408: core rails, and the memories that do not hold the write buffer, are off. -/
def State.memoriesOff (s : State) : State :=
  let keep := s.store.wbBase.map (fun a => a / stackSize)
  let s := (List.range 16).foldl (fun s i => if keep = some i then s else s.setFlag (F.HBC_STS_INIT_DONE i) false) s
  { (List.range 8).foldl (fun s d => s.setFlag (F.SHF_STS_INIT_DONE d) false) s with carrelInit := false }

/-- The write buffer is written to the drives. -/
def State.destageAll (s : State) : State := (s.store.ns.map (·.1)).foldl State.destageNs s

/-- A Flush goes to each drive. -/
def State.flushDrives (s : State) : State :=
  ((List.range 8).filter s.driveUp).foldl (fun s k => s.drvFlush k 0 .other) s

/-- The sequence of R408 from its 10 µs row on. Admission stops, and a power emergency is in force (R415). -/
def State.failFrom10 (s : State) : State :=
  let s := (s.modPower (fun p => { p with failing := true })).stopFill.showEmergency
  s.linksDown.memoriesOff.destageAll

/-- Before SERVICE the write buffer is empty: the sequence takes no time, and the module ends OFF (R588). -/
def State.started (s : State) : Bool := decide (5 ≤ s.fld F.MOD_STS_STATE)

/-- A power-fail starts (R405, R408): `cause` names it in the power log. -/
def State.powerFail (s : State) (cause : Nat) : State :=
  if s.fld F.MOD_STS_STATE = 0 ∨ s.power.failing then s
  else
    let s := (s.powerLog cause (s.fld F.PWR_INPUT0_VIN)).modMgmt (fun g => { g with cause := 2 })
    if !s.started then s.powerDown 0 2
    else (s.setFld F.PWR_STS_BROWNOUT 3).allCalm.failFrom10

def execPowerFail (s : State) : Host.Outcome State Fault Refusal := .next (s.powerFail 2)

/-- The switch opens above 62 V, and R408 runs (R654). -/
def execOvervoltage (s : State) : Host.Outcome State Fault Refusal := .next (s.powerFail 7)

/-- The write buffer is on the drives: a Flush to each, the records and totals to flash, and the module goes OFF (R408). -/
def State.failDone (s : State) : State :=
  if !s.power.failing ∨ s.store.wb ≠ [] then s else s.flushDrives.powerDown 0 s.mgmt.cause

def execPowerFailFlushDone (s : State) : Host.Outcome State Fault Refusal := .next s.failDone

/-- The hold-up store reaches its reserve before the flush ended: FLUSH_INCOMPLETE is recorded (R409). -/
def State.reserveReached (s : State) : State :=
  if !s.power.failing then s
  else
    let inc := s.store.wb ≠ []
    (s.modPower (fun p => { p with incomplete := p.incomplete || inc })).powerDown 0 s.mgmt.cause

def execHoldupReserveReached (s : State) : Host.Outcome State Fault Refusal := .next s.reserveReached

/-- A junction reaches 115 °C: THERMTRIP_N is asserted until a PWR_EN cycle. For a sensor of a tensor die or shelf R408 runs from
its 10 µs row; for one of a circulation die every rail falls at once (R411). -/
def State.thermalTrip (s : State) (i : Nat) : State :=
  if s.fld F.MOD_STS_STATE = 0 ∨ 56 ≤ i then s
  else
    let s := (s.powerLog 5 i).modMgmt (fun g => { g with cause := 3, needCycle := true })
    let s := s.modPower (fun p => { p with trip := true })
    if 48 ≤ i then (s.modPower (fun p => { p with incomplete := true })).powerDown 0 3
    else if !s.started then s.powerDown 0 3
    else if s.power.failing then s
    else s.allCalm.failFrom10

def execThermalTrip (i : Nat) (s : State) : Host.Outcome State Fault Refusal := .next (s.thermalTrip i)

/-- LEAK_N has been low for 1 ms (R413, R588, R659). -/
def State.leakDetect (s : State) : State :=
  if s.fld F.MOD_STS_STATE = 0 ∨ s.mgmt.leakLow then s
  else
    let s := ((s.modMgmt (fun g => { g with leakLow := true })).setFlag F.THM_STS_LEAK true).powerLog 6 0
    let s := (s.raise blkThm 18).showEmergency
    if s.fld F.MOD_STS_STATE < 2 then s
    else
      match s.fld F.THM_CFG_LEAK_ACTION with
      | 0 => s
      | 1 => (s.modPower (fun p => { p with forced := true })).moveStage 3
      | _ => s.powerFail 2

def execLeakDetect (s : State) : Host.Outcome State Fault Refusal := .next s.leakDetect

/-- The module stops on input power (R591, R659): admission ends, the write buffer is destaged in full, and links go down. -/
def State.stopModule (s : State) (cause : Nat) : State :=
  s.allCalm.linksDown.destageAll.flushDrives.powerDown 1 cause

/-- PWR_EN has been low for 1 ms (R411, R586, R588, R659). -/
def State.pwrEnOff (s : State) : State :=
  let s := s.modMgmt (fun g => { g with needCycle := false })
  let st := s.fld F.MOD_STS_STATE
  if st = 0 ∨ s.power.failing then s
  else if st = 1 ∧ s.mgmt.start.isNone ∧ s.mgmt.held = 0 then s
  else if s.started then s.stopModule 1
  else s.powerDown 1 1

def execPwrEnDeassert (s : State) : Host.Outcome State Fault Refusal := .next s.pwrEnOff

/-- REFCLK stops: the clock generator holds every domain, and the module runs on (R652). -/
def execRefclkLoss (s : State) : Host.Outcome State Fault Refusal := .next (s.modMgmt (fun g => { g with holdover := true }))

/-- REFCLK returns, and the generator relocks to it (R652). -/
def execRefclkReturn (s : State) : Host.Outcome State Fault Refusal := .next (s.modMgmt (fun g => { g with holdover := false }))

/-! ### Pins (R648, R660) -/

/-- PWR_GOOD is high from step 3 on, in the held condition of R586 too. -/
def State.pwrGood (s : State) : Bool := decide (2 ≤ s.fld F.MOD_STS_STATE ∨ (s.mgmt.held ≠ 0 ∧ 2 ≤ s.fld F.MOD_STS_STEP))

/-- CLKREQ_N is held low from PWR_GOOD on (R652). -/
def State.clkreqLow (s : State) : Bool := s.pwrGood

/-- THERMTRIP_N is low until the PWR_EN cycle. -/
def State.thermtripLow (s : State) : Bool := s.mgmt.needCycle

/-- The error bits whose causes assert ALERT_N (R406, R411 to R413, R603, R604). -/
def alertBits : List Fld :=
  [blkPwr.err 18, blkThm.err 17, blkThm.err 18, blkThm.err 19, blkThm.err 20, blkFwm.err 17, blkFwm.err 22]

/-- ALERT_N is low: a cause is in force or its bit stands, or the module is held (R586, R660). A warning releases it when it
ends (R407). -/
def State.alertLow (s : State) : Bool :=
  decide (s.mgmt.held ≠ 0) || s.fld F.PWR_STS_BROWNOUT ≠ 0 || s.flag F.THM_STS_EMERGENCY || s.flag F.THM_STS_LEAK ||
    s.flag F.THM_STS_COOLANT_LOW || s.flag F.THM_STS_INLET_RANGE || alertBits.any (fun f => s.flag f)

end Sys2Proof.Machine
end

