-- ==== Sys2Proof/Machine/Firmware.lean ====
section
/-!
DEFINITION. Boot flash and updates, restarts of the firmware cores, trace points (R601 to R617, R535).
-/
namespace Sys2Proof.Machine

/-! ### Images (R608 to R610) -/

/-- The header of an image (R609): KIND, VERSION, SVN, COMPAT, LENGTH, DIGEST, BASE_DIGEST. -/
structure FwHdr where
  kind : Nat
  version : Nat
  svn : Nat
  compat : Nat
  length : Nat
  digest : List Byte
  base : List Byte
deriving DecidableEq, Repr

def allZero (bs : List Byte) : Bool := bs.all (fun b => b = 0)

/-- The header fits R609 for a bundle, or for a catalogue. -/
def fwHeader (cat : Bool) (bs : List Byte) : Option FwHdr :=
  let kind := leAt bs 8 1
  let at_ := fun (lo n : Nat) => (bs.drop lo).take n
  if 256 ≤ bs.length ∧ at_ 0 8 = textBytes (if cat then "RZLFWCAT" else "RZLFWBDL") ∧
      (if cat then kind = 1 ∨ kind = 2 else kind = 0) ∧ leAt bs 9 1 = 0xB0 ∧ allZero (at_ 10 2) ∧ allZero (at_ 224 32) ∧
      (kind = 2 ∨ allZero (at_ 80 48)) ∧ 256 + leAt bs 24 8 ≤ (if cat then 2 ^ 26 else 2 ^ 24) then
    some ⟨kind, leAt bs 12 4, leAt bs 16 4, leAt bs 20 4, leAt bs 24 8, at_ 32 48, at_ 80 48⟩
  else none

/-- The payload that the records of a delta make of a base (R610); none where they do not fit. -/
def applyDelta (base : List Byte) : Nat → List Byte → Option (List Byte)
  | 0, _ => none
  | k + 1, bs =>
    match bs with
    | [] => none
    | b :: rest =>
      if b = 0 then (if rest = [] then some [] else none)
      else if b = 1 then
        let off := leAt rest 0 4
        let n := leAt rest 4 4
        if rest.length < 8 ∨ base.length < off + n then none
        else (applyDelta base k (rest.drop 8)).map (fun x => (base.drop off).take n ++ x)
      else if b = 2 then
        let n := leAt rest 0 4
        if rest.length < 4 + n then none
        else (applyDelta base k (rest.drop (4 + n))).map (fun x => (rest.drop 4).take n ++ x)
      else none

/-- The DIGEST that an area holds. -/
def FwImg.digestNow (i : FwImg) : List Byte := if i.digest.isEmpty then digestOf i.payload else i.digest

/-! ### Refusals (R612) -/

def State.cutHeld (s : State) : Bool := decide (s.fld F.MOD_STS_STATE = 7)

/-- The condition that refuses a download, a commit and an activation, but for BUSY (R612); 0 where none holds. -/
def State.updBar (s : State) : Nat :=
  if s.flag F.MOD_STS_MOVING then 1
  else if !s.flag F.PWR_STS_HOLDUP_OK then 2
  else if s.storedNat 0x7003 1 = 1 then 3
  else 0

/-- The refusal is recorded (R612, R621). -/
def State.updRefused (s : State) (why : Nat) : State := (s.setFld F.FWM_STS_LAST_REFUSAL why).raise blkFwm 21

/-- Its abort code (R634). -/
def refusalCode (why : Nat) : Nat :=
  match why with
  | 1 => abMoving | 2 => abHoldup | 3 => abLocked | 7 => abCut | 8 => abBusy | 9 => abNothing | _ => abImage

/-- What refuses the header of an image: FORMAT, SVN, BASE (R612). -/
def State.headerBar (s : State) (cat : Bool) (bs : List Byte) : Nat :=
  match fwHeader cat bs with
  | none => 4
  | some h =>
    if h.svn < s.mgmt.flash.fusedMin then 5
    else if h.kind = 2 ∧ (Tab.find? s.mgmt.flash.cats s.mgmt.flash.catActive).map FwImg.digestNow ≠ some h.base then 6
    else 0

/-- The image that a whole download gives: a delta applied to the catalogue in use (R610, R613). -/
def State.imageOf (s : State) (cat : Bool) (bs : List Byte) : Option FwImg :=
  match fwHeader cat bs with
  | none => none
  | some h =>
    let data := bs.drop 256
    let base := ((Tab.find? s.mgmt.flash.cats s.mgmt.flash.catActive).map (·.payload)).getD []
    let pay := if h.kind = 2 then applyDelta base (data.length + 1) data else some data
    match pay with
    | none => none
    | some p => if p.length = h.length then some ⟨h.version, h.svn, h.compat, h.digest, p⟩ else none

/-- A download begins: PENDING of the target area is cleared, and the area is torn (R613). -/
def State.downloadBegin (s : State) (cat : Bool) : State :=
  s.modFlash (fun f =>
    if cat then
      { f with cats := Tab.erase f.cats (1 - f.catActive), catPending := none, catStaged := false, failed := false }
    else
      { f with slots := Tab.erase f.slots (1 - f.active), pending := none, staged := false, failed := false })

/-- The image stands in the inactive area, staged (R613). Its version shows once it is verified. -/
def State.downloadDone (s : State) (cat : Bool) (i : FwImg) : State :=
  let f := s.mgmt.flash
  let s := (s.downloadBegin cat).modFlash (fun f =>
    if cat then { f with cats := Tab.set f.cats (1 - f.catActive) i, catStaged := true }
    else { f with slots := Tab.set f.slots (1 - f.active) i, staged := true })
  (if cat then s else s.setReg (if f.active = 0 then F.FWM_VER_B.off else F.FWM_VER_A.off) 0).showFw

/-- A whole image arrives: the refusal, or 0 and the state with it staged (R612, R613). -/
def State.download (s : State) (cat : Bool) (bs : List Byte) : Nat × State :=
  let bar := if s.updBar ≠ 0 then s.updBar else s.headerBar cat bs
  if bar ≠ 0 then (bar, (s.updRefused bar).showFw)
  else match s.imageOf cat bs with
    | none => (4, (s.updRefused 4).showFw)
    | some i => (0, s.downloadDone cat i)

/-- COMMIT marks staged areas PENDING (R613). -/
def State.markPending (s : State) (bundle cat : Bool) : State :=
  (s.modFlash (fun f => { f with
    pending := if bundle && f.staged then some (1 - f.active) else f.pending,
    staged := f.staged && !bundle,
    catPending := if cat && f.catStaged then some (1 - f.catActive) else f.catPending,
    catStaged := f.catStaged && !cat })).showFw

/-- CANCEL ends a deferral and removes PENDING marks (R614). -/
def State.cancelUpdate (s : State) : State :=
  (s.modFlash (fun f => { f with
    deferred := false, due := none, staged := f.staged || f.pending.isSome, pending := none,
    catStaged := f.catStaged || f.catPending.isSome, catPending := none })).showFw

/-- The deferred activation comes due: the conditions of R612 are checked again; with a checkpoint cut held it waits (R614). -/
def State.activationDue (s : State) : State :=
  let f := s.mgmt.flash
  if !f.deferred ∨ f.due.isNone then s
  else if s.updBar ≠ 0 then
    ((s.modFlash (fun f => { f with deferred := false, due := none })).postFw (Config.logCode 614) 0 s.updBar).showFw
  else if s.cutHeld then s
  else s.stopModule 4

def execDeferredActivationDue (s : State) : Host.Outcome State Fault Refusal := .next s.activationDue

/-- With both slots failed the boot ROM writes a bundle from the bus owner to SLOT_A; a start after a PWR_EN cycle uses it
(R615). -/
def State.recoveryBundle (s : State) (bs : List Byte) : State :=
  if s.mgmt.held ≠ 3 then s
  else match s.imageOf false bs with
    | none => s
    | some i => s.modFlash (fun f => { f with
        slots := Tab.set f.slots 0 i, active := 0, pending := none, trial := false, staged := false, failed := false })

def execRecoveryBundle (data : List Byte) (s : State) : Host.Outcome State Fault Refusal := .next (s.recoveryBundle data)

/-! ### The update over NVMe (R535) -/

def nvFwSlot : Nat := 0x106
def nvFwImage : Nat := 0x107
def nvFwReset : Nat := 0x10B
def nvFwProhibited : Nat := 0x113

/-- A dictionary session carries a download. -/
def State.dictReceiving (s : State) : Bool :=
  s.mgmt.sessions.any (fun p => match p.2.xfer with
    | some x => decide (x.1 = 0x7001)
    | none => false)

/-- A piece of an image is kept in staging memory, unless R612 refuses the update. -/
def State.nvImagePiece (s : State) (h : NvHdr) (off : Nat) (bs : List Byte) : State :=
  let bar := if s.updBar ≠ 0 then s.updBar else if s.dictReceiving then 8 else 0
  if bar ≠ 0 then
    (((s.updRefused bar).modCtrl 1 (fun y => if bar = 8 then y else { y with image := [] })).nvDone h nvFwProhibited).showFw
  else ((s.modCtrl 1 (fun y => { y with image := y.image ++ [(off, bs)] })).nvDone h 0).showFw

def execFirmwareImageDownload (h : NvHdr) (off : Nat) (bs : List Byte) (s : State) : Host.Outcome State Fault Refusal :=
  .next (s.nvPrimary h (fun s => s.nvImagePiece h off bs))

/-- The pieces put together; none where they leave a gap or overlap. -/
def joinImage : Nat → List (Nat × List Byte) → List Byte → Option (List Byte)
  | 0, ps, acc => if ps = [] then some acc else none
  | k + 1, ps, acc =>
    match ps.find? (fun p => decide (p.1 = acc.length)) with
    | some p => joinImage k (ps.erase p) (acc ++ p.2)
    | none => if ps = [] then some acc else none

/-- Firmware Commit (R535). -/
def State.nvCommit (s : State) (h : NvHdr) (action slot : Nat) : State :=
  let f := s.mgmt.flash
  let pieces := (s.nvCtrl 1).image
  let target := if slot = 0 then 1 - f.active else slot - 1
  let bar := if s.updBar ≠ 0 then s.updBar else if s.dictReceiving then 8 else 0
  if 3 ≤ action then s.nvDone h nvInvalidField
  else if bar ≠ 0 then
    (((s.updRefused bar).modCtrl 1 (fun y => if bar = 8 then y else { y with image := [] })).nvDone h nvFwProhibited).showFw
  else if 3 ≤ slot then s.nvDone h nvFwSlot
  else if target = f.active ∧ action ≠ 2 then s.nvDone h nvFwSlot
  else if target = f.active then
    ((s.modFlash (fun f => { f with staged := f.staged || f.pending.isSome, pending := none })).nvDone h nvFwReset).showFw
  else
    let s := s.modCtrl 1 (fun y => { y with image := [] })
    if pieces = [] then
      if action = 2 ∧ (Tab.find? f.slots target).isSome then
        ((s.modFlash (fun f => { f with pending := some target, staged := false })).nvDone h nvFwReset).showFw
      else s.nvDone h nvFwImage
    else match joinImage pieces.length pieces [] with
      | none => (((s.updRefused 4).nvDone h nvFwImage)).showFw
      | some bs =>
        let (why, s) := s.download false bs
        if why ≠ 0 then s.nvDone h nvFwImage
        else (if action = 0 then s else s.markPending true false).nvDone h nvFwReset

def execFirmwareCommit (h : NvHdr) (action slot : Nat) (s : State) : Host.Outcome State Fault Refusal :=
  .next (s.nvPrimary h (fun s => s.nvCommit h action slot))

/-! ### Restarts of the firmware cores (R601 to R604, R620) -/

/-- A restart is recorded in FWM_CORE_STS and FWM_BLK_ERR; the third within `span` µs sets the bit of an unstable core. -/
def State.noteRestart (s : State) (k cause bit unstable span : Nat) : State :=
  let s := (s.setFld (F.FWM_CORE_STS_STATE k) 2).setFld (F.FWM_CORE_STS_LAST_CAUSE k) cause
  let s := s.setFld (F.FWM_CORE_STS_RESTARTS k) (min 255 (s.fld (F.FWM_CORE_STS_RESTARTS k) + 1))
  let s := s.raise blkFwm bit Master.noMaster (F.FWM_CORE_STS_STATE k).off k
  let recent := (Tab.getD s.mgmt.restarts k []).filter (fun t => decide (s.time ≤ t + span)) ++ [s.time]
  let s := s.modMgmt (fun g => { g with restarts := Tab.set g.restarts k recent })
  if 3 ≤ recent.length then s.raise blkFwm unstable Master.noMaster (F.FWM_CORE_STS_STATE k).off k else s

/-- The librarian core restarts a circulation core; it waits for the librarian (R601, R603, R604). -/
def State.restartCore (s : State) (k cause : Nat) : State :=
  if s.mgmt.libDown then s.modMgmt (fun g => { g with waiting := g.waiting ++ [(k, cause)] })
  else if s.fld (F.FWM_CORE_STS_STATE k) ≠ 1 then s
  else (s.noteRestart k cause 16 17 60000000).modMgmt (fun g => { g with coreDown := g.coreDown ++ [k] })

def execCircWatchdogExpiry (k : Nat) (s : State) : Host.Outcome State Fault Refusal :=
  .next (if s.fld (F.FWM_CORE_STS_STATE k) = 1 then s.restartCore k 1 else s)

/-- The core resumes: core 0 takes the requests latched while it was held (R600, R601). -/
def State.coreResume (s : State) (k : Nat) : State :=
  if k ∉ s.mgmt.coreDown then s
  else
    let s := (s.modMgmt (fun g => { g with coreDown := g.coreDown.filter (· ≠ k) })).setFld (F.FWM_CORE_STS_STATE k) 1
    if !s.coreUp 0 then s
    else ((s.host.fns.filter (fun p => p.2.mbGo)).map (·.1)).foldl State.mbTake s

def execCoreRestartDone (k : Nat) (s : State) : Host.Outcome State Fault Refusal := .next (s.coreResume k)

/-- Job slots whose round this module coordinates, and those whose restore it takes part in. -/
def State.coordinated (s : State) : List Nat := (List.range 16).filter (fun j => (s.ck j).round.active)
def State.restoring (s : State) : List Nat := (List.range 16).filter (fun j => (s.ck j).restore.isSome)

/-- A migration under way when the librarian is reset (R604): the source's is cancelled as by MOVE_CANCEL, the target's restore
fails. -/
def State.moveCut (s : State) (f : Nat) : State :=
  match Tab.find? s.host.moves f with
  | none => s
  | some m =>
    if !m.source then s.moveFail f mvTimeout
    else if 2 ≤ s.phase f ∧ s.phase f ≤ 4 then (s.moveEnd f false mvCancel).writeHeld f
    else s

/-- The librarian's watchdog: hardware resets that core alone (R604). -/
def State.libReset (s : State) : State :=
  if s.mgmt.libDown ∨ s.fld (F.FWM_CORE_STS_STATE 8) ≠ 1 then s
  else
    let s := s.noteRestart 8 1 18 22 600000000
    let s := s.modMgmt (fun g => { g with
      libDown := true, sessions := [], owed := s.coordinated, owedRestore := s.restoring })
    let s := s.modFlash (fun f => { f with trialBad := f.trialBad || f.trial || f.catTrial })
    let s := s.modTrust (fun t => { t with sessions := [], conns := [], chunks := [] })
    let s := (List.range 16).foldl (fun s j => if 1 ≤ s.ckPhase j ∧ s.ckPhase j ≤ 4 then s.endCut j else s) s
    ((s.host.moves.map (·.1)).foldl State.moveCut s).showFw

def execLibWatchdogExpiry (s : State) : Host.Outcome State Fault Refusal := .next s.libReset

/-- Reason of a round that a librarian reset ends: the manual gives none; this module's own part has failed. -/
def libAbortReason : Nat := ckMemberFailed

/-- The librarian firmware resumes: CK_ABORT for each round it coordinated, RS_FAILED with HOLDER_UNREACHABLE for each restore
it took part in, and the restarts that waited (R604). -/
def State.libReturn (s : State) : State :=
  if !s.mgmt.libDown then s
  else
    let owed := s.mgmt.owed
    let rest := s.mgmt.owedRestore
    let wait := s.mgmt.waiting
    let s := s.modMgmt (fun g => { g with libDown := false, owed := [], owedRestore := [], waiting := [] })
    let s := s.setFld (F.FWM_CORE_STS_STATE 8) 1
    let s := owed.foldl (fun s j => s.roundAbort j libAbortReason s.ownModule) s
    let s := rest.foldl (fun s j =>
      s.ckReply j mgRsFailed [s.jobId j, (((s.ck j).restore.bind (·.cur)).map (·.gen)).getD 0, s.ownModule, rsHolder]) s
    wait.foldl (fun s p => s.restartCore p.1 p.2) s

def execLibrarianReturn (s : State) : Host.Outcome State Fault Refusal := .next s.libReturn

/-- A trace point whose mask bit is set records an entry of KIND 2 (R605, R607). -/
def State.tracePoint (s : State) (k n : Nat) : State :=
  if !(ofLe (s.stored 0x7030 (k + 1))).testBit n then s
  else s.postLog ⟨Master.noMaster.word, s.modTime, blockCode .fwm, 0, 0, 2, k * 256 + n, 0, 0⟩

def execTracePoint (k n : Nat) (s : State) : Host.Outcome State Fault Refusal := .next (s.tracePoint k n)

end Sys2Proof.Machine
end

