-- ==== Sys2Proof/Machine/DictVals.lean ====
section
/-!
DEFINITION. What each object of the dictionary reads as (R226, R286, R343, R362, R384, R431, R460, R484, R512, R544, R578, R596,
R623, R642, R666). The DOMAIN layouts that the chapters do not lay out are the model's own.
-/
namespace Sys2Proof.Machine

/-- A register as its object reports it. -/
def State.regBytes (s : State) (f : Fld) : List Byte := leBytes 4 (s.reg f.off).toNat

/-- A number in 4 or 8 bytes, a list of records of 4-byte numbers. -/
def u32s (l : List Nat) : List Byte := l.flatMap (leBytes 4)
def u64s (l : List Nat) : List Byte := l.flatMap (leBytes 8)

/-! ### Identity, state and capacity (R596, R642, R666) -/

/-- The serial number of 0x1000:05: 16 bytes, padded with spaces. -/
def serial16 : List Byte := (Config.serial ++ List.replicate 16 0x20).take 16

/-- The fused identity of 0x1000. -/
def identity (sub : Nat) : List Byte :=
  match sub with
  | 5 => serial16
  | 9 => (digestOf serial16).take 8
  | 3 => Config.fusedObject 3
  | 6 => fitBytes 8 (Config.fusedObject 6)
  | 8 => fitBytes 48 (Config.fusedObject 8)
  | _ => ((objRow 0x1000 sub).map (·.dflt)).getD []

def State.usableTiles (s : State) : List Nat := (List.range 16).filter (fun t => !(s.fld F.MOD_PARKED0_TILES).testBit t)
def State.usableStacks (s : State) : Nat := ((List.range 16).filter (fun i => !(s.fld F.MOD_PARKED0_STACKS).testBit i)).length
def State.usableShelves (s : State) : Nat := ((List.range 24).filter (fun i => !(s.fld F.MOD_PARKED1_SHELVES).testBit i)).length

/-- PEAK_FP8 in TFLOPS: 524,288 operations a cycle of every usable tile at the lower of 1.8 GHz and its ceiling clock (R642). -/
def State.peakFp8 (s : State) : Nat :=
  let m := s.usableTiles.foldl (fun a t => a + min 18 (6 + s.ceiling t)) 0
  (convert .fp32 .nearest false 0 (divCount (.fin false (32768 * m) 0) 625)).1

/-- The capacity objects (R642). -/
def State.capacity (s : State) (sub : Nat) : List Byte :=
  let dies := if s.dieB then 2 else 1
  match sub with
  | 1 => leBytes 1 16
  | 2 => leBytes 1 s.usableTiles.length
  | 3 => leBytes 2 768
  | 4 => leBytes 2 (48 * s.usableStacks)
  | 5 => leBytes 4 30720
  | 6 => leBytes 4 (1280 * s.usableShelves)
  | 7 => leBytes 1 (24 * dies)
  | 8 => leBytes 1 dies
  | 9 => leBytes 1 (2 * dies)
  | 10 => leBytes 1 (32 - (setBitsOf 32 (s.fld F.CIP_ENGINE_STS_PARKED)).length)
  | _ => leBytes 4 s.peakFp8

/-! ### Power, fabric, storage and security -/

/-- A lifetime total: what flash holds and the counter since the start (R226, R460, R544). -/
def State.lifetime (s : State) (idx sub : Nat) : List Byte :=
  let now := (totals.find? (fun x => decide (x.1 = idx ∧ x.2.1 = sub))).map (fun x => s.fld x.2.2)
  leBytes 8 ((s.storedNat idx sub + now.getD 0) % 2 ^ 64)

/-- A sensor: its temperature sign-extended, or 0x8000_0000 (R431). -/
def State.sensorValue (s : State) (i : Nat) : Nat :=
  if s.flag (F.THM_SENSOR_VALID i) then (sext 16 (s.fld (F.THM_SENSOR_TEMP i)) % 2 ^ 32).toNat else 0x80000000

/-- A violation as 0x3022 reports it: the NACK record of R322, then direction, endpoint, peer and time. -/
def Viol.bytes (v : Viol) : List Byte :=
  nackRecord v.code v.opcode v.offset v.addr ++ u32s [ofBool v.inbound, v.endpoint, v.peer, 0] ++ leBytes 8 v.time

/-- A namespace as 0x4011 reports it. -/
def nsBytes (n : Nat) (x : Ns) : List Byte :=
  u32s [n, ofBool x.r.durable, x.r.keySource, x.r.job, x.r.stripe.foldl (fun a k => a + 2 ^ k) 0, nsSize x.r,
    x.r.owner, x.r.ctrl, x.r.feedOwner.getD 0xFFFF, x.st, ofBool x.r.dirty + 2 * ofBool x.r.lost] ++
    bytesOf ((x.r.kcv ++ List.replicate 8 0).take 8)

/-- What is free in the pools: a bitmap of each pooled resource, then their counts (R485, R512). -/
def State.poolFree (s : State) : List Byte :=
  let p := s.host.pools
  let free := fun (n : Nat) (t : Tab Place) => (List.range n).filter (fun i => Tab.getD t i .pool = .pool)
  let sets := [free 16 p.tiles, free 768 p.hbm, free 120 p.shelf, free 256 p.ctxBlocks,
    (free 4096 p.keys).filter (fun i => s.pageSt i = pageFree), free 4096 p.wins, free 4096 p.bars, free 1024 p.rings]
  bitmap 2 (sets.getD 0 []) ++ bitmap 96 (sets.getD 1 []) ++ bitmap 16 (sets.getD 2 []) ++ bitmap 32 (sets.getD 3 []) ++
    bitmap 512 (sets.getD 4 []) ++ bitmap 512 (sets.getD 5 []) ++ bitmap 512 (sets.getD 6 []) ++ bitmap 128 (sets.getD 7 []) ++
    u32s (sets.map List.length ++ [4096 - p.nvmeQp.foldl (fun a q => a + q.2) 0,
      99 - ((List.range 126).map (· + 2)).foldl (fun a f => a + s.fld (F.VFN_QOS_LINK_SHARE f)) 0])

/-- An IDE stream as 0x5011 reports it: number, state, key set, and the functions that it covers. -/
def ideBytes (n : Nat) (x : IdeStream) : List Byte :=
  leBytes 1 n ++ leBytes 1 (ofBool x.secure) ++ leBytes 1 x.keySet ++ leBytes 1 0 ++ bitmap 16 x.fns

/-- A session as 0x5023 reports it: transport, role, identity, opening time. -/
def Sess.bytes (x : Sess) : List Byte :=
  leBytes 1 x.transport ++ leBytes 1 x.role ++ leBytes 6 0 ++ fitBytes 32 x.ident ++ leBytes 8 x.opened

/-! ### Jobs and checkpoint (R362, R384) -/

def State.jobValue (s : State) (j : Nat) : List Byte :=
  u32s ([s.jobId j, s.fld (F.MOD_JOB_CFG_NOTICE_GROUP j), s.fld (F.MOD_JOB_CFG_FOLLOW_SLOWEST j)] ++ (s.slot j).members)

def State.partValue (s : State) (p : Nat) : List Byte :=
  if s.fld (F.MOD_PART_TILES_TILES p) = 0 then []
  else s.regBytes (F.MOD_PART_CFG_ENABLE p) ++ s.regBytes (F.MOD_PART_TILES_TILES p) ++
    bytesOf (Tab.getD s.trust.images p (List.replicate 48 0))

def StragEnt.bytes (e : StragEnt) : List Byte := u32s [e.module, e.op, e.reason, e.seq] ++ leBytes 8 e.time
/-- The 16 bytes of a missed or late frame (R357). -/
def MissRec.bytes (m : MissRec) : List Byte :=
  leBytes 4 m.frame ++ leBytes 1 m.reason ++ leBytes 1 m.part ++ leBytes 2 0 ++ leBytes 4 m.value ++ leBytes 4 m.start
def CkLog.bytes (c : CkLog) : List Byte := u32s [c.gen, 0] ++ leBytes 8 c.step ++ u32s [c.result, c.reason, c.member, 0] ++ leBytes 8 c.time

/-- The five configuration words of a checkpoint slot. -/
def State.policyValue (s : State) (j : Nat) : List Byte :=
  s.regBytes (F.MOD_CKPT_CFG_ENABLE j) ++ s.regBytes (F.MOD_CKPT_TIMER j) ++ s.regBytes (F.MOD_CKPT_INTERVAL j) ++
    s.regBytes (F.MOD_CKPT_MANIFEST j) ++ s.regBytes (F.MOD_CKPT_NS_NSID j)

def State.ckStatus (s : State) (j : Nat) : List Byte :=
  let c := s.ck j
  s.regBytes (F.MOD_CKPT_STS_PHASE j) ++ u32s [c.skipped, c.gens.length, 0] ++
    c.gens.flatMap (fun g => u32s [g.gen, g.idx] ++ leBytes 8 g.step)

/-! ### The value of an object (R624, R631) -/

/-- Values of 0x1000 to 0x3FFF. -/
def State.lowValue (s : State) (idx sub : Nat) : Option (List Byte) :=
  match idx with
  | 0x1000 => some (identity sub)
  | 0x1001 => some (match sub with
    | 1 => leBytes 1 (s.fld F.MOD_STS_STATE)
    | 2 => leBytes 1 (s.fld F.MOD_STS_READY)
    | _ => s.regBytes F.MOD_START_START_MS)
  | 0x1002 => some (if sub = 1 then leBytes 8 (if s.mgmt.timeSet then s.modTime else 0) else leBytes 1 (ofBool s.mgmt.timeSet))
  | 0x1003 => some (s.capacity sub)
  | 0x1004 => some (leBytes 1 s.mgmt.slotId)
  | 0x2001 => if sub = 2 then some (leBytes 2 (s.fld F.PWR_FLOOR_FLOOR_W)) else none
  | 0x2010 => some (leBytes 4 (match sub with
    | 1 => s.fld F.PWR_INPUT0_VIN
    | 2 => s.fld F.PWR_INPUT0_IIN
    | 3 => s.fld F.PWR_INPUT1_P1MS
    | 4 => s.fld F.PWR_INPUT1_P1S
    | _ => s.fld F.PWR_HOLDUP_CHARGE_PCT))
  | 0x2011 => some (leBytes 4 (s.sensorValue (sub - 1)))
  | 0x2012 => some (leBytes 1 (s.ceiling (sub - 1)))
  | 0x2013 => some (s.power.log.flatMap (fun x => leBytes 8 x.1 ++ leBytes 4 x.2.1 ++ leBytes 4 x.2.2))
  | 0x3012 => some (s.regBytes (F.MYL_STS_STATE (sub - 1)) ++ s.regBytes (F.MYL_PARTNER_MODULE (sub - 1)))
  | 0x3013 => some ((match s.mgmt.tables with
      | some l => l
      | none => Config.referenceTables (s.fld F.MYR_FABRIC_ID_MODULE_ID)).flatMap (fun (x : Bool × Nat × Nat) =>
        leBytes 8 (x.2.2 + x.2.1 * 2 ^ 50 + if x.1 then 2 ^ 63 else 0)))
  | 0x3021 => some (leBytes 8 (s.fld (F.GMA_CNT (sub - 1))))
  | 0x3022 => some (s.gma.violLog.flatMap Viol.bytes)
  | 0x3041 => some ((List.range 16).flatMap (fun k => leBytes 4 (s.reg ((F.FPP_RX_FRAMES (sub - 1)).off + 4 * k)).toNat) ++
      (List.range 8).flatMap (fun q => leBytes 4 (s.fld (F.FPS_TX_PKTS (sub - 1) q)) ++ leBytes 4 (s.fld (F.FPS_TAIL_DROP (sub - 1) q))))
  | _ => none

/-- Values of 0x4000 to 0x6FFF. -/
def State.midValue (s : State) (idx sub : Nat) : Option (List Byte) :=
  match idx with
  | 0x4001 => if sub = 2 then some (s.regBytes F.NVC_WB_STS_MODE) else none
  | 0x4002 => some ((s.regBytes (F.NVC_DRIVE_STS_UP (sub - 1))) ++ (match Tab.find? s.store.drives (sub - 1) with
    | some d => leBytes 4 d.extents ++ d.info
    | none => []))
  | 0x4011 => some (s.store.ns.flatMap (fun p => nsBytes p.1 p.2))
  | 0x4013 => some (s.lifetime idx sub)
  | 0x5001 => some (if sub = 1 then leBytes 1 s.openSessions
      else s.trust.binds.flatMap (fun p => leBytes 2 p.1 ++ digestOf p.2))
  | 0x5002 => some ((List.range 4096).flatMap (fun i =>
      if s.pageSt i = pageFree then [] else leBytes 4 i ++ s.regBytes (F.KEY_PAGE_STS_STATE i)))
  | 0x5003 => some (if sub = 7 then s.regBytes F.CIP_ENGINE_STS_PARKED else s.lifetime idx sub)
  | 0x5011 => some (s.trust.ide.flatMap (fun p => ideBytes p.1 p.2))
  | 0x5012 => some (s.trust.secLog.flatMap (fun x => leBytes 8 x.1 ++ u32s [x.2.1, x.2.2.1, x.2.2.2]))
  | 0x5022 => some s.mgmt.audit.reverse.flatten
  | 0x5023 => some (s.mgmt.sessions.flatMap (fun p => p.2.bytes))
  | 0x6001 => some s.poolFree
  | 0x6002 =>
    let f := sub + 1
    some (leBytes 4 (s.view blkVfn (0x1000 + 4 * f)) ++ s.regBytes (F.VFN_QOS_HBM_WEIGHT f) ++ Tab.getD s.host.pools.sets f [])
  | 0x6005 => some (s.host.moveLog.flatMap u64s)
  | 0x6080 =>
    if sub = 4 then some (s.regBytes F.PCE_LINK_STS_STATE)
    else if 5 ≤ sub then some (leBytes 8 (s.reg (F.PCE_UR_SENT.off + 4 * (sub - 5))).toNat)
    else none
  | _ => none

/-- Values of 0x7000 to 0xAFFF. -/
def State.highValue (s : State) (idx sub : Nat) : Option (List Byte) :=
  match idx with
  | 0x7002 =>
    let ver := fun k => ((Tab.find? s.mgmt.flash.cats k).map (·.version)).getD 0
    some (leBytes 4 (s.view blkFwm 0) ++ s.regBytes F.FWM_VER_A ++ s.regBytes F.FWM_VER_B ++ s.regBytes F.FWM_VER_CAT ++
      s.regBytes F.FWM_SVN_ACTIVE ++ u32s [ver 0, ver 1])
  | 0x7010 => some (s.regBytes (F.FWM_CORE_STS_STATE (sub - 1)))
  | 0x7020 => some (s.journal.flatMap (fun p => p.2.bytes p.1))
  | 0x8002 => some (s.tel.last.flatMap (fun p => u32s [p.2.1, p.2.2.1, p.2.2.2.1, p.2.2.2.2]))
  | 0x9001 => some (s.jobValue (sub - 1))
  | 0x9002 => some (s.partValue (sub - 1))
  | 0x9003 => some (s.jobs.missLog.flatMap MissRec.bytes)
  | 0x9004 => some ((s.slot (sub - 1)).strag.flatMap StragEnt.bytes)
  | 0x9010 => some (s.policyValue (sub - 1))
  | 0x9012 => some (s.ckStatus (sub - 1))
  | 0x9014 => some ((s.ck (sub - 1)).log.flatMap CkLog.bytes)
  | 0xA111 => if sub = 5 then some (match s.mgmt.scrub with
      | some (shelf, i) => if s.flag (memFld (memBlk shelf i) 0x11C 0 0) then [] else s.readBytes (s.fwGranule * 2 ^ 30) 192
      | none => []) else none
  | 0xA200 => some (s.regBytes (F.FIN_LINK_CTRL_ARM (sub - 1)) ++ s.regBytes (F.FIN_LINK_PARAM_PARAM (sub - 1)))
  | 0xA201 => some (leBytes 1 (s.reg (F.MYL_EDDY_MODE (sub - 1)).off).toNat)
  | 0xA300 => if sub = 1 then some (s.mgmt.parkList.flatMap (fun p => markOfUnit p.1 ++ leBytes 2 p.2.1 ++ leBytes 8 p.2.2)) else none
  | _ => none

/-- The value of an object: as the machine shows it, or as firmware keeps it. -/
def State.objValue (s : State) (idx sub : Nat) : List Byte :=
  if sub = 0 then [entryCount idx]
  else if 0xA100 ≤ idx ∧ idx ≤ 0xA105 then s.lifetime idx sub
  else
    let v := if idx < 0x4000 then s.lowValue idx sub else if idx < 0x7000 then s.midValue idx sub else s.highValue idx sub
    v.getD (s.stored idx sub)

end Sys2Proof.Machine
end

