-- ==== Sys2Proof/Machine/DictOps.lean ====
section
/-!
DEFINITION. The protocol of the dictionary: sessions, the order of refusals, segments, roles and the audit of writes (R627 to
R641, R643).
-/
namespace Sys2Proof.Machine

/-! ### Sessions (R629) -/

def svcRead : Nat := 0x01
def svcWrite : Nat := 0x02
def svcDescribe : Nat := 0x03
def svcList : Nat := 0x04
def svcChallenge : Nat := 0x10
def svcLogin : Nat := 0x11
def svcLogout : Nat := 0x12

/-- The transport of a session number: 0 the PF0 mailbox, 1 the management port, 2 MCTP over I3C. -/
def transportOf (n : Nat) : Nat := if n = 0 then 0 else if n ≤ 8 then 1 else 2

/-- The largest data of a segment (R629). -/
def segmentMost (transport : Nat) : Nat := match transport with | 0 => 224 | 1 => 65536 | _ => 1024

def State.sess (s : State) (n : Nat) : Sess := Tab.getD s.mgmt.sessions n { Sess.init with transport := transportOf n }
def State.modSess (s : State) (n : Nat) (f : Sess → Sess) : State :=
  s.modMgmt (fun g => { g with sessions := Tab.set g.sessions n (f (s.sess n)) })

/-- Whether a request reaches the dictionary: the librarian runs, the module is in CALIBRATE or later, and the session is open; a
request of the PF0 mailbox is the one that firmware works on (R579, R604, R629). -/
def State.dictReaches (s : State) (n : Nat) : Bool :=
  !s.mgmt.libDown && decide (3 ≤ s.fld F.MOD_STS_STATE) && decide (s.mgmt.held = 0) &&
    (if n = 0 then (s.fn 0).mbBusy.any (fun p => p.1 = 0x200) && s.coreUp 0 else (Tab.find? s.mgmt.sessions n).isSome)

/-- A response that reports success, or an abort code. -/
def State.dictOk (s : State) (service : Nat) (d : DHdr) (total : Nat) (bs : List Byte) : State :=
  s.dictAnswer service d.sess d.seq d.off 0 total bs
def State.dictNo (s : State) (service : Nat) (d : DHdr) (code : Nat) : State :=
  s.dictAnswer service d.sess d.seq d.off code 0 []

/-- Who a session acts for (R641). -/
def Sess.actor (x : Sess) : Actor := ⟨x.role, x.transport, if x.role = 0 then List.replicate 32 0 else x.ident⟩

/-! ### Access (R624, R627, R635, R638, R639) -/

/-- The RIGHTS bit of a maker token that a write needs. -/
def makerRight (idx sub : Nat) : Nat := if idx = 0xF001 then (if sub = 2 then 2 else 0) else 1

/-- An installer key is set. -/
def State.claimed (s : State) : Bool := (List.range 8).any (fun i => !allZero (s.stored 0x5021 (i + 1)))

/-- Whether a session may read an object: 0, or the abort code. -/
def readBar (x : Sess) (r : ObjRow) : Nat :=
  if r.rd = 0 then abWriteOnly
  else if r.noRole then 0
  else if x.role = 0 then abNotAuth
  else if r.rd.testBit (x.role - 1) then 0 else abRole

/-- Whether a session may write an object: 0, or the abort code. Until a first installer key is set, 0x5021 is written over I3C
without a role. -/
def State.writeBar (s : State) (x : Sess) (r : ObjRow) (sub : Nat) : Nat :=
  if r.wr = 0 then abReadOnly
  else if r.idx = 0x5021 ∧ x.transport = 2 ∧ x.role = 0 ∧ !s.claimed then 0
  else if x.role = 0 then abNotAuth
  else if !r.wr.testBit (x.role - 1) then abRole
  else if x.role = 3 ∧ !x.rights.testBit (makerRight r.idx sub) then abRole
  else 0

/-- What the module state allows (R579, R643): in CALIBRATE and INIT reads of 0x1000 to 0x10FF and of the log journal; in
SERVICE nothing that needs a tile, a partition, a job slot or a checkpoint. -/
def State.stateBar (s : State) (write : Bool) (idx : Nat) : Nat :=
  let st := s.fld F.MOD_STS_STATE
  if st < 5 then (if !write ∧ ((0x1000 ≤ idx ∧ idx ≤ 0x10FF) ∨ idx = 0x7020) then 0 else abModuleState)
  else if st = 5 ∧ write ∧ idx ∈ [0x9001, 0x9002, 0x9010, 0x9011, 0x9013] then abModuleState
  else 0

/-! ### Writes (R626, R631 to R634, R641) -/

/-- A value of a type that has values it refuses: a BOOL is 0 or 1; an F32 no NaN (R626). -/
def badValue (t : ObjTy) (v : List Byte) : Bool :=
  match t with
  | .bool => decide (1 < ofLe v)
  | .f32 => decide (bits (ofLe v) 30 23 = 255 ∧ bits (ofLe v) 22 0 ≠ 0)
  | _ => false

/-- The checks of a segment that need no session state, in the order of R634: shape, limits, existence, the authority of the
session, and the length that the type fixes. -/
def State.segmentBar (s : State) (x : Sess) (d : DHdr) (n : Nat) : Nat :=
  match objRow d.idx d.sub with
  | none => if segmentMost x.transport < n then abTooLong else if indexExists d.idx then abNoSub else abNoObject
  | some r =>
    let own := s.writeBar x r d.sub
    if segmentMost x.transport < n ∨ r.ty.most < d.total then abTooLong
    else if own ≠ 0 then own
    else if r.ty.size.any (fun k => k ≠ d.total) then abType
    else 0

/-- A write refused for want of authority is journaled (R641). -/
def authCode (code : Nat) : Bool := decide (code / 2 ^ 16 = 3)

def State.writeRefused (s : State) (d : DHdr) (code : Nat) : State :=
  let x := s.sess d.sess
  let was := x.xfer.any (fun t => t.1 = 0x7001)
  let s := s.modSess d.sess (fun x => { x with xfer := none })
  let s := if was then s.showFw else s
  let s := if authCode code then s.journalAudit x.actor 1 d.idx d.sub code none else s
  s.dictNo svcWrite d code

/-- KIND of the record of a write: a credential change, or a write (R641). -/
def auditKind (idx sub : Nat) : Nat := if idx = 0x5020 ∨ idx = 0x5021 ∨ (idx = 0xF001 ∧ sub = 2) then 5 else 0

/-- What a write does beside its object's own effect: `quiet` holds the response back, `first` is what the first of several
segments starts, `after` follows the response, `no` records a refusal by the object's chapter. -/
structure PutOpts where
  quiet : Bool := false
  first : State → List Byte → MbRes := fun s _ => .ok s []
  after : State → State := id
  no : State → List Byte → State := fun s _ => s

/-- A whole value is written: the object's own checks and effect are `run`; the record goes to the audit journal with the
change, and the response follows (R628, R641). -/
def State.applyWrite (s : State) (d : DHdr) (r : ObjRow) (v : List Byte) (o : PutOpts) (run : State → List Byte → MbRes) : State :=
  let x := s.sess d.sess
  let bar := if badValue r.ty v then abRange else s.stateBar true d.idx
  if bar ≠ 0 then s.writeRefused d bar
  else
    let s := s.modSess d.sess (fun x => { x with xfer := none })
    match run s v with
    | .refuse code => (o.no s v).writeRefused d code
    | .ok t body =>
      let t := t.journalAudit x.actor (auditKind d.idx d.sub) d.idx d.sub 0 (some (s.objValue d.idx d.sub, v))
      o.after (if o.quiet then t else t.dictOk svcWrite d v.length body)

/-- A WRITE segment (R632): the first has OFFSET 0, each later one follows the one before it with TOTAL unchanged; the object takes
the whole value when its last byte arrives. -/
def State.dictPut (s : State) (d : DHdr) (data : List Byte) (run : State → List Byte → MbRes) (o : PutOpts := {}) : State :=
  if !s.dictReaches d.sess then s
  else
    let x := s.sess d.sess
    let next := match x.xfer with
      | none => d.off = 0
      | some t => t.1 = d.idx ∧ t.2.1 = d.sub ∧ t.2.2.1 = d.total ∧ t.2.2.2.length = d.off
    let bar := s.segmentBar x d data.length
    if d.total < d.off + data.length then s.writeRefused d abMalformed
    else if !next then s.writeRefused d abSequence
    else if bar ≠ 0 then s.writeRefused d bar
    else match objRow d.idx d.sub with
      | none => s.writeRefused d abNoSub
      | some r =>
        let sofar := (x.xfer.map (fun t => t.2.2.2)).getD [] ++ data
        if sofar.length = d.total then s.applyWrite d r sofar o run
        else
          let take := fun (s : State) =>
            let s := s.modSess d.sess (fun x => { x with xfer := some (d.idx, d.sub, d.total, sofar) })
            if d.idx = 0x7001 then s.showFw else s
          if d.off ≠ 0 then (take s).dictOk svcWrite d d.total []
          else match o.first s data with
            | .refuse code => (o.no s data).writeRefused d code
            | .ok t _ => (take t).dictOk svcWrite d d.total []

/-- An object that is a Boolean action: written 1 it acts, written 0 it does nothing. -/
def onOne (run : State → MbRes) (s : State) (v : List Byte) : MbRes := if ofLe v = 1 then run s else .ok s []

/-! ### Reads (R631, R632) -/

/-- A READ: at OFFSET 0 it takes a snapshot of the value; at others it is served from it. `value` is the object's value. -/
def State.dictGet (s : State) (d : DHdr) (value : Nat → Nat → List Byte) : State :=
  if !s.dictReaches d.sess then s
  else
    let x := s.sess d.sess
    let most := segmentMost x.transport
    let say := fun (s : State) (v : List Byte) =>
      s.dictOk svcRead d v.length ((v.drop d.off).take (min d.total most))
    if d.off ≠ 0 then
      match x.snap with
      | some (i, j, v) => if i = d.idx ∧ j = d.sub then say s v else s.dictNo svcRead d abSequence
      | none => s.dictNo svcRead d abSequence
    else
      let s := s.modSess d.sess (fun x => { x with snap := none })
      let row := objRow d.idx d.sub
      let bar :=
        if !indexExists d.idx then abNoObject
        else if d.sub = 0 then s.stateBar false d.idx
        else match row with
          | none => abNoSub
          | some r => if readBar x r ≠ 0 then readBar x r else s.stateBar false d.idx
      let bar := if bar = 0 ∧ d.sub = 0 ∧ x.role = 0 ∧ d.idx ≠ 0x1000 then abNotAuth else bar
      if bar ≠ 0 then s.dictNo svcRead d bar
      else
        let v := value d.idx d.sub
        say (s.modSess d.sess (fun x => { x with snap := some (d.idx, d.sub, v) })) v

end Sys2Proof.Machine
end

