-- ==== Sys2Proof/Machine/LinkCmds.lean ====
section
/-!
DEFINITION. The commands of the links and the router (R230 to R269).
-/
namespace Sys2Proof.Machine

/-! ### Training -/

/-- Receiver detection in DETECT (R230). -/
def execDetectProbe (n : Nat) (s : State) : Host.Outcome State Fault Refusal :=
  .next (if s.linkSt n = linkDetect then s.emit (.train n 0) else s)

/-- A partner answers in DETECT: NEGOTIATE at rate code 1, width 1 (R230). -/
def execPartnerDetected (n : Nat) (s : State) : Host.Outcome State Fault Refusal :=
  .next (if s.linkSt n = linkDetect then (s.setLinkSt n linkNegotiate).emit (.train n 1) else s)

/-- No partner within 100 ms: REASON, and DETECT goes on (R230). -/
def execNoPartnerTimeout (n : Nat) (s : State) : Host.Outcome State Fault Refusal :=
  .next (if s.linkSt n = linkDetect then s.setReason n 1 else s)

/-- A TRAIN flit: in NEGOTIATE the partner's offer, which MYL_PARTNER shows; before ACTIVE key exchange content; a refusal
of a far loop ends EDDY in FAULT. On an ACTIVE link it is not valid (R231, R239, R267, R273). -/
def State.rxTrain (s : State) (n : Nat) (offer : Option Offer) (refused : Bool) : State :=
  if s.linkSt n = linkEddy ∧ s.fld (F.MYL_EDDY_MODE n) = 2 ∧ refused then
    (s.setReason n 14).setLinkSt n linkFault
  else if s.linkSt n = linkNegotiate then
    match offer with
    | none => s
    | some o =>
      let s := s.modLink n (fun l => { l with partner := some o })
      let s := s.setFld (F.MYL_PARTNER_MODULE n) o.module
      let s := s.setFld (F.MYL_PARTNER_LINK n) o.link
      let s := s.setFlag (F.MYL_PARTNER_TREE n) (bit o.features 0)
      let s := s.setFlag (F.MYL_PARTNER_LEDGER n) (bit o.features 1)
      s.setFlag (F.MYL_PARTNER_VALID n) true
  else s

def execTrainFlit (n : Nat) (offer : Option Offer) (refused : Bool) (s : State) : Host.Outcome State Fault Refusal :=
  .next (s.rxTrain n offer refused)

/-- Rate code and width code (1, 2, 3 for 1, 2, 4 lanes) of the candidate modes, in the order of R231. -/
def candOrder : List (Nat × Nat) :=
  [(4, 3), (3, 3), (4, 2), (2, 3), (3, 2), (4, 1), (1, 3), (2, 2), (3, 1), (1, 2), (2, 1), (1, 1)]

/-- The candidate modes of both sides: bit c − 1 of the rates, bit w − 1 of the widths. -/
def State.candidates (s : State) (n : Nat) (o : Offer) : List (Nat × Nat) :=
  let r := s.fld (F.MYL_CFG_RATE_ALLOW n) &&& o.rates
  let w := s.fld (F.MYL_CFG_WIDTH_ALLOW n) &&& o.widths
  candOrder.filter (fun c => r.testBit (c.1 - 1) && w.testBit (c.2 - 1))

/-- The FEC mode of both sides: mode 0 where both are allowed only when both prefer it (R231). -/
def State.commonFec (s : State) (n : Nat) (o : Offer) : Option Nat :=
  match s.fld (F.MYL_CFG_FEC_ALLOW n) &&& o.fecs with
  | 0 => none
  | 1 => some 0
  | 2 => some 1
  | _ => some (if s.fld (F.MYL_CFG_FEC_PREF n) = 0 ∧ o.fecPref = 0 then 0 else 1)

/-- NEGOTIATE ends: no common mode, no cipher suite, the wrong partner, or TRAIN with the candidates (R231, R232). -/
def State.negotiate (s : State) (n : Nat) : State :=
  match (s.lnk n).partner with
  | none => s
  | some o =>
    if s.linkSt n ≠ linkNegotiate then s
    else match s.candidates n o, s.commonFec n o with
      | [], _ => s.trainFail n 3
      | _, none => s.trainFail n 3
      | cs, some f =>
        if !o.cipher then s.trainFail n 5
        else if s.flag (F.MYL_EXPECT_CHECK n) ∧
            (s.fld (F.MYL_EXPECT_PARTNER_MODULE n) ≠ o.module ∨ s.fld (F.MYL_EXPECT_PARTNER_LINK n) ≠ o.link) then
          (s.trainFail n 4).raise (blkMyl n) 21
        else ((s.modLink n (fun l => { l with cands := cs, fec := f })).setLinkSt n linkTrain).count (F.MYL_TRAIN_CNT n)

def execNegotiateDone (n : Nat) (s : State) : Host.Outcome State Fault Refusal := .next (s.negotiate n)

/-- Equalisation of the first candidate ends: the mode is taken, the next is tried, or none is left (R231). -/
def State.equalised (s : State) (n : Nat) (ok : Bool) (lanes : Nat) : State :=
  if s.linkSt n ≠ linkTrain then s
  else match (s.lnk n).cands with
    | [] => s.trainFail n 2
    | c :: cs =>
      if ok then
        let s := s.setFld (F.MYL_STS_RATE n) c.1
        let s := s.setFld (F.MYL_STS_WIDTH n) c.2
        let s := s.setFld (F.MYL_STS_LANES n) lanes
        let s := s.setFld (F.MYL_STS_FEC n) (s.lnk n).fec
        (s.setLinkSt n linkKeyx).emit (.train n 2)
      else if cs = [] then s.trainFail n 2
      else s.modLink n (fun l => { l with cands := cs })

def execEqualisationResult (n : Nat) (ok : Bool) (lanes : Nat) (s : State) : Host.Outcome State Fault Refusal :=
  .next (s.equalised n ok lanes)

/-- A value of the dictionary, as a number; zero where its default stands. -/
def State.dictNat (s : State) (index sub : Nat) : Nat := ofLe (Tab.getD s.dict (index * 256 + sub) [])

/-- The partner's acceptance policy: its security version and the allow-list (R450). -/
def State.partnerAllowed (s : State) (n svn : Nat) : Bool :=
  let allow := Tab.getD s.dict (0x5010 * 256 + 2) []
  decide (s.dictNat 0x5010 1 ≤ svn) &&
    (allow = [] || (List.range (allow.length / 4)).any (fun i => decide (leAt allow (4 * i) 4 = s.fld (F.MYL_PARTNER_MODULE n))))

/-- The key exchange ends: ACTIVE with a fresh master secret and both directions at epoch 0, or AUTH_FAIL (R230, R232,
R234, R450). -/
def State.keyxDone (s : State) (n : Nat) (auth : Bool) (svn : Nat) (secret : List Nat) : State :=
  if s.linkSt n ≠ linkKeyx then s
  else if !auth ∨ !s.partnerAllowed n svn then (s.trainFail n 6).raise (blkMyl n) 22
  else
    let old := (s.lnk n).lastBw
    let s := s.modLink n (fun l => { l.fresh with txSecret := secret, rxSecret := secret, attempts := 0 })
    let s := (s.setFld (F.MYL_TX_EPOCH n) 0).setFld (F.MYL_RX_EPOCH n) 0
    let s := s.setLinkSt n linkActive
    let s := if s.flag (blkMyl n).enable then s.setUp n true else s
    let s := if s.linkBw n < old then s.raise (blkMyl n) 17 else s
    s.routeWaiting

def execKeyxComplete (n : Nat) (auth : Bool) (svn : Nat) (secret : List Byte) (s : State) :
    Host.Outcome State Fault Refusal :=
  .next (s.lib (fun s => s.keyxDone n auth svn (natsOf secret)))

/-- A lane in use loses lock (R234). -/
def execLossOfLock (n : Nat) (s : State) : Host.Outcome State Fault Refusal := .next (s.leaveActive n 7)

/-- The wait of RETRAIN ends: DETECT, or FAULT after eight failed attempts (R234). -/
def execRetrainBackoffExpiry (n : Nat) (s : State) : Host.Outcome State Fault Refusal :=
  .next (if s.linkSt n ≠ linkRetrain ∨ !s.coreUp (if n < 24 then 2 else 5) then s
    else s.setLinkSt n (if 8 < (s.lnk n).attempts then linkFault else linkDetect))

/-- A disabled link has drained, or 1 ms has passed: DOWN, then DISABLED with ACTIVE at 0 (R235, R243). -/
def State.linkDrained (s : State) (n : Nat) : State :=
  if s.linkSt n ≠ linkActive ∨ s.flag (blkMyl n).enable then s
  else
    let s := s.sendControl n [3, 0, 0, 0, 12]
    let s := (s.setReason n 12).dropLink n linkDisabled
    (s.setFlag (blkMyl n).active false).modLink n (fun _ => Link.init)

def execLinkDisableDrainEnd (n : Nat) (s : State) : Host.Outcome State Fault Refusal := .next (s.linkDrained n)

/-! ### Flits received -/

/-- A DATA flit (R237, R240, R241); an engine mismatch retrains the link (R247). -/
def execDataFlit (n : Nat) (bs : List Byte) (mismatch : Bool) (s : State) : Host.Outcome State Fault Refusal :=
  .next (if mismatch ∧ s.linkSt n = linkActive then (s.raise (blkMyl n) 19).leaveActive n 10
    else s.rxSeqFlit n bs (bits (rxCtrl bs) 31 30 = 0) (fun s f => s.rxHold n f))

/-- Whether bytes are a CONTROL flit of a subtype (R239). -/
def isControl (bs : List Byte) (sub : Nat) : Bool := bits (rxCtrl bs) 31 30 = 1 && leAt bs 4 1 = sub

/-- An IDLE flit carries an ACK (R239, R240). -/
def execIdleFlit (n : Nat) (bs : List Byte) (s : State) : Host.Outcome State Fault Refusal :=
  .next (if s.linkSt n ≠ linkActive then s
    else if crc32c (bs.take 60) ≠ leAt bs 60 4 then (s.count (F.MYL_CRC_ERR n)).rxBad n
    else if isControl bs 0 then (s.rxAck n (rxCtrl bs % 4096)).switchAgain n else s)

/-- A TAG flit closes its frame (R245, R246). -/
def execTagFlit (n : Nat) (bs : List Byte) (s : State) : Host.Outcome State Fault Refusal :=
  .next ((s.rxSeqFlit n bs (isControl bs 1) (fun s f => s.rxTag n f)).switchAgain n)

/-- A KEY_SWITCH flit waits for its frame's TAG (R248). -/
def execKeySwitchFlit (n : Nat) (bs : List Byte) (s : State) : Host.Outcome State Fault Refusal :=
  .next (s.rxSeqFlit n bs (isControl bs 2) (fun s f => s.rxHold n f))

/-- A DOWN flit waits for its frame's TAG, which takes the link out of ACTIVE (R234, R245). -/
def execDownFlit (n : Nat) (bs : List Byte) (s : State) : Host.Outcome State Fault Refusal :=
  .next (s.rxSeqFlit n bs (isControl bs 3) (fun s f => s.rxHold n f))

/-- A RETRY: the stored flits go out again from its SEQ on; the eighth request of one SEQ retrains (R241, R242). -/
def State.rxRetry (s : State) (n seq : Nat) : State :=
  let l := s.lnk n
  let k := match l.asked with
    | some (q, k) => if q = seq ∧ l.replay.any (fun r => r.1 = seq) then k + 1 else 1
    | none => 1
  if 8 ≤ k then s.leaveActive n 8
  else
    let s := s.modLink n (fun l => { l with asked := some (seq, k) })
    (l.replay.dropWhile (fun r => decide (r.1 ≠ seq))).foldl (fun s r => s.emit (.wire n r.2)) s

def execRetryFlit (n : Nat) (bs : List Byte) (s : State) : Host.Outcome State Fault Refusal :=
  .next (if s.linkSt n ≠ linkActive then s
    else if crc32c (bs.take 60) ≠ leAt bs 60 4 then (s.count (F.MYL_CRC_ERR n)).rxBad n
    else if bits (rxCtrl bs) 31 30 = 2 then (s.rxRetry n (bits (rxCtrl bs) 23 12)).rxAck n (rxCtrl bs % 4096) else s)

/-- The RETRY outstanding is sent again; after eight the link retrains (R241, R242). -/
def execRetryRepeat (n : Nat) (s : State) : Host.Outcome State Fault Refusal :=
  .next (match (s.lnk n).retry with
    | none => s
    | some (seq, k) =>
      if s.linkSt n ≠ linkActive then s
      else if 8 ≤ k then s.leaveActive n 8
      else (s.modLink n (fun l => { l with retry := some (seq, k + 1) })).sendRetry n seq)

/-! ### Frames, credits and keys -/

/-- A frame counter at 2^48 retrains the link (R248). -/
def State.keyLimit (s : State) (n : Nat) : State := if 2 ^ 48 ≤ (s.lnk n).txCount then s.leaveActive n 13 else s

/-- 10 ns after its first flit a frame is closed (R244). -/
def execFrameCloseTimer (n : Nat) (s : State) : Host.Outcome State Fault Refusal :=
  .next (if s.linkSt n = linkActive ∧ (s.lnk n).txFrame ≠ [] then (s.closeFrame n).keyLimit n else s)

/-- Credit owed for 100 ns without traffic: a frame of one TAG (R244). -/
def execCreditReturnTimer (n : Nat) (s : State) : Host.Outcome State Fault Refusal :=
  .next (if s.linkSt n = linkActive ∧ (s.lnk n).txFrame = [] ∧ (s.lnk n).owed.any (fun c => decide (c ≠ 0)) then
      (s.closeFrame n).keyLimit n
    else s)

/-- The frame counter has reached 2^INTERVAL: the next epoch (R248). -/
def execRekeyInterval (n : Nat) (s : State) : Host.Outcome State Fault Refusal :=
  .next (if s.linkSt n = linkActive ∧ 2 ^ s.fld (F.MYL_REKEY_INTERVAL n) ≤ (s.lnk n).txCount then
      (s.txSwitch n).keyLimit n
    else s)

/-- FORCE is written 1 (R248, R275). -/
def execRekeyForce (m : Master) (n : Nat) (s : State) : Host.Outcome State Fault Refusal :=
  .next (s.viaReg m (F.MYL_REKEY_FORCE n).off (fun s => s.rekeyForce n))

/-- The key exchange of R249: the new secret waits for the next epoch of each direction; a failure retrains. -/
def execMasterSecretExchange (n : Nat) (ok : Bool) (secret : List Byte) (s : State) : Host.Outcome State Fault Refusal :=
  .next (if s.linkSt n ≠ linkActive ∨ s.mgmt.libDown then s
    else if ok then s.modLink n (fun l => { l with txNext := some (natsOf secret), rxNext := some (natsOf secret) })
    else (s.raise (blkMyl n) 22).leaveActive n 6)

/-- A one-second window of the FEC counters ends (R236, R276). -/
def execFecWindow (n corr uncorr : Nat) (s : State) : Host.Outcome State Fault Refusal :=
  let s := (s.countBy (F.MYL_FEC_CORR n) corr).countBy (F.MYL_FEC_UNCORR n) uncorr
  .next (if uncorr = 0 then s else s.raise (blkMyl n) 20)

/-! ### The router -/

/-- A packet head reaches the router; an engine mismatch at its egress link sends nothing and retrains that link (R247,
R256, R259). -/
def execPacketRoute (p : Packet) (arr : Option Nat) (mismatch : Bool) (s : State) : Host.Outcome State Fault Refusal :=
  .next (if !s.flag blkMyr.active then s
    else if mismatch ∧ !s.badHeader p arr ∧ p.dst ≠ s.ownModule then
      match (s.egress p arr).2 with
      | some n => (s.raise (blkMyl n) 19).leaveActive n 10
      | none => s.route p arr
    else s.route p arr)

/-- The packet that has waited longest for an eligible link is discarded (R262). -/
def execUnreachableTimeout (s : State) : Host.Outcome State Fault Refusal :=
  .next (match s.unreach with
    | [] => s
    | (p, arr) :: rest => { s with unreach := rest }.discard 3 p arr)

/-- SWAP is written 1 (R263). -/
def execRouteSwap (m : Master) (s : State) : Host.Outcome State Fault Refusal :=
  .next (s.viaReg m F.MYR_ROUTE_CTRL_SWAP.off (fun s => s.setFlag F.MYR_ROUTE_CTRL_SWAP true))

/-- Every port has swapped (R263). -/
def execRouteSwapDone (s : State) : Host.Outcome State Fault Refusal :=
  .next (if s.flag F.MYR_ROUTE_CTRL_SWAP then
      (s.setFlag F.MYR_ROUTE_CTRL_ACTIVE_BANK (!s.flag F.MYR_ROUTE_CTRL_ACTIVE_BANK)).setFlag F.MYR_ROUTE_CTRL_SWAP false
    else s)

/-- A partner asks for a far loop: served with ALLOW_FAR_EDDY, else refused and the link stays in DETECT (R267). -/
def execFarEddyRequest (n : Nat) (s : State) : Host.Outcome State Fault Refusal :=
  .next (if s.linkSt n = linkDetect ∨ s.linkSt n = linkNegotiate then
      if s.flag (F.MYL_CFG_ALLOW_FAR_EDDY n) then
        (s.setLinkSt n linkEddy).modLink n (fun l => { l with farLoop := true })
      else (s.setLinkSt n linkDetect).emit (.train n 3)
    else s)

/-- A held packet is sent (R269). -/
def execFaultHeldRelease (n : Nat) (s : State) : Host.Outcome State Fault Refusal := .next (s.finRelease n)

end Sys2Proof.Machine
end

