-- ==== Sys2Proof/Machine/DictActs.lean ====
section
/-!
DEFINITION. What a write of each object of the dictionary does (R226, R286, R343, R362, R366, R377, R384, R431, R460, R484, R512,
R517 to R526, R544, R578, R590, R591, R596, R601, R612 to R614, R623, R637 to R642).
-/
namespace Sys2Proof.Machine

/-- A value fits a register: no bit outside its writable fields, and no reserved encoding. -/
def regFits (off v : Nat) : Bool :=
  match regAt off with
  | none => false
  | some (_, _, r) =>
    let fs := r.fields.filter (fun f => f.acc ≠ .ro)
    decide (fs.foldl (fun a f => setBits a f.hi f.lo (bits v f.hi f.lo)) 0 = v) &&
      fs.all (fun f => decide (f.least ≤ bits v f.hi f.lo ∧ bits v f.hi f.lo ≤ f.greatest))

/-- A condition for a write: the abort code where it fails. -/
def need (ok : Bool) (code : Nat) (rest : MbRes) : MbRes := if ok then rest else .refuse code

/-! ### Settings (R431, R460, R484, R512, R544, R578, R596, R623) -/

/-- The sessions that a key slot authenticated lose their role (R637). -/
def State.dropSlot (s : State) (role slot : Nat) : State :=
  s.modMgmt (fun g => { g with sessions := g.sessions.map (fun p =>
    (p.1, if p.2.role = role ∧ p.2.slot = slot then { p.2 with role := 0, rights := 0 } else p.2)) })

/-- A key slot is rewritten; the last installer key stays (R637, R639). -/
def State.keyPut (s : State) (idx slot : Nat) (v : List Byte) : MbRes :=
  let others := (List.range 8).any (fun i => decide (i + 1 ≠ slot) && !allZero (s.stored 0x5021 (i + 1)))
  need (idx = 0x5020 || !allZero v || others) abInconsistent
    (.ok ((s.setObj idx slot v).dropSlot (if idx = 0x5020 then 1 else 2) slot) [])

/-- The register behind an object takes its value at once, if its gate is open; else at the next start. -/
def State.putIfRest (s : State) (b : Blk) (f : Fld) (v : Nat) : State := if s.flag b.active then s else s.setReg f.off (BitVec.ofNat 32 v)

/-- The five words of 0x9010: ENABLE, RETAIN, LEAD and KEY_PAGE; TIMER; INTERVAL; MANIFEST_BLOCKS; NSID. -/
def State.policyPut (s : State) (j : Nat) (v : List Byte) : MbRes :=
  let w := fun i => leAt v (4 * i) 4
  let offs := [(F.MOD_CKPT_CFG_ENABLE j).off, (F.MOD_CKPT_TIMER j).off, (F.MOD_CKPT_INTERVAL j).off, (F.MOD_CKPT_MANIFEST j).off,
    (F.MOD_CKPT_NS_NSID j).off]
  need (v.length = 20) abMalformed <|
  need (decide (w 3 ≠ 0 ∧ 1 ≤ bits (w 0) 23 16)) abRange <|
  need ((List.range 5).all (fun i => regFits (offs.getD i 0) (w i)) && !(w 0).testBit 29) abReserved <|
  need (decide (s.fld (F.MOD_CKPT_STS_PHASE j) = 0) && !(s.ck j).round.active) abBusy <|
  .ok ((List.range 5).foldl (fun s i => s.setReg (offs.getD i 0) (BitVec.ofNat 32 (w i))) s) []

/-- NS_FEED_OWNER: NSID and OWNER of kind 0 or 1 (R519, R544). -/
def State.feedOwnerPut (s : State) (v : List Byte) : MbRes :=
  let n := leAt v 0 4
  let o := leAt v 4 2
  need (v.length = 6) abMalformed <|
  need (decide (o < 0x8000 ∨ o = 0xFFFF)) abRange <|
  match s.ns? n with
  | none => .refuse abInconsistent
  | some x => need (!x.deleting) abInconsistent
    (.ok ((s.modNs n (fun x => { x with r := { x.r with feedOwner := if o = 0xFFFF then none else some o } })).writeLabel) [])

/-- A unit that can be marked for retest. -/
def markOk (x : List Byte) : Bool :=
  decide (x.length = 2) && decide (leAt x 1 1 < [16, 16, 24, 8, 8, 1].getD (leAt x 0 1) 0)

/-- The value is stored; its effect on a register, if it has one now, is `f`. -/
def State.keep (s : State) (idx sub : Nat) (v : List Byte) (f : State → State := id) : MbRes := .ok (f (s.setObj idx sub v)) []

/-- Settings of 0x2000 to 0x4FFF. -/
def State.putLow (s : State) (idx sub : Nat) (v : List Byte) : MbRes :=
  let n := ofLe v
  match idx with
  | 0x2001 => need (s.capOk n) abRange (s.keep idx sub v (fun s => s.setFld F.PWR_CAP_CAP_W n))
  | 0x2002 =>
    if sub = 1 then need (decide (1 ≤ n ∧ n ≤ 40)) abRange (s.keep idx sub v (fun s => s.setFld F.PWR_LIMITS_SLEW n))
    else if sub = 2 then need (decide (360 ≤ n ∧ n ≤ 440)) abRange (s.keep idx sub v (fun s => s.setFld F.PWR_LIMITS_WARN_DV n))
    else need (decide (n ≤ 100)) abRange (s.keep idx sub v (fun s => s.setFld F.PWR_LIMITS_MAX_HOLD_MS n))
  | 0x2003 =>
    if sub = 1 then need (decide (85 ≤ n ∧ n ≤ 100)) abRange (s.keep idx sub v (fun s => s.setFld F.THM_CFG_THROTTLE_C n))
    else if sub = 2 then need (decide (n ≤ 3)) abRange (need (decide (n ≠ 3)) abReserved
      (s.keep idx sub v (fun s => s.setFld F.THM_CFG_LEAK_ACTION n)))
    else s.keep idx sub v
  | 0x3001 => need (regFits F.MYR_FABRIC_ID_VALID.off n) abReserved (s.keep idx sub v)
  | 0x3010 => need (regFits (F.MYL_CFG_RATE_ALLOW (sub - 1)).off n) abReserved (s.keep idx sub v)
  | 0x3011 => need (regFits (F.MYL_EXPECT_CHECK (sub - 1)).off n) abReserved
      (s.keep idx sub v (fun s => s.putIfRest ⟨.myl, sub - 1⟩ (F.MYL_EXPECT_CHECK (sub - 1)) n))
  | 0x3020 =>
    if sub = 1 then need (decide (n ≤ 1)) abRange (s.keep idx sub v)
    else
      let f := if sub = 2 then F.GMA_MSG_TIMEOUT else F.GMA_RREG_BLOCKS_BLOCKS_LO
      need (regFits f.off n) abReserved (s.keep idx sub v (fun s => s.putIfRest blkGma f n))
  | 0x3040 => need (regFits (F.FPP_PORT_CFG_MODE (sub - 1)).off (n % 2 ^ 32) &&
      regFits (F.FPP_MODE_ALLOW_MODE_ALLOW (sub - 1)).off (n / 2 ^ 32)) abReserved (s.keep idx sub v)
  | 0x4012 => s.feedOwnerPut v
  | 0x4020 => need (regFits (F.RTP_CFG_BIFURCATE (sub - 1)).off n) abReserved (s.keep idx sub v)
  | _ => s.keep idx sub v

/-- Settings of 0x5000 and above. -/
def State.putHigh (s : State) (idx sub : Nat) (v : List Byte) : MbRes :=
  let n := ofLe v
  match idx with
  | 0x5010 =>
    if sub = 1 then s.keep idx sub v State.measureSecurity
    else need (v.length % 4 = 0) abMalformed (s.keep idx sub v State.measureSecurity)
  | 0x5020 => s.keyPut idx sub v
  | 0x5021 => s.keyPut idx sub v
  | 0x6004 => need (decide (n ≠ 0)) abRange (s.keep idx sub v (fun s =>
      if sub = 1 then s.setFld (F.VFN_QOS_HBM_WEIGHT 0) n else s.setFld (F.VFN_QOS_SEND_WEIGHT 0) n))
  | 0x6080 =>
    let r := if sub = 1 then (30, 40) else if sub = 2 then (30, 36) else (1, 6)
    need (decide (r.1 ≤ n ∧ n ≤ r.2)) abRange (s.keep idx sub v)
  | 0x7003 => s.keep idx sub v State.showFw
  | 0x8001 =>
    need (decide (v.length % 8 = 0 ∧ v.length ≤ 4096)) abMalformed <|
    need ((List.range (v.length / 8)).all (fun i => regFits (F.TEL_SEL_ID_QUEUE_ID i).off (leAt v (8 * i) 4) &&
      regFits (F.TEL_SEL_INT i).off (leAt v (8 * i + 4) 4))) abReserved (s.keep idx sub v)
  | 0x9010 => s.policyPut (sub - 1) v
  | 0xA110 =>
    if sub = 1 then need (regFits (F.HBC_CE_THRESH 0).off n) abReserved (s.keep idx sub v)
    else need (decide (n ≤ 3)) abRange (s.keep idx sub v)
  | 0xA111 => need (decide (sub ≠ 3 ∨ n ≤ 1)) abRange (s.keep idx sub v)
  | 0xA300 => need (sub ≠ 2 || (chunksOf 2 v).all (fun x => x.isEmpty || markOk x)) abRange (s.keep idx sub v)
  | _ => s.keep idx sub v

/-- An object without a command of its own takes a value. -/
def State.objPut (s : State) (idx sub : Nat) (v : List Byte) : MbRes :=
  if idx < 0x5000 then s.putLow idx sub v else s.putHigh idx sub v

/-! ### Diagnostics (R226, R286) -/

/-- The scrubber whose memory holds an address. -/
def scrubberOf (a : Nat) : Option (Bool × Nat) :=
  match regionOf a with
  | .hbm i => some (false, i)
  | .shelf d _ => some (true, d)
  | _ => none

/-- Whether a parked unit lies in a scrub's range. -/
def State.scrubParked (s : State) (shelf : Bool) (i a n : Nat) : Bool :=
  if shelf then (List.range 3).any (fun k =>
    let lo := shelfBase + (3 * i + k) * shelfDieSize
    (s.fld F.MOD_PARKED1_SHELVES).testBit (3 * i + k) && decide (a < lo + shelfDieSize ∧ lo < a + n))
  else (s.fld F.MOD_PARKED0_STACKS).testBit i

/-- A scrub through the dictionary: the scrubber that owns the range is programmed, with its summary in firmware's granule, and
started (R226). -/
def State.dictScrub (s : State) : MbRes :=
  let a := s.storedNat 0xA111 1
  let n := s.storedNat 0xA111 2
  let dest := s.fwGranule * 2 ^ 30
  match scrubberOf a with
  | none => .refuse abInconsistent
  | some (shelf, i) =>
    let b := memBlk shelf i
    let running := s.mgmt.scrub.any (fun x => s.flag (memFld (memBlk x.1 x.2) 0x11C 0 0))
    need (s.scrubParked shelf i a n || s.scrubAllowed shelf i a n dest) abInconsistent <|
    need (!running && !s.flag (memFld b 0x11C 0 0)) abBusy <|
    need (!s.scrubParked shelf i a n) abParked <|
      let put := fun (s : State) (off v : Nat) => (s.setReg (b.base + off) (BitVec.ofNat 32 v)).setReg (b.base + off + 4)
        (BitVec.ofNat 32 (v / 2 ^ 32))
      let s := put (put (put s 0x104 a) 0x10C n) 0x114 dest
      let s := (s.setFld (memFld b 0x100 9 8) (s.storedNat 0xA110 2)).setFlag (memFld b 0x100 2 2) (decide (s.storedNat 0xA111 3 = 1))
      .ok ((s.scrubGo shelf i).modMgmt (fun g => { g with scrub := some (shelf, i) })) []

/-- A link that is not there: die B is parked. -/
def State.linkAbsent (s : State) (n : Nat) : Bool := !s.dieB && decide (24 ≤ n)

/-- EDDY: the link is disabled, drains, is programmed and enabled (R266, R286). -/
def State.dictEddy (s : State) (n v : Nat) : MbRes :=
  need (regFits (F.MYL_EDDY_MODE n).off v) abReserved <|
  need (!s.linkAbsent n) abParked <|
    let s := ((s.disableBlock ⟨.myl, n⟩).linkDrained n).setReg (F.MYL_EDDY_MODE n).off (BitVec.ofNat 32 v)
    .ok (s.enableBlock ⟨.myl, n⟩) []

/-- FAULT_INJECT: the librarian programs the injector (R268, R285, R286). -/
def State.dictFault (s : State) (n v : Nat) : MbRes :=
  let ctl := v % 2 ^ 32
  let prm := v / 2 ^ 32
  let act := bits ctl 29 27
  let units := bits prm 31 16
  need (!ctl.testBit 31 || (decide (act ≠ 3 ∨ (1 ≤ units ∧ units ≤ 255)) && decide (act ≠ 4 ∨ 1 ≤ units) &&
    (!ctl.testBit 30 || decide (1 ≤ bits prm 15 0)))) abRange <|
  need (regFits (F.FIN_LINK_CTRL_ARM n).off ctl && regFits (F.FIN_LINK_PARAM_PARAM n).off prm) abReserved <|
  need (!s.linkAbsent n) abParked <|
    .ok ((s.spaceWrite Master.firmware (F.FIN_LINK_PARAM_PARAM n).off 4 prm).spaceWrite Master.firmware (F.FIN_LINK_CTRL_ARM n).off
      4 ctl) []

/-- ROUTE_TABLES: firmware writes the inactive bank and swaps (R263, R286). -/
def State.dictRoutes (s : State) (tables : List (Bool × Nat × Nat)) : MbRes :=
  need (!s.flag F.MYR_ROUTE_CTRL_SWAP) abBusy <|
    let bank1 := !s.flag F.MYR_ROUTE_CTRL_ACTIVE_BANK
    let s := tables.foldl (fun s x => s.putRoute bank1 x) (s.modMgmt (fun g => { g with tables := some tables }))
    .ok (s.setFlag F.MYR_ROUTE_CTRL_SWAP true) []

/-! ### Storage (R517, R519 to R521, R526) -/

/-- DRIVE_FORMAT: a fresh label, and every extent free (R517). -/
def State.driveFormat (s : State) (k : Nat) : MbRes :=
  need (decide (k < 8)) abRange <|
  need (s.driveUp k && decide (s.driveTaken k = [])) abInconsistent <|
    let s := (s.setFlag (F.NVC_DRIVE_STS_BLANK k) false).setFlag (F.NVC_DRIVE_STS_LABEL_OK k) true
    .ok s.writeLabel []

/-- The class that a session's role may create and delete (R519, R521). -/
def classRole (role : Nat) (durable : Bool) : Bool := decide (role = if durable then 2 else 1)

def State.dictNsCreate (s : State) (role : Nat) (a : NsAsk) : MbRes :=
  let rising := (a.stripe.zip (a.stripe.drop 1)).all (fun p => decide (p.1 < p.2))
  need (classRole role a.durable) abRole <|
  need (decide (a.extents ≠ 0 ∧ a.stripe ≠ [])) abRange <|
  need (decide (a.keySource ≤ 2)) abReserved <|
  need rising abInconsistent <|
  need (s.freeNsid.isSome && (!a.durable || decide ((s.store.ns.filter (fun p => p.2.r.durable)).length < 16)) ||
    a.stripe.any (fun k => decide ((s.driveFree k).length < a.extents))) abLimit <|
  match s.nsCreate a with
  | (t, some n) => .ok t (leBytes 4 n)
  | (_, none) => .refuse abNoResource

/-- NS_DELETE: the response waits until the namespace has gone (R521). -/
def State.dictNsDelete (s : State) (role : Nat) (n waiter : Nat) : MbRes :=
  match s.ns? n with
  | none => .refuse abInconsistent
  | some x =>
    need (classRole role x.r.durable) abRole <|
    need (!x.deleting) abBusy <|
      .ok (((s.nsDelete n).modNs n (fun x => { x with waiters := x.waiters ++ [waiter] })).settleNs n) []

/-- NS_ATTACH: controller 0 detaches (R519). -/
def State.dictNsAttach (s : State) (n c : Nat) : MbRes :=
  match s.ns? n with
  | none => .refuse abInconsistent
  | some x =>
    need (!x.deleting && (if c = 0 then decide (x.r.ctrl ≠ 0) else s.ctrlExists c && decide (x.r.ctrl = 0))) abInconsistent
      (.ok (if c = 0 then s.nsDetach n else s.nsAttach n c) [])

/-- Whether a page may be bound to a namespace: LOADED, of the TYPE and usage that its KEY_SOURCE needs, and its owner's or its
feed owner's (R439, R520). -/
def State.bindAllowed (s : State) (x : Ns) (page : Nat) : Bool :=
  let u := if x.r.keySource = 2 then useKdf else useEnc + useDec
  decide (s.fld (F.KEY_PAGE_STS_TYPE page) = if x.r.keySource = 2 then 3 else 1) &&
    (s.pageAllows page x.r.owner u true || x.r.feedOwner.any (fun o => s.pageAllows page o u true))

/-- NS_KEY_BIND: the first binding of a namespace fixes its KCV; the state follows the key (R519, R520). -/
def State.dictNsBind (s : State) (n page : Nat) : MbRes :=
  match s.ns? n with
  | none => .refuse abInconsistent
  | some x =>
    need (!x.deleting && decide (x.r.keySource ≠ 0) && decide (s.pageSt page = pageLoaded)) abInconsistent <|
    need (s.bindAllowed x page) abNotOwned <|
      let y := { x with page := some page }
      let s := s.modNs n (fun _ => y)
      let s := if x.r.kcv ≠ [] then s else match s.nsKeyPair n y with
        | none => s
        | some k => (s.modNs n (fun x => { x with r := { x.r with kcv := kcvOf k } })).writeLabel
      .ok (s.judgeNs n) []

/-- NS_CLEAR_LOST (R526). -/
def State.dictNsClear (s : State) (n : Nat) : MbRes :=
  need (s.ns? n).isSome abInconsistent (.ok ((s.modNs n (fun x => { x with r := { x.r with lost := false } })).writeLabel) [])

/-! ### Jobs, partitions and checkpoints (R345, R346, R348, R349, R366, R377) -/

/-- JOB_GROUP: the slot leaves what it was in and forms anew; JOB_ID 0 with no members leaves it IDLE (R348, R349). -/
def State.dictJob (s : State) (j job notice : Nat) (follow : Bool) (members : List Nat) : MbRes :=
  let rising := (members.zip (members.drop 1)).all (fun p => decide (p.1 < p.2))
  let taken := (List.range 16).any (fun k => decide (k ≠ j) && s.flag (F.MOD_JOB_CFG_ENABLE k) && decide (s.jobId k = job))
  let idle := decide (s.fld (F.MOD_CKPT_STS_PHASE j) = 0) && !(s.ck j).round.active
  if job = 0 ∧ members = [] then need idle abBusy (.ok (s.slotOff j) [])
  else
    need (decide (job ≠ 0) && members.all (fun m => decide (m < 2 ^ 20))) abRange <|
    need (rising && decide (s.ownModule ∈ members) && !taken) abInconsistent <|
    need idle abBusy <|
      let s := (s.slotOff j).modSlot j (fun x => { x with members := members })
      let s := (s.setFld (F.MOD_JOB_ID_JOB_ID j) job).setFld (F.MOD_JOB_CFG_NOTICE_GROUP j) notice
      let s := (s.setFlag (F.MOD_JOB_CFG_FOLLOW_SLOWEST j) follow).setFld (F.MOD_JOB_MEMBERS j) members.length
      .ok (s.slotOn j) []

/-- A partition that is disabled and drained gives up its tiles and granules, so that its entry can be rewritten (R346). -/
def State.partLoose (s : State) (p : Nat) : State :=
  let f := (s.ownerFn (s.fld (F.MOD_PART_CFG_OWNER p))).getD 0
  let gs := s.partGranules p
  let ts := s.partTiles p
  (s.modPools (fun x => { x with
    tiles := returnPlaces f x.tiles ts, hbm := returnPlaces f x.hbm (hbmOf gs), shelf := returnPlaces f x.shelf (shelfOf gs),
    partGran := Tab.erase x.partGran p })).setFld (F.MOD_PART_TILES_TILES p) 0

/-- PARTITION: created, or changed while it is disabled and drained (R345, R346). -/
def State.dictPart (s : State) (owner : Nat) (r : PartReq) : MbRes :=
  match (List.range 128).find? (fun f => decide (fnOwner f = owner) && s.fnPresent f) with
  | none => .refuse abRange
  | some f =>
    if s.fld (F.MOD_PART_TILES_TILES r.p) = 0 then s.partCreate f r
    else
      need (!s.flag (F.MOD_PART_CFG_ENABLE r.p) && !s.flag (F.MOD_PART_CFG_ACTIVE r.p)) abInconsistent <|
      need (!s.flag (F.MOD_PART_CFG_SEALED r.p)) abSealed <|
        match (s.partLoose r.p).partCreate f r with
        | .refuse c => .refuse c
        | .ok t b => .ok t b

/-- CKPT_TRIGGER at the coordinator (R366). -/
def State.dictTrigger (s : State) (j : Nat) : MbRes :=
  need (s.ckOn j && decide (s.coordOf j = s.ownModule)) abInconsistent <|
  need (decide (s.ckPhase j ≠ 5) && !(s.ck j).round.active) abBusy (.ok (s.manualTrigger j) [])

/-- RESTORE (R377, R378). -/
def State.dictRestore (s : State) (j job coord replica gen staging length : Nat) (manifests : List (List Byte)) : MbRes :=
  need (s.ckOn j) abInconsistent <|
  match s.restoreStart j job coord replica gen staging length manifests with
  | (t, true) => .ok t []
  | (_, false) => .refuse abBusy

/-! ### Restart and firmware (R591, R601, R612 to R614) -/

/-- RESTART is refused while the module is MOVING or holds a cut (R591). -/
def State.dictRestart (s : State) : MbRes :=
  need (!s.flag F.MOD_STS_MOVING) abMoving (need (!s.cutHeld) abCut (.ok s []))

/-- What refuses a download, with the start of the image where it has come (R612). -/
def State.downloadWhy (s : State) (cat : Bool) (bs : List Byte) : Nat :=
  if s.updBar ≠ 0 then s.updBar
  else if s.receiving then 8
  else if 256 ≤ bs.length then s.headerBar cat bs else 0

/-- The whole image has arrived (R612, R613). -/
def State.imageWhy (s : State) (cat : Bool) (bs : List Byte) : Nat :=
  if s.downloadWhy cat bs ≠ 0 then s.downloadWhy cat bs else if (s.imageOf cat bs).isNone then 4 else 0

def State.refusedWith (s : State) (why : Nat) : State := if why = 0 then s else (s.updRefused why).showFw

/-- BUNDLE_IMAGE and CATALOGUE_IMAGE: the effect of the whole image, of the first of several segments, and the record of a
refusal. -/
def State.dictImage (s : State) (cat : Bool) (bs : List Byte) : MbRes :=
  let why := s.imageWhy cat bs
  if why ≠ 0 then .refuse (refusalCode why) else .ok (s.download cat bs).2 []

def imageOpts (cat : Bool) : PutOpts :=
  { first := fun s bs => if s.downloadWhy cat bs ≠ 0 then .refuse (refusalCode (s.downloadWhy cat bs)) else .ok (s.downloadBegin cat) []
    no := fun s bs => s.refusedWith (s.imageWhy cat bs) }

/-- What refuses a commit (R612). -/
def State.commitWhy (s : State) : Nat := if s.updBar ≠ 0 then s.updBar else if s.receiving then 8 else 0

def State.dictCommit (s : State) (v : Nat) : MbRes :=
  let f := s.mgmt.flash
  need (decide (1 ≤ v ∧ v ≤ 3)) abRange <|
  need ((!v.testBit 0 || f.staged || f.pending.isSome) && (!v.testBit 1 || f.catStaged || f.catPending.isSome)) abInconsistent <|
  need (s.commitWhy = 0) (refusalCode s.commitWhy) (.ok (s.markPending (v.testBit 0) (v.testBit 1)) [])

/-- What refuses an activation (R612). -/
def State.activateWhy (s : State) : Nat :=
  if s.commitWhy ≠ 0 then s.commitWhy
  else if s.cutHeld then 7
  else if s.mgmt.flash.pending.isNone ∧ s.mgmt.flash.catPending.isNone then 9
  else 0

/-- ACTIVATE restarts now: no emergency holds it back, and none is deferred (R614). -/
def State.activatesNow (s : State) : Bool := !s.flag F.PWR_STS_EMERGENCY && !s.mgmt.flash.deferred

def State.dictActivate (s : State) : MbRes :=
  need (s.activateWhy = 0) (refusalCode s.activateWhy) <|
    .ok (if s.activatesNow then s else (s.modFlash (fun f => { f with deferred := true })).showFw) []

/-! ### Time and the maker's objects (R640, R642) -/

def State.setTime (s : State) (v : Nat) : State :=
  { s with epoch := (v : Int) - s.time }.modMgmt (fun g => { g with timeSet := true })

/-- DEBUG_ENABLE: refused while a sealed context exists; measurement 0x07 follows (R432, R642). -/
def State.dictDebug (s : State) : MbRes :=
  need (decide (s.trust.sealed = [])) abSealed <|
    let s := s.modMgmt (fun g => { g with debugOn := true })
    .ok (s.modTrust (fun t => { t with measures := Tab.set t.measures 7 (natsOf (Config.measurement 7 [1])) })) []

/-- CREDENTIAL_RESET (R640). -/
def State.credentialReset (s : State) : State :=
  let s := { s with dict := s.dict.filter (fun p => decide (p.1 / 256 ≠ 0x5020 ∧ p.1 / 256 ≠ 0x5021)) }
  s.modMgmt (fun g => { g with sessions := g.sessions.map (fun p => (p.1, { p.2 with role := 0, rights := 0 })) })

end Sys2Proof.Machine
end

