-- ==== Sys2Proof/Machine/DictCmds.lean ====
section
/-!
DEFINITION. The requests of the dictionary: services, roles and sessions, and the writes that are commands of their own (R226, R286,
R362, R366, R377, R384, R512, R517, R519 to R521, R526, R591, R601, R613, R614, R629 to R642).
-/
namespace Sys2Proof.Machine

/-! ### Services (R630, R631) -/

/-- READ (R631, R632). -/
def execDictRead (d : DHdr) (s : State) : Host.Outcome State Fault Refusal := .next (s.dictGet d s.objValue)

/-- WRITE of an object without a command of its own (R632, R633). -/
def execDictWrite (d : DHdr) (data : List Byte) (s : State) : Host.Outcome State Fault Refusal :=
  .next (s.dictPut d data (fun s v => s.objPut d.idx d.sub v))

/-- A service that is served from SERVICE on; a session is needed, and a role where `role` says so (R635, R643). -/
def State.service (s : State) (d : DHdr) (svc : Nat) (early role : Bool) (run : State → State) : State :=
  if !s.dictReaches d.sess then s
  else if role ∧ (s.sess d.sess).role = 0 then s.dictNo svc d abNotAuth
  else if !early ∧ s.fld F.MOD_STS_STATE < 5 then s.dictNo svc d abModuleState
  else run s

/-- The access bits of DESCRIBE: bit 2r read and bit 2r + 1 write for role r. -/
def accessBits (rd wr : Nat) : Nat :=
  (List.range 3).foldl (fun a r => a + ofBool (rd.testBit r) * 4 ^ r + ofBool (wr.testBit r) * 2 * 4 ^ r) 0

/-- The 12 bytes of DESCRIBE: type, access, persistence, zero, the default's length, and its first 4 bytes. -/
def describeBytes (ty rd wr pers : Nat) (dflt : List Byte) : List Byte :=
  leBytes 1 ty ++ leBytes 1 (accessBits rd wr) ++ leBytes 1 (if pers = 0 then 0 else 1) ++ [0] ++ leBytes 4 dflt.length ++ fitBytes 4 dflt

def State.describe (s : State) (d : DHdr) : State :=
  match objRow d.idx d.sub with
  | some r => s.dictOk svcDescribe d 12 (describeBytes r.ty.code r.rd r.wr r.pers r.dflt)
  | none =>
    if !indexExists d.idx then s.dictNo svcDescribe d abNoObject
    else if d.sub ≠ 0 then s.dictNo svcDescribe d abNoSub
    else s.dictOk svcDescribe d 12 (describeBytes 2 7 0 1 [entryCount d.idx])

def execDescribe (d : DHdr) (s : State) : Host.Outcome State Fault Refusal :=
  .next (s.service d svcDescribe false false (fun s => s.describe d))

/-- The pairs that follow a pair, at most 64 (R631). -/
def pairsAfter (idx sub : Nat) : List (Nat × Nat) :=
  (objectPairs.filter (fun p => decide (idx * 256 + sub < p.1 * 256 + p.2))).take 64

def State.listPairs (s : State) (d : DHdr) : State :=
  let bs := (pairsAfter d.idx d.sub).flatMap (fun p => leBytes 2 p.1 ++ leBytes 1 p.2 ++ [0])
  s.dictOk svcList d bs.length bs

def execList (d : DHdr) (s : State) : Host.Outcome State Fault Refusal :=
  .next (s.service d svcList false false (fun s => s.listPairs d))

/-- CHALLENGE: a fresh nonce, drawn at random. -/
def State.dictNonce (s : State) (d : DHdr) : State :=
  let nonce := leBytes 48 (s.freeNat % 2 ^ 384)
  ((s.drew).modSess d.sess (fun x => { x with nonce := some nonce })).dictOk svcChallenge d 48 nonce

def execDictChallenge (d : DHdr) (s : State) : Host.Outcome State Fault Refusal :=
  .next (s.service d svcChallenge true false (fun s => s.dictNonce d))

/-- LOGOUT ends the role. -/
def State.logout (s : State) (d : DHdr) : State :=
  (s.modSess d.sess (fun x => { x with role := 0, rights := 0 })).dictOk svcLogout d 0 []

def execLogout (d : DHdr) (s : State) : Host.Outcome State Fault Refusal :=
  .next (s.service d svcLogout false true (fun s => s.logout d))

/-! ### LOGIN (R635 to R638, R641) -/

/-- Code of the security events of a failed LOGIN and of a bar. -/
def secAuthFail : Nat := 11
def secLoginBar : Nat := 12

/-- A failed LOGIN: journaled, reported, counted; five on one transport in 60 s bar it (R637). -/
def State.loginFailed (s : State) (d : DHdr) (role : Nat) (ident : List Byte) (code : Nat) : State :=
  let t := (s.sess d.sess).transport
  let a : Actor := ⟨role, t, ident⟩
  let s := (s.journalAudit a 3 0 0 code none).secEvent fwOwner t secAuthFail
  let s := if t ∈ s.mgmt.bars then s
    else
      let recent := (Tab.getD s.mgmt.fails t []).filter (fun x => decide (s.time < x + 60000000)) ++ [s.time]
      if recent.length < 5 then s.modMgmt (fun g => { g with fails := Tab.set g.fails t recent })
      else
        let s := s.modMgmt (fun g => { g with fails := Tab.erase g.fails t, bars := g.bars ++ [t] })
        (s.journalAudit a 4 0 0 abAuthFail none).secEvent fwOwner t secLoginBar
  s.dictNo svcLogin d code

/-- The 256-byte maker token is formed as R638 gives, is for this module, and is valid for at most 7 days. -/
def tokenFits (tok : List Byte) : Bool :=
  decide (tok.take 8 = textBytes "RZLMAKER") && decide (leAt tok 8 2 = 1) && allZero ((tok.drop 10).take 6) &&
    decide ((tok.drop 16).take 16 = serial16) && decide (leAt tok 40 8 ≤ leAt tok 32 8 + 7 * 86400 * 1000000) &&
    decide (leAt tok 48 8 < 8) && allZero ((tok.drop 152).take 8)

/-- Why a LOGIN fails: 0 where it succeeds. The signatures of the session and of the token are operands of the command. -/
def State.loginWhy (s : State) (x : Sess) (bs : List Byte) (sigOk tokenOk : Bool) : Nat :=
  let role := leAt bs 0 1
  let slot := leAt bs 1 1
  let tok := bs.drop 130
  if x.transport ∈ s.mgmt.bars ∨ x.nonce.isNone then abAuthFail
  else if role = 3 then
    if x.transport = 0 then abAuthFail
    else if !tokenFits tok ∨ !tokenOk then abTokenInvalid
    else if !s.mgmt.timeSet ∨ s.modTime < leAt tok 32 8 ∨ leAt tok 40 8 < s.modTime then abTokenExpired
    else if sigOk then 0 else abAuthFail
  else
    let key := s.stored (if role = 1 then 0x5020 else 0x5021) slot
    if 1 ≤ slot ∧ slot ≤ 8 ∧ !allZero key ∧ key.take 32 = (bs.drop 2).take 32 ∧ sigOk then 0 else abAuthFail

def State.login (s : State) (d : DHdr) (bs : List Byte) (sigOk tokenOk : Bool) : State :=
  let role := leAt bs 0 1
  if role < 1 ∨ 3 < role ∨ bs.length ≠ (if role = 3 then 386 else 130) then s.dictNo svcLogin d abMalformed
  else
    let x := s.sess d.sess
    let ident := (bs.drop 2).take 32
    let why := s.loginWhy x bs sigOk tokenOk
    let s := s.modSess d.sess (fun x => { x with nonce := none })
    if why ≠ 0 then s.loginFailed d role ident why
    else
      let s := s.modSess d.sess (fun x => { x with
        role := role, slot := if role = 3 then 0 else leAt bs 1 1, ident := ident
        rights := if role = 3 then leAt (bs.drop 130) 48 8 else 0 })
      (s.journalAudit ⟨role, x.transport, ident⟩ 2 0 0 0 none).dictOk svcLogin d 0 []

def execLogin (d : DHdr) (data : List Byte) (sigOk tokenOk : Bool) (s : State) : Host.Outcome State Fault Refusal :=
  .next (s.service d svcLogin true false (fun s => s.login d data sigOk tokenOk))

/-- The bar of a transport ends (R637). -/
def execLoginBarExpiry (transport : Nat) (s : State) : Host.Outcome State Fault Refusal :=
  .next (s.modMgmt (fun g => { g with bars := g.bars.filter (· ≠ transport) }))

/-! ### Sessions (R629, R632) -/

/-- A connection of the management port or of I3C opens a session, unless the transport has all of its sessions open. -/
def State.openSession (s : State) (transport : Nat) : State :=
  let ns := if transport = 1 then (List.range 8).map (· + 1) else [9, 10]
  if s.mgmt.libDown ∨ s.fld F.MOD_STS_STATE < 3 ∨ s.mgmt.held ≠ 0 then s
  else match ns.find? (fun n => (Tab.find? s.mgmt.sessions n).isNone) with
    | none => s
    | some n => s.modMgmt (fun g => { g with
        sessions := Tab.set g.sessions n { Sess.init with transport := transport, opened := s.modTime } })

def execSessionOpen (transport : Nat) (s : State) : Host.Outcome State Fault Refusal := .next (s.openSession transport)

def execSessionIdleTimeout (n : Nat) (s : State) : Host.Outcome State Fault Refusal := .next (s.endSession n)

/-- A gap of 10 s discards a transfer and a snapshot (R632). -/
def State.segmentGap (s : State) (n : Nat) : State :=
  match Tab.find? s.mgmt.sessions n with
  | none => s
  | some x =>
    let was := x.xfer.any (fun t => t.1 = 0x7001)
    let s := s.modSess n (fun x => { x with xfer := none, snap := none })
    if was then s.showFw else s

def execSegmentGapTimeout (n : Nat) (s : State) : Host.Outcome State Fault Refusal := .next (s.segmentGap n)

/-! ### Diagnostics and the fabric (R226, R286) -/

def execScrubGo (d : DHdr) (data : List Byte) (s : State) : Host.Outcome State Fault Refusal :=
  .next (s.dictPut d data (onOne State.dictScrub))

def execDictEddy (d : DHdr) (data : List Byte) (s : State) : Host.Outcome State Fault Refusal :=
  .next (s.dictPut d data (fun s v => s.dictEddy (d.sub - 1) (ofLe v)))

def execDictFaultInject (d : DHdr) (data : List Byte) (s : State) : Host.Outcome State Fault Refusal :=
  .next (s.dictPut d data (fun s v => s.dictFault (d.sub - 1) (ofLe v)))

/-- A route table load waits for cores 2 and 5 (R602). -/
def execRouteTables (d : DHdr) (data : List Byte) (tables : List (Bool × Nat × Nat)) (s : State) :
    Host.Outcome State Fault Refusal :=
  .next (if s.coreUp 2 && s.coreUp 5 then s.dictPut d data (fun s _ => s.dictRoutes tables) else s)

/-! ### Storage (R517, R519 to R521, R526, R544) -/

def execDriveFormat (d : DHdr) (data : List Byte) (s : State) : Host.Outcome State Fault Refusal :=
  .next (s.dictPut d data (fun s v => s.driveFormat (ofLe v)))

def execNsCreate (d : DHdr) (data : List Byte) (a : NsAsk) (s : State) : Host.Outcome State Fault Refusal :=
  .next (s.dictPut d data (fun s _ => s.dictNsCreate (s.sess d.sess).role a))

def execNsDelete (d : DHdr) (data : List Byte) (s : State) : Host.Outcome State Fault Refusal :=
  .next (s.dictPut d data (fun s v => s.dictNsDelete (s.sess d.sess).role (ofLe v) (d.sess * 2 ^ 32 + d.seq)) { quiet := true })

def execNsAttach (d : DHdr) (data : List Byte) (nsid ctrl : Nat) (s : State) : Host.Outcome State Fault Refusal :=
  .next (s.dictPut d data (fun s _ => s.dictNsAttach nsid ctrl))

/-- A binding that R439 refuses is a refused reference. -/
def State.bindRefused (s : State) (n page : Nat) : State :=
  match s.ns? n with
  | some x => if s.dictNsBind n page matches .refuse 0x00060002 then s.keyRefused x.r.owner page else s
  | none => s

def execNsKeyBind (d : DHdr) (data : List Byte) (nsid page : Nat) (s : State) : Host.Outcome State Fault Refusal :=
  .next (s.dictPut d data (fun s _ => s.dictNsBind nsid page) { no := fun s _ => s.bindRefused nsid page })

def execNsClearLost (d : DHdr) (data : List Byte) (s : State) : Host.Outcome State Fault Refusal :=
  .next (s.dictPut d data (fun s v => s.dictNsClear (ofLe v)))

/-! ### Jobs, partitions, checkpoints and VFs (R362, R384, R512) -/

def execJobGroup (d : DHdr) (data : List Byte) (job notice : Nat) (follow : Bool) (members : List Nat) (s : State) :
    Host.Outcome State Fault Refusal :=
  .next (s.dictPut d data (fun s _ => s.dictJob (d.sub - 1) job notice follow members))

def execPartition (d : DHdr) (data : List Byte) (owner : Nat) (r : PartReq) (s : State) : Host.Outcome State Fault Refusal :=
  .next (s.dictPut d data (fun s _ => s.dictPart owner r))

def execCkptTrigger (d : DHdr) (data : List Byte) (s : State) : Host.Outcome State Fault Refusal :=
  .next (s.dictPut d data (onOne (fun s => s.dictTrigger (d.sub - 1))))

def execRestore (d : DHdr) (data : List Byte) (j job coord replica gen staging length : Nat) (manifests : List (List Byte))
    (s : State) : Host.Outcome State Fault Refusal :=
  .next (s.dictPut d data (fun s _ => s.dictRestore j job coord replica gen staging length manifests))

def execDictVfCreate (d : DHdr) (data : List Byte) (s : State) : Host.Outcome State Fault Refusal :=
  .next (s.dictPut d data (fun s v => need (v.length = 176) abMalformed (s.vfCreate v)))

def execDictVfDestroy (d : DHdr) (data : List Byte) (s : State) : Host.Outcome State Fault Refusal :=
  .next (s.dictPut d data (fun s v => need (decide (2 ≤ ofLe v ∧ ofLe v < 128)) abRange (s.vfDestroy (ofLe v))))

/-! ### Restart and firmware (R591, R601, R613, R614) -/

/-- RESTART: the module restarts once the response has gone (R591). -/
def execRestart (d : DHdr) (data : List Byte) (s : State) : Host.Outcome State Fault Refusal :=
  .next (s.dictPut d data (onOne State.dictRestart)
    { after := fun s => if ofLe data = 1 then s.stopModule 4 else s })

def execCoreRestart (d : DHdr) (data : List Byte) (s : State) : Host.Outcome State Fault Refusal :=
  .next (s.dictPut d data (fun s v => need (decide (ofLe v < 8)) abRange
    (need (decide (ofLe v ∉ s.mgmt.coreDown)) abBusy (.ok (s.restartCore (ofLe v) 3) []))))

def execBundleImage (d : DHdr) (data : List Byte) (s : State) : Host.Outcome State Fault Refusal :=
  .next (s.dictPut d data (fun s v => s.dictImage false v) (imageOpts false))

def execCatalogueImage (d : DHdr) (data : List Byte) (s : State) : Host.Outcome State Fault Refusal :=
  .next (s.dictPut d data (fun s v => s.dictImage true v) (imageOpts true))

def execCommit (d : DHdr) (data : List Byte) (s : State) : Host.Outcome State Fault Refusal :=
  .next (s.dictPut d data (fun s v => s.dictCommit (ofLe v)) { no := fun s _ => s.refusedWith s.commitWhy })

def execActivate (d : DHdr) (data : List Byte) (s : State) : Host.Outcome State Fault Refusal :=
  .next (s.dictPut d data (onOne State.dictActivate)
    { after := fun t => if ofLe data = 1 && s.activatesNow then t.stopModule 4 else t
      no := fun s _ => s.refusedWith s.activateWhy })

def execCancel (d : DHdr) (data : List Byte) (s : State) : Host.Outcome State Fault Refusal :=
  .next (s.dictPut d data (onOne (fun s => .ok s.cancelUpdate [])))

/-! ### Time and the maker's objects (R640, R642) -/

def execModuleTime (d : DHdr) (data : List Byte) (s : State) : Host.Outcome State Fault Refusal :=
  .next (s.dictPut d data (fun s v => .ok (s.setTime (ofLe v)) []))

def execDebugEnable (d : DHdr) (data : List Byte) (s : State) : Host.Outcome State Fault Refusal :=
  .next (s.dictPut d data (onOne State.dictDebug))

def execCredentialReset (d : DHdr) (data : List Byte) (s : State) : Host.Outcome State Fault Refusal :=
  .next (s.dictPut d data (onOne (fun s => .ok s.credentialReset [])))

end Sys2Proof.Machine
end

