-- ==== Sys2Proof/Machine/GmaCmds.lean ====
section
/-!
DEFINITION. The commands of queue contexts, windows, barrier groups and reductions (R287 to R341).
-/
namespace Sys2Proof.Machine

/-! ### Descriptors -/

def execCtxDoorbell (m : Master) (c v : Nat) (s : State) : Host.Outcome State Fault Refusal := .next (s.ctxDoorbell m c v)

def execDescFetch (c : Nat) (s : State) : Host.Outcome State Fault Refusal := .next (s.descFetch c)

def execPut (c : Nat) (s : State) : Host.Outcome State Fault Refusal := .next (s.startXfer c 1)

def execPutFlag (c : Nat) (s : State) : Host.Outcome State Fault Refusal := .next (s.startXfer c 2)

def execGet (c : Nat) (s : State) : Host.Outcome State Fault Refusal := .next (s.startXfer c 3)

def execAtomic (c : Nat) (s : State) : Host.Outcome State Fault Refusal := .next (s.startXfer c 4)

def execLedgerAdd (c : Nat) (s : State) : Host.Outcome State Fault Refusal := .next (s.startXfer c 5)

def execQueueWait (c : Nat) (s : State) : Host.Outcome State Fault Refusal := .next (s.startWait c)

def execQueueNop (c : Nat) (s : State) : Host.Outcome State Fault Refusal := .next (s.startNop c)

def execReduce (c : Nat) (s : State) : Host.Outcome State Fault Refusal := .next (s.startReduce c)

def execWaitMet (c : Nat) (s : State) : Host.Outcome State Fault Refusal := .next (s.waitTest c)

def execWaitPoll (c : Nat) (s : State) : Host.Outcome State Fault Refusal := .next (s.waitTest c)

def execWaitTimeout (c : Nat) (s : State) : Host.Outcome State Fault Refusal := .next (s.waitTimeout c)

/-! ### Requests at the target -/

def execPutReceive (p : Packet) (half : Nat) (s : State) : Host.Outcome State Fault Refusal :=
  .next (s.reqArrive opPut p half (fun s => s.request p))

def execPutFlagReceive (p : Packet) (half : Nat) (s : State) : Host.Outcome State Fault Refusal :=
  .next (s.reqArrive opPutFlag p half (fun s => s.request p))

def execParkedFlagPlace (c : Nat) (s : State) : Host.Outcome State Fault Refusal := .next (s.parkedPlace c)

def execGetReqReceive (p : Packet) (half : Nat) (s : State) : Host.Outcome State Fault Refusal :=
  .next (s.reqArrive opGetReq p half (fun s => s.request p))

def execAtomicReqReceive (p : Packet) (half : Nat) (s : State) : Host.Outcome State Fault Refusal :=
  .next (s.reqArrive opAtomicReq p half (fun s => s.request p))

def execLedgerAddReceive (p : Packet) (half : Nat) (s : State) : Host.Outcome State Fault Refusal :=
  .next (s.reqArrive opLedgerAdd p half (fun s => s.request p))

def execResendReqReceive (p : Packet) (half : Nat) (s : State) : Host.Outcome State Fault Refusal :=
  .next (s.reqArrive opResendReq p half (fun s => s.resendIn p))

/-! ### Responses at the initiator -/

/-- A response is accepted by its opcode, in the states of R289 that accept responses. -/
def State.rspArrive (s : State) (op : Nat) (p : Packet) (f : State → State) : State :=
  if p.opcode = op ∧ s.acceptsRsp p.endpoint then f s else s

def execGetRspReceive (p : Packet) (s : State) : Host.Outcome State Fault Refusal :=
  .next (s.rspArrive opGetRsp p (fun s => s.getRspIn p))

def execAtomicRspReceive (p : Packet) (s : State) : Host.Outcome State Fault Refusal :=
  .next (s.rspArrive opAtomicRsp p (fun s => s.atomicRspIn p))

def execCompletionReceive (p : Packet) (s : State) : Host.Outcome State Fault Refusal :=
  .next (s.rspArrive opCompletion p (fun s => s.completionIn p))

def execNackReceive (p : Packet) (s : State) : Host.Outcome State Fault Refusal :=
  .next (s.rspArrive opNack p (fun s => s.nackIn p))

def execTrackerIdleTimeout (c id : Nat) (s : State) : Host.Outcome State Fault Refusal := .next (s.trackerIdle c id)

def execMsgTimeout (c id : Nat) (s : State) : Host.Outcome State Fault Refusal := .next (s.msgTimeout c id)

def execBusyResend (c id : Nat) (s : State) : Host.Outcome State Fault Refusal := .next (s.busyResend c id)

def execCtxFetchDone (c : Nat) (auth : Bool) (s : State) : Host.Outcome State Fault Refusal := .next (if s.coreUp 5 then s.fetchDone c auth else s)

/-! ### Windows and barrier groups -/

def execWinEnable (m : Master) (w : Nat) (s : State) : Host.Outcome State Fault Refusal :=
  .next (s.viaReg m (F.GMA_WIN_CTRL_ENABLE w).off (fun s => s.winEnable w true))

def execWinDisable (m : Master) (w : Nat) (s : State) : Host.Outcome State Fault Refusal :=
  .next (s.viaReg m (F.GMA_WIN_CTRL_ENABLE w).off (fun s => s.winEnable w false))

def execWinCrcCheck (w : Nat) (s : State) : Host.Outcome State Fault Refusal := .next (s.winCheck w)

def execBarArriveWrite (m : Master) (g : Nat) (s : State) : Host.Outcome State Fault Refusal := .next (s.barArriveWrite m g)

def execBarGroupEnable (m : Master) (g : Nat) (on : Bool) (s : State) : Host.Outcome State Fault Refusal :=
  .next (s.viaReg m (F.GMA_BAR_CFG_ENABLE g).off (fun s => s.barEnable g on))

/-! ### Collective packets (R325 to R330) -/

/-- A collective packet for an enabled group from link `n`: its group; marked BROKEN it breaks the group; of another
generation it is discarded (R325, R327, R328). -/
def State.collectiveIn (s : State) (op n : Nat) (p : Packet) (f : Nat → State → State) : State :=
  let g := p.msgId % 4096
  if p.opcode ≠ op ∨ !s.flag (F.GMA_BAR_CFG_ENABLE g) ∨ s.fld (F.GMA_BAR_STS_STATE g) = barBroken then s
  else if p.offset % 2 = 1 then s.barBreak g (some n)
  else if p.msgId / 4096 % 256 ≠ s.fld (F.GMA_BAR_STS_GEN g) then s
  else f g s

/-- The link of a group's parent. -/
def State.fromParent (s : State) (g n : Nat) : Bool :=
  !s.flag (F.GMA_BAR_CFG_ROOT g) && s.fld (F.GMA_BAR_CFG_PARENT g) = n

/-- A child has arrived (R327). -/
def State.childArrive (s : State) (g n : Nat) : State :=
  if n ∉ s.barChildren g ∨ n ∈ (s.bar g).children then s
  else
    let s := s.modBar g (fun b => { b with children := b.children ++ [n] })
    let s := s.setFld (F.GMA_BAR_STS_CHILD_ARRIVED g) (s.bar g).children.length
    (s.setFld (F.GMA_BAR_STS_STATE g) barGather).barCheck g

def execBarrierArriveReceive (n : Nat) (p : Packet) (s : State) : Host.Outcome State Fault Refusal :=
  .next (s.collectiveIn opBarArrive n p (fun g s => s.childArrive g n))

def execBarrierReleaseReceive (n : Nat) (p : Packet) (s : State) : Host.Outcome State Fault Refusal :=
  .next (s.collectiveIn opBarRelease n p (fun g s => if s.fromParent g n then (s.barRelease g true).barCheck g else s))

/-- A child's part of the total is added; the last packet gives the length, and another length than the one known breaks
the group (R329, R330). -/
def State.reduceUp (s : State) (g n : Nat) (p : Packet) : State :=
  if n ∉ s.barChildren g ∨ !s.flag (F.GMA_BAR_CFG_REDUCE_EN g) then s
  else
    let r := (s.bar g).red.getD Reduction.init
    let k := p.offset / 4096
    let len := if p.last then some (p.offset + p.length) else r.length
    if r.length.isSome ∧ (len ≠ r.length ∨ r.length.any (fun l => decide (l < p.offset + p.length))) then s.barBreak g none
    else
      let ws := wordsOf p.payload
      let r := { r with
        length := len, sums := addSums s.freeAt r.sums (128 * k) ws, got := Tab.set r.got k (Tab.getD r.got k 0 + 1) }
      ((s.drewMany ws.length).modBar g (fun b => { b with red := some r })).barCheck g

def execReduceUpReceive (n : Nat) (p : Packet) (s : State) : Host.Outcome State Fault Refusal :=
  .next (s.collectiveIn opReduceUp n p (fun g s => s.reduceUp g n p))

/-- Whether every packet of the total has come down. -/
def Reduction.downWhole (r : Reduction) : Bool :=
  match r.length with
  | none => false
  | some l => (List.range ((l + 4095) / 4096)).all (fun k => decide (k ∈ r.down))

/-- A packet of the total is written at this member's result address and forwarded; the last one releases (R329). -/
def State.reduceDown (s : State) (g n : Nat) (p : Packet) : State :=
  if !s.fromParent g n then s
  else
    let r := (s.bar g).red.getD Reduction.init
    let r := { r with
      down := r.down ++ [p.offset / 4096], length := if p.last then some (p.offset + p.length) else r.length }
    let s := if r.localGiven then s.redWrite g (r.resultAddr + p.offset) p.payload else s
    if s.fld (F.GMA_BAR_STS_STATE g) = barBroken then s
    else
      let s := (s.barChildren g).foldl (fun s l => s.collective g l opReduceDown p.offset p.last p.payload) s
      let s := s.modBar g (fun b => { b with red := some r })
      if r.downWhole then (s.barRelease g false).barCheck g else s

def execReduceDownReceive (n : Nat) (p : Packet) (s : State) : Host.Outcome State Fault Refusal :=
  .next (s.collectiveIn opReduceDown n p (fun g s => s.reduceDown g n p))

end Sys2Proof.Machine
end

