-- ==== Sys2Proof/Machine/HwCmds.lean ====
section
/-!
DEFINITION. The I3C address and the IEEE 1149.1 port (R432, R661, R662).
-/
namespace Sys2Proof.Machine

/-- SETDASA or ENTDAA assigns the dynamic address of the module's I3C target, which input power keeps up (R579, R661). -/
def execI3cAddressAssign (a : Nat) (s : State) : Host.Outcome State Fault Refusal :=
  .next (if s.fld F.MOD_STS_STATE = 0 then s else { s with mgmt := { s.mgmt with i3cAddr := some a } })

/-- The master of the IEEE 1149.1 port (R54, R63). -/
def Master.jtag : Master := ⟨.debug, 0, true⟩

/-- An access of the IEEE 1149.1 port, which acts only while DEBUG_ENABLE is 1; it reads zero from what it may not read (R432,
R662). -/
def State.jtag (s : State) (write : Bool) (addr : Nat) (v : Word) : State :=
  if !s.mgmt.debugOn then s
  else if write then (s.busWrite Master.jtag addr (leBytes 4 v.toNat)).1
  else
    let (s, bs, fault) := s.busRead Master.jtag addr 4
    s.emit (.readData Master.jtag (if fault.isSome then 0 else ofLe bs))

def execJtagAccess (write : Bool) (addr : Nat) (v : Word) (s : State) : Host.Outcome State Fault Refusal :=
  .next (s.jtag write addr v)

end Sys2Proof.Machine
end

