-- ==== Sys2Proof/Machine/LxAlu.lean ====
section
/-!
DEFINITION. The ALU instructions (R161): arithmetic modulo 2^64, shift counts modulo 64, comparisons that leave 1 or 0.
-/
namespace Sys2Proof.Machine

/-- 1 for true, 0 for false, as a cell. -/
def cellOf (b : Bool) : LxCell := if b then 1 else 0

/-- A dyadic instruction ( a b -- f a b ). -/
def lxBin (op : Byte) (f : LxCell → LxCell → LxCell) : LxOp := lxPure [op] 2 1 (fun l => [f (nth l 1) (nth l 0)])

/-- A monadic instruction ( a -- f a ). -/
def lxUn (op : Byte) (f : LxCell → LxCell) : LxOp := lxPure [op] 1 1 (fun l => [f (nth l 0)])

/-- Leading zeros, 0 to 64. -/
def clz64 (a : LxCell) : Nat := 64 - (if a = 0 then 0 else Nat.log2 a.toNat + 1)

/-- Trailing zeros, 0 to 64. -/
def ctz64 (a : LxCell) : Nat := (List.range 64).findIdx (fun i => a.toNat.testBit i)

/-- Set bits. -/
def popc64 (a : LxCell) : Nat := ((List.range 64).filter (fun i => a.toNat.testBit i)).length

/-- The 8 bytes in reverse. -/
def bswap64 (a : LxCell) : LxCell := BitVec.ofNat 64 (ofLe (leBytes 8 a.toNat).reverse)

/-- A shift by an immediate; above 63 it is UNDEF (R161). -/
def lxShift (op : Byte) (imm : BitVec 8) (f : LxCell → Nat → LxCell) : LxOp :=
  { lxPure (op :: imm8 imm) 1 1 (fun l => [f (nth l 0) imm.toNat]) with undef := decide (63 < imm.toNat) }

def opAdd : LxOp := lxBin 0x20 (fun a b => a + b)
def opSub : LxOp := lxBin 0x21 (fun a b => a - b)
def opAnd : LxOp := lxBin 0x22 (fun a b => a &&& b)
def opOr : LxOp := lxBin 0x23 (fun a b => a ||| b)
def opXor : LxOp := lxBin 0x24 (fun a b => a ^^^ b)
def opShl : LxOp := lxBin 0x25 (fun a b => a <<< (b.toNat % 64))
def opShr : LxOp := lxBin 0x26 (fun a b => a >>> (b.toNat % 64))
def opSar : LxOp := lxBin 0x27 (fun a b => a.sshiftRight (b.toNat % 64))
def opSlt : LxOp := lxBin 0x28 (fun a b => cellOf (a.slt b))
def opSltu : LxOp := lxBin 0x29 (fun a b => cellOf (a.ult b))
def opSeq : LxOp := lxBin 0x2A (fun a b => cellOf (a = b))
def opMin : LxOp := lxBin 0x2B (fun a b => if a.sle b then a else b)
def opMax : LxOp := lxBin 0x2C (fun a b => if a.sle b then b else a)
def opMinu : LxOp := lxBin 0x2D (fun a b => if a.ule b then a else b)
def opMaxu : LxOp := lxBin 0x2E (fun a b => if a.ule b then b else a)
def opNot : LxOp := lxUn 0x30 (fun a => ~~~a)
def opNeg : LxOp := lxUn 0x31 (fun a => -a)
def opInc : LxOp := lxUn 0x32 (fun a => a + 1)
def opDec : LxOp := lxUn 0x33 (fun a => a - 1)
def opClz : LxOp := lxUn 0x34 (fun a => BitVec.ofNat 64 (clz64 a))
def opCtz : LxOp := lxUn 0x35 (fun a => BitVec.ofNat 64 (ctz64 a))
def opPopc : LxOp := lxUn 0x36 (fun a => BitVec.ofNat 64 (popc64 a))
def opSext8 : LxOp := lxUn 0x37 (fun a => (a.truncate 8).signExtend 64)
def opSext16 : LxOp := lxUn 0x38 (fun a => (a.truncate 16).signExtend 64)
def opSext32 : LxOp := lxUn 0x39 (fun a => (a.truncate 32).signExtend 64)
def opZext8 : LxOp := lxUn 0x3A (fun a => (a.truncate 8).zeroExtend 64)
def opZext16 : LxOp := lxUn 0x3B (fun a => (a.truncate 16).zeroExtend 64)
def opZext32 : LxOp := lxUn 0x3C (fun a => (a.truncate 32).zeroExtend 64)
def opBswap : LxOp := lxUn 0x3D (fun a => bswap64 a)
def opZeq : LxOp := lxUn 0x3E (fun a => cellOf (a = 0))
def opShli (imm : BitVec 8) : LxOp := lxShift 0x44 imm (fun a n => a <<< n)
def opShri (imm : BitVec 8) : LxOp := lxShift 0x45 imm (fun a n => a >>> n)
def opSari (imm : BitVec 8) : LxOp := lxShift 0x46 imm (fun a n => a.sshiftRight n)
def opAndi32 (imm : BitVec 32) : LxOp := lxPure (0x47 :: imm32 imm) 1 1 (fun l => [nth l 0 &&& imm.signExtend 64])

/-- ADD (R161). -/
def execAdd (c : Nat) (s : State) : Host.Outcome State Fault Refusal := .next (s.lxIssue c opAdd)
/-- SUB (R161). -/
def execSub (c : Nat) (s : State) : Host.Outcome State Fault Refusal := .next (s.lxIssue c opSub)
/-- AND (R161). -/
def execAnd (c : Nat) (s : State) : Host.Outcome State Fault Refusal := .next (s.lxIssue c opAnd)
/-- OR (R161). -/
def execOr (c : Nat) (s : State) : Host.Outcome State Fault Refusal := .next (s.lxIssue c opOr)
/-- XOR (R161). -/
def execXor (c : Nat) (s : State) : Host.Outcome State Fault Refusal := .next (s.lxIssue c opXor)
/-- SHL (R161). -/
def execShl (c : Nat) (s : State) : Host.Outcome State Fault Refusal := .next (s.lxIssue c opShl)
/-- SHR (R161). -/
def execShr (c : Nat) (s : State) : Host.Outcome State Fault Refusal := .next (s.lxIssue c opShr)
/-- SAR (R161). -/
def execSar (c : Nat) (s : State) : Host.Outcome State Fault Refusal := .next (s.lxIssue c opSar)
/-- SLT (R161). -/
def execSlt (c : Nat) (s : State) : Host.Outcome State Fault Refusal := .next (s.lxIssue c opSlt)
/-- SLTU (R161). -/
def execSltu (c : Nat) (s : State) : Host.Outcome State Fault Refusal := .next (s.lxIssue c opSltu)
/-- SEQ (R161). -/
def execSeq (c : Nat) (s : State) : Host.Outcome State Fault Refusal := .next (s.lxIssue c opSeq)
/-- MIN (R161). -/
def execMin (c : Nat) (s : State) : Host.Outcome State Fault Refusal := .next (s.lxIssue c opMin)
/-- MAX (R161). -/
def execMax (c : Nat) (s : State) : Host.Outcome State Fault Refusal := .next (s.lxIssue c opMax)
/-- MINU (R161). -/
def execMinu (c : Nat) (s : State) : Host.Outcome State Fault Refusal := .next (s.lxIssue c opMinu)
/-- MAXU (R161). -/
def execMaxu (c : Nat) (s : State) : Host.Outcome State Fault Refusal := .next (s.lxIssue c opMaxu)
/-- NOT (R161). -/
def execNot (c : Nat) (s : State) : Host.Outcome State Fault Refusal := .next (s.lxIssue c opNot)
/-- NEG (R161). -/
def execNeg (c : Nat) (s : State) : Host.Outcome State Fault Refusal := .next (s.lxIssue c opNeg)
/-- INC (R161). -/
def execInc (c : Nat) (s : State) : Host.Outcome State Fault Refusal := .next (s.lxIssue c opInc)
/-- DEC (R161). -/
def execDec (c : Nat) (s : State) : Host.Outcome State Fault Refusal := .next (s.lxIssue c opDec)
/-- CLZ (R161). -/
def execClz (c : Nat) (s : State) : Host.Outcome State Fault Refusal := .next (s.lxIssue c opClz)
/-- CTZ (R161). -/
def execCtz (c : Nat) (s : State) : Host.Outcome State Fault Refusal := .next (s.lxIssue c opCtz)
/-- POPC (R161). -/
def execPopc (c : Nat) (s : State) : Host.Outcome State Fault Refusal := .next (s.lxIssue c opPopc)
/-- SEXT8 (R161). -/
def execSext8 (c : Nat) (s : State) : Host.Outcome State Fault Refusal := .next (s.lxIssue c opSext8)
/-- SEXT16 (R161). -/
def execSext16 (c : Nat) (s : State) : Host.Outcome State Fault Refusal := .next (s.lxIssue c opSext16)
/-- SEXT32 (R161). -/
def execSext32 (c : Nat) (s : State) : Host.Outcome State Fault Refusal := .next (s.lxIssue c opSext32)
/-- ZEXT8 (R161). -/
def execZext8 (c : Nat) (s : State) : Host.Outcome State Fault Refusal := .next (s.lxIssue c opZext8)
/-- ZEXT16 (R161). -/
def execZext16 (c : Nat) (s : State) : Host.Outcome State Fault Refusal := .next (s.lxIssue c opZext16)
/-- ZEXT32 (R161). -/
def execZext32 (c : Nat) (s : State) : Host.Outcome State Fault Refusal := .next (s.lxIssue c opZext32)
/-- BSWAP (R161). -/
def execBswap (c : Nat) (s : State) : Host.Outcome State Fault Refusal := .next (s.lxIssue c opBswap)
/-- ZEQ (R161). -/
def execZeq (c : Nat) (s : State) : Host.Outcome State Fault Refusal := .next (s.lxIssue c opZeq)
/-- SHLI (R161). -/
def execShli (c : Nat) (imm : BitVec 8) (s : State) : Host.Outcome State Fault Refusal := .next (s.lxIssue c (opShli imm))
/-- SHRI (R161). -/
def execShri (c : Nat) (imm : BitVec 8) (s : State) : Host.Outcome State Fault Refusal := .next (s.lxIssue c (opShri imm))
/-- SARI (R161). -/
def execSari (c : Nat) (imm : BitVec 8) (s : State) : Host.Outcome State Fault Refusal := .next (s.lxIssue c (opSari imm))
/-- ANDI32 (R161). -/
def execAndi32 (c : Nat) (imm : BitVec 32) (s : State) : Host.Outcome State Fault Refusal := .next (s.lxIssue c (opAndi32 imm))

end Sys2Proof.Machine
end

