-- ==== Sys2Proof/Machine/LxBranch.lean ====
section
/-!
DEFINITION. Branches (R162), control (R163), the multiplier and the divider (R164 to R167), and traps raised by an
instruction of its own: BREAK, SVC, reserved opcodes.
-/
namespace Sys2Proof.Machine

/-! ### Branches (R158, R162) -/

/-- The target of a relative branch: the offset counts from the instruction's own opcode byte (R158). -/
def relTarget (pc : Nat) (off : LxCell) : Nat := (BitVec.ofNat 64 pc + off).toNat

/-- A branch immediate: 2 bytes, or 4 in the long form; sign-extended (R158, R162). -/
def brImm (long : Bool) (imm : BitVec 32) : LxCell := if long then imm.signExtend 64 else (imm.truncate 16).signExtend 64

/-- Bytes of a branch: the long forms' opcodes lie 8 higher (R162). -/
def brBytes (op : Nat) (long : Bool) (imm : BitVec 32) : List Byte :=
  if long then BitVec.ofNat 8 (op + 8) :: leBytes 4 imm.toNat else BitVec.ofNat 8 op :: leBytes 2 imm.toNat

/-- A branch on `n` operands, which are popped in either case: 1 cycle, 2 where it is taken (R162, R176). -/
def lxBranch (op n : Nat) (long : Bool) (imm : BitVec 32) (cond : List LxCell → Bool) : LxOp :=
  { bytes := brBytes op long imm, nd := n
    run := fun s c =>
      let x := s.core c
      let t := cond (x.ds.take n)
      .done (s.modCore c (fun x => { x with ds := x.ds.drop n }))
        (if t then relTarget x.pc (brImm long imm) else x.pc + (brBytes op long imm).length) (if t then 2 else 1) }

def opBeq (long : Bool) (imm : BitVec 32) : LxOp := lxBranch 0x60 2 long imm (fun l => nth l 1 = nth l 0)
def opBne (long : Bool) (imm : BitVec 32) : LxOp := lxBranch 0x61 2 long imm (fun l => nth l 1 ≠ nth l 0)
def opBlt (long : Bool) (imm : BitVec 32) : LxOp := lxBranch 0x62 2 long imm (fun l => (nth l 1).slt (nth l 0))
def opBge (long : Bool) (imm : BitVec 32) : LxOp := lxBranch 0x63 2 long imm (fun l => !(nth l 1).slt (nth l 0))
def opBltu (long : Bool) (imm : BitVec 32) : LxOp := lxBranch 0x64 2 long imm (fun l => (nth l 1).ult (nth l 0))
def opBgeu (long : Bool) (imm : BitVec 32) : LxOp := lxBranch 0x65 2 long imm (fun l => !(nth l 1).ult (nth l 0))
def opBz (long : Bool) (imm : BitVec 32) : LxOp := lxBranch 0x66 1 long imm (fun l => nth l 0 = 0)
def opBnz (long : Bool) (imm : BitVec 32) : LxOp := lxBranch 0x67 1 long imm (fun l => nth l 0 ≠ 0)

/-! ### Control (R155, R163, R176) -/

/-- A relative jump; a call pushes the address of the next instruction on the return stack (R155, R163). -/
def lxJump (bytes : List Byte) (off : LxCell) (call : Bool) : LxOp :=
  { bytes := bytes, orr := if call then 1 else 0
    run := fun s c =>
      let pc := (s.core c).pc
      let next := BitVec.ofNat 64 (pc + bytes.length)
      .done (s.modCore c (fun x => { x with rs := if call then next :: x.rs else x.rs })) (relTarget pc off) 2 }

def opJmp (imm : BitVec 16) : LxOp := lxJump (0x70 :: imm16 imm) (imm.signExtend 64) false
def opJmpL (imm : BitVec 32) : LxOp := lxJump (0x71 :: imm32 imm) (imm.signExtend 64) false
def opCall (imm : BitVec 16) : LxOp := lxJump (0x72 :: imm16 imm) (imm.signExtend 64) true
def opCallL (imm : BitVec 32) : LxOp := lxJump (0x73 :: imm32 imm) (imm.signExtend 64) true

/-- JMPI: to an IM offset from the stack. -/
def opJmpi : LxOp :=
  { bytes := [0x74], nd := 1
    run := fun s c => .done (s.modCore c (fun x => { x with ds := x.ds.drop 1 })) (nth (s.core c).ds 0).toNat 3 }

/-- CALLI: a call of an IM offset from the stack. -/
def opCalli : LxOp :=
  { bytes := [0x75], nd := 1, orr := 1
    run := fun s c =>
      .done (s.modCore c (fun x => { x with ds := x.ds.drop 1, rs := BitVec.ofNat 64 (x.pc + 1) :: x.rs }))
        (nth (s.core c).ds 0).toNat 3 }

/-- RET: to the return stack's top. -/
def opRet : LxOp :=
  { bytes := [0x76], nr := 1
    run := fun s c => .done (s.modCore c (fun x => { x with rs := x.rs.drop 1 })) (nth (s.core c).rs 0).toNat 2 }

/-- RTE: PC = EPC and STATUS = ESTATUS, which holds the mode of the thread too (R163, R185). -/
def opRte : LxOp :=
  { bytes := [0x77], privOnly := true
    run := fun s c =>
      .done (s.modCore c (fun x =>
        { x with
          priv := x.estatus.testBit 0, ie := x.estatus.testBit 1, we := x.estatus.testBit 2
          compat := x.estatus.testBit 3 })) (s.core c).epc 3 }

/-- WFE goes on at once where an enabled source is pending, and else waits (R163). -/
def opWfe : LxOp :=
  { bytes := [0x79]
    run := fun s c => if irqReady c (s.core c) ≠ 0 then .done s ((s.core c).pc + 1) 1 else .stall s .wfe }

/-- BREAK: TVAL is the immediate (R163). -/
def opBrk (imm : BitVec 8) : LxOp := { bytes := 0x7A :: imm8 imm, run := fun s _ => .trap s 6 imm.toNat }

/-- SVC always raises EMULATE (R163). -/
def opSvc (imm : BitVec 8) : LxOp := { bytes := 0x7F :: imm8 imm, emulate := true }

/-- An opcode that the tables do not list raises EMULATE (R159). -/
def opReserved (op : Byte) : LxOp := { bytes := [op], emulate := true }

/-! ### The multiplier and the divider (R164 to R167) -/

/-- The 128-bit product in its two halves: MLO and MHI. -/
def product (signed : Bool) (a b : LxCell) : LxCell × LxCell :=
  let p : Int := if signed then a.toInt * b.toInt else (a.toNat : Int) * b.toNat
  (BitVec.ofInt 64 p, BitVec.ofInt 64 (p / 2 ^ 64))

/-- MUL and MULU retire in one cycle; the product is on its way to MLO and MHI (R164). -/
def lxMul (op : Byte) (signed : Bool) : LxOp :=
  { bytes := [op], nd := 2
    run := fun s c =>
      .done (s.modCore c (fun x =>
        { x with ds := x.ds.drop 2, mulQ := x.mulQ ++ [product signed (nth x.ds 1) (nth x.ds 0)] })) ((s.core c).pc + 1) 1 }

def opMul : LxOp := lxMul 0x40 true
def opMulu : LxOp := lxMul 0x41 false

/-- QUO and REM: QUO toward zero; by zero all ones and a; −2^63 by −1 is −2^63 and 0 (R165). -/
def quotient (signed : Bool) (a b : LxCell) : LxCell × LxCell :=
  if b = 0 then (BitVec.allOnes 64, a)
  else if signed then
    let q := Int.tdiv a.toInt b.toInt
    (BitVec.ofInt 64 q, BitVec.ofInt 64 (a.toInt - q * b.toInt))
  else (BitVec.ofNat 64 (a.toNat / b.toNat), BitVec.ofNat 64 (a.toNat % b.toNat))

/-- Cycles from the issue of a division to the end of the cycle in which it writes (R165). -/
def divCycles : Nat := 34

/-- DIV and DIVU retire in one cycle; a division under way is abandoned and DIV_LOST sets (R165). -/
def lxDiv (op : Byte) (signed : Bool) : LxOp :=
  { bytes := [op], nd := 2
    run := fun s c =>
      .done (s.modCore c (fun x =>
        let q := quotient signed (nth x.ds 1) (nth x.ds 0)
        { x with ds := x.ds.drop 2, divQ := some (q.1, q.2, divCycles), divLost := x.divLost || x.divQ.isSome }))
        ((s.core c).pc + 1) 1 }

def opDiv : LxOp := lxDiv 0x42 true
def opDivu : LxOp := lxDiv 0x43 false

/-- The oldest product in flight reaches MLO and MHI (R164). -/
def State.mulLands (s : State) (c : Nat) : State :=
  s.modCore c (fun x => match x.mulQ with
    | p :: ps => { x with mlo := p.1, mhi := p.2, mulQ := ps }
    | [] => x)

/-- The division under way writes QUO and REM (R165). -/
def State.divLands (s : State) (c : Nat) : State :=
  s.modCore c (fun x => match x.divQ with
    | some d => { x with quo := d.1, rem := d.2.1, divQ := none }
    | none => x)

/-! ### The commands -/

/-- BEQ (R162). -/
def execBeq (c : Nat) (long : Bool) (imm : BitVec 32) (s : State) : Host.Outcome State Fault Refusal := .next (s.lxIssue c (opBeq long imm))
/-- BNE (R162). -/
def execBne (c : Nat) (long : Bool) (imm : BitVec 32) (s : State) : Host.Outcome State Fault Refusal := .next (s.lxIssue c (opBne long imm))
/-- BLT (R162). -/
def execBlt (c : Nat) (long : Bool) (imm : BitVec 32) (s : State) : Host.Outcome State Fault Refusal := .next (s.lxIssue c (opBlt long imm))
/-- BGE (R162). -/
def execBge (c : Nat) (long : Bool) (imm : BitVec 32) (s : State) : Host.Outcome State Fault Refusal := .next (s.lxIssue c (opBge long imm))
/-- BLTU (R162). -/
def execBltu (c : Nat) (long : Bool) (imm : BitVec 32) (s : State) : Host.Outcome State Fault Refusal := .next (s.lxIssue c (opBltu long imm))
/-- BGEU (R162). -/
def execBgeu (c : Nat) (long : Bool) (imm : BitVec 32) (s : State) : Host.Outcome State Fault Refusal := .next (s.lxIssue c (opBgeu long imm))
/-- BZ (R162). -/
def execBz (c : Nat) (long : Bool) (imm : BitVec 32) (s : State) : Host.Outcome State Fault Refusal := .next (s.lxIssue c (opBz long imm))
/-- BNZ (R162). -/
def execBnz (c : Nat) (long : Bool) (imm : BitVec 32) (s : State) : Host.Outcome State Fault Refusal := .next (s.lxIssue c (opBnz long imm))
/-- JMP (R163). -/
def execJmp (c : Nat) (imm : BitVec 16) (s : State) : Host.Outcome State Fault Refusal := .next (s.lxIssue c (opJmp imm))
/-- JMPL (R163). -/
def execJmpL (c : Nat) (imm : BitVec 32) (s : State) : Host.Outcome State Fault Refusal := .next (s.lxIssue c (opJmpL imm))
/-- CALL (R163). -/
def execCall (c : Nat) (imm : BitVec 16) (s : State) : Host.Outcome State Fault Refusal := .next (s.lxIssue c (opCall imm))
/-- CALLL (R163). -/
def execCallL (c : Nat) (imm : BitVec 32) (s : State) : Host.Outcome State Fault Refusal := .next (s.lxIssue c (opCallL imm))
/-- BRK (R163). -/
def execBrk (c : Nat) (imm : BitVec 8) (s : State) : Host.Outcome State Fault Refusal := .next (s.lxIssue c (opBrk imm))
/-- SVC (R163). -/
def execSvc (c : Nat) (imm : BitVec 8) (s : State) : Host.Outcome State Fault Refusal := .next (s.lxIssue c (opSvc imm))
/-- JMPI (R163). -/
def execJmpi (c : Nat) (s : State) : Host.Outcome State Fault Refusal := .next (s.lxIssue c opJmpi)
/-- CALLI (R163). -/
def execCalli (c : Nat) (s : State) : Host.Outcome State Fault Refusal := .next (s.lxIssue c opCalli)
/-- RET (R163). -/
def execRet (c : Nat) (s : State) : Host.Outcome State Fault Refusal := .next (s.lxIssue c opRet)
/-- RTE (R163). -/
def execRte (c : Nat) (s : State) : Host.Outcome State Fault Refusal := .next (s.lxIssue c opRte)
/-- WFE (R163). -/
def execWfe (c : Nat) (s : State) : Host.Outcome State Fault Refusal := .next (s.lxIssue c opWfe)
/-- MUL (R164, R165). -/
def execMul (c : Nat) (s : State) : Host.Outcome State Fault Refusal := .next (s.lxIssue c opMul)
/-- MULU (R164, R165). -/
def execMulu (c : Nat) (s : State) : Host.Outcome State Fault Refusal := .next (s.lxIssue c opMulu)
/-- DIV (R164, R165). -/
def execDiv (c : Nat) (s : State) : Host.Outcome State Fault Refusal := .next (s.lxIssue c opDiv)
/-- DIVU (R164, R165). -/
def execDivu (c : Nat) (s : State) : Host.Outcome State Fault Refusal := .next (s.lxIssue c opDivu)
/-- RESERVED_OPCODE (R159). -/
def execReservedOpcode (c : Nat) (op : BitVec 8) (s : State) : Host.Outcome State Fault Refusal := .next (s.lxIssue c (opReserved op))
/-- MUL_RESULT (R164). -/
def execMulResult (c : Nat) (s : State) : Host.Outcome State Fault Refusal := .next (s.mulLands c)
/-- DIV_RESULT (R165). -/
def execDivResult (c : Nat) (s : State) : Host.Outcome State Fault Refusal := .next (s.divLands c)

end Sys2Proof.Machine
end

