-- ==== Sys2Proof/Machine/LxMem.lean ====
section
/-!
DEFINITION. The memory instructions (R168, R169, R205, R214, R217): loads, stores through the store buffer, atomics and
fences.
-/
namespace Sys2Proof.Machine

/-- Checks of a memory access at `addr` that need its operands: an IM access at the user level, and natural alignment
(R151, R156, R168, R172). -/
def lxAccessCheck (bytes : List Byte) (x : Core) (addr n : Nat) : Option (Nat × Nat) :=
  if inImWindow addr && !x.priv then some (4, lxFirst8 x bytes)
  else if addr % n ≠ 0 then some (2, addr)
  else none

/-- An address with an offset, as a 64-bit value. -/
def offsetAddr (a : LxCell) (off : LxCell) : Nat := (a + off).toNat

/-- The value that loaded bytes give. -/
def loadedCell (signed : Bool) (bs : List Byte) : LxCell :=
  if signed then BitVec.ofInt 64 (sext (8 * bs.length) (ofLe bs)) else BitVec.ofNat 64 (ofLe bs)

/-- A load ( addr -- v ): the core waits for its data, which buffered stores overlay (R168, R169). -/
def lxLoad (bytes : List Byte) (n : Nat) (signed : Bool) (off : LxCell) : LxOp :=
  let addr := fun x : Core => offsetAddr (nth x.ds 0) off
  { bytes := bytes, nd := 1, od := 1
    late := fun _ x => lxAccessCheck bytes x (addr x) n
    access := fun x => some (addr x, 1)
    run := fun s c =>
      let x := s.core c
      match s.lxRead c (addr x) n with
      | (s, none) => .trap s 5 (ueTval (addr x))
      | (s, some bs) =>
        let v := loadedCell signed (forwarded x (addr x) bs)
        .done (s.modCore c (fun x => { x with ds := v :: x.ds.drop 1 })) (x.pc + bytes.length) (loadCycles c (addr x)) }

/-- A store ( v addr -- ): DM takes it at once, a reserved address discards it, and any other target takes a place of the
store buffer, or stalls while there is none (R151, R168, R169). -/
def lxStore (bytes : List Byte) (n : Nat) (off : LxCell) : LxOp :=
  let addr := fun x : Core => offsetAddr (nth x.ds 0) off
  { bytes := bytes, nd := 2
    late := fun _ x => lxAccessCheck bytes x (addr x) n
    access := fun x => some (addr x, 2)
    run := fun s c =>
      let x := s.core c
      let v := (nth x.ds 1).toNat % 2 ^ (8 * n)
      let popped := fun s : State => s.modCore c (fun x => { x with ds := x.ds.drop 2 })
      match lxTarget c (addr x) n true with
      | .loc a =>
        match regionOf a with
        | .reserved => .done (popped (s.lxWrite c (addr x) (leBytes n v))) (x.pc + bytes.length) 1
        | _ =>
          if sbufEntries ≤ x.sbuf.length then .stall s .none
          else
            .done (popped (s.modCore c (fun x => { x with sbuf := x.sbuf ++ [⟨a, n, v⟩] }))) (x.pc + bytes.length) 1
      | _ => .done (popped (s.lxWrite c (addr x) (leBytes n v))) (x.pc + bytes.length) 1 }

/-- What an atomic comes to: the old value, none on an uncorrectable error; it acts on memory or the core's own DM. Register
space, the alias region and reserved addresses answer zero (R168, R205). -/
def State.lxAtomic (s : State) (c addr : Nat) (f : LxCell → Option LxCell) : State × Option LxCell :=
  let m := s.coreMaster c
  let hole := fun a : Nat => (s.hole m a true, some (0 : LxCell))
  match lxTarget c addr 8 true with
  | .dm o =>
    match s.dmLoad c o 8 with
    | (s, none) => (s, none)
    | (s, some bs) =>
      let old := cellOfBytes bs
      ((match f old with | some v => s.dmStore c o (leBytes 8 v.toNat) | none => s), some old)
  | .loc a =>
    match regionOf a with
    | .regs _ => hole a
    | .bitAlias _ => hole a
    | .reserved => hole a
    | _ =>
      if !s.memPresent m a then (s.memRefuse m a true, some 0)
      else match s.dmaRead m a 8 with
        | (s, bs, none) =>
          let old := cellOfBytes bs
          ((match f old with | some v => s.rmwStore a (leBytes 8 v.toNat) | none => s), some old)
        | (s, _, some _) => (s, none)
  | _ => hole addr

/-- An atomic instruction on `n` operands, the address deepest: while a buffered store overlaps its 8 bytes it waits
(R168). -/
def lxAtomicOp (op : Byte) (n : Nat) (f : List LxCell → LxCell → Option LxCell) : LxOp :=
  let addr := fun x : Core => (nth x.ds (n - 1)).toNat
  { bytes := [op], nd := n, od := 1
    late := fun _ x => lxAccessCheck [op] x (addr x) 8
    access := fun x => some (addr x, 3)
    run := fun s c =>
      let x := s.core c
      if x.sbuf.any (fun e => decide (e.addr < addr x + 8 ∧ addr x < e.addr + e.width)) then .stall s .none
      else match s.lxAtomic c (addr x) (f (x.ds.take n)) with
        | (s, none) => .trap s 5 (ueTval (addr x))
        | (s, some v) =>
          .done (s.modCore c (fun x => { x with ds := v :: x.ds.drop n })) (x.pc + 1) (Config.accessCycles c (addr x)) }

def opLd8u : LxOp := lxLoad [0x50] 1 false 0
def opLd8s : LxOp := lxLoad [0x51] 1 true 0
def opLd16u : LxOp := lxLoad [0x52] 2 false 0
def opLd16s : LxOp := lxLoad [0x53] 2 true 0
def opLd32u : LxOp := lxLoad [0x54] 4 false 0
def opLd32s : LxOp := lxLoad [0x55] 4 true 0
def opLd64 : LxOp := lxLoad [0x56] 8 false 0
def opSt8 : LxOp := lxStore [0x57] 1 0
def opSt16 : LxOp := lxStore [0x58] 2 0
def opSt32 : LxOp := lxStore [0x59] 4 0
def opSt64 : LxOp := lxStore [0x5A] 8 0
def opLdo64 (imm : BitVec 16) : LxOp := lxLoad (0x5B :: imm16 imm) 8 false (imm.signExtend 64)
def opSto64 (imm : BitVec 16) : LxOp := lxStore (0x5C :: imm16 imm) 8 (imm.signExtend 64)

/-- CAS64 ( addr expect new -- old ). -/
def opCas64 : LxOp := lxAtomicOp 0x5D 3 (fun l old => if old = nth l 1 then some (nth l 0) else none)

/-- AMOADD64 ( addr v -- old ). -/
def opAmoadd64 : LxOp := lxAtomicOp 0x5E 2 (fun l old => some (old + nth l 0))

/-- FENCE: the store buffer drains, as far as the scope reaches (R168, R217). -/
def opFence (imm : BitVec 8) : LxOp :=
  { bytes := 0x5F :: imm8 imm, undef := decide (2 < imm.toNat)
    run := fun s c => .done (s.drainFence c imm.toNat) ((s.core c).pc + 2) (Config.fenceCycles c imm.toNat) }

/-- The oldest store of the buffer reaches its target (R169). -/
def State.storePerformed (s : State) (c : Nat) : State :=
  match (s.core c).sbuf with
  | e :: es => (s.modCore c (fun x => { x with sbuf := es })).performStore c e
  | [] => s

/-! ### The commands -/

/-- LD8U (R168). -/
def execLd8u (c : Nat) (s : State) : Host.Outcome State Fault Refusal := .next (s.lxIssue c opLd8u)
/-- LD8S (R168). -/
def execLd8s (c : Nat) (s : State) : Host.Outcome State Fault Refusal := .next (s.lxIssue c opLd8s)
/-- LD16U (R168). -/
def execLd16u (c : Nat) (s : State) : Host.Outcome State Fault Refusal := .next (s.lxIssue c opLd16u)
/-- LD16S (R168). -/
def execLd16s (c : Nat) (s : State) : Host.Outcome State Fault Refusal := .next (s.lxIssue c opLd16s)
/-- LD32U (R168). -/
def execLd32u (c : Nat) (s : State) : Host.Outcome State Fault Refusal := .next (s.lxIssue c opLd32u)
/-- LD32S (R168). -/
def execLd32s (c : Nat) (s : State) : Host.Outcome State Fault Refusal := .next (s.lxIssue c opLd32s)
/-- LD64 (R168). -/
def execLd64 (c : Nat) (s : State) : Host.Outcome State Fault Refusal := .next (s.lxIssue c opLd64)
/-- ST8 (R168). -/
def execSt8 (c : Nat) (s : State) : Host.Outcome State Fault Refusal := .next (s.lxIssue c opSt8)
/-- ST16 (R168). -/
def execSt16 (c : Nat) (s : State) : Host.Outcome State Fault Refusal := .next (s.lxIssue c opSt16)
/-- ST32 (R168). -/
def execSt32 (c : Nat) (s : State) : Host.Outcome State Fault Refusal := .next (s.lxIssue c opSt32)
/-- ST64 (R168). -/
def execSt64 (c : Nat) (s : State) : Host.Outcome State Fault Refusal := .next (s.lxIssue c opSt64)
/-- CAS64 (R168). -/
def execCas64 (c : Nat) (s : State) : Host.Outcome State Fault Refusal := .next (s.lxIssue c opCas64)
/-- AMOADD64 (R168). -/
def execAmoadd64 (c : Nat) (s : State) : Host.Outcome State Fault Refusal := .next (s.lxIssue c opAmoadd64)
/-- LDO64 (R168). -/
def execLdo64 (c : Nat) (imm : BitVec 16) (s : State) : Host.Outcome State Fault Refusal := .next (s.lxIssue c (opLdo64 imm))
/-- STO64 (R168). -/
def execSto64 (c : Nat) (imm : BitVec 16) (s : State) : Host.Outcome State Fault Refusal := .next (s.lxIssue c (opSto64 imm))
/-- FENCE (R168). -/
def execFence (c : Nat) (imm : BitVec 8) (s : State) : Host.Outcome State Fault Refusal := .next (s.lxIssue c (opFence imm))
/-- STORE_PERFORMED (R169). -/
def execStorePerformed (c : Nat) (s : State) : Host.Outcome State Fault Refusal := .next (s.storePerformed c)

end Sys2Proof.Machine
end

