-- ==== Sys2Proof/Machine/LxTensor.lean ====
section
/-!
DEFINITION. The tensor extension of the lectern cores (R106, R125, R178, R179).
-/
namespace Sys2Proof.Machine

/-- A reserved opcode on a core without the extension (R159). -/
def tensorOp (c : Nat) (i : LxOp) : LxOp := if c < 16 then i else { bytes := i.bytes, emulate := true }

/-- The descriptor of the staging buffer: word w is bits [64w+63:64w] (R178). -/
def stagedDesc (x : Core) : BitVec 512 := BitVec.ofNat 512 (ofLe (bytesOfCells (x.staging.take 8)))

/-- A push retires with its status s, or stalls while the queue is full (R106, R179). -/
def State.pushWith (s : State) (c : Nat) (d : BitVec 512) (blocking : Bool) (w : Wait) (n pc cost : Nat) : LxRes :=
  let (s, r) := s.tilePush c d (s.coreSecure c)
  if r = 2 && blocking then .stall s w
  else .done (s.modCore c (fun x => { x with ds := BitVec.ofNat 64 r :: x.ds.drop n })) pc cost

/-- TPUSH and TPUSHNB: the 64 bytes at an aligned address (R178). -/
def lxPushMem (op : Byte) (blocking : Bool) : LxOp :=
  let addr := fun x : Core => (nth x.ds 0).toNat
  { bytes := [op], nd := 1, od := 1
    late := fun _ x => lxAccessCheck [op] x (addr x) 64
    access := fun x => some (addr x, 1)
    run := fun s c =>
      let x := s.core c
      match s.lxRead c (addr x) 64 with
      | (s, none) => .trap s 5 (ueTval (addr x))
      | (s, some bs) =>
        if (s.core c).frozen then .stall s .none
        else
          s.pushWith c (BitVec.ofNat 512 (ofLe (forwarded x (addr x) bs))) blocking (.push false) 1 (x.pc + 1)
            (loadCycles c (addr x)) }

/-- TPUSHS and TPUSHSNB: the staging buffer (R178). -/
def lxPushStaged (op : Byte) (blocking : Bool) : LxOp :=
  { bytes := [op], od := 1
    run := fun s c => s.pushWith c (stagedDesc (s.core c)) blocking (.push true) 0 ((s.core c).pc + 1) 1 }

def opTpush (c : Nat) : LxOp := tensorOp c (lxPushMem 0x80 true)
def opTpushnb (c : Nat) : LxOp := tensorOp c (lxPushMem 0x81 false)
def opTpushs (c : Nat) : LxOp := tensorOp c (lxPushStaged 0x86 true)
def opTpushsnb (c : Nat) : LxOp := tensorOp c (lxPushStaged 0x87 false)

/-- TSTS: TIL_STS of the core's tile. -/
def opTsts (c : Nat) : LxOp := tensorOp c
  { bytes := [0x82], od := 1
    run := fun s c =>
      .done (s.modCore c (fun x => { x with ds := BitVec.ofNat 64 (s.tilSts c) :: x.ds })) ((s.core c).pc + 1) 1 }

/-- TSIG: a signal counter; n above 3 is UNDEF. -/
def opTsig (c : Nat) : LxOp := tensorOp c
  { bytes := [0x83], nd := 1, od := 1
    late := fun _ x => if 3 < (nth x.ds 0).toNat then some (1, lxFirst8 x [0x83]) else none
    run := fun s c =>
      .done (s.modCore c (fun x =>
        { x with ds := BitVec.ofNat 64 (s.fld (F.TIL_SIG_CNT c (nth x.ds 0).toNat)) :: x.ds.drop 1 })) ((s.core c).pc + 1) 1 }

/-- A TWAIT on counter n and value v is met: (count − v) modulo 2^32 is below 2^31 (R125, R178). -/
def State.twaitMet (s : State) (c : Nat) : Bool :=
  let x := s.core c
  decide ((s.fld (F.TIL_SIG_CNT c (nth x.ds 1).toNat) + 2 ^ 32 - (nth x.ds 0).toNat % 2 ^ 32) % 2 ^ 32 < 2 ^ 31)

/-- TWAIT: stalls until the counter has reached the value; n above 3 is UNDEF with nothing popped (R178). -/
def opTwait (c : Nat) : LxOp := tensorOp c
  { bytes := [0x84], nd := 2
    late := fun _ x => if 3 < (nth x.ds 1).toNat then some (1, lxFirst8 x [0x84]) else none
    run := fun s c =>
      if s.twaitMet c then .done (s.modCore c (fun x => { x with ds := x.ds.drop 2 })) ((s.core c).pc + 1) 1
      else .stall s .twait }

/-- TSTW: a staging word is written; imm above 7 is UNDEF. -/
def opTstw (c : Nat) (imm : BitVec 8) : LxOp := tensorOp c
  { bytes := 0x85 :: imm8 imm, nd := 1, undef := decide (7 < imm.toNat)
    run := fun s c =>
      .done (s.modCore c (fun x => { x with ds := x.ds.drop 1, staging := listSet x.staging imm.toNat (nth x.ds 0) }))
        ((s.core c).pc + 2) 1 }

/-- TLDW: a staging word is read. -/
def opTldw (c : Nat) (imm : BitVec 8) : LxOp := tensorOp c
  { bytes := 0x88 :: imm8 imm, od := 1, undef := decide (7 < imm.toNat)
    run := fun s c =>
      .done (s.modCore c (fun x => { x with ds := x.staging.getD imm.toNat 0 :: x.ds })) ((s.core c).pc + 2) 1 }

/-- TMETA: metadata slot 0 to 63, sign-extended; any other slot is UNDEF. -/
def opTmeta (c : Nat) : LxOp := tensorOp c
  { bytes := [0x89], nd := 1, od := 1
    late := fun _ x => if 63 < (nth x.ds 0).toNat then some (1, lxFirst8 x [0x89]) else none
    run := fun s c =>
      .done (s.modCore c (fun x =>
        { x with ds := BitVec.ofInt 64 (sext 16 (s.fld (F.TIL_META c (nth x.ds 0).toNat))) :: x.ds.drop 1 }))
        ((s.core c).pc + 1) 1 }

/-! ### The ends of the stalls (R106, R178) -/

/-- A core that waits in a push or a TWAIT goes on with its instruction: it runs as an instruction that was not begun. -/
def State.resume (s : State) (c : Nat) (i : LxOp) : State :=
  let s := s.modCore c (fun x => { x with st := .running, wait := .none })
  if s.coreRuns c false then s.lxExec c i
  else s.modCore c (fun x => { x with st := .waiting, wait := match i.bytes with | [0x80] => .push false | [0x86] => .push true | _ => .twait })

/-- A queue entry frees, and the stalled push copies its descriptor and is queued (R106). -/
def State.pushRelease (s : State) (c : Nat) : State :=
  match (s.core c).st, (s.core c).wait with
  | .waiting, .push staged =>
    if s.queueRoom c ∨ !s.flag (blkTil c).enable then s.resume c (if staged then opTpushs c else opTpush c) else s
  | _, _ => s

/-- The awaited signal counter reaches its value, and the stalled TWAIT retires (R178). -/
def State.twaitRelease (s : State) (c : Nat) : State :=
  match (s.core c).st, (s.core c).wait with
  | .waiting, .twait => if s.twaitMet c then s.resume c (opTwait c) else s
  | _, _ => s

/-! ### The commands -/

/-- TPUSH (R178). -/
def execTpush (c : Nat) (s : State) : Host.Outcome State Fault Refusal := .next (s.lxIssue c (opTpush c))
/-- TPUSHNB (R178). -/
def execTpushnb (c : Nat) (s : State) : Host.Outcome State Fault Refusal := .next (s.lxIssue c (opTpushnb c))
/-- TPUSHS (R178). -/
def execTpushs (c : Nat) (s : State) : Host.Outcome State Fault Refusal := .next (s.lxIssue c (opTpushs c))
/-- TPUSHSNB (R178). -/
def execTpushsnb (c : Nat) (s : State) : Host.Outcome State Fault Refusal := .next (s.lxIssue c (opTpushsnb c))
/-- TSTS (R178). -/
def execTsts (c : Nat) (s : State) : Host.Outcome State Fault Refusal := .next (s.lxIssue c (opTsts c))
/-- TSIG (R178). -/
def execTsig (c : Nat) (s : State) : Host.Outcome State Fault Refusal := .next (s.lxIssue c (opTsig c))
/-- TWAIT (R178). -/
def execTwait (c : Nat) (s : State) : Host.Outcome State Fault Refusal := .next (s.lxIssue c (opTwait c))
/-- TMETA (R178). -/
def execTmeta (c : Nat) (s : State) : Host.Outcome State Fault Refusal := .next (s.lxIssue c (opTmeta c))
/-- TSTW (R178). -/
def execTstw (c : Nat) (imm : BitVec 8) (s : State) : Host.Outcome State Fault Refusal := .next (s.lxIssue c (opTstw c imm))
/-- TLDW (R178). -/
def execTldw (c : Nat) (imm : BitVec 8) (s : State) : Host.Outcome State Fault Refusal := .next (s.lxIssue c (opTldw c imm))
/-- PUSH_STALL_RELEASE (R106). -/
def execPushStallRelease (c : Nat) (s : State) : Host.Outcome State Fault Refusal := .next (s.pushRelease c)
/-- TWAIT_RELEASE (R178). -/
def execTwaitRelease (c : Nat) (s : State) : Host.Outcome State Fault Refusal := .next (s.twaitRelease c)

end Sys2Proof.Machine
end

