-- ==== Sys2Proof/Machine/LxCompat.lean ====
section
/-!
DEFINITION. Transport-triggered compatibility mode (R181 to R185). A word holds two moves; PC counts words.
-/
namespace Sys2Proof.Machine

/-- The two moves of a word, each a source and a destination port (R181). -/
def movesOf (w : BitVec 32) : List (Nat × Nat) :=
  [(bits w.toNat 15 8, bits w.toNat 7 0), (bits w.toNat 31 24, bits w.toNat 23 16)]

/-- Source ports (R182). -/
def srcPort (p : Nat) : Bool :=
  decide (p < 0x20) || decide (p ∈ [0x40, 0x50, 0x51, 0x60, 0xC0]) || (decide (0x80 ≤ p) && decide (p ≤ 0xBF))

/-- The rows of the command table for compatibility words. -/
inductive CompatKind where
  | move | alu | mul | load | store | jump | condJump | call | ret | tcmd
deriving DecidableEq, Repr

/-- What a destination port does: none for a reserved port (R183). -/
def dstKind (p : Nat) : Option CompatKind :=
  if p < 0x20 ∨ p ∈ [0x40, 0x50, 0x60, 0x62, 0x70, 0xFF] then some .move
  else if 0x41 ≤ p ∧ p ≤ 0x4B then some .alu
  else if p = 0x51 ∨ p = 0x52 then some .mul
  else if p = 0x61 then some .load
  else if p = 0x63 then some .store
  else if p = 0x71 then some .jump
  else if p = 0x72 ∨ p = 0x73 then some .condJump
  else if p = 0x74 then some .call
  else if p = 0x75 then some .ret
  else if p = 0x78 then some .tcmd
  else none

/-- The kinds of a word's moves. -/
def wordKinds (w : BitVec 32) : List (Option CompatKind) := (movesOf w).map (fun m => dstKind m.2)

/-- Whether a word belongs to a row: it starts that row's unit; a word that starts none is a plain move. -/
def wordIs (w : BitVec 32) (k : CompatKind) : Bool :=
  if k = .move then (wordKinds w).all (fun x => decide (x = some .move ∨ x = none)) else decide (some k ∈ wordKinds w)

/-- Words of the stream that a word's moves take as immediates (R182). -/
def wordImms (w : BitVec 32) : Nat := ((movesOf w).filter (fun m => decide (m.1 = 0xC0))).length

/-- The ALU of compatibility mode, by trigger port; 32 bits, shifts modulo 32 (R183). -/
def compatAlu (port a v : Nat) : Nat :=
  let x : BitVec 32 := BitVec.ofNat 32 a
  let y : BitVec 32 := BitVec.ofNat 32 v
  let r : BitVec 32 :=
    if port = 0x41 then x + y
    else if port = 0x42 then x - y
    else if port = 0x43 then x &&& y
    else if port = 0x44 then x ||| y
    else if port = 0x45 then x ^^^ y
    else if port = 0x46 then x <<< (v % 32)
    else if port = 0x47 then x >>> (v % 32)
    else if port = 0x48 then x.sshiftRight (v % 32)
    else if port = 0x49 then (if x.slt y then 1 else 0)
    else if port = 0x4A then (if x.ult y then 1 else 0)
    else (if x = y then 1 else 0)
  r.toNat

/-- The 64-bit product of the MUL unit, signed at port 0x51 (R183). -/
def compatMul (port a v : Nat) : Nat :=
  if port = 0x51 then ((sext 32 a * sext 32 v) % 2 ^ 64).toNat else a * v % 2 ^ 64

/-- Each word brings the products under way nearer; those whose fourth word this is are written before it reads (R184). -/
def Compat.tick (k : Compat) : Compat :=
  let q := k.mulQ.map (fun p => (p.1, p.2 - 1))
  { k with
    mulR := (q.filter (fun p => decide (p.2 = 0))).foldl (fun _ p => p.1) k.mulR
    mulQ := q.filter (fun p => decide (p.2 ≠ 0)) }

/-- What a source port gives; the immediates are the words that follow (R182). -/
def Compat.source (k : Compat) (p imm : Nat) : Nat :=
  if p < 0x20 then Tab.getD k.g p 0
  else if p = 0x40 then k.aluR
  else if p = 0x50 then k.mulR % 2 ^ 32
  else if p = 0x51 then k.mulR / 2 ^ 32
  else if p = 0x60 then k.lsuR
  else if p = 0xC0 then imm
  else p - 0x80

/-- The values that the two moves carry: both sources are read first; move 0 takes the first following word, and move 1 the
next one that is left (R181, R182). -/
def Compat.values (k : Compat) (w w1 w2 : BitVec 32) : List Nat :=
  let m := movesOf w
  let p0 := (m.getD 0 (0, 0)).1
  let p1 := (m.getD 1 (0, 0)).1
  [k.source p0 w1.toNat, k.source p1 (if p0 = 0xC0 then w2.toNat else w1.toNat)]

/-- Target of a jump by `v` words from the trigger word (R184). -/
def wordTarget (pc v : Nat) : Nat := (((pc : Int) + sext 32 v) % 2 ^ 32).toNat

/-- The word offset after the delay word at `d`: the delay word and its own immediates (R184). -/
def afterDelay (x : Core) (d : Nat) : Nat := d + 1 + wordImms (BitVec.ofNat 32 (ofLe (x.imBytes (4 * d) 4)))

/-- One move's destination takes its value, and a trigger starts its unit. `pc` is the trigger word, `d` the delay word
(R183, R184). -/
def State.compatPut (s : State) (c pc d port v : Nat) : LxPrep :=
  let x := s.core c
  let k := x.cmp
  let set := fun k : Compat => LxPrep.go (s.modCore c (fun x => { x with cmp := k })) 0
  let addr := (k.lsuAddr + v) % 2 ^ 32
  if port < 0x20 then set { k with g := Tab.put k.g port v 0 }
  else match port with
    | 0x40 => set { k with aluA := v }
    | 0x50 => set { k with mulA := v }
    | 0x60 => set { k with lsuAddr := v }
    | 0x62 => set { k with lsuData := v }
    | 0x70 => set { k with cond := v }
    | 0xFF => .go s 0
    | 0x51 => set { k with mulQ := k.mulQ ++ [(compatMul 0x51 k.mulA v, 4)] }
    | 0x52 => set { k with mulQ := k.mulQ ++ [(compatMul 0x52 k.mulA v, 4)] }
    | 0x61 =>
      if addr % 4 ≠ 0 then .trap s 2 addr
      else if x.watches (dmWindow + addr) 1 then .trap s 7 (dmWindow + addr)
      else match s.lxRead c (dmWindow + addr) 4 with
        | (s, none) => .trap s 5 (ueTval (dmWindow + addr))
        | (s, some bs) => .go (s.modCore c (fun x => { x with cmp := { k with lsuR := ofLe bs } })) 0
    | 0x63 =>
      if addr % 4 ≠ 0 then .trap s 2 addr
      else if x.watches (dmWindow + addr) 2 then .trap s 7 (dmWindow + addr)
      else .go (s.lxWrite c (dmWindow + addr) (leBytes 4 k.lsuData)) 0
    | 0x71 => set { k with brTarget := some (wordTarget pc v) }
    | 0x72 => if k.cond ≠ 0 then set { k with brTarget := some (wordTarget pc v) } else .go s 0
    | 0x73 => if k.cond = 0 then set { k with brTarget := some (wordTarget pc v) } else .go s 0
    | 0x74 =>
      .go (s.modCore c (fun x =>
        { x with cmp := { k with brTarget := some (wordTarget pc v) }, rs := BitVec.ofNat 64 (afterDelay x d) :: x.rs })) 0
    | 0x75 =>
      .go (s.modCore c (fun x =>
        { x with cmp := { k with brTarget := some (nth x.rs 0).toNat }, rs := x.rs.drop 1 })) 0
    | p => set { k with aluR := compatAlu p k.aluA v }

/-- The destinations of a word: move 0 before move 1; where both write one port, move 1's value stands (R181). -/
def State.compatPuts (s : State) (c pc d : Nat) : List (Nat × Nat) → LxPrep
  | [] => .go s 0
  | (p, v) :: rest =>
    if rest.any (fun q => decide (q.1 = p)) then State.compatPuts s c pc d rest
    else match s.compatPut c pc d p v with
      | .trap s a b => .trap s a b
      | .go s _ => State.compatPuts s c pc d rest

/-- The return stack makes ready for a word's calls and returns, by the rules of R153. -/
def State.compatStack (s : State) (c : Nat) (w : BitVec 32) : LxPrep :=
  let nr := ((wordKinds w).filter (· = some .ret)).length
  let orr := ((wordKinds w).filter (· = some .call)).length
  match s.lxNeed c .ret nr 0 with
  | .trap s a b => .trap s a b
  | .go s cost =>
    let x := s.core c
    if x.noRoom .ret nr orr then .trap s 3 3
    else
      let (s, cost) := State.lxSpill c .ret (x.spillGroups .ret nr orr) s cost
      .go s cost

/-- The checks of a word before its moves: FETCH_UE, EMULATE, UNDEF, and a watch on its fetch (R171, R172, R182, R183,
R185). -/
def State.compatCheck (s : State) (c : Nat) (w w1 : BitVec 32) : LxPrep :=
  let x := s.core c
  match s.lxFetch c (4 * x.pc) (4 + 4 * wordImms w) with
  | (s, some tv) => .trap s 5 tv
  | (s, none) =>
    if some .tcmd ∈ wordKinds w then .trap s 8 0
    else if (movesOf w).any (fun m => !srcPort m.1 || (dstKind m.2).isNone) then
      .trap s 1 (w.toNat + (if wordImms w = 0 then leAt (x.imBytes (4 * x.pc + 4) 4) 0 4 else w1.toNat) * 2 ^ 32)
    else match s.compatStack c w with
      | .trap s a b => .trap s a b
      | .go s cost => if (s.core c).watches (4 * x.pc) 4 then .trap s 7 (4 * x.pc) else .go s cost

/-- One word of a compatibility thread: a jump under way takes effect after it (R181 to R184). -/
def State.compatExec (s : State) (c : Nat) (w w1 w2 : BitVec 32) : State :=
  let old := s.core c
  let trapTo := fun (s : State) (a b : Nat) => (s.setCore c old).lxTrap c a b
  match s.compatCheck c w w1 with
  | .trap s a b => trapTo s a b
  | .go s cost =>
    let k := (s.core c).cmp.tick
    let vs := k.values w w1 w2
    let next := old.pc + 1 + wordImms w
    let after := old.cmp.brTarget.getD next
    let s := s.modCore c (fun x => { x with cmp := { k with brTarget := none } })
    match s.compatPuts c old.pc after (((movesOf w).map (·.2)).zip vs) with
    | .trap s a b => trapTo s a b
    | .go s _ => s.modCore c (fun x => x.retire after (cost + 1))

/-- A word of a row issues. -/
def State.compatIssue (s : State) (c : Nat) (k : CompatKind) (w w1 w2 : BitVec 32) : State :=
  if s.coreRuns c true && wordIs w k then s.compatExec c w w1 w2 else s

/-! ### The commands -/

/-- COMPAT_MOVE (R181 to R185). -/
def execCompatMove (c : Nat) (w w1 w2 : BitVec 32) (s : State) : Host.Outcome State Fault Refusal :=
  .next (s.compatIssue c .move w w1 w2)
/-- COMPAT_ALU_TRIGGER (R181 to R185). -/
def execCompatAluTrigger (c : Nat) (w w1 w2 : BitVec 32) (s : State) : Host.Outcome State Fault Refusal :=
  .next (s.compatIssue c .alu w w1 w2)
/-- COMPAT_MUL_TRIGGER (R181 to R185). -/
def execCompatMulTrigger (c : Nat) (w w1 w2 : BitVec 32) (s : State) : Host.Outcome State Fault Refusal :=
  .next (s.compatIssue c .mul w w1 w2)
/-- COMPAT_LOAD_TRIGGER (R181 to R185). -/
def execCompatLoadTrigger (c : Nat) (w w1 w2 : BitVec 32) (s : State) : Host.Outcome State Fault Refusal :=
  .next (s.compatIssue c .load w w1 w2)
/-- COMPAT_STORE_TRIGGER (R181 to R185). -/
def execCompatStoreTrigger (c : Nat) (w w1 w2 : BitVec 32) (s : State) : Host.Outcome State Fault Refusal :=
  .next (s.compatIssue c .store w w1 w2)
/-- COMPAT_JUMP (R181 to R185). -/
def execCompatJump (c : Nat) (w w1 w2 : BitVec 32) (s : State) : Host.Outcome State Fault Refusal :=
  .next (s.compatIssue c .jump w w1 w2)
/-- COMPAT_COND_JUMP (R181 to R185). -/
def execCompatCondJump (c : Nat) (w w1 w2 : BitVec 32) (s : State) : Host.Outcome State Fault Refusal :=
  .next (s.compatIssue c .condJump w w1 w2)
/-- COMPAT_CALL (R181 to R185). -/
def execCompatCall (c : Nat) (w w1 w2 : BitVec 32) (s : State) : Host.Outcome State Fault Refusal :=
  .next (s.compatIssue c .call w w1 w2)
/-- COMPAT_RETURN (R181 to R185). -/
def execCompatReturn (c : Nat) (w w1 w2 : BitVec 32) (s : State) : Host.Outcome State Fault Refusal :=
  .next (s.compatIssue c .ret w w1 w2)
/-- COMPAT_TCMD (R181 to R185). -/
def execCompatTcmd (c : Nat) (w w1 w2 : BitVec 32) (s : State) : Host.Outcome State Fault Refusal :=
  .next (s.compatIssue c .tcmd w w1 w2)

end Sys2Proof.Machine
end

