-- ==== Sys2Proof/Machine/LxCtl.lean ====
section
/-!
DEFINITION. The instruction at PC (R158, R159), a single step in DEBUG (R187), interrupts and wake-up (R163, R172, R175),
and the commands of the lectern cores' debug registers.
-/
namespace Sys2Proof.Machine

/-- Stack and literal instructions by opcode (R160). -/
def lxDecodeStack (_c : Nat) (bs : List Byte) : LxOp :=
  let im := fun {w : Nat} (n : Nat) => BitVec.ofNat w (leAt bs 1 n)
  match (bs.headD 0).toNat with
  | 0x00 => opNop
  | 0x01 => opDrop
  | 0x02 => opDup
  | 0x03 => opSwap
  | 0x04 => opOver
  | 0x05 => opRot
  | 0x06 => opNip
  | 0x07 => opTuck
  | 0x08 => opDrop2
  | 0x09 => opDup2
  | 0x0A => opPick
  | 0x0B => opDepth
  | 0x0C => opTor
  | 0x0D => opFromr
  | 0x0E => opRfetch
  | 0x0F => opRdrop
  | 0x10 => opLit8 (im 1)
  | 0x11 => opLit16 (im 2)
  | 0x12 => opLit32 (im 4)
  | 0x13 => opLit64 (im 8)
  | 0x14 => opAddi8 (im 1)
  | 0x15 => opAddi32 (im 4)
  | 0x16 => opLitu32 (im 4)
  | 0x17 => opPicki (im 1)
  | 0x18 => opRsp (im 1)
  | 0x19 => opWsp (im 1)
  | _ => opReserved (bs.headD 0)

/-- ALU, multiplier and divider instructions by opcode (R161, R164, R165). -/
def lxDecodeAlu (_c : Nat) (bs : List Byte) : LxOp :=
  let im := fun {w : Nat} (n : Nat) => BitVec.ofNat w (leAt bs 1 n)
  match (bs.headD 0).toNat with
  | 0x20 => opAdd
  | 0x21 => opSub
  | 0x22 => opAnd
  | 0x23 => opOr
  | 0x24 => opXor
  | 0x25 => opShl
  | 0x26 => opShr
  | 0x27 => opSar
  | 0x28 => opSlt
  | 0x29 => opSltu
  | 0x2A => opSeq
  | 0x2B => opMin
  | 0x2C => opMax
  | 0x2D => opMinu
  | 0x2E => opMaxu
  | 0x30 => opNot
  | 0x31 => opNeg
  | 0x32 => opInc
  | 0x33 => opDec
  | 0x34 => opClz
  | 0x35 => opCtz
  | 0x36 => opPopc
  | 0x37 => opSext8
  | 0x38 => opSext16
  | 0x39 => opSext32
  | 0x3A => opZext8
  | 0x3B => opZext16
  | 0x3C => opZext32
  | 0x3D => opBswap
  | 0x3E => opZeq
  | 0x40 => opMul
  | 0x41 => opMulu
  | 0x42 => opDiv
  | 0x43 => opDivu
  | 0x44 => opShli (im 1)
  | 0x45 => opShri (im 1)
  | 0x46 => opSari (im 1)
  | 0x47 => opAndi32 (im 4)
  | _ => opReserved (bs.headD 0)

/-- Memory instructions by opcode (R168). -/
def lxDecodeMem (_c : Nat) (bs : List Byte) : LxOp :=
  let im := fun {w : Nat} (n : Nat) => BitVec.ofNat w (leAt bs 1 n)
  match (bs.headD 0).toNat with
  | 0x50 => opLd8u
  | 0x51 => opLd8s
  | 0x52 => opLd16u
  | 0x53 => opLd16s
  | 0x54 => opLd32u
  | 0x55 => opLd32s
  | 0x56 => opLd64
  | 0x57 => opSt8
  | 0x58 => opSt16
  | 0x59 => opSt32
  | 0x5A => opSt64
  | 0x5B => opLdo64 (im 2)
  | 0x5C => opSto64 (im 2)
  | 0x5D => opCas64
  | 0x5E => opAmoadd64
  | 0x5F => opFence (im 1)
  | _ => opReserved (bs.headD 0)

/-- Branches, control and the tensor extension by opcode (R162, R163, R178). -/
def lxDecodeCtl (c : Nat) (bs : List Byte) : LxOp :=
  let im := fun {w : Nat} (n : Nat) => BitVec.ofNat w (leAt bs 1 n)
  match (bs.headD 0).toNat with
  | 0x60 => opBeq false (im 2)
  | 0x61 => opBne false (im 2)
  | 0x62 => opBlt false (im 2)
  | 0x63 => opBge false (im 2)
  | 0x64 => opBltu false (im 2)
  | 0x65 => opBgeu false (im 2)
  | 0x66 => opBz false (im 2)
  | 0x67 => opBnz false (im 2)
  | 0x68 => opBeq true (im 4)
  | 0x69 => opBne true (im 4)
  | 0x6A => opBlt true (im 4)
  | 0x6B => opBge true (im 4)
  | 0x6C => opBltu true (im 4)
  | 0x6D => opBgeu true (im 4)
  | 0x6E => opBz true (im 4)
  | 0x6F => opBnz true (im 4)
  | 0x70 => opJmp (im 2)
  | 0x71 => opJmpL (im 4)
  | 0x72 => opCall (im 2)
  | 0x73 => opCallL (im 4)
  | 0x74 => opJmpi
  | 0x75 => opCalli
  | 0x76 => opRet
  | 0x77 => opRte
  | 0x79 => opWfe
  | 0x7A => opBrk (im 1)
  | 0x7B => opSpill
  | 0x7F => opSvc (im 1)
  | 0x80 => opTpush c
  | 0x81 => opTpushnb c
  | 0x82 => opTsts c
  | 0x83 => opTsig c
  | 0x84 => opTwait c
  | 0x85 => opTstw c (im 1)
  | 0x86 => opTpushs c
  | 0x87 => opTpushsnb c
  | 0x88 => opTldw c (im 1)
  | 0x89 => opTmeta c
  | _ => opReserved (bs.headD 0)

/-- The instruction that bytes of IM spell (R158, R159). -/
def lxDecode (c : Nat) (bs : List Byte) : LxOp :=
  let op := (bs.headD 0).toNat
  if op < 0x20 then lxDecodeStack c bs
  else if op < 0x50 then lxDecodeAlu c bs
  else if op < 0x60 then lxDecodeMem c bs
  else lxDecodeCtl c bs

/-- The instruction at PC executes, in the core's mode. -/
def State.execAtPc (s : State) (c : Nat) : State :=
  let x := s.core c
  if x.compat then
    let word := fun i : Nat => BitVec.ofNat 32 (ofLe (x.imBytes (4 * (x.pc + i)) 4))
    s.compatExec c (word 0) (word 1) (word 2)
  else s.lxExec c (lxDecode c (x.imBytes x.pc 9))

/-- STEP in DEBUG: one instruction retires, and the core is in DEBUG again; the bit clears itself (R187). A trap is part of
the step; a stall leaves the core waiting. -/
def State.lxcStep (s : State) (t : Nat) : State :=
  let x := s.core t
  if x.st = .debug ∧ !x.frozen ∧ !(s.tile t).calm then
    let s := (s.modCore t (fun x => { x with st := .running })).execAtPc t
    let s := s.modCore t (fun x => if x.st = .running then { x with st := .debug } else x)
    s.setFlag (F.LXC_CTRL_STEP t) false
  else s

/-- A core in WFE sees an enabled source and goes on with the next instruction (R163). -/
def State.wfeWake (s : State) (c : Nat) : State :=
  let x := s.core c
  if x.st = .waiting ∧ x.wait = .wfe ∧ irqReady c x ≠ 0 then
    s.modCore c (fun x => Core.retire { x with st := .running, wait := .none } (x.pc + 1) 1)
  else s

/-- Number of the lowest source of a mask. -/
def lowestSource (m : Nat) : Nat := (List.range 32).findIdx (fun i => m.testBit i)

/-- An interrupt is taken between instructions, or by a core that waits: EPC is the next instruction, which for a push or
TWAIT is the stalled one (R171, R172, R175). -/
def State.interrupt (s : State) (c : Nat) : State :=
  let x := s.core c
  let ready := irqReady c x
  if x.ie ∧ ready ≠ 0 ∧ (x.st = .running ∨ x.st = .waiting) ∧ !x.frozen ∧ !(decide (c < 16) && (s.tile c).calm) then
    let epc := if x.st = .waiting ∧ x.wait = .wfe then x.pc + 1 else x.pc
    let s := s.lastTrap c 9
    s.modCore c (fun x =>
      let x := x.enterTrap (s.coreSecure c) 9 (lowestSource ready) epc 4
      { x with st := if x.halt then .debug else .running })
  else s

/-! ### The commands -/

/-- WFE_WAKE (R163). -/
def execWfeWake (c : Nat) (s : State) : Host.Outcome State Fault Refusal := .next (s.wfeWake c)
/-- INTERRUPT_TAKEN (R175). -/
def execInterruptTaken (c : Nat) (s : State) : Host.Outcome State Fault Refusal := .next (s.interrupt c)

/-- LXC_RESTART: a write of RESTART by a master (R187). -/
def execLxcRestart (m : Master) (t : Nat) (s : State) : Host.Outcome State Fault Refusal := .next (s.lxcRestart m t)

/-- LXC_STEP: a write of STEP by a master, and the instruction that retires for it (R187). -/
def execLxcStep (m : Master) (t : Nat) (s : State) : Host.Outcome State Fault Refusal :=
  .next (s.viaReg m (F.LXC_CTRL_STEP t).off (fun s => s.lxcStep t))

/-- LXC_HALT: a write of HALT by a master (R187). -/
def execLxcHalt (m : Master) (t : Nat) (on : Bool) (s : State) : Host.Outcome State Fault Refusal :=
  .next (s.viaReg m (F.LXC_CTRL_HALT t).off (fun s => s.lxcHalt t on))

/-- LXC_DOORBELL_RING: the DOORBELL source latches (R188). -/
def execLxcDoorbellRing (_m : Master) (t : Nat) (s : State) : Host.Outcome State Fault Refusal :=
  .next (s.latchIrq t irqDoorbell)

end Sys2Proof.Machine
end

