-- ==== Sys2Proof/Machine/PortRx.lean ====
section
/-!
DEFINITION. The receive path of a front port: size checks, lookup, actions, rewriting, decryption, receive rings (R546, R547,
R550, R555 to R560).
-/
namespace Sys2Proof.Machine

def fppErrRingFull : Nat := 17
def fppErrTag : Nat := 18

/-! ### Rewrite operations (R556) -/

/-- The flow that a hash is taken of: addresses, protocol and ports of the first layer. -/
def flowOf (bs : List Byte) : List Nat :=
  match parseLayer bs 0 2 with
  | some l =>
    (match l.ip with | some i => natsOf (i.src ++ i.dst) ++ [i.proto] | none => natsOf (bs.take 12)) ++
      (match l.l4.bind (·.ports) with | some q => [q.1, q.2] | none => [])
  | none => natsOf (bs.take 12)

/-- The outer headers that VXLAN_ENCAP prepends, with the lengths, the checksums and the source port filled in. -/
def encapHead (tpl bs : List Byte) : List Byte :=
  let v4 := decide (leAt tpl 17 1 = 50)
  let h := slice tpl 18 (if v4 then 50 else 70)
  let udp := if v4 then 34 else 54
  let n := bs.length
  let h := if v4 then splice h 16 (beOf 2 (36 + n)) else splice h 18 (beOf 2 (16 + n))
  let h := splice (splice h udp (beOf 2 (Config.flowHash (flowOf bs)))) (udp + 4) (beOf 2 (16 + n))
  let h := splice h (udp + 6) [0, 0]
  if v4 then
    let z := splice h 24 [0, 0]
    splice z 24 (beOf 2 (onesCheck (slice z 14 20)))
  else
    let seg := h.drop udp ++ bs
    let ps := slice h 22 32 ++ beOf 4 seg.length ++ beOf 4 17
    let c := onesCheck (ps ++ seg)
    splice h (udp + 6) (beOf 2 (if c = 0 then 0xFFFF else c))

/-- What an operation comes to: the new packet, a header that is absent, or a drop. -/
inductive RwRes where
  | done (bs : List Byte)
  | absent
  | drop
deriving DecidableEq, Repr

/-- The IPv4 checksum of the first layer after a change of its header. -/
def refresh (bs : List Byte) (i : IpHdr) : List Byte := fixIp bs i

/-- One operation on a packet with a template (R556). -/
def rewrite (op : Nat) (tpl bs : List Byte) (vx : Nat) : RwRes :=
  match parseFrame bs vx with
  | none => .absent
  | some q =>
    let l := q.outer
    let tci := beAt tpl 12 2
    let withTag := fun (f : Nat → Nat) =>
      match l.tags with
      | o :: _ => .done (splice bs (o + 2) (beOf 2 (f (beAt bs (o + 2) 2))))
      | [] => RwRes.absent
    match op with
    | 0 => .done bs
    | 1 => .done (splice bs 0 (slice tpl 0 6))
    | 2 => .done (splice bs 6 (slice tpl 6 6))
    | 3 => withTag (fun t => t / 4096 * 4096 + tci % 4096)
    | 4 => withTag (fun t => t % 8192 + tci / 8192 * 8192)
    | 5 =>
      match l.ip with
      | none => .absent
      | some i =>
        let d := leAt tpl 16 1 % 64
        if i.ver = 4 then .done (refresh (splice bs (i.off + 1) (beOf 1 (d * 4 + beAt bs (i.off + 1) 1 % 4))) i)
        else
          let w := beAt bs i.off 2
          .done (splice bs i.off (beOf 2 (w / 4096 * 4096 + d * 64 + w % 64)))
    | 6 =>
      match l.ip with
      | none => .absent
      | some i =>
        let o := if i.ver = 4 then i.off + 8 else i.off + 7
        let t := beAt bs o 1
        if t ≤ 1 then .drop else .done (refresh (splice bs o (beOf 1 (t - 1))) i)
    | 7 => .done (bs.take 12 ++ slice tpl 14 2 ++ slice tpl 12 2 ++ bs.drop 12)
    | 8 => match l.tags with | o :: _ => .done (bs.take o ++ bs.drop (o + 4)) | [] => .absent
    | 9 => match q.inner with | some i => .done (bs.drop i.off) | none => .absent
    | 10 => .done (encapHead tpl bs ++ bs)
    | _ => .absent

/-- The operations of an action in order; none: the packet was dropped (R555, R556). -/
def State.rewriteAll (s : State) (p : Nat) : List (Nat × Nat) → List Byte → State × Option (List Byte)
  | [], bs => (s, some bs)
  | (op, t) :: ops, bs =>
    let tpl := s.entryBytes (F.FPP_TEMPLATE p t 0).off 128
    match rewrite op tpl bs (s.fld (F.FPP_PORT_CFG_VXLAN_PORT p)) with
    | .done b => State.rewriteAll s p ops b
    | .absent => State.rewriteAll (s.count (F.FPP_REWRITE_SKIP p)) p ops bs
    | .drop => (s.count (F.FPP_TTL_DROP p), none)

/-! ### Receive rings (R559) -/

/-- What a record says beside the length: STATUS and bits 24 to 43 of R559, and TIME in ns. -/
structure RxInfo where
  status : Nat
  mirror : Bool
  decrypted : Bool
  l3 : Bool
  l4 : Bool
  trunc : Bool
  rule : Nat
  time : Nat
deriving DecidableEq, Repr

def RxInfo.record (i : RxInfo) (len : Nat) : List Byte :=
  leBytes 8 (len % 65536 + i.status % 256 * 2 ^ 16 + ofBool i.mirror * 2 ^ 24 + ofBool i.decrypted * 2 ^ 25 +
    ofBool i.l3 * 2 ^ 26 + ofBool i.l4 * 2 ^ 27 + ofBool i.trunc * 2 ^ 28 + i.rule % 4096 * 2 ^ 32) ++ leBytes 8 i.time

/-- Why a packet finds no room in a ring: full (or not enabled), or larger than its slot. -/
def State.rxRoom (s : State) (p r n : Nat) : Option Bool :=
  let x := s.rxEntry p r
  let y := Tab.getD (s.port p).rx r PortRing.init
  if !x.on ∨ 2 ^ x.log2 ≤ (y.written + 2 ^ 32 - y.consumer) % 2 ^ 32 then some true
  else if 2 ^ x.slotLog2 < n then some false
  else none

/-- A packet goes into the next slot, and then its record into the completion area. -/
def State.rxPlace (s : State) (p r : Nat) (bs : List Byte) (i : RxInfo) : State :=
  let x := s.rxEntry p r
  let y := Tab.getD (s.port p).rx r PortRing.init
  let n := y.written % 2 ^ x.log2
  let s := (s.dmaWrite Master.firmware (x.area + n * 2 ^ x.slotLog2) bs).1
  let s := (s.dmaWrite Master.firmware (x.cpl + 16 * n) (i.record bs.length)).1
  s.modPort p (fun z => { z with rx := Tab.set z.rx r { y with written := (y.written + 1) % 2 ^ 32 } })

/-- Delivery to a ring: a packet that finds no room is dropped and counted (R559). -/
def State.rxPut (s : State) (p r : Nat) (bs : List Byte) (i : RxInfo) : State :=
  match s.rxRoom p r bs.length with
  | some true => (s.count (F.FPP_RING_FULL p)).raise (blkFpp p) fppErrRingFull Master.noMaster 0 r
  | some false => s.count (F.FPP_TOO_BIG p)
  | none => s.rxPlace p r bs i

/-! ### Decryption (R560) -/

/-- The payload is decrypted for the owner of a ring: the packet as it goes into the slot, and its status; `bad` names an
engine whose two datapaths differ (R443). -/
def State.rxDecrypt (s : State) (p r page : Nat) (bs : List Byte) (bad : Option Nat) : State × List Byte × Nat :=
  let o := match parseFrame bs (s.fld (F.FPP_PORT_CFG_VXLAN_PORT p)) with | some q => q.payload | none => bs.length
  let hd := bs.take o
  let pay := bs.drop o
  let x := s.rxEntry p r
  if pay.length < 28 then (s, hd, 1)
  else
    let iv := natsOf (pay.take 12)
    let ct := natsOf ((pay.drop 12).take (pay.length - 28))
    let zeros := hd ++ List.replicate ct.length 0
    if s.pageSt page ≠ pageLoaded then (s, zeros, 4)
    else if !s.decryptBound x page then (s.keyRefused x.owner page, zeros, 3)
    else match bad with
      | some e => (s.engineFault e (some page), zeros, 5)
      | none =>
        let key := (s.page page).key
        if gcmTag key iv iv ct ≠ natsOf (pay.drop (pay.length - 16)) then
          ((s.count (F.FPP_TAG_FAIL p)).raise (blkFpp p) fppErrTag Master.noMaster 0 page, zeros, 2)
        else (s, hd ++ bytesOf (gcmCtr key iv ct), 0)

/-! ### Actions (R555) -/

/-- COUNT: two 64-bit counters, packets and bytes. -/
def State.countRule (s : State) (p i n : Nat) : State :=
  let add := fun (s : State) (k v : Nat) =>
    let lo := F.FPP_COUNTER p i k
    let hi := F.FPP_COUNTER p i (k + 1)
    let t := s.fld lo + s.fld hi * 2 ^ 32 + v
    (s.setFld lo (t % 2 ^ 32)).setFld hi (t / 2 ^ 32 % 2 ^ 32)
  add (add s 0 1) 2 n

/-- MIRROR: a copy as received; one that finds no room is counted (R555). -/
def State.mirror (s : State) (p : Nat) (egress : Bool) (idx : Nat) (trunc : Bool) (bs : List Byte) (i : RxInfo) : State :=
  let copy := if trunc then bs.take 256 else bs
  if egress then
    let t := s.egPut (idx / 8) (idx % 8) copy
    if t.2 then t.1 else t.1.count (F.FPP_MIRROR_DROP p)
  else match s.rxRoom p idx copy.length with
    | some _ => s.count (F.FPP_MIRROR_DROP p)
    | none => s.rxPlace p idx copy { i with mirror := true, trunc := trunc && decide (256 < bs.length) }

/-- Delivery to TARGET, decrypted where the action says so (R555, R560). -/
def State.deliverTo (s : State) (p : Nat) (a : PAct) (bs : List Byte) (i : RxInfo) (bad : Option Nat) : State :=
  match a.target with
  | 0 => s.count (F.FPP_RULE_DROP p)
  | 1 =>
    match a.decrypt with
    | none => s.rxPut p a.index bs i
    | some page =>
      match s.rxRoom p a.index (bs.length - 28) with
      | some _ => s.rxPut p a.index bs i
      | none =>
        let (s, b, st) := s.rxDecrypt p a.index page bs bad
        s.rxPut p a.index b { i with status := st, decrypted := decide (st = 0) }
  | 2 => s.emit (.roce p bs)
  | _ => (s.egPut (a.index / 8) (a.index % 8) bs).1

/-- The actions of an entry in their order; a drop at any step ends the packet (R555). -/
def State.runAct (s : State) (p : Nat) (a : PAct) (bs : List Byte) (i : RxInfo) (bad : Option Nat) : State :=
  let s := match a.count with | some c => s.countRule p c bs.length | none => s
  let (s, pass) := match a.police with | some k => s.policeOne p k | none => (s, true)
  if !pass then s
  else
    let s := match a.mirror with | some (e, k, t) => s.mirror p e k t bs i | none => s
    match s.rewriteAll p a.ops bs with
    | (s, none) => s
    | (s, some b) => s.deliverTo p a b i bad

/-! ### Frames (R546, R547, R549, R550) -/

/-- The winning rule: the lowest-numbered one that matches (R550). -/
def State.lookup (s : State) (p : Nat) (q : Parsed) (bs : List Byte) : Option Nat :=
  (s.validRules p).find? (fun r =>
    let rule := s.ruleBytes p r
    ruleKeys rule q bs &&
      (!(leAt rule 104 1).testBit 2 ||
        patMatches (s.entryBytes (F.FPP_PATTERN p (leAt rule 105 2 % 1024) 0).off 64) ((bs.drop q.payload).take 256)))

/-- The frame of a MAC control opcode. -/
def macControl (bs : List Byte) : Option Nat := if beAt bs 12 2 = 0x8808 then some (beAt bs 14 2) else none

/-- A frame is received: `fcs` says that its FCS is good, `ns` is the part of the time below 1 µs, `bad` an engine that
mismatches. -/
def State.frameIn (s : State) (p : Nat) (bs : List Byte) (fcs : Bool) (ns : Nat) (bad : Option Nat) : State :=
  if !s.portRuns p then s
  else if !fcs ∨ bs.length + 4 < 64 then s.count (F.FPP_FCS_ERR p)
  else if s.fld (F.FPP_PORT_CFG_MAXFRAME p) < bs.length + 4 then s.count (F.FPP_OVERSIZE p)
  else
    let s := s.count (F.FPP_RX_FRAMES p)
    match macControl bs with
    | some 1 => s.count (F.FPP_PAUSE_IGNORED p)
    | some 0x101 => s.pfcIn p (beAt bs 16 2 % 256) ((List.range 8).map (fun c => beAt bs (18 + 2 * c) 2))
    | _ =>
      let info : RxInfo := ⟨0, false, false, false, false, false, 0, s.modTime * 1000 + ns⟩
      match parseFrame bs (s.fld (F.FPP_PORT_CFG_VXLAN_PORT p)) with
      | none =>
        (s.count (F.FPP_PARSE_FAIL p)).runAct p (pact (leAt (s.entryBytes (F.FPP_DEF_PARSE p 0).off 16) 0 16)) bs
          { info with rule := 0xFFF } bad
      | some q =>
        let inner := q.inner.getD q.outer
        let info := { info with l3 := q.outer.ip.isSome, l4 := l4Good bs inner }
        match s.lookup p q bs with
        | some r => s.runAct p (pact (leAt (s.ruleBytes p r) 112 16)) bs { info with rule := r } bad
        | none =>
          (s.count (F.FPP_NO_MATCH p)).runAct p (pact (leAt (s.entryBytes (F.FPP_DEF_NOMATCH p 0).off 16) 0 16)) bs
            { info with rule := 0xFFE } bad

/-! ### The commands -/

/-- FRONT_PORT_LINK_CHANGE (R545). -/
def execFrontPortLinkChange (p : Nat) (up optical : Bool) (partner lanes : Nat) (s : State) : Host.Outcome State Fault Refusal :=
  .next (s.portLink p up optical partner lanes)
/-- FRAME_RECEIVE (R547). -/
def execFrameReceive (p : Nat) (bs : List Byte) (fcs : Bool) (ns : Nat) (bad : Option Nat) (s : State) :
    Host.Outcome State Fault Refusal := .next (s.frameIn p bs fcs ns bad)
/-- PFC_FRAME_RECEIVE (R562). -/
def execPfcFrameReceive (p mask : Nat) (times : List Nat) (s : State) : Host.Outcome State Fault Refusal :=
  .next (if s.portRuns p then s.pfcIn p mask times else s)
/-- PFC_PAUSE_EXPIRY (R562). -/
def execPfcPauseExpiry (p prio : Nat) (s : State) : Host.Outcome State Fault Refusal := .next (s.pfcExpire p prio)
/-- RULE_VALIDATE (R553). -/
def execRuleValidate (m : Master) (p r v : Nat) (s : State) : Host.Outcome State Fault Refusal :=
  .next (s.viaReg m (F.FPP_RULE p r 26).off (fun s => s.ruleWrite m p r 26 v))
/-- POLICER_REFILL (R557). -/
def execPolicerRefill (p : Nat) (s : State) : Host.Outcome State Fault Refusal := .next (s.policerRefill p)
/-- POLICER_WRITE (R557). -/
def execPolicerWrite (m : Master) (p i k v : Nat) (s : State) : Host.Outcome State Fault Refusal :=
  .next (s.viaReg m (F.FPP_POLICER p i k).off (fun s => s.policerWrite p i k v))
/-- RX_CONSUMER_DOORBELL (R559). -/
def execRxConsumerDoorbell (m : Master) (p r v : Nat) (s : State) : Host.Outcome State Fault Refusal :=
  .next (s.rxDoorbell m p r v)
/-- TX_DOORBELL (R561). -/
def execTxDoorbell (m : Master) (p r v : Nat) (s : State) : Host.Outcome State Fault Refusal := .next (s.txDoorbell m p r v)
/-- EGRESS_DEQUEUE (R562). -/
def execEgressDequeue (p : Nat) (s : State) : Host.Outcome State Fault Refusal := .next (s.egSend p)

end Sys2Proof.Machine
end

