-- ==== Sys2Proof/Machine/PortTx.lean ====
section
/-!
DEFINITION. The transmit rings of a front port (R561, R563).
-/
namespace Sys2Proof.Machine

def txOk : Nat := 0
def txSealed : Nat := 1
def txBadDesc : Nat := 2
def txKeyRefused : Nat := 3
def txMem : Nat := 4
def txEngine : Nat := 5
def txTooBig : Nat := 6

/-- Partitions whose sealed granules hold a byte of a short range. -/
def State.sealedIn (s : State) (a n : Nat) : List Nat := (s.sealedBy a).toList ++ (s.sealedBy (a + n - 1)).toList

/-- The key of ENCRYPT is refused for the owner of the ring: the page's state, TYPE, usage or owner, SEALED_ONLY, or a frame in
granules sealed for another (R432, R439). -/
def State.txKeyBad (s : State) (owner page a n : Nat) : Bool :=
  decide (s.pageSt page ≠ pageLoaded) || decide (s.fld (F.KEY_PAGE_STS_TYPE page) ≠ 0) ||
    !s.pageAllows page owner useEnc (s.rangeSealed owner a n) ||
    (s.sealedIn a n).any (fun q => decide (s.fld (F.KEY_PAGE_STS_OWNER page) ≠ partOwner q))

/-- The bytes from `o` encrypted under a page: IV, ciphertext and tag; the IV is the page's salt and its transmit counter,
which advances (R561). -/
def State.txEncrypt (s : State) (page o : Nat) (bs : List Byte) : State × List Byte :=
  let k := s.page page
  let iv := k.nonce.take 4 ++ leNats 8 k.counter
  let ct := gcmCtr k.key iv (natsOf (bs.drop o))
  let out := bs.take o ++ bytesOf (iv ++ ct ++ gcmTag k.key iv iv ct)
  (s.modTrust (fun t => { t with pages := Tab.set t.pages page { k with counter := k.counter + 1 } }), out)

/-- The checksums of a frame are filled in. -/
def withChecksums (bs : List Byte) : List Byte :=
  match parseEth bs 0 2 with
  | none => bs
  | some (_, et, o) =>
    let hdr : Option IpHdr :=
      if et = 0x0800 then
        let n := 4 * (beAt bs o 1 % 16)
        let z := splice bs (o + 10) [0, 0]
        parseIp4 (splice z (o + 10) (beOf 2 (onesCheck (slice z o n)))) o
      else if et = 0x86DD then parseIp6 bs o else none
    match hdr with
    | none => bs
    | some i =>
      let bs := fixIp bs i
      match parseL4 bs i with
      | some (some h) => fixL4 bs i h
      | _ => bs

/-- The frame of a descriptor, or the status that refuses it (R561). -/
def State.txBuild (s : State) (p owner d : Nat) (bad : Option Nat) : State × Option (List Byte) × Nat :=
  let a := bits d 39 0
  let n := bits d 53 40
  let enc := d.testBit 54
  let page := bits d 67 56
  let o := bits d 75 68
  let part := if owner / 0x4000 = 2 then owner % 16 else 16
  if bits d 127 76 ≠ 0 ∨ bits d 255 160 ≠ 0 ∨ n < 60 ∨ 9212 < n ∨ (enc ∧ n < o) then (s, none, txBadDesc)
  else if !s.rangeAllocated owner part a n then (s, none, txMem)
  else if !enc ∧ s.sealedIn a n ≠ [] then (s, none, txSealed)
  else if enc ∧ s.txKeyBad owner page a n then (s.keyRefused owner page, none, txKeyRefused)
  else if s.fld (F.FPP_PORT_CFG_MAXFRAME p) < n + 4 + (if enc then 28 else 0) then (s, none, txTooBig)
  else
    let (s, bs, f) := s.dmaRead Master.firmware a n
    if f.isSome then (s, none, txMem)
    else match (if enc then bad else none) with
      | some e => (s.engineFault e (some page), none, txEngine)
      | none =>
        let (s, bs) := if enc then s.txEncrypt page o bs else (s, bs)
        (s, some (if d.testBit 55 then withChecksums bs else bs), txOk)

/-- The next descriptor of a ring: its frame goes to the ring's egress queue, and its record to the completion area; a failure
never stops the ring (R561, R563). -/
def State.txNext (s : State) (p r : Nat) (bad : Option Nat) : State :=
  let x := s.txEntry p r
  let y := Tab.getD (s.port p).tx r PortRing.init
  if !x.on ∨ y.producer = y.consumer ∨ !s.flag (blkFpp p).enable ∨ s.power.failing then s
  else
    let (s, bs, f) := s.dmaRead Master.firmware (x.area + 32 * (y.consumer % 2 ^ x.log2)) 32
    let d := ofLe bs
    let (s, out, st) := if f.isSome then (s, none, txMem) else s.txBuild p x.owner d bad
    let s := match out with | some b => (s.egPut p x.queue b).1 | none => s
    let s := (s.dmaWrite Master.firmware (x.cpl + 8 * (y.written % 2 ^ x.log2)) (leBytes 4 st ++ leBytes 4 (bits d 159 128))).1
    s.modPort p (fun z => { z with
      tx := Tab.set z.tx r { y with consumer := (y.consumer + 1) % 2 ^ 32, written := (y.written + 1) % 2 ^ 32 } })

/-- TX_FRAME (R561). -/
def execTxFrame (p r : Nat) (bad : Option Nat) (s : State) : Host.Outcome State Fault Refusal := .next (s.txNext p r bad)

end Sys2Proof.Machine
end

