-- ==== Sys2Proof/Machine/RegCmds.lean ====
section
/-!
DEFINITION. The commands of register space and of a block's common header (R47, R50, R55 to R62, R67, R70).
-/
namespace Sys2Proof.Machine

/-- REGISTER_WRITE (R47, R48, R55, R63 to R67). -/
def execRegisterWrite (m : Master) (off width : Nat) (v : Word) (s : State) : Host.Outcome State Fault Refusal :=
  .next (s.spaceWrite m off width v.toNat)

/-- COUNTER_PAIR_LO_READ: the read, which captures the _HI half and returns the _LO half (R47). -/
def execCounterPairLoRead (m : Master) (off : Nat) (s : State) : Host.Outcome State Fault Refusal :=
  let (s, v) := s.spaceRead m off
  .next (s.emit (.readData m v))

/-- BIT_ALIAS_WRITE: a write of one bit (R69 to R71). -/
def execBitAliasWrite (m : Master) (addr : Nat) (v : Word) (s : State) : Host.Outcome State Fault Refusal :=
  .next (if addr % 4 = 0 then s.aliasPut m addr v.toNat else s.hole m (aliasBase + addr) true)

/-- BLOCK_ENABLE: ENABLE is written 1 (R56, R62). -/
def execBlockEnable (m : Master) (b : Blk) (s : State) : Host.Outcome State Fault Refusal :=
  .next (s.viaReg m b.enable.off (fun s => s.enableBlock b))

/-- BLOCK_DISABLE: ENABLE is written 0 (R56). -/
def execBlockDisable (m : Master) (b : Blk) (s : State) : Host.Outcome State Fault Refusal :=
  .next (s.viaReg m b.enable.off (fun s => s.disableBlock b))

/-- BLOCK_LOCK: LOCK is written 1 (R50, R65). -/
def execBlockLock (m : Master) (b : Blk) (s : State) : Host.Outcome State Fault Refusal :=
  .next (s.viaReg m b.lock.off (fun s => s.setFlag b.lock true))

/-- BLOCK_DRAIN_DONE (R56). -/
def execBlockDrainDone (b : Blk) (s : State) : Host.Outcome State Fault Refusal := .next (s.blockDrained b)

/-- The pass at enable ends: a match starts the block; a mismatch clears ENABLE and leaves ACTIVE 0 (R62). -/
def State.enablePass (s : State) (b : Blk) : State :=
  if !s.passRunning b then s
  else
    let (s, ok) := s.crcPass b
    if ok then s.blockStart b else (s.setFlag b.enable false).crcMismatch b

/-- CFG_CRC_ENABLE_PASS_DONE (R62). -/
def execCfgCrcEnablePassDone (b : Blk) (s : State) : Host.Outcome State Fault Refusal := .next (s.enablePass b)

/-- A pass of an ACTIVE block ends: a mismatch is reported, and with CRC_STOP the block is disabled (R60, R61). -/
def State.periodicPass (s : State) (b : Blk) : State :=
  if !s.flag b.crcCheck ∨ !s.flag b.active then s
  else
    let (s, ok) := s.crcPass b
    if ok then s
    else
      let s := s.crcMismatch b
      if s.flag b.crcStop then s.disableBlock b else s

/-- CFG_CRC_PASS (R60, R61). -/
def execCfgCrcPass (b : Blk) (s : State) : Host.Outcome State Fault Refusal := .next (s.periodicPass b)

end Sys2Proof.Machine
end

