-- ==== Sys2Proof/Machine/Roce.lean ====
section
/-!
DEFINITION. RoCE v2 reliable connections: sending, answers, retransmission, inbound requests, congestion (R564 to R568). The
layouts and codes of BTH, RETH, AETH and ICRC are those of IBTA Annex A17 (PRESUMED).
-/
namespace Sys2Proof.Machine

/-! ### Packet sequence numbers -/

def psnMod : Nat := 2 ^ 24
/-- The distance from `b` up to `a`. -/
def psnDiff (a b : Nat) : Nat := (a + psnMod - b % psnMod) % psnMod
/-- `a` is at or after `b`. -/
def psnGe (a b : Nat) : Bool := decide (psnDiff a b < 2 ^ 23)
def psnAdd (a n : Nat) : Nat := (a + n) % psnMod

/-! ### ICRC -/

def crcBitE (c : Nat) : Nat := if c % 2 = 1 then (c / 2) ^^^ 0xEDB88320 else c / 2
def crcE (bs : List Byte) : Nat :=
  bs.foldl (fun c b => Nat.repeat crcBitE 8 (c ^^^ b.toNat)) 0xFFFFFFFF ^^^ 0xFFFFFFFF

/-- The ICRC over a packet from its IP header to the end of its payload: fields that change on the way count as ones. -/
def icrcOf (ver : Nat) (ipLen : Nat) (bs : List Byte) : Nat :=
  let ff := [0xFF#8]
  let bs := if ver = 4 then splice (splice (splice bs 1 ff) 8 ff) 10 [0xFF#8, 0xFF#8]
    else splice (splice (splice bs 0 [bs.getD 0 0 ||| 0x0F#8]) 1 [0xFF#8, 0xFF#8, 0xFF#8]) 7 ff
  let bs := splice (splice bs (ipLen + 6) [0xFF#8, 0xFF#8]) (ipLen + 12) ff
  crcE (List.replicate 8 0xFF#8 ++ bs)

/-! ### Building a packet -/

/-- Opcodes of the reliable connection. -/
def opReadReq : Nat := 0x0C
def opAck : Nat := 0x11
def opCnp : Nat := 0x81

def rethBytes (va rkey len : Nat) : List Byte := beOf 8 va ++ beOf 4 rkey ++ beOf 4 len
def aethBytes (syn msn : Nat) : List Byte := beOf 1 syn ++ beOf 3 msn

/-- The frame of one packet of a context, without FCS. -/
def rocePacket (x : Ctx) (op psn : Nat) (ack : Bool) (hdr payload : List Byte) : List Byte :=
  let pad := (4 - payload.length % 4) % 4
  let bth := beOf 1 op ++ beOf 1 (pad * 16) ++ beOf 2 0xFFFF ++ [0] ++ beOf 3 x.destQpn ++ beOf 1 (if ack then 128 else 0) ++ beOf 3 psn
  let body := bth ++ hdr ++ payload ++ List.replicate pad 0
  let v4 := decide (x.peerIp < 2 ^ 32)
  let udp := beOf 2 (Config.flowHash [x.peerIp, x.localIp, x.destQpn]) ++ beOf 2 4791 ++ beOf 2 (8 + body.length + 4) ++ [0, 0]
  let n := 8 + body.length + 4
  let ip :=
    if v4 then
      let h := [0x45#8] ++ beOf 1 (x.dscp * 4 + 2) ++ beOf 2 (20 + n) ++ [0, 0, 0x40, 0, 64, 17, 0, 0] ++
        leBytes 4 x.localIp ++ leBytes 4 x.peerIp
      splice h 10 (beOf 2 (onesCheck h))
    else beOf 4 (6 * 2 ^ 28 + (x.dscp * 4 + 2) * 2 ^ 20) ++ beOf 2 n ++ [17, 64] ++ leBytes 16 x.localIp ++ leBytes 16 x.peerIp
  let pkt := ip ++ udp ++ body
  let eth := leBytes 6 (bits x.l2 47 0) ++ beOf 6 (Config.portMac x.port) ++
    (if x.l2.testBit 63 then beOf 2 0x8100 ++ beOf 2 (bits x.l2 62 60 * 2 ^ 13 + bits x.l2 59 48) else []) ++
    beOf 2 (if v4 then 0x0800 else 0x86DD)
  eth ++ pkt ++ leBytes 4 (icrcOf (if v4 then 4 else 6) ip.length pkt)

/-- A packet goes to the context's egress queue; one dropped there is recovered by retransmission (R563). -/
def State.roceOut (s : State) (c : Nat) (op psn : Nat) (ack : Bool) (hdr payload : List Byte) : State :=
  let x := s.ctx c
  (s.egPut x.port x.egressQ (rocePacket x op psn ack hdr payload)).1

def Ctx.mtu (x : Ctx) : Nat := 1024 * 2 ^ x.pmtu

/-- Packets of a payload at the path MTU; an empty one is one packet. -/
def packetsOf (mtu n : Nat) : Nat := max 1 ((n + mtu - 1) / mtu)

/-! ### The requester (R564, R566) -/

/-- OPs of RoCE descriptors. -/
def rSend : Nat := 0x20
def rWrite : Nat := 0x21
def rRead : Nat := 0x22
def rWriteImm : Nat := 0x23

/-- Packet `k` of a message is sent. -/
def State.roceSendPacket (s : State) (c : Nat) (m : Msg) (o : COp) (k : Nat) : State :=
  let x := s.ctx c
  let n := m.space
  let psn := psnAdd m.id k
  let reth := rethBytes m.remote (leAt o.aux 0 4) m.len
  let last := decide (k + 1 = n)
  let part := slice m.wire (k * x.mtu) x.mtu
  if m.opcode = rRead then if k = 0 then s.roceOut c opReadReq psn true reth [] else s
  else
    let base := if m.opcode = rSend then 0 else 6
    let imm := m.opcode = rWriteImm && last
    let op := if n = 1 then base + 4 + ofBool imm else if k = 0 then base else if last then base + 2 + ofBool imm else base + 1
    let hdr := (if m.opcode ≠ rSend ∧ k = 0 then reth else []) ++ (if imm then beOf 4 (leAt o.aux 4 4) else [])
    s.roceOut c op psn last hdr part

/-- Packets of a message from PSN `from_` on are sent. -/
def State.roceSendFrom (s : State) (c : Nat) (m : Msg) (from_ : Nat) : State :=
  match Tab.find? (s.ctx c).ops m.opNo with
  | none => s
  | some o =>
    (List.range (if m.opcode = rRead then 1 else m.space)).foldl (fun s k =>
      if m.opcode = rRead ∨ psnGe (psnAdd m.id k) from_ then s.roceSendPacket c m o k else s) s

/-- A RoCE descriptor sends its message (R566). -/
def State.roceStart (s : State) (c op : Nat) : State :=
  match s.headDesc c op with
  | none => s
  | some (i, d) =>
    let x := s.ctx c
    if x.typ ≠ 1 ∨ x.maxOut ≤ x.msgs.length ∨ c ∉ s.gma.cache then s
    else
      let len := bits d 63 32
      let va := if op = rSend then 0 else bits d 191 128
      let o := { descOp i d with sent := len, e2e := x.e2e, aux := leBytes 4 (bits d 287 256) ++ leBytes 4 (bits d 351 320) }
      let n := x.nextOp
      let s := (s.popDesc c).modCtx c (fun x => { x with ops := Tab.set x.ops n o, nextOp := n + 1 })
      let (s, bs, f) := if op = rRead then (s, [], none) else s.dmaRead (s.ctxMaster c) (bits d 127 64) len
      match f with
      | some g => s.failOp c n ceLocalFault va false (match g with | .ue _ => true | _ => false)
      | none =>
        let (s, w) := if op = rRead ∨ !x.e2e then (s, some bs) else s.e2eSeal x.keyPage s.ownModule x.destQpn va bs
        match w with
        | none => s.failOp c n ceLocalFault va false false
        | some w =>
          let total := if op = rRead then (if x.e2e then len + 48 else len) else w.length
          let m : Msg := { id := x.psnSend, opNo := n, opcode := op, pos := 0, localAddr := bits d 127 64, remote := va, len := len
                           space := packetsOf x.mtu total, repeats := 0, resends := 0, bitmap := 0, wire := w, busy := [] }
          let s := s.modCtx c (fun x => { x with
            msgs := x.msgs ++ [m], psnSend := psnAdd x.psnSend m.space
            psnAck := if x.msgs = [] then m.id else x.psnAck, retries := if x.msgs = [] then x.retryCnt else x.retries })
          s.roceSendFrom c m m.id

/-- Messages covered by an acknowledgement up to `psn` complete, in order; a READ completes by its responses alone. -/
def State.ackMsgs (c psn : Nat) : Nat → State → State
  | 0, s => s
  | k + 1, s =>
    match (s.ctx c).msgs with
    | [] => s
    | m :: _ =>
      if m.opcode ≠ rRead ∧ psnGe psn (psnAdd m.id (m.space - 1)) then State.ackMsgs c psn k (s.endMsgOk c m) else s

/-- Everything up to `psn` is acknowledged: retries start anew (R564, R566). -/
def State.ackTo (s : State) (c psn : Nat) : State :=
  let s := State.ackMsgs c psn (s.ctx c).msgs.length s
  s.modCtx c (fun x =>
    let next := match x.msgs with
      | [] => x.psnSend
      | m :: _ => if m.opcode = rRead then m.id else if psnGe (psnAdd psn 1) m.id then psnAdd psn 1 else m.id
    { x with psnAck := next, retries := x.retryCnt })

/-- Go-back-N: every unacknowledged packet is sent again from `psn`. -/
def State.goBack (s : State) (c psn : Nat) : State :=
  let s := s.modCtx c (fun x => { x with
    msgs := x.msgs.map (fun m => if m.opcode = rRead then { m with bitmap := 0, wire := [] } else m) })
  (s.ctx c).msgs.foldl (fun s m => s.roceSendFrom c m psn) s

/-- The outstanding message that holds a PSN. -/
def Ctx.msgAt (x : Ctx) (psn : Nat) : Option Msg := x.msgs.find? (fun m => decide (psnDiff psn m.id < m.space))

/-- An ACK or NAK: AETH's syndrome tells an ACK, an RNR NAK, or a NAK and its code. -/
def State.roceAck (s : State) (c psn syn : Nat) : State :=
  let x := s.ctx c
  if psnDiff x.psnSend x.psnAck ≤ psnDiff psn x.psnAck then s
  else if syn / 32 = 0 then s.ackTo c psn
  else
    let s := s.ackTo c (psnAdd psn (psnMod - 1))
    if syn / 32 = 1 then s
    else if syn % 32 = 0 then s.goBack c psn
    else match (s.ctx c).msgAt psn with
      | none => s
      | some m =>
        if syn % 32 = 2 then s.endMsgFail c m ceWindow m.remote true
        else s.endMsgFail c m (if syn % 32 = 1 then ceBadPacket else ceMemError) m.remote false

/-- A read response is placed in its order; the last one completes the READ (R566). -/
def State.readRsp (s : State) (c psn : Nat) (pay : List Byte) : State :=
  let x := s.ctx c
  match x.msgs.find? (fun m => decide (m.opcode = rRead ∧ psnDiff psn m.id < m.space)) with
  | none => s
  | some m =>
    let k := psnDiff psn m.id
    let total := if x.e2e then m.len + 48 else m.len
    if k ≠ m.bitmap ∨ pay.length ≠ min x.mtu (total - k * x.mtu) then s
    else
      let s := s.ackTo c (psnAdd m.id (psnMod - 1))
      let m := { m with bitmap := k + 1, wire := if x.e2e then m.wire ++ pay else [] }
      let s := s.setMsg c m
      if x.e2e then
        if k + 1 < m.space then s
        else match s.e2eOpen x.keyPage x.peerModule c m.remote m.wire with
          | none =>
            let s := (s.dmaWrite (s.ctxMaster c) m.localAddr (List.replicate m.len 0)).1
            ((s.count F.CIP_E2E_TAG_CNT).raise blkCip 19).endMsgFail c m ceBadPacket m.remote false
          | some bs =>
            let (s, f) := s.dmaWrite (s.ctxMaster c) m.localAddr bs
            if f.isSome then s.endMsgFail c m ceLocalFault m.remote false else s.endMsgOk c m
      else
        let (s, f) := s.dmaWrite (s.ctxMaster c) (m.localAddr + k * x.mtu) pay
        if f.isSome then s.endMsgFail c m ceLocalFault m.remote false
        else if k + 1 < m.space then s
        else
          let s := s.endMsgOk c m
          s.modCtx c (fun x => { x with
            psnAck := (match x.msgs with | [] => x.psnSend | m :: _ => m.id), retries := x.retryCnt })

/-- The retransmission timeout: go-back-N, or ERROR with TIMEOUT once the retries are exhausted (R564, R566). -/
def State.roceTimeout (s : State) (c : Nat) : State :=
  let x := s.ctx c
  match x.msgs with
  | [] => s
  | m :: _ =>
    if x.typ ≠ 1 then s
    else if x.retries = 0 then s.endMsgFail c m ceTimeout m.remote false
    else (s.modCtx c (fun x => { x with retries := x.retries - 1 })).goBack c x.psnAck

/-! ### Congestion (R568) -/

def State.cnpIn (s : State) (c : Nat) : State := s.modCtx c (fun x => { x with rate := max 100 (x.rate / 2) })

/-- RATE rises by 1 % of the port rate, up to it. -/
def State.rateUp (s : State) (c : Nat) : State :=
  if (s.ctx c).typ ≠ 1 then s
  else s.modCtx c (fun x => { x with rate := min (s.portRate x.port) (x.rate + s.portRate x.port / 100) })

/-- A CE mark causes one CNP, at most once per 50 µs. -/
def State.sendCnp (s : State) (c : Nat) : State :=
  let x := s.ctx c
  if x.cnpAt ≠ 0 ∧ s.time < x.cnpAt - 1 + 50 then s
  else (s.roceOut c opCnp 0 false [] (List.replicate 16 0)).modCtx c (fun x => { x with cnpAt := s.time + 1 })

/-! ### Inbound packets (R564, R567, R568) -/

/-- A RoCE packet of a frame: source address, CE mark, opcode, destination QP, AckReq, PSN, and the bytes between BTH and
ICRC without padding; and whether the ICRC is good. -/
structure RPkt where
  src : Nat
  ce : Bool
  op : Nat
  qp : Nat
  ack : Bool
  psn : Nat
  body : List Byte
  icrc : Bool
deriving DecidableEq, Repr

/-- The innermost BTH of a frame. -/
def rpkt (bs : List Byte) (vx : Nat) : Option RPkt :=
  match parseFrame bs vx with
  | none => none
  | some q =>
    let l := q.inner.getD q.outer
    match l.ip, l.bth with
    | some i, some b =>
      if i.stop < b + 16 then none
      else
        let pad := beAt bs (b + 1) 1 / 16 % 4
        let pkt := slice bs i.off (i.stop - i.off)
        some
          { src := ofLe i.src, ce := decide ((if i.ver = 4 then beAt bs (i.off + 1) 1 else beAt bs i.off 2 / 16) % 4 = 3)
            op := beAt bs b 1, qp := beAt bs (b + 5) 3, ack := decide (128 ≤ beAt bs (b + 8) 1), psn := beAt bs (b + 9) 3
            body := slice bs (b + 12) (i.stop - 4 - pad - (b + 12))
            icrc := decide (icrcOf i.ver (i.fin - i.off) (pkt.take (pkt.length - 4)) = leAt pkt (pkt.length - 4) 4) }
    | _, _ => none

/-- An acknowledgement or refusal is sent. -/
def State.roceAnswer (s : State) (c psn syn : Nat) : State :=
  s.roceOut c opAck psn false (aethBytes syn (s.ctx c).msn) []

def synAck : Nat := 0x1F
def nakGap : Nat := 0x60
def nakInvalid : Nat := 0x61
def nakAccess : Nat := 0x62
def nakOperational : Nat := 0x63

/-- A refusal of the request in progress: nothing of it goes on. -/
def State.nakNow (s : State) (c psn syn : Nat) : State :=
  (s.roceAnswer c psn syn).modCtx c (fun x => { x with rxOp := 0, rxBuf := [], rxLen := 0 })

/-- A range that the peer may not reach: counted, logged, refused (R567). -/
def State.roceViolation (s : State) (c psn va op : Nat) : State :=
  let s := (s.count (F.GMA_CNT 5)).recordViol ⟨true, c, 0, ceWindow, op, 0, va, s.modTime⟩
  (s.raise blkGma 16 ⟨.remoteQueue, c, false⟩ (va % 2 ^ 32) (c % 2 ^ 32)).nakNow c psn nakAccess

/-- A range of the region that the permission and the key allow. -/
def Ctx.regionOk (x : Ctx) (allowed : Bool) (va rkey len : Nat) : Bool :=
  allowed && decide (rkey = x.rkey ∧ va + len ≤ x.regionLen)

/-- The last packet of a message: it is answered, MSN counts it, and a SEND counts in ARRIVE_CNT (R567). -/
def State.rxDone (s : State) (c psn : Nat) (ack : Bool) : State :=
  let s := s.modCtx c (fun x => { x with
    msn := psnAdd x.msn 1, rxOp := 0, rxBuf := [], rxLen := 0
    arriveCnt := if x.rxOp = 1 then (x.arriveCnt + 1) % 2 ^ 48 else x.arriveCnt })
  if ack then s.roceAnswer c psn synAck else s

/-- A message encrypted end to end is opened at its end: placed, or its range zeroed and the request refused (R566,
R567). -/
def State.rxOpen (s : State) (c psn : Nat) (ack : Bool) : State :=
  let x := s.ctx c
  let va := if x.rxOp = 1 then 0 else x.rxAddr - x.regionBase
  match s.e2eOpen x.keyPage x.peerModule c va x.rxBuf with
  | some bs =>
    let (s, f) := s.dmaWrite (s.ctxMaster c) x.rxAddr bs
    if f.isSome then s.nakNow c psn nakOperational else s.rxDone c psn ack
  | none =>
    let n := min (x.rxBuf.length - 48) x.rxTotal
    let s := (s.dmaWrite (s.ctxMaster c) x.rxAddr (List.replicate n 0)).1
    ((s.count F.CIP_E2E_TAG_CNT).raise blkCip 19).nakNow c psn nakInvalid

/-- A packet of a SEND or WRITE is placed; the last one ends the message. -/
def State.rxPart (s : State) (c psn : Nat) (last ack : Bool) (pay : List Byte) : State :=
  let x := s.ctx c
  let n := x.rxLen + pay.length
  let limit := x.rxTotal + if x.e2e then 48 else 0
  if limit < n ∨ (last ∧ x.rxOp = 2 ∧ n ≠ limit) ∨ (!last ∧ pay.length ≠ x.mtu) then s.nakNow c psn nakInvalid
  else
    let (s, f) := if x.e2e then (s.modCtx c (fun x => { x with rxBuf := x.rxBuf ++ pay }), none)
      else s.dmaWrite (s.ctxMaster c) (x.rxAddr + x.rxLen) pay
    if f.isSome then s.nakNow c psn nakOperational
    else
      let s := s.modCtx c (fun x => { x with rxLen := n, psnRecv := psnAdd psn 1, gapNak := false })
      if !last then if ack then s.roceAnswer c psn synAck else s
      else if x.e2e then s.rxOpen c psn ack
      else s.rxDone c psn ack

/-- Every receive slot is unconsumed (R567). -/
def Ctx.noSlot (x : Ctx) : Bool := decide (2 ^ x.recvLog2 ≤ (x.arriveCnt + 2 ^ 32 - x.recvConsumed % 2 ^ 32) % 2 ^ 32)

/-- The parts of a SEND or WRITE that an opcode names: 1 SEND or 2 WRITE; first; last; immediate. -/
def roceForm (op : Nat) : Option (Nat × Bool × Bool × Bool) :=
  match op with
  | 0 => some (1, true, false, false) | 1 => some (1, false, false, false) | 2 => some (1, false, true, false)
  | 3 => some (1, false, true, true) | 4 => some (1, true, true, false) | 5 => some (1, true, true, true)
  | 6 => some (2, true, false, false) | 7 => some (2, false, false, false) | 8 => some (2, false, true, false)
  | 9 => some (2, false, true, true) | 0xA => some (2, true, true, false) | 0xB => some (2, true, true, true)
  | _ => none

/-- The responses to a READ, from memory (R567). -/
def State.readServe (s : State) (c psn va len : Nat) : State :=
  let x := s.ctx c
  let (s, bs, f) := s.dmaRead (s.ctxMaster c) (x.regionBase + va) len
  if f.isSome then s.nakNow c psn nakOperational
  else
    let (s, w) := if x.e2e then s.e2eSeal x.keyPage s.ownModule x.destQpn va bs else (s, some bs)
    match w with
    | none => s.nakNow c psn nakOperational
    | some w =>
      let n := packetsOf x.mtu w.length
      (List.range n).foldl (fun s k =>
        let op := if n = 1 then 0x10 else if k = 0 then 0x0D else if k + 1 = n then 0x0F else 0x0E
        s.roceOut c op (psnAdd psn k) false (if op = 0x0E then [] else aethBytes synAck (s.ctx c).msn) (slice w (k * x.mtu) x.mtu)) s

/-- A READ request: its range is checked, it takes as many PSNs as it has responses, and it is served. -/
def State.readIn (s : State) (c : Nat) (q : RPkt) (dup : Bool) : State :=
  let x := s.ctx c
  let va := beAt q.body 0 8
  let len := beAt q.body 12 4
  if q.body.length ≠ 16 ∨ 2 ^ 31 < len then s.nakNow c q.psn nakInvalid
  else if !x.regionOk x.remRead va (beAt q.body 8 4) len then s.roceViolation c q.psn va rRead
  else
    let n := packetsOf x.mtu (len + if x.e2e then 48 else 0)
    let s := if dup then s else s.modCtx c (fun x => { x with psnRecv := psnAdd q.psn n, msn := psnAdd x.msn 1, gapNak := false })
    s.readServe c q.psn va len

/-- A SEND or WRITE packet at the expected PSN. -/
def State.sendIn (s : State) (c : Nat) (q : RPkt) (kind : Nat) (first last imm : Bool) : State :=
  let x := s.ctx c
  let immLen := if imm then 4 else 0
  if first ≠ decide (x.rxOp = 0) ∨ (!first ∧ x.rxOp ≠ kind) then s.nakNow c q.psn nakInvalid
  else if !first then s.rxPart c q.psn last q.ack (q.body.drop immLen)
  else if kind = 1 then
    if x.noSlot then (s.drew.roceAnswer c q.psn (0x20 + s.freeNat % 32))
    else
      let a := x.recvBase + x.arriveCnt % 2 ^ x.recvLog2 * 2 ^ x.slotLog2
      let s := s.modCtx c (fun x => { x with rxOp := 1, rxAddr := a, rxLen := 0, rxTotal := 2 ^ x.slotLog2, rxBuf := [] })
      s.rxPart c q.psn last q.ack (q.body.drop immLen)
  else
    let va := beAt q.body 0 8
    let len := beAt q.body 12 4
    if q.body.length < 16 then s.nakNow c q.psn nakInvalid
    else if !x.regionOk x.remWrite va (beAt q.body 8 4) len then s.roceViolation c q.psn va rWrite
    else
      let s := s.modCtx c (fun x => { x with rxOp := 2, rxAddr := x.regionBase + va, rxLen := 0, rxTotal := len, rxBuf := [] })
      s.rxPart c q.psn last q.ack (q.body.drop (16 + immLen))

/-- A request packet: a gap is refused once, a repeat is answered again, the expected one is handled (R564, R567). -/
def State.requestIn (s : State) (c : Nat) (q : RPkt) : State :=
  let x := s.ctx c
  if x.st ≠ .ready ∧ x.st ≠ .waiting then s.roceAnswer c q.psn nakInvalid
  else if q.psn ≠ x.psnRecv then
    if psnGe q.psn x.psnRecv then
      if x.gapNak then s else (s.roceAnswer c x.psnRecv nakGap).modCtx c (fun x => { x with gapNak := true })
    else if q.op = opReadReq then s.readIn c q true
    else s.roceAnswer c (psnAdd x.psnRecv (psnMod - 1)) synAck
  else if q.op = opReadReq then s.readIn c q false
  else match roceForm q.op with
    | some (kind, first, last, imm) => s.sendIn c q kind first last imm
    | none => s.nakNow c q.psn nakInvalid

/-- The kinds of packet: request or read response, acknowledgement, congestion notice. -/
inductive RKind where
  | data | ack | cnp
deriving DecidableEq, Repr

def RPkt.kind (q : RPkt) : RKind := if q.op = opAck then .ack else if q.op = opCnp then .cnp else .data

/-- A packet for a context that is present. -/
def State.roceNow (s : State) (c : Nat) (q : RPkt) : State :=
  let s := match q.kind with
    | .cnp => s.cnpIn c
    | .ack => if s.acceptsRsp c then s.roceAck c q.psn (beAt q.body 0 1) else s
    | .data =>
      if 0x0D ≤ q.op ∧ q.op ≤ 0x10 then
        if s.acceptsRsp c then s.readRsp c q.psn (if q.op = 0x0E then q.body else q.body.drop 4) else s
      else s.requestIn c q
  if q.ce then s.sendCnp c else s

/-- A RoCE packet from a front port: ICRC, the context its BTH names, the hold shelf where that is not cached, and the
peer's address and QP (R564, R568). -/
def State.roceIn (s : State) (p srcQp : Nat) (kind : RKind) (bs : List Byte) : State :=
  match rpkt bs (s.fld (F.FPP_PORT_CFG_VXLAN_PORT p)) with
  | none => s
  | some q =>
    let c := q.qp % 2 ^ 18
    if q.kind ≠ kind then s
    else if !q.icrc then s.count (F.FPP_FCS_ERR p)
    else if q.qp / 2 ^ 18 ≠ 0 then s.count (F.FPP_ROCE_BAD_QP p)
    else if c ∉ s.gma.cache then
      let s := s.startFetch c
      let n := roceFlits bs
      if s.fld (holdFld p) < n then s.count (F.FPP_HOLD_DROP p)
      else (s.setFld (holdFld p) (s.fld (holdFld p) - n)).modCtx c (fun x => { x with roceHold := x.roceHold ++ [(p, bs)] })
    else
      let s := s.touch c
      let x := s.ctx c
      if x.st = .free ∨ x.typ ≠ 1 ∨ x.peerIp ≠ q.src ∨ x.destQpn ≠ srcQp then s.count (F.FPP_ROCE_BAD_QP p) else s.roceNow c q

/-! ### The commands -/

/-- ROCE_SEND (R566). -/
def execRoceSend (c : Nat) (s : State) : Host.Outcome State Fault Refusal := .next (s.roceStart c rSend)
/-- ROCE_WRITE (R566). -/
def execRoceWrite (c : Nat) (s : State) : Host.Outcome State Fault Refusal := .next (s.roceStart c rWrite)
/-- ROCE_READ (R566). -/
def execRoceRead (c : Nat) (s : State) : Host.Outcome State Fault Refusal := .next (s.roceStart c rRead)
/-- ROCE_WRITE_IMM (R566). -/
def execRoceWriteImm (c : Nat) (s : State) : Host.Outcome State Fault Refusal := .next (s.roceStart c rWriteImm)
/-- ROCE_PACKET_RECEIVE (R567). -/
def execRocePacketReceive (p srcQp : Nat) (bs : List Byte) (s : State) : Host.Outcome State Fault Refusal :=
  .next (s.roceIn p srcQp .data bs)
/-- ROCE_ACK_RECEIVE (R566). -/
def execRoceAckReceive (p srcQp : Nat) (bs : List Byte) (s : State) : Host.Outcome State Fault Refusal :=
  .next (s.roceIn p srcQp .ack bs)
/-- CNP_RECEIVE (R568). -/
def execCnpReceive (p srcQp : Nat) (bs : List Byte) (s : State) : Host.Outcome State Fault Refusal :=
  .next (s.roceIn p srcQp .cnp bs)
/-- ROCE_RETRY_TIMEOUT (R564). -/
def execRoceRetryTimeout (c : Nat) (s : State) : Host.Outcome State Fault Refusal := .next (s.roceTimeout c)
/-- ROCE_RATE_INCREASE (R568). -/
def execRoceRateIncrease (c : Nat) (s : State) : Host.Outcome State Fault Refusal := .next (s.rateUp c)
/-- ROCE_RECEIVE_DOORBELL (R567). -/
def execRoceReceiveDoorbell (m : Master) (c v : Nat) (s : State) : Host.Outcome State Fault Refusal := .next (s.recvDoorbell m c v)

end Sys2Proof.Machine
end

