-- ==== Sys2Proof/Machine/Dispatch.lean ====
section
/-!
DEFINITION. One arm per command: the call of its meaning.
-/
namespace Sys2Proof.Machine

def exec (i : Instr) (s : State) : Host.Outcome State Fault Refusal :=
  match i with
  | .registerWrite m off width v => Sys2Proof.Machine.execRegisterWrite m off width v s
  | .counterPairLoRead m off => Sys2Proof.Machine.execCounterPairLoRead m off s
  | .bitAliasWrite m addr v => Sys2Proof.Machine.execBitAliasWrite m addr v s
  | .blockEnable m b => Sys2Proof.Machine.execBlockEnable m b s
  | .blockDisable m b => Sys2Proof.Machine.execBlockDisable m b s
  | .blockLock m b => Sys2Proof.Machine.execBlockLock m b s
  | .blockDrainDone b => Sys2Proof.Machine.execBlockDrainDone b s
  | .cfgCrcEnablePassDone b => Sys2Proof.Machine.execCfgCrcEnablePassDone b s
  | .cfgCrcPass b => Sys2Proof.Machine.execCfgCrcPass b s
  | .tpush c => Sys2Proof.Machine.execTpush c s
  | .tpushnb c => Sys2Proof.Machine.execTpushnb c s
  | .tpushs c => Sys2Proof.Machine.execTpushs c s
  | .tpushsnb c => Sys2Proof.Machine.execTpushsnb c s
  | .pushStallRelease c => Sys2Proof.Machine.execPushStallRelease c s
  | .tstw c imm => Sys2Proof.Machine.execTstw c imm s
  | .tldw c imm => Sys2Proof.Machine.execTldw c imm s
  | .tsts c => Sys2Proof.Machine.execTsts c s
  | .tsig c => Sys2Proof.Machine.execTsig c s
  | .twait c => Sys2Proof.Machine.execTwait c s
  | .twaitRelease c => Sys2Proof.Machine.execTwaitRelease c s
  | .tmeta c => Sys2Proof.Machine.execTmeta c s
  | .load t poison => Sys2Proof.Machine.execLoad t poison s
  | .mma t rise => Sys2Proof.Machine.execMma t rise s
  | .drain t => Sys2Proof.Machine.execDrain t s
  | .post t => Sys2Proof.Machine.execPost t s
  | .store t => Sys2Proof.Machine.execStore t s
  | .sync t => Sys2Proof.Machine.execSync t s
  | .syncConditionMet t => Sys2Proof.Machine.execSyncConditionMet t s
  | .syncTimeout t => Sys2Proof.Machine.execSyncTimeout t s
  | .phase t => Sys2Proof.Machine.execPhase t s
  | .scrub t => Sys2Proof.Machine.execScrub t s
  | .cmdComplete t slot fault => Sys2Proof.Machine.execCmdComplete t slot fault s
  | .drainBankReadDone t => Sys2Proof.Machine.execDrainBankReadDone t s
  | .tileRetry m t => Sys2Proof.Machine.execTileRetry m t s
  | .tileSkip m t => Sys2Proof.Machine.execTileSkip m t s
  | .tileFlush m t => Sys2Proof.Machine.execTileFlush m t s
  | .tileReset m t => Sys2Proof.Machine.execTileReset m t s
  | .tileResetDone t => Sys2Proof.Machine.execTileResetDone t s
  | .tileCalmRequest t => Sys2Proof.Machine.execTileCalmRequest t s
  | .tileClockStopped t => Sys2Proof.Machine.execTileClockStopped t s
  | .tileCalmRelease t rise => Sys2Proof.Machine.execTileCalmRelease t rise s
  | .nop c => Sys2Proof.Machine.execNop c s
  | .drop c => Sys2Proof.Machine.execDrop c s
  | .dup c => Sys2Proof.Machine.execDup c s
  | .swap c => Sys2Proof.Machine.execSwap c s
  | .over c => Sys2Proof.Machine.execOver c s
  | .rot c => Sys2Proof.Machine.execRot c s
  | .nip c => Sys2Proof.Machine.execNip c s
  | .tuck c => Sys2Proof.Machine.execTuck c s
  | .drop2 c => Sys2Proof.Machine.execDrop2 c s
  | .dup2 c => Sys2Proof.Machine.execDup2 c s
  | .pick c => Sys2Proof.Machine.execPick c s
  | .depth c => Sys2Proof.Machine.execDepth c s
  | .tor c => Sys2Proof.Machine.execTor c s
  | .fromr c => Sys2Proof.Machine.execFromr c s
  | .rfetch c => Sys2Proof.Machine.execRfetch c s
  | .rdrop c => Sys2Proof.Machine.execRdrop c s
  | .lit8 c imm => Sys2Proof.Machine.execLit8 c imm s
  | .lit16 c imm => Sys2Proof.Machine.execLit16 c imm s
  | .lit32 c imm => Sys2Proof.Machine.execLit32 c imm s
  | .lit64 c imm => Sys2Proof.Machine.execLit64 c imm s
  | .addi8 c imm => Sys2Proof.Machine.execAddi8 c imm s
  | .addi32 c imm => Sys2Proof.Machine.execAddi32 c imm s
  | .litu32 c imm => Sys2Proof.Machine.execLitu32 c imm s
  | .picki c imm => Sys2Proof.Machine.execPicki c imm s
  | .rsp c imm => Sys2Proof.Machine.execRsp c imm s
  | .wsp c imm => Sys2Proof.Machine.execWsp c imm s
  | .spill c => Sys2Proof.Machine.execSpill c s
  | .add c => Sys2Proof.Machine.execAdd c s
  | .sub c => Sys2Proof.Machine.execSub c s
  | .and c => Sys2Proof.Machine.execAnd c s
  | .or c => Sys2Proof.Machine.execOr c s
  | .xor c => Sys2Proof.Machine.execXor c s
  | .shl c => Sys2Proof.Machine.execShl c s
  | .shr c => Sys2Proof.Machine.execShr c s
  | .sar c => Sys2Proof.Machine.execSar c s
  | .slt c => Sys2Proof.Machine.execSlt c s
  | .sltu c => Sys2Proof.Machine.execSltu c s
  | .seq c => Sys2Proof.Machine.execSeq c s
  | .min c => Sys2Proof.Machine.execMin c s
  | .max c => Sys2Proof.Machine.execMax c s
  | .minu c => Sys2Proof.Machine.execMinu c s
  | .maxu c => Sys2Proof.Machine.execMaxu c s
  | .not c => Sys2Proof.Machine.execNot c s
  | .neg c => Sys2Proof.Machine.execNeg c s
  | .inc c => Sys2Proof.Machine.execInc c s
  | .dec c => Sys2Proof.Machine.execDec c s
  | .clz c => Sys2Proof.Machine.execClz c s
  | .ctz c => Sys2Proof.Machine.execCtz c s
  | .popc c => Sys2Proof.Machine.execPopc c s
  | .sext8 c => Sys2Proof.Machine.execSext8 c s
  | .sext16 c => Sys2Proof.Machine.execSext16 c s
  | .sext32 c => Sys2Proof.Machine.execSext32 c s
  | .zext8 c => Sys2Proof.Machine.execZext8 c s
  | .zext16 c => Sys2Proof.Machine.execZext16 c s
  | .zext32 c => Sys2Proof.Machine.execZext32 c s
  | .bswap c => Sys2Proof.Machine.execBswap c s
  | .zeq c => Sys2Proof.Machine.execZeq c s
  | .shli c imm => Sys2Proof.Machine.execShli c imm s
  | .shri c imm => Sys2Proof.Machine.execShri c imm s
  | .sari c imm => Sys2Proof.Machine.execSari c imm s
  | .andi32 c imm => Sys2Proof.Machine.execAndi32 c imm s
  | .beq c long imm => Sys2Proof.Machine.execBeq c long imm s
  | .bne c long imm => Sys2Proof.Machine.execBne c long imm s
  | .blt c long imm => Sys2Proof.Machine.execBlt c long imm s
  | .bge c long imm => Sys2Proof.Machine.execBge c long imm s
  | .bltu c long imm => Sys2Proof.Machine.execBltu c long imm s
  | .bgeu c long imm => Sys2Proof.Machine.execBgeu c long imm s
  | .bz c long imm => Sys2Proof.Machine.execBz c long imm s
  | .bnz c long imm => Sys2Proof.Machine.execBnz c long imm s
  | .jmp c imm => Sys2Proof.Machine.execJmp c imm s
  | .jmpL c imm => Sys2Proof.Machine.execJmpL c imm s
  | .call c imm => Sys2Proof.Machine.execCall c imm s
  | .callL c imm => Sys2Proof.Machine.execCallL c imm s
  | .jmpi c => Sys2Proof.Machine.execJmpi c s
  | .calli c => Sys2Proof.Machine.execCalli c s
  | .ret c => Sys2Proof.Machine.execRet c s
  | .rte c => Sys2Proof.Machine.execRte c s
  | .wfe c => Sys2Proof.Machine.execWfe c s
  | .wfeWake c => Sys2Proof.Machine.execWfeWake c s
  | .brk c imm => Sys2Proof.Machine.execBrk c imm s
  | .svc c imm => Sys2Proof.Machine.execSvc c imm s
  | .reservedOpcode c op => Sys2Proof.Machine.execReservedOpcode c op s
  | .interruptTaken c => Sys2Proof.Machine.execInterruptTaken c s
  | .mul c => Sys2Proof.Machine.execMul c s
  | .mulu c => Sys2Proof.Machine.execMulu c s
  | .mulResult c => Sys2Proof.Machine.execMulResult c s
  | .div c => Sys2Proof.Machine.execDiv c s
  | .divu c => Sys2Proof.Machine.execDivu c s
  | .divResult c => Sys2Proof.Machine.execDivResult c s
  | .ld8u c => Sys2Proof.Machine.execLd8u c s
  | .ld8s c => Sys2Proof.Machine.execLd8s c s
  | .ld16u c => Sys2Proof.Machine.execLd16u c s
  | .ld16s c => Sys2Proof.Machine.execLd16s c s
  | .ld32u c => Sys2Proof.Machine.execLd32u c s
  | .ld32s c => Sys2Proof.Machine.execLd32s c s
  | .ld64 c => Sys2Proof.Machine.execLd64 c s
  | .st8 c => Sys2Proof.Machine.execSt8 c s
  | .st16 c => Sys2Proof.Machine.execSt16 c s
  | .st32 c => Sys2Proof.Machine.execSt32 c s
  | .st64 c => Sys2Proof.Machine.execSt64 c s
  | .ldo64 c imm => Sys2Proof.Machine.execLdo64 c imm s
  | .sto64 c imm => Sys2Proof.Machine.execSto64 c imm s
  | .cas64 c => Sys2Proof.Machine.execCas64 c s
  | .amoadd64 c => Sys2Proof.Machine.execAmoadd64 c s
  | .fence c imm => Sys2Proof.Machine.execFence c imm s
  | .storePerformed c => Sys2Proof.Machine.execStorePerformed c s
  | .compatMove c w w1 w2 => Sys2Proof.Machine.execCompatMove c w w1 w2 s
  | .compatAluTrigger c w w1 w2 => Sys2Proof.Machine.execCompatAluTrigger c w w1 w2 s
  | .compatMulTrigger c w w1 w2 => Sys2Proof.Machine.execCompatMulTrigger c w w1 w2 s
  | .compatLoadTrigger c w w1 w2 => Sys2Proof.Machine.execCompatLoadTrigger c w w1 w2 s
  | .compatStoreTrigger c w w1 w2 => Sys2Proof.Machine.execCompatStoreTrigger c w w1 w2 s
  | .compatJump c w w1 w2 => Sys2Proof.Machine.execCompatJump c w w1 w2 s
  | .compatCondJump c w w1 w2 => Sys2Proof.Machine.execCompatCondJump c w w1 w2 s
  | .compatCall c w w1 w2 => Sys2Proof.Machine.execCompatCall c w w1 w2 s
  | .compatReturn c w w1 w2 => Sys2Proof.Machine.execCompatReturn c w w1 w2 s
  | .compatTcmd c w w1 w2 => Sys2Proof.Machine.execCompatTcmd c w w1 w2 s
  | .lxcRestart m t => Sys2Proof.Machine.execLxcRestart m t s
  | .lxcStep m t => Sys2Proof.Machine.execLxcStep m t s
  | .lxcHalt m t on => Sys2Proof.Machine.execLxcHalt m t on s
  | .lxcDoorbellRing m t => Sys2Proof.Machine.execLxcDoorbellRing m t s
  | .hbcScrubGo m shelf inst => Sys2Proof.Machine.execHbcScrubGo m shelf inst s
  | .hbcScrubAbort m shelf inst => Sys2Proof.Machine.execHbcScrubAbort m shelf inst s
  | .scrubPassDone shelf inst => Sys2Proof.Machine.execScrubPassDone shelf inst s
  | .ceWindowStart shelf inst => Sys2Proof.Machine.execCeWindowStart shelf inst s
  | .hbmOdeccPoll inst count => Sys2Proof.Machine.execHbmOdeccPoll inst count s
  | .hbmRefresh inst celsius => Sys2Proof.Machine.execHbmRefresh inst celsius s
  | .hbmRowClose inst chan => Sys2Proof.Machine.execHbmRowClose inst chan s
  | .hbmWriteBatch inst => Sys2Proof.Machine.execHbmWriteBatch inst s
  | .detectProbe n => Sys2Proof.Machine.execDetectProbe n s
  | .partnerDetected n => Sys2Proof.Machine.execPartnerDetected n s
  | .noPartnerTimeout n => Sys2Proof.Machine.execNoPartnerTimeout n s
  | .trainFlit n offer refused => Sys2Proof.Machine.execTrainFlit n offer refused s
  | .negotiateDone n => Sys2Proof.Machine.execNegotiateDone n s
  | .equalisationResult n ok lanes => Sys2Proof.Machine.execEqualisationResult n ok lanes s
  | .keyxComplete n auth svn secret => Sys2Proof.Machine.execKeyxComplete n auth svn secret s
  | .lossOfLock n => Sys2Proof.Machine.execLossOfLock n s
  | .retrainBackoffExpiry n => Sys2Proof.Machine.execRetrainBackoffExpiry n s
  | .linkDisableDrainEnd n => Sys2Proof.Machine.execLinkDisableDrainEnd n s
  | .dataFlit n bs mismatch => Sys2Proof.Machine.execDataFlit n bs mismatch s
  | .idleFlit n bs => Sys2Proof.Machine.execIdleFlit n bs s
  | .tagFlit n bs => Sys2Proof.Machine.execTagFlit n bs s
  | .keySwitchFlit n bs => Sys2Proof.Machine.execKeySwitchFlit n bs s
  | .downFlit n bs => Sys2Proof.Machine.execDownFlit n bs s
  | .retryFlit n bs => Sys2Proof.Machine.execRetryFlit n bs s
  | .retryRepeat n => Sys2Proof.Machine.execRetryRepeat n s
  | .frameCloseTimer n => Sys2Proof.Machine.execFrameCloseTimer n s
  | .creditReturnTimer n => Sys2Proof.Machine.execCreditReturnTimer n s
  | .rekeyInterval n => Sys2Proof.Machine.execRekeyInterval n s
  | .rekeyForce m n => Sys2Proof.Machine.execRekeyForce m n s
  | .masterSecretExchange n ok secret => Sys2Proof.Machine.execMasterSecretExchange n ok secret s
  | .fecWindow n corr uncorr => Sys2Proof.Machine.execFecWindow n corr uncorr s
  | .packetRoute p arr mismatch => Sys2Proof.Machine.execPacketRoute p arr mismatch s
  | .unreachableTimeout => Sys2Proof.Machine.execUnreachableTimeout s
  | .routeSwap m => Sys2Proof.Machine.execRouteSwap m s
  | .routeSwapDone => Sys2Proof.Machine.execRouteSwapDone s
  | .farEddyRequest n => Sys2Proof.Machine.execFarEddyRequest n s
  | .faultHeldRelease n => Sys2Proof.Machine.execFaultHeldRelease n s
  | .ctxDoorbell m c v => Sys2Proof.Machine.execCtxDoorbell m c v s
  | .descFetch c => Sys2Proof.Machine.execDescFetch c s
  | .put c => Sys2Proof.Machine.execPut c s
  | .putFlag c => Sys2Proof.Machine.execPutFlag c s
  | .get c => Sys2Proof.Machine.execGet c s
  | .atomic c => Sys2Proof.Machine.execAtomic c s
  | .ledgerAdd c => Sys2Proof.Machine.execLedgerAdd c s
  | .queueWait c => Sys2Proof.Machine.execQueueWait c s
  | .queueNop c => Sys2Proof.Machine.execQueueNop c s
  | .reduce c => Sys2Proof.Machine.execReduce c s
  | .waitMet c => Sys2Proof.Machine.execWaitMet c s
  | .waitPoll c => Sys2Proof.Machine.execWaitPoll c s
  | .waitTimeout c => Sys2Proof.Machine.execWaitTimeout c s
  | .putReceive p half => Sys2Proof.Machine.execPutReceive p half s
  | .putFlagReceive p half => Sys2Proof.Machine.execPutFlagReceive p half s
  | .parkedFlagPlace c => Sys2Proof.Machine.execParkedFlagPlace c s
  | .getReqReceive p half => Sys2Proof.Machine.execGetReqReceive p half s
  | .atomicReqReceive p half => Sys2Proof.Machine.execAtomicReqReceive p half s
  | .ledgerAddReceive p half => Sys2Proof.Machine.execLedgerAddReceive p half s
  | .resendReqReceive p half => Sys2Proof.Machine.execResendReqReceive p half s
  | .getRspReceive p => Sys2Proof.Machine.execGetRspReceive p s
  | .atomicRspReceive p => Sys2Proof.Machine.execAtomicRspReceive p s
  | .completionReceive p => Sys2Proof.Machine.execCompletionReceive p s
  | .nackReceive p => Sys2Proof.Machine.execNackReceive p s
  | .trackerIdleTimeout c id => Sys2Proof.Machine.execTrackerIdleTimeout c id s
  | .msgTimeout c id => Sys2Proof.Machine.execMsgTimeout c id s
  | .busyResend c id => Sys2Proof.Machine.execBusyResend c id s
  | .ctxFetchDone c auth => Sys2Proof.Machine.execCtxFetchDone c auth s
  | .winEnable m w => Sys2Proof.Machine.execWinEnable m w s
  | .winDisable m w => Sys2Proof.Machine.execWinDisable m w s
  | .winCrcCheck w => Sys2Proof.Machine.execWinCrcCheck w s
  | .barArriveWrite m g => Sys2Proof.Machine.execBarArriveWrite m g s
  | .barGroupEnable m g on => Sys2Proof.Machine.execBarGroupEnable m g on s
  | .barrierArriveReceive n p => Sys2Proof.Machine.execBarrierArriveReceive n p s
  | .barrierReleaseReceive n p => Sys2Proof.Machine.execBarrierReleaseReceive n p s
  | .reduceUpReceive n p => Sys2Proof.Machine.execReduceUpReceive n p s
  | .reduceDownReceive n p => Sys2Proof.Machine.execReduceDownReceive n p s
  | .partitionEnable m p => Sys2Proof.Machine.execPartitionEnable m p s
  | .partitionDisable m p => Sys2Proof.Machine.execPartitionDisable m p s
  | .jobSlotEnable m j => Sys2Proof.Machine.execJobSlotEnable m j s
  | .jobSlotDisable m j => Sys2Proof.Machine.execJobSlotDisable m j s
  | .joinReceive src job count digest => Sys2Proof.Machine.execJoinReceive src job count digest s
  | .formedReceive src job => Sys2Proof.Machine.execFormedReceive src job s
  | .joinTimeout j => Sys2Proof.Machine.execJoinTimeout j s
  | .followSlowestWrite m j on => Sys2Proof.Machine.execFollowSlowestWrite m j on s
  | .paceNoticeReceive n p => Sys2Proof.Machine.execPaceNoticeReceive n p s
  | .throttleDetect j => Sys2Proof.Machine.execThrottleDetect j s
  | .paceNoticeRepeat j => Sys2Proof.Machine.execPaceNoticeRepeat j s
  | .throttleRelease j => Sys2Proof.Machine.execThrottleRelease j s
  | .stragglerExpiry j module => Sys2Proof.Machine.execStragglerExpiry j module s
  | .streamEnable m p => Sys2Proof.Machine.execStreamEnable m p s
  | .streamTick p => Sys2Proof.Machine.execStreamTick p s
  | .streamFrameDone m p v => Sys2Proof.Machine.execStreamFrameDone m p v s
  | .partStepWrite m p v => Sys2Proof.Machine.execPartStepWrite m p v s
  | .ckptStepTrigger j => Sys2Proof.Machine.execCkptStepTrigger j s
  | .ckptTimerTrigger j => Sys2Proof.Machine.execCkptTimerTrigger j s
  | .ckptManualTrigger m j => Sys2Proof.Machine.execCkptManualTrigger m j s
  | .ckQuiesce job gen step idx retain via => Sys2Proof.Machine.execCkQuiesce job gen step idx retain via s
  | .memberQuiesced j => Sys2Proof.Machine.execMemberQuiesced j s
  | .ckQuiesced src job gen step => Sys2Proof.Machine.execCkQuiesced src job gen step s
  | .ckTooLate src job gen step => Sys2Proof.Machine.execCkTooLate src job gen step s
  | .ckWrite job gen via => Sys2Proof.Machine.execCkWrite job gen via s
  | .shardWritesDone j => Sys2Proof.Machine.execShardWritesDone j s
  | .ckWritten src job gen entries => Sys2Proof.Machine.execCkWritten src job gen entries s
  | .ckFailed src job gen reason => Sys2Proof.Machine.execCkFailed src job gen reason s
  | .ckResume job gen via => Sys2Proof.Machine.execCkResume job gen via s
  | .ckAbort job gen reason via => Sys2Proof.Machine.execCkAbort job gen reason via s
  | .ckCommitted job gen via => Sys2Proof.Machine.execCkCommitted job gen via s
  | .quiesceTimeout j => Sys2Proof.Machine.execQuiesceTimeout j s
  | .writeTimeout j => Sys2Proof.Machine.execWriteTimeout j s
  | .manifestCommit j => Sys2Proof.Machine.execManifestCommit j s
  | .replicaWriteDone j ok => Sys2Proof.Machine.execReplicaWriteDone j ok s
  | .rsBegin job gen digest marks via => Sys2Proof.Machine.execRsBegin job gen digest marks via s
  | .shardPartRequest src job gen step nsid lba length digest parts blocks => Sys2Proof.Machine.execShardPartRequest src job gen step nsid lba length digest parts blocks s
  | .shardPartReceive src job gen lba off reason data => Sys2Proof.Machine.execShardPartReceive src job gen lba off reason data s
  | .rsDone src job gen => Sys2Proof.Machine.execRsDone src job gen s
  | .rsFailed src job gen reason via => Sys2Proof.Machine.execRsFailed src job gen reason via s
  | .rsResume job gen step via => Sys2Proof.Machine.execRsResume job gen step via s
  | .holderTimeout j => Sys2Proof.Machine.execHolderTimeout j s
  | .restoreTimeout j => Sys2Proof.Machine.execRestoreTimeout j s
  | .inputSample mv ma => Sys2Proof.Machine.execInputSample mv ma s
  | .p1msWindow => Sys2Proof.Machine.execP1msWindow s
  | .budgetTick keep fixed draw calm => Sys2Proof.Machine.execBudgetTick keep fixed draw calm s
  | .capWrite m v => Sys2Proof.Machine.execCapWrite m v s
  | .squallDutyStep duty => Sys2Proof.Machine.execSquallDutyStep duty s
  | .lullFillStart t => Sys2Proof.Machine.execLullFillStart t s
  | .lullHoldExpiry => Sys2Proof.Machine.execLullHoldExpiry s
  | .lullFillEnd t rise => Sys2Proof.Machine.execLullFillEnd t rise s
  | .droopDetect t => Sys2Proof.Machine.execDroopDetect t s
  | .droopLimitExpiry d => Sys2Proof.Machine.execDroopLimitExpiry d s
  | .ageingCheck t below => Sys2Proof.Machine.execAgeingCheck t below s
  | .brownoutWarning => Sys2Proof.Machine.execBrownoutWarning s
  | .brownoutRecovered => Sys2Proof.Machine.execBrownoutRecovered s
  | .powerFail => Sys2Proof.Machine.execPowerFail s
  | .powerFailFlushDone => Sys2Proof.Machine.execPowerFailFlushDone s
  | .holdupReserveReached => Sys2Proof.Machine.execHoldupReserveReached s
  | .overvoltage => Sys2Proof.Machine.execOvervoltage s
  | .sensorRead temps hbm => Sys2Proof.Machine.execSensorRead temps hbm s
  | .emergencyRecheck => Sys2Proof.Machine.execEmergencyRecheck s
  | .thermalTrip inst => Sys2Proof.Machine.execThermalTrip inst s
  | .coolantEstimate => Sys2Proof.Machine.execCoolantEstimate s
  | .leakDetect => Sys2Proof.Machine.execLeakDetect s
  | .leakClear => Sys2Proof.Machine.execLeakClear s
  | .getVersion req => Sys2Proof.Machine.execGetVersion req s
  | .getCapabilities req => Sys2Proof.Machine.execGetCapabilities req s
  | .negotiateAlgorithms req asym hash meas dhe aead reqAsym => Sys2Proof.Machine.execNegotiateAlgorithms req asym hash meas dhe aead reqAsym s
  | .getDigests req => Sys2Proof.Machine.execGetDigests req s
  | .getCertificate req slot off len => Sys2Proof.Machine.execGetCertificate req slot off len s
  | .challenge req slot nonce => Sys2Proof.Machine.execChallenge req slot nonce s
  | .getMeasurements req op signed nonce => Sys2Proof.Machine.execGetMeasurements req op signed nonce s
  | .keyExchange req reqId secret => Sys2Proof.Machine.execKeyExchange req reqId secret s
  | .finish sess key ok => Sys2Proof.Machine.execFinish sess key ok s
  | .heartbeat sess => Sys2Proof.Machine.execHeartbeat sess s
  | .keyUpdate sess op => Sys2Proof.Machine.execKeyUpdate sess op s
  | .endSession sess => Sys2Proof.Machine.execEndSession sess s
  | .chunkSend req part last bs => Sys2Proof.Machine.execChunkSend req part last bs s
  | .chunkGet req part => Sys2Proof.Machine.execChunkGet req part s
  | .spdmUnsupported req code => Sys2Proof.Machine.execSpdmUnsupported req code s
  | .bind sess owner => Sys2Proof.Machine.execBind sess owner s
  | .keyImport sess owner page typ usage sealedOnly wrapped => Sys2Proof.Machine.execKeyImport sess owner page typ usage sealedOnly wrapped s
  | .keyDerive sess owner page child typ usage ctx => Sys2Proof.Machine.execKeyDerive sess owner page child typ usage ctx s
  | .keyRelease sess page => Sys2Proof.Machine.execKeyRelease sess page s
  | .keyQuery sess owner => Sys2Proof.Machine.execKeyQuery sess owner s
  | .seal sess p => Sys2Proof.Machine.execSeal sess p s
  | .unseal sess p => Sys2Proof.Machine.execUnseal sess p s
  | .keyZeroiseDone inst => Sys2Proof.Machine.execKeyZeroiseDone inst s
  | .cipherDoorbell m r v => Sys2Proof.Machine.execCipherDoorbell m r v s
  | .gcmEnc r bad => Sys2Proof.Machine.execGcmEnc r bad s
  | .gcmDec r bad => Sys2Proof.Machine.execGcmDec r bad s
  | .xtsEnc r bad => Sys2Proof.Machine.execXtsEnc r bad s
  | .xtsDec r bad => Sys2Proof.Machine.execXtsDec r bad s
  | .sha384Job r bad => Sys2Proof.Machine.execSha384Job r bad s
  | .cipherJobComplete r => Sys2Proof.Machine.execCipherJobComplete r s
  | .engineSelfTestDone e ok => Sys2Proof.Machine.execEngineSelfTestDone e ok s
  | .ideKmRequest sess op => Sys2Proof.Machine.execIdeKmRequest sess op s
  | .ideStreamInsecure stream => Sys2Proof.Machine.execIdeStreamInsecure stream s
  | .configRequest f tag r => Sys2Proof.Machine.execConfigRequest f tag r s
  | .bar2Read f tag off len => Sys2Proof.Machine.execBar2Read f tag off len s
  | .bar2Write f off bs => Sys2Proof.Machine.execBar2Write f off bs s
  | .bar2Atomic f tag off width op => Sys2Proof.Machine.execBar2Atomic f tag off width op s
  | .readCompletion f tag off bs ok => Sys2Proof.Machine.execReadCompletion f tag off bs ok s
  | .completionTimeout f tag => Sys2Proof.Machine.execCompletionTimeout f tag s
  | .unexpectedCompletion f tag => Sys2Proof.Machine.execUnexpectedCompletion f tag s
  | .atsInvalidate f pasid page pages => Sys2Proof.Machine.execAtsInvalidate f pasid page pages s
  | .atsInvalidateDone f => Sys2Proof.Machine.execAtsInvalidateDone f s
  | .eventConsumerDoorbell m f v => Sys2Proof.Machine.execEventConsumerDoorbell m f v s
  | .msixModerationExpiry f => Sys2Proof.Machine.execMsixModerationExpiry f s
  | .msixUnmask f vec addr data => Sys2Proof.Machine.execMsixUnmask f vec addr data s
  | .bmeClear f => Sys2Proof.Machine.execBmeClear f s
  | .bmeSet f => Sys2Proof.Machine.execBmeSet f s
  | .flr f => Sys2Proof.Machine.execFlr f s
  | .flrResetState f late => Sys2Proof.Machine.execFlrResetState f late s
  | .ctxFlrReset c => Sys2Proof.Machine.execCtxFlrReset c s
  | .powerStateChange f d => Sys2Proof.Machine.execPowerStateChange f d s
  | .perstAssert => Sys2Proof.Machine.execPerstAssert s
  | .perstDeassert => Sys2Proof.Machine.execPerstDeassert s
  | .endpointReady => Sys2Proof.Machine.execEndpointReady s
  | .mailboxGo f => Sys2Proof.Machine.execMailboxGo f s
  | .getResources f => Sys2Proof.Machine.execGetResources f s
  | .partCreate f r => Sys2Proof.Machine.execPartCreate f r s
  | .partDestroy f p => Sys2Proof.Machine.execPartDestroy f p s
  | .ctxCreate f c r => Sys2Proof.Machine.execCtxCreate f c r s
  | .ctxReset f c msgId => Sys2Proof.Machine.execCtxReset f c msgId s
  | .ctxPin f c on => Sys2Proof.Machine.execCtxPin f c on s
  | .ctxDestroy f c => Sys2Proof.Machine.execCtxDestroy f c s
  | .winWrite f w ctrl lo hi src mask ref => Sys2Proof.Machine.execWinWrite f w ctrl lo hi src mask ref s
  | .barrierWrite f g cfg childLo childHi => Sys2Proof.Machine.execBarrierWrite f g cfg childLo childHi s
  | .ringCreate f r part base log2 cpl vec => Sys2Proof.Machine.execRingCreate f r part base log2 cpl vec s
  | .ringDestroy f r => Sys2Proof.Machine.execRingDestroy f r s
  | .slotMap f slot g => Sys2Proof.Machine.execSlotMap f slot g s
  | .slotUnmap f slot => Sys2Proof.Machine.execSlotUnmap f slot s
  | .eventRingSet f iova pasid log2 moderation => Sys2Proof.Machine.execEventRingSet f iova pasid log2 moderation s
  | .vfCreate f body => Sys2Proof.Machine.execVfCreate f body s
  | .vfDestroy f v => Sys2Proof.Machine.execVfDestroy f v s
  | .vfSetQos f v hbm send => Sys2Proof.Machine.execVfSetQos f v hbm send s
  | .vfUnfreeze f v => Sys2Proof.Machine.execVfUnfreeze f v s
  | .vfEnableChange pf on num => Sys2Proof.Machine.execVfEnableChange pf on num s
  | .movePrepare f v dst dstVf trusted => Sys2Proof.Machine.execMovePrepare f v dst dstVf trusted s
  | .moveFreeze f v => Sys2Proof.Machine.execMoveFreeze f v s
  | .moveHalted v => Sys2Proof.Machine.execMoveHalted v s
  | .moveSave f v => Sys2Proof.Machine.execMoveSave f v s
  | .moveSaved v => Sys2Proof.Machine.execMoveSaved v s
  | .moveRestore f v src srcVf key => Sys2Proof.Machine.execMoveRestore f v src srcVf key s
  | .moveChunkReceive v bs => Sys2Proof.Machine.execMoveChunkReceive v bs s
  | .moveChunkTimeout v => Sys2Proof.Machine.execMoveChunkTimeout v s
  | .moveCommit f v => Sys2Proof.Machine.execMoveCommit f v s
  | .moveCancel f v => Sys2Proof.Machine.execMoveCancel f v s
  | .nvmeSqDoorbell ctrl qid tail => Sys2Proof.Machine.execNvmeSqDoorbell ctrl qid tail s
  | .nvmeCqDoorbell ctrl qid head => Sys2Proof.Machine.execNvmeCqDoorbell ctrl qid head s
  | .createIoSq h qid size cq prio contig => Sys2Proof.Machine.execCreateIoSq h qid size cq prio contig s
  | .createIoCq h qid size vec ien contig => Sys2Proof.Machine.execCreateIoCq h qid size vec ien contig s
  | .deleteIoSq h qid => Sys2Proof.Machine.execDeleteIoSq h qid s
  | .deleteIoCq h qid => Sys2Proof.Machine.execDeleteIoCq h qid s
  | .getLogPage h lid => Sys2Proof.Machine.execGetLogPage h lid s
  | .identify h cns => Sys2Proof.Machine.execIdentify h cns s
  | .nvmeAbort h sq cid => Sys2Proof.Machine.execNvmeAbort h sq cid s
  | .setFeatures h fid value => Sys2Proof.Machine.execSetFeatures h fid value s
  | .getFeatures h fid vec => Sys2Proof.Machine.execGetFeatures h fid vec s
  | .asyncEventRequest h => Sys2Proof.Machine.execAsyncEventRequest h s
  | .namespaceManagement h del nsze => Sys2Proof.Machine.execNamespaceManagement h del nsze s
  | .namespaceAttachment h detach ctrls => Sys2Proof.Machine.execNamespaceAttachment h detach ctrls s
  | .firmwareImageDownload h off bs => Sys2Proof.Machine.execFirmwareImageDownload h off bs s
  | .firmwareCommit h action slot => Sys2Proof.Machine.execFirmwareCommit h action slot s
  | .nvmeUnsupported h op => Sys2Proof.Machine.execNvmeUnsupported h op s
  | .nvmeFlush h => Sys2Proof.Machine.execNvmeFlush h s
  | .nvmeWrite h slba nlb fua data engine => Sys2Proof.Machine.execNvmeWrite h slba nlb fua data engine s
  | .nvmeRead h slba nlb transfer engine => Sys2Proof.Machine.execNvmeRead h slba nlb transfer engine s
  | .writeZeroes h slba nlb fua engine => Sys2Proof.Machine.execWriteZeroes h slba nlb fua engine s
  | .datasetManagement h deallocate ranges => Sys2Proof.Machine.execDatasetManagement h deallocate ranges s
  | .controllerEnable ctrl ams asqs acqs => Sys2Proof.Machine.execControllerEnable ctrl ams asqs acqs s
  | .controllerReset ctrl => Sys2Proof.Machine.execControllerReset ctrl s
  | .normalShutdown ctrl => Sys2Proof.Machine.execNormalShutdown ctrl s
  | .abruptShutdown ctrl => Sys2Proof.Machine.execAbruptShutdown ctrl s
  | .destageBlock ns lba => Sys2Proof.Machine.execDestageBlock ns lba s
  | .dirtyClear ns => Sys2Proof.Machine.execDirtyClear ns s
  | .wbModeChange pct energy => Sys2Proof.Machine.execWbModeChange pct energy s
  | .driveFailure k => Sys2Proof.Machine.execDriveFailure k s
  | .driveJoin k d => Sys2Proof.Machine.execDriveJoin k d s
  | .feedDoorbell m p v => Sys2Proof.Machine.execFeedDoorbell m p v s
  | .feedRead p engine => Sys2Proof.Machine.execFeedRead p engine s
  | .feedComplete p n => Sys2Proof.Machine.execFeedComplete p n s
  | .frontPortLinkChange p up optical partner lanes => Sys2Proof.Machine.execFrontPortLinkChange p up optical partner lanes s
  | .frameReceive p bs fcs ns bad => Sys2Proof.Machine.execFrameReceive p bs fcs ns bad s
  | .pfcFrameReceive p mask times => Sys2Proof.Machine.execPfcFrameReceive p mask times s
  | .pfcPauseExpiry p prio => Sys2Proof.Machine.execPfcPauseExpiry p prio s
  | .ruleValidate m p r v => Sys2Proof.Machine.execRuleValidate m p r v s
  | .policerRefill p => Sys2Proof.Machine.execPolicerRefill p s
  | .policerWrite m p inst k v => Sys2Proof.Machine.execPolicerWrite m p inst k v s
  | .rxConsumerDoorbell m p r v => Sys2Proof.Machine.execRxConsumerDoorbell m p r v s
  | .txDoorbell m p r v => Sys2Proof.Machine.execTxDoorbell m p r v s
  | .txFrame p r bad => Sys2Proof.Machine.execTxFrame p r bad s
  | .egressDequeue p => Sys2Proof.Machine.execEgressDequeue p s
  | .roceSend c => Sys2Proof.Machine.execRoceSend c s
  | .roceWrite c => Sys2Proof.Machine.execRoceWrite c s
  | .roceRead c => Sys2Proof.Machine.execRoceRead c s
  | .roceWriteImm c => Sys2Proof.Machine.execRoceWriteImm c s
  | .rocePacketReceive p srcQp bs => Sys2Proof.Machine.execRocePacketReceive p srcQp bs s
  | .roceAckReceive p srcQp bs => Sys2Proof.Machine.execRoceAckReceive p srcQp bs s
  | .cnpReceive p srcQp bs => Sys2Proof.Machine.execCnpReceive p srcQp bs s
  | .roceRetryTimeout c => Sys2Proof.Machine.execRoceRetryTimeout c s
  | .roceRateIncrease c => Sys2Proof.Machine.execRoceRateIncrease c s
  | .roceReceiveDoorbell m c v => Sys2Proof.Machine.execRoceReceiveDoorbell m c v s
  | .telSample inst delay => Sys2Proof.Machine.execTelSample inst delay s
  | .telConsumerDoorbell m v => Sys2Proof.Machine.execTelConsumerDoorbell m v s
  | .inputApplied => Sys2Proof.Machine.execInputApplied s
  | .startSequence r => Sys2Proof.Machine.execStartSequence r s
  | .startStepLimit => Sys2Proof.Machine.execStartStepLimit s
  | .pwrEnDeassert => Sys2Proof.Machine.execPwrEnDeassert s
  | .refclkLoss => Sys2Proof.Machine.execRefclkLoss s
  | .refclkReturn => Sys2Proof.Machine.execRefclkReturn s
  | .circWatchdogExpiry k => Sys2Proof.Machine.execCircWatchdogExpiry k s
  | .coreRestartDone k => Sys2Proof.Machine.execCoreRestartDone k s
  | .libWatchdogExpiry => Sys2Proof.Machine.execLibWatchdogExpiry s
  | .tracePoint k n => Sys2Proof.Machine.execTracePoint k n s
  | .deferredActivationDue => Sys2Proof.Machine.execDeferredActivationDue s
  | .recoveryBundle data => Sys2Proof.Machine.execRecoveryBundle data s
  | .dictRead d => Sys2Proof.Machine.execDictRead d s
  | .dictWrite d data => Sys2Proof.Machine.execDictWrite d data s
  | .describe d => Sys2Proof.Machine.execDescribe d s
  | .list d => Sys2Proof.Machine.execList d s
  | .dictChallenge d => Sys2Proof.Machine.execDictChallenge d s
  | .login d data sigOk tokenOk => Sys2Proof.Machine.execLogin d data sigOk tokenOk s
  | .logout d => Sys2Proof.Machine.execLogout d s
  | .sessionOpen transport => Sys2Proof.Machine.execSessionOpen transport s
  | .sessionIdleTimeout n => Sys2Proof.Machine.execSessionIdleTimeout n s
  | .segmentGapTimeout n => Sys2Proof.Machine.execSegmentGapTimeout n s
  | .loginBarExpiry transport => Sys2Proof.Machine.execLoginBarExpiry transport s
  | .scrubGo d data => Sys2Proof.Machine.execScrubGo d data s
  | .dictEddy d data => Sys2Proof.Machine.execDictEddy d data s
  | .dictFaultInject d data => Sys2Proof.Machine.execDictFaultInject d data s
  | .routeTables d data tables => Sys2Proof.Machine.execRouteTables d data tables s
  | .driveFormat d data => Sys2Proof.Machine.execDriveFormat d data s
  | .nsCreate d data a => Sys2Proof.Machine.execNsCreate d data a s
  | .nsDelete d data => Sys2Proof.Machine.execNsDelete d data s
  | .nsAttach d data nsid ctrl => Sys2Proof.Machine.execNsAttach d data nsid ctrl s
  | .nsKeyBind d data nsid page => Sys2Proof.Machine.execNsKeyBind d data nsid page s
  | .nsClearLost d data => Sys2Proof.Machine.execNsClearLost d data s
  | .jobGroup d data job notice follow members => Sys2Proof.Machine.execJobGroup d data job notice follow members s
  | .partition d data owner r => Sys2Proof.Machine.execPartition d data owner r s
  | .ckptTrigger d data => Sys2Proof.Machine.execCkptTrigger d data s
  | .restore d data j job coord replica gen staging length manifests => Sys2Proof.Machine.execRestore d data j job coord replica gen staging length manifests s
  | .dictVfCreate d data => Sys2Proof.Machine.execDictVfCreate d data s
  | .dictVfDestroy d data => Sys2Proof.Machine.execDictVfDestroy d data s
  | .restart d data => Sys2Proof.Machine.execRestart d data s
  | .coreRestart d data => Sys2Proof.Machine.execCoreRestart d data s
  | .bundleImage d data => Sys2Proof.Machine.execBundleImage d data s
  | .catalogueImage d data => Sys2Proof.Machine.execCatalogueImage d data s
  | .commit d data => Sys2Proof.Machine.execCommit d data s
  | .activate d data => Sys2Proof.Machine.execActivate d data s
  | .cancel d data => Sys2Proof.Machine.execCancel d data s
  | .moduleTime d data => Sys2Proof.Machine.execModuleTime d data s
  | .debugEnable d data => Sys2Proof.Machine.execDebugEnable d data s
  | .credentialReset d data => Sys2Proof.Machine.execCredentialReset d data s
  | .i3cAddressAssign a => Sys2Proof.Machine.execI3cAddressAssign a s
  | .jtagAccess write addr v => Sys2Proof.Machine.execJtagAccess write addr v s
  | .librarianReturn => Sys2Proof.Machine.execLibrarianReturn s
  | .driveCompletion n ok data => Sys2Proof.Machine.execDriveCompletion n ok data s
  | .endpointLinkChange state speed width flit => Sys2Proof.Machine.execEndpointLinkChange state speed width flit s
  | .aggregationTimeExpiry ctrl cq => Sys2Proof.Machine.execAggregationTimeExpiry ctrl cq s
  | .droopStretchEnd t => Sys2Proof.Machine.execDroopStretchEnd t s

end Sys2Proof.Machine
end

