-- ==== Sys2Proof/Safety.lean ====
section
/-!
DEFINITION. The terms of the statements: a well-formed memory, a core that is ready to retire an instruction, and what
every retired instruction does beside its own effect.
-/
namespace Sys2Proof.Machine

/-- The canonical form of memory: addresses strictly rise, and no listed byte is zero (what an unlisted byte reads as). -/
def Memory.wf (m : List Host.Cell) : Bool := Tab.canonical m 0

/-- The answer of a command that goes on. -/
abbrev Next (t : State) : Host.Outcome State Fault Refusal := .next t

/-! ### The form of a state (R212, R289, R413, R443, R519, R606, R624, R629, R641) -/

/-- The form that every step keeps: memory is canonical, the tables of registers, objects, queue contexts, functions, namespaces and
sessions list each number once in rising order, and the FIFO before the log ring, the audit journal, the security, power and violation
logs hold no more than their lengths. -/
structure FormOk (s : State) : Prop where
  mem : Memory.wf s.mem = true
  regs : Tab.risingFrom 0 s.regs = true
  dict : Tab.risingFrom 0 s.dict = true
  ctxs : Tab.risingFrom 0 s.gma.ctxs = true
  fns : Tab.risingFrom 0 s.host.fns = true
  ns : Tab.risingFrom 0 s.store.ns = true
  sessions : Tab.risingFrom 0 s.mgmt.sessions = true
  fifo : s.logFifo.length ≤ 64
  audit : s.mgmt.audit.length ≤ 16384
  seq : s.mgmt.auditSeq < 2 ^ 32
  secLog : s.trust.secLog.length ≤ 256
  powerLog : s.power.log.length ≤ 64
  violLog : s.gma.violLog.length ≤ 64

/-! ### LX cores (R150, R152, R170, R176, R187) -/

/-- Core `c` can retire an LX instruction of `n` bytes at its PC: it runs, the bytes lie in IM without an error, no watchpoint
is armed, HALT is not set, and the hardware stacks hold no more than their cells. -/
def LxReady (s : State) (c n : Nat) : Prop :=
  s.coreRuns c false = true ∧ (s.core c).pc + n ≤ coreIm c ∧
    (∀ w ∈ eccWords (s.core c).pc n, w ∉ (s.core c).imUe ∧ w ∉ (s.core c).imCe) ∧
    (s.core c).we = false ∧ (s.core c).halt = false ∧ (s.core c).ds.length ≤ 32 ∧ (s.core c).rs.length ≤ 16

/-- PC and CYCLE after an instruction, and the cycles that a division under way still needs. -/
def Core.moved (x : Core) (pc cost : Nat) : Core :=
  { x with pc := pc % 2 ^ 64, cycle := (x.cycle + cost) % 2 ^ 64, divQ := x.divQ.map (fun d => (d.1, d.2.1, d.2.2 - cost)) }

/-- Core `c` retires an instruction that leaves these cells on its stacks, with the next PC and in so many cycles; nothing
else changes. -/
def State.retired (s : State) (c : Nat) (ds rs : List LxCell) (pc cost : Nat) : State :=
  s.setCore c (({ s.core c with ds := ds, rs := rs } : Core).moved pc cost)

/-- Core `c` took a synchronous trap or an interrupt: the saved registers, the level, the vector, and that the stacks, every
byte of memory and every other core are as before; a lectern core's LXC_LAST_TRAP shows the cause (R171, R175, R190). -/
def TookTrap (s : State) (c cause tval epc : Nat) (t : State) : Prop :=
  let x := s.core c
  let y := t.core c
  y.epc = epc ∧ y.estatus = lxStatus x (s.coreSecure c) ∧ y.cause = cause ∧ y.tval = tval ∧ y.priv = true ∧ y.ie = false ∧
    y.pc = (x.vbase + 64 * cause) % 2 ^ 64 ∧ y.st = .running ∧ y.ds = x.ds ∧ y.rs = x.rs ∧
    (∀ a, t.readByte a = s.readByte a) ∧ (∀ d, d ≠ c → t.core d = s.core d) ∧
    (c < 16 → t.fld (F.LXC_LAST_TRAP_CAUSE c) = cause)

/-! ### Tiles (R107, R134, R138, R144) -/

/-- The head of tile `t` is the new command `c` of opcode `op`, `rest` waits behind it, and nothing keeps it from issuing: the
tile issues, every check of R134 passes, no dependency or full unit blocks it. -/
def TileIssues (s : State) (t op : Nat) (c : TCmd) (rest : List TCmd) : Prop :=
  (s.tile t).queue = c :: rest ∧ opcodeOf c.desc = op ∧ c.slot = none ∧ s.issues t = true ∧
    firstBroken (s.checkDesc t c.desc) = none ∧ s.blocked t c.desc = false ∧
    firstBroken (s.checkList t c.desc ++ s.checkBank t c.desc ++ s.checkAddr t c.desc) = none

/-- The head `c` of tile `t` has issued: it left the queue, HEAD counted it, and it holds its slot among the issued commands. -/
def TileIssued (s : State) (t : Nat) (c : TCmd) (rest : List TCmd) (u : State) : Prop :=
  (u.tile t).queue = rest ∧ u.fld (F.TIL_CMD_HEAD_HEAD t) = (s.fld (F.TIL_CMD_HEAD_HEAD t) + 1) % 128 ∧
    ∃ i ∈ (u.tile t).issued, i.slot = s.fld (F.TIL_CMD_HEAD_HEAD t) % 64 ∧ i.cmd.desc = c.desc

/-- Every byte of a range of memory is there for a master, and no ECC unit of it is in error. -/
def Reachable (s : State) (m : Master) (a n : Nat) : Prop :=
  s.firstHole m a n = none ∧ ∀ u ∈ unitsOf a n, u ∉ s.ue ∧ u ∉ s.ce

/-- Memory after some bytes took their place, and no other byte changed. -/
def Stored (s : State) (a : Nat) (bs : List Byte) (t : State) : Prop :=
  ∀ b, t.readByte b = if a ≤ b ∧ b < a + bs.length then bs.getD (b - a) 0 else s.readByte b

/-- Tile `t` halted on a command: the failed command with its slot, the error record's code, HALT, and the fault event of the
lectern core. -/
def TileHalted (t slot code : Nat) (desc : BitVec 512) (u : State) : Prop :=
  (∃ f, (u.tile t).failed = some f ∧ f.cmd.desc = desc ∧ f.slot = slot) ∧ u.fld (F.TIL_ERR_REC0_CODE t) = code ∧
    u.flag ((blkTil t).err 16) = true ∧ (u.core t).irqLatch.testBit irqTileFault = true

/-! ### Links (R230, R234, R243) -/

/-- A link that holds no packet of its own, in a module without barrier groups and without a packet that waits for a link. -/
def LinkQuiet (s : State) (n : Nat) : Prop :=
  (s.lnk n).finHeld = none ∧ (s.lnk n).txq = [] ∧ (s.lnk n).rxPkt = [] ∧ s.unreach = [] ∧
    ∀ g, g < 4096 → s.flag (F.GMA_BAR_CFG_ENABLE g) = false

/-- Link `n` left ACTIVE for a state with a reason: counted, out of the up mask, its replay buffer discarded; memory and the
other links are as before. -/
def LinkLeft (s : State) (n st reason : Nat) (t : State) : Prop :=
  t.linkSt n = st ∧ t.fld (F.MYL_STS_REASON n) = reason ∧ t.fld (F.MYL_DOWN_CNT n) = satAdd32 (s.fld (F.MYL_DOWN_CNT n)) 1 ∧
    t.linkUp n = false ∧ (t.lnk n).replay = [] ∧ t.mem = s.mem ∧ ∀ k, k ≠ n → t.lnk k = s.lnk k

/-- The bytes of a flit pass the CRC check (R237). -/
def FlitGood (bs : List Byte) : Prop := crc32c (bs.take 60) = leAt bs 60 4

/-! ### Queue contexts (R289, R294, R321) -/

/-- An idle context that may start the descriptor `d`, number `i`, of an operation: READY, with no operation of its own, in a module
with an identity, with a send record and a tracker free. -/
def MayStart (s : State) (c op i d : Nat) : Prop :=
  s.headDesc c op = some (i, d) ∧ s.flag F.MYR_FABRIC_ID_VALID = true ∧ (s.ctx c).ops = [] ∧ (s.ctx c).msgs = [] ∧
    0 < (s.ctx c).maxOut ∧ s.sendRecords < 131072 ∧ s.trackersUsed < 65536 ∧ d.testBit 9 = false ∧ d.testBit 10 = false

/-- A request packet of an opcode for memory that passes checks 1 to 7 of R321 at a READY endpoint that the cache holds. -/
def RequestClean (s : State) (p : Packet) (op : Nat) : Prop :=
  p.opcode = op ∧ p.endpoint ∈ s.gma.cache ∧ s.connected p = true ∧ (s.ctx p.endpoint).st = .ready ∧ reqFormed p = true ∧
    p.encrypted = false ∧ p.space ≠ 2 ∧ p.payload.length = p.length ∧ (s.ctx p.endpoint).isDup p.msgId = false ∧
    s.noTracker p = false ∧ s.admitAt p (reqFirst p) (reqBytes p) = none

/-- A message that is the whole of its context's one operation in progress, which a ring descriptor started. -/
def OnlyMessage (s : State) (c : Nat) (m : Msg) : Prop :=
  (s.ctx c).msgs = [m] ∧ s.acceptsRsp c = true ∧ ∃ o, (s.ctx c).ops = [(m.opNo, o)] ∧ o.sent = o.length ∧ o.failed = false ∧
    o.waiting = false ∧ o.notify = false ∧ o.tile = none

/-- The one operation of a context completed: no message is outstanding and COMP_CNT counts it (R299). -/
def OpCounted (s : State) (c : Nat) (t : State) : Prop :=
  (t.ctx c).msgs = [] ∧ (t.ctx c).ops = [] ∧ (t.ctx c).compCnt = ((s.ctx c).compCnt + 1) % 2 ^ 48

/-- A group in GATHER or IDLE without a reduction, short of a local arrival (R326, R327). -/
def GroupGathers (s : State) (g : Nat) : Prop :=
  s.flag (F.GMA_BAR_CFG_ENABLE g) = true ∧ s.fld (F.GMA_BAR_STS_STATE g) ≠ barBroken ∧ (s.bar g).reduces = [] ∧
    (s.bar g).red = none ∧ s.fld (F.GMA_BAR_STS_ARRIVED g) < s.fld (F.GMA_BAR_CFG_LOCAL_EXPECT g)

/-! ### Resource sets (R434, R491) -/

/-- An address lies in a granule of a resource set, or in the carrel of one of its tiles. -/
def ResSet.covers (r : ResSet) (a : Nat) : Prop :=
  (∃ g ∈ r.hbm, g * 2 ^ 30 ≤ a ∧ a < (g + 1) * 2 ^ 30) ∨
    (∃ h ∈ r.shelf, shelfBase + h * 2 ^ 28 ≤ a ∧ a < shelfBase + (h + 1) * 2 ^ 28) ∨
    ∃ t ∈ r.tiles, carrelAddr t 0 ≤ a ∧ a < carrelAddr t 0 + carrelSize

/-! ### NVMe (R527, R528) -/

/-- The well-formed command of a header is the next one that its submission queue `q` can give, and its completion queue has
room. -/
def NvReady (s : State) (h : NvHdr) (q : NvSq) : Prop :=
  let x := s.nvCtrl h.ctrl
  Tab.find? x.sqs h.sq = some q ∧ q.waiting = true ∧ x.rdy = true ∧ x.turn h.sq = true ∧ s.busMaster (ctrlFn h.ctrl) = true ∧
    s.flag blkNvc.enable = true ∧ s.admits = true ∧ s.coreUp (if h.sq = 0 then 1 else 4) = true ∧ s.store.cmds.length < 4096 ∧
    h.bad = false ∧ ∃ cq, Tab.find? x.cqs q.cq = some cq ∧ cq.held = [] ∧ cq.room = true

/-- The command was taken from its queue. -/
def NvTaken (h : NvHdr) (q : NvSq) (t : State) : Prop :=
  Tab.find? (t.nvCtrl h.ctrl).sqs h.sq = some { q with head := (q.head + 1) % q.size }

/-- The command was taken from its queue, and its completion entry went out. -/
def NvAnswered (h : NvHdr) (q : NvSq) (status result : Nat) (data : List Byte) (t : State) : Prop :=
  NvTaken h q t ∧ Out.nvme h.ctrl q.cq h.cid status result data ∈ t.out

/-! ### RoCE (R564, R567, R568) -/

/-- The bytes of a frame are a RoCE packet of a kind, with a good ICRC and no CE mark, of the peer of the connected context `c`. -/
def RoceArrives (s : State) (p srcQp : Nat) (kind : RKind) (bs : List Byte) (q : RPkt) (c : Nat) : Prop :=
  rpkt bs (s.fld (F.FPP_PORT_CFG_VXLAN_PORT p)) = some q ∧ q.kind = kind ∧ q.icrc = true ∧ q.ce = false ∧ q.qp = c ∧ c < 2 ^ 18 ∧
    c ∈ s.gma.cache ∧ (s.ctx c).st = .ready ∧ (s.ctx c).typ = 1 ∧ (s.ctx c).peerIp = q.src ∧ (s.ctx c).destQpn = srcQp

/-! ### The object dictionary (R629 to R634) -/

/-- A request was answered: the session's response, or for the PF0 mailbox its completion with the abort code as status. -/
def DictAnswered (d : DHdr) (svc abort total : Nat) (bs : List Byte) (t : State) : Prop :=
  if d.sess = 0 then (t.fn 0).mbBusy = none ∧ (t.fn 0).mbDone = true ∧ (t.fn 0).mbStatus = abort
  else Out.dict d.sess abort (dictFrame svc d.seq d.off abort total bs) ∈ t.out

/-- A write of a whole value in one segment, of a session that may write the object `r` in the module's state, so that the object's own
checks decide. -/
def MayWrite (s : State) (d : DHdr) (data : List Byte) (r : ObjRow) : Prop :=
  s.dictReaches d.sess = true ∧ (s.sess d.sess).xfer = none ∧ d.off = 0 ∧ d.total = data.length ∧
    s.segmentBar (s.sess d.sess) d data.length = 0 ∧ objRow d.idx d.sub = some r ∧ badValue r.ty data = false ∧
    s.stateBar true d.idx = 0

/-- The write was taken, with this body in its response. -/
def WriteTaken (d : DHdr) (data body : List Byte) (t : State) : Prop := DictAnswered d svcWrite 0 data.length body t

/-- The write was refused with a code: no stored value and no byte of memory changed. -/
def WriteRefused (s : State) (d : DHdr) (code : Nat) (t : State) : Prop :=
  DictAnswered d svcWrite code 0 [] t ∧ t.dict = s.dict ∧ t.mem = s.mem

/-! ### Checkpoint rounds (R367) -/

/-- The messages of a broadcast of a slot's coordinator, newest first: to its own member part, and on every tree link of the notice
group. -/
def State.toTree (s : State) (j code : Nat) (args : List Nat) : List Out :=
  .mgmt s.ownModule code args :: ((s.treeLinks (s.fld (F.MOD_JOB_CFG_NOTICE_GROUP j))).map
    (fun n => Out.mgmt (s.fld (F.MYL_PARTNER_MODULE n)) code args)).reverse

end Sys2Proof.Machine
end

