-- ==== Sys2Proof/WellFormed.lean ====
section
/-!
DEFINITION. Which commands the hardware has: every operand names a unit, field or value that exists.
-/
namespace Sys2Proof

/-- The 25 LX cores: lectern cores 0 to 15, circulation cores 0 to 7 as 16 to 23, the librarian as 24 (R29). -/
def wfCore (c : Nat) : Bool := decide (c < 25)

/-- The tensor extension is present on lectern cores only (R178). -/
def wfLectern (c : Nat) : Bool := decide (c < 16)

def wfTile (t : Nat) : Bool := decide (t < 16)
def wfStack (s : Nat) : Bool := decide (s < 16)
def wfDie (d : Nat) : Bool := decide (d < 8)
def wfLink (n : Nat) : Bool := decide (n < 48)
def wfCtx (c : Nat) : Bool := decide (c < 262144)
def wfWindow (w : Nat) : Bool := decide (w < 4096)
def wfGroup (g : Nat) : Bool := decide (g < 4096)
def wfSixteen (p : Nat) : Bool := decide (p < 16)
def wfFn (f : Nat) : Bool := decide (f < 128)
def wfPort (p : Nat) : Bool := decide (p < 2)
def wfDrive (k : Nat) : Bool := decide (k < 8)
def wfPage (i : Nat) : Bool := decide (i < 4096)
def wfRing (r : Nat) : Bool := decide (r < 1024)
def wfRing512 (r : Nat) : Bool := decide (r < 512)

/-- How many instances each block has (R45). -/
def BlockKind.count : BlockKind → Nat
  | .til => 16 | .lxc => 16 | .shf => 8 | .hbc => 16 | .myl => 48 | .rtp => 4 | .fpp => 2 | .fps => 2 | _ => 1

def wfBlk (b : Blk) : Bool := decide (b.inst < b.kind.count)

/-- The indices of R54: librarian and debug 0, circulation cores 0 to 7, tiles 0 to 15, PF 0 or 1, VF number 1 to
63 with its PF in bit 6, queue contexts. -/
def wfMaster (m : Master) : Bool :=
  match m.cls with
  | .librarian => m.index = 0 && m.secure
  | .circulation => decide (m.index < 8)
  | .lectern => decide (m.index < 16)
  | .tileDma => decide (m.index < 16)
  | .hostPf => decide (m.index < 2) && !m.secure
  | .hostVf => decide (m.index < 128) && decide (m.index % 64 ≠ 0) && !m.secure
  | .remoteQueue => decide (m.index < 262144)
  | .debug => m.index = 0 && m.secure
  | .none => false

/-- An offset of register space (R45). -/
def wfOff (o : Nat) : Bool := decide (o < 2 ^ 32)

/-- A packet whose header fields fit R254. -/
def wfPacket (p : Packet) : Bool :=
  decide (p.dst < 2 ^ 20) && decide (p.src < 2 ^ 20) && decide (p.endpoint < 2 ^ 18) && decide (p.vc < 8) &&
    decide (p.hops < 8) && decide (p.opcode < 256) && decide (p.msgId < 2 ^ 24) && decide (p.offset < 2 ^ 32) &&
    decide (p.length < 2 ^ 13) && decide (p.policy < 4) && decide (p.viaGroup < 2 ^ 20) && decide (p.addr < 2 ^ 40) &&
    decide (p.space < 16) && decide (p.srcCtx < 2 ^ 18) && decide (p.reserved < 2 ^ 26)

/-- Controller IDs: 1 PF1, 1 + v for VF v of PF1 (R513). -/
def wfCtrl (c : Nat) : Bool := decide (1 ≤ c ∧ c ≤ 64)
def wfNv (h : NvHdr) : Bool := wfCtrl h.ctrl && decide (h.sq < 65536) && decide (h.cid < 65536) && decide (h.nsid < 2 ^ 32)
def wfNs (n : Nat) : Bool := decide (1 ≤ n ∧ n ≤ 1024)
/-- The 32 stream engines (R442). -/
def wfEngine (e : Option Nat) : Bool := match e with | some e => decide (e < 32) | none => true
/-- A namespace record fits R519. -/
def wfNsRec (p : Nat × NsRec) : Bool :=
  wfNs p.1 && decide (p.2.keySource < 3) && decide (1 ≤ p.2.stripe.length ∧ p.2.stripe.length ≤ 8) &&
    p.2.stripe.all wfDrive && decide (p.2.extents.length = p.2.stripe.length) && decide (p.2.ctrl ≤ 64)
def wfDriveInfo (d : DriveInfo) : Bool :=
  decide (1 ≤ d.extents ∧ d.extents < 65536) && decide (d.labels.length ≤ 2) &&
    d.labels.all (fun l => l.recs.all wfNsRec) && decide (d.speed < 16 ∧ d.width ≤ 4)

/-- The link a broadcast arrived on; none for the module's own. -/
def wfVia (via : Option Nat) : Bool := match via with | some n => wfLink n | none => true


/-- SPDM requesters: MCTP over PCIe VDM, MCTP over I3C, and the DOE mailbox of each function (R451). -/
def wfReq (r : Nat) : Bool := decide (r < 130)
def wfStreamNo (n : Nat) : Bool := decide (n ≤ 8)
def wfIdeKm : IdeKm → Bool
  | .prog n k _ fns => wfStreamNo n && decide (k < 2) && fns.all wfFn
  | .go n k => wfStreamNo n && decide (k < 2)
  | .stop n k => wfStreamNo n && decide (k < 2)
/-- A mismatch of a cipher job: the engine and the units that matched before. -/
def wfBad (b : Option (Nat × Nat)) : Bool := match b with | some (e, _) => decide (e < 32) | none => true
/-- An OWNER of R288. -/
def wfOwner (o : Nat) : Bool := decide (o < 2 ^ 16)

/-- A CTX_CREATE request fits the fields of R288 and R565. -/
def wfCtxReq (r : CtxReq) : Bool :=
  decide (r.typ < 2) && (match r.part with | some p => wfSixteen p | none => true) && decide (r.maxOut < 128) &&
    decide (r.peerModule < 2 ^ 20) && decide (r.peerCtx < 2 ^ 18) && decide (r.policy < 4) && wfPage r.keyPage &&
    decide (r.ringBase < 2 ^ 64 ∧ r.ringBase % 64 = 0) && decide (r.ringLog2 < 32) && decide (r.pasid < 2 ^ 20) &&
    decide (r.msgId < 2 ^ 24) && decide (r.vec < 64) && decide (r.destQpn < 2 ^ 24) && decide (r.port < 2) &&
    decide (r.egressQ < 8) && decide (r.pmtu < 3) && decide (r.psnSend < 2 ^ 24 ∧ r.psnRecv < 2 ^ 24) &&
    decide (r.peerIp < 2 ^ 32 ∧ r.localIp < 2 ^ 32) && decide (r.l2 < 2 ^ 64) && decide (r.dscp < 64) &&
    decide (r.retryCnt < 8) && decide (r.timeout < 32) && decide (r.regionBase < 2 ^ 40 ∧ r.regionLen < 2 ^ 40) &&
    decide (r.rkey < 2 ^ 32) && decide (r.recvBase < 2 ^ 40) && decide (r.slotLog2 < 16 ∧ r.recvLog2 < 16)
/-- Granule numbers: HBM 0 to 767, shelf 1,000 to 1,119 (R485). -/
def wfGranule (g : Nat) : Bool := decide (g < 768 ∨ (1000 ≤ g ∧ g < 1120))
def wfPartReq (r : PartReq) : Bool :=
  wfSixteen r.p && decide (r.role < 8) && decide (r.tiles < 2 ^ 16) && (match r.job with | some j => wfSixteen j | none => true) &&
    r.granules.all wfGranule
/-- The opcodes that the tables of the instruction set list for a core; 0x80 to 0x89 on a lectern core only (R159). -/
def lxListed (c op : Nat) : Bool :=
  decide (op ≤ 0x19 ∨ (0x20 ≤ op ∧ op ≤ 0x2E) ∨ (0x30 ≤ op ∧ op ≤ 0x3E) ∨ (0x40 ≤ op ∧ op ≤ 0x47) ∨ (0x50 ≤ op ∧ op ≤ 0x77) ∨
    (0x79 ≤ op ∧ op ≤ 0x7B) ∨ op = 0x7F ∨ (c < 16 ∧ 0x80 ≤ op ∧ op ≤ 0x89))
/-- A VF's routing function (R462). -/
def wfVf (v : Nat) : Bool := decide (2 ≤ v ∧ v < 128)
/-- A dictionary request of a session that there is (R629, R630). -/
def wfD (d : DHdr) : Bool :=
  decide (d.sess < 11 ∧ d.seq < 2 ^ 32 ∧ d.idx < 2 ^ 16 ∧ d.sub < 256 ∧ d.off < 2 ^ 32 ∧ d.total < 2 ^ 32)
/-- A write of the object that a command names, by a range of subindices. -/
def wfObj (d : DHdr) (idx lo hi : Nat) : Bool := wfD d && decide (d.idx = idx ∧ lo ≤ d.sub ∧ d.sub ≤ hi)
/-- Objects whose write is a command of its own. -/
def ownCommand (idx sub : Nat) : Bool :=
  decide ((idx = 0xA111 ∧ sub = 4) ∨ idx = 0xA201 ∨ idx = 0xA200 ∨ idx = 0x3013 ∨ idx = 0x4003 ∨ idx = 0x4010 ∨
    (idx = 0x4012 ∧ (sub = 1 ∨ sub = 3)) ∨ idx = 0x9001 ∨ idx = 0x9002 ∨ idx = 0x9011 ∨ idx = 0x9013 ∨ idx = 0x6003 ∨
    (idx = 0xA300 ∧ sub = 4) ∨ idx = 0xA320 ∨ idx = 0x7001 ∨ (idx = 0x1002 ∧ sub = 1) ∨ idx = 0xF001)
def wfUnit : ModUnit → Bool
  | .stack i => decide (i < 16) | .tile i => decide (i < 16) | .shelf i => decide (i < 24)
  | .die i => decide (i < 8) | .band i => decide (i < 8) | .dieB => true
def wfReport (r : StartReport) : Bool :=
  decide (r.slotId < 64) && decide (r.slotOk.length = 2) && decide (r.catOk.length = 2) &&
    r.fails.all (fun x => decide (4 ≤ x.1 ∧ x.1 ≤ 7) && wfUnit x.2.1 && decide (1 ≤ x.2.2 ∧ x.2.2 < 8)) &&
    r.lowMargin.all (fun t => decide (t < 16)) && r.sensorsBad.all (fun i => decide (i < 64)) &&
    decide (r.floorW % 10 = 0) && r.enginesBad.all (fun e => decide (e < 32)) &&
    decide (r.stop.1 ≤ 9 ∧ r.stop.2 ≤ 4) && r.stalls.all (fun x => decide (1 ≤ x.1 ∧ x.1 ≤ 8) && x.2.all wfUnit) &&
    decide (r.ms < 2 ^ 16)
def wfNsAsk (a : NsAsk) : Bool :=
  decide (a.keySource < 256) && a.stripe.all (fun k => decide (k < 8)) && decide (a.job < 2 ^ 32)

/-- The operands of a command name units and values that exist. -/
def Instr.wellFormed : Instr → Bool
  | .registerWrite m off width _ => wfMaster m && wfOff off && decide (width ∈ [1, 2, 4])
  | .counterPairLoRead m off => wfMaster m && wfOff off
  | .bitAliasWrite m addr _ => wfMaster m && decide (addr < 2 ^ 31)
  | .blockEnable m b => wfMaster m && wfBlk b
  | .blockDisable m b => wfMaster m && wfBlk b
  | .blockLock m b => wfMaster m && wfBlk b
  | .blockDrainDone b => wfBlk b
  | .cfgCrcEnablePassDone b => wfBlk b
  | .cfgCrcPass b => wfBlk b
  | .tpush c => wfLectern c
  | .tpushnb c => wfLectern c
  | .tpushs c => wfLectern c
  | .tpushsnb c => wfLectern c
  | .pushStallRelease c => wfLectern c
  | .tstw c _ => wfLectern c
  | .tldw c _ => wfLectern c
  | .tsts c => wfLectern c
  | .tsig c => wfLectern c
  | .twait c => wfLectern c
  | .twaitRelease c => wfLectern c
  | .tmeta c => wfLectern c
  | .load t _ => wfTile t
  | .mma t _ => wfTile t
  | .drain t => wfTile t
  | .post t => wfTile t
  | .store t => wfTile t
  | .sync t => wfTile t
  | .syncConditionMet t => wfTile t
  | .syncTimeout t => wfTile t
  | .phase t => wfTile t
  | .scrub t => wfTile t
  | .cmdComplete t slot _ => wfTile t && decide (slot < 64)
  | .drainBankReadDone t => wfTile t
  | .tileRetry m t => wfMaster m && wfTile t
  | .tileSkip m t => wfMaster m && wfTile t
  | .tileFlush m t => wfMaster m && wfTile t
  | .tileReset m t => wfMaster m && wfTile t
  | .tileResetDone t => wfTile t
  | .tileCalmRequest t => wfTile t
  | .tileClockStopped t => wfTile t
  | .tileCalmRelease t _ => wfTile t
  | .nop c => wfCore c
  | .drop c => wfCore c
  | .dup c => wfCore c
  | .swap c => wfCore c
  | .over c => wfCore c
  | .rot c => wfCore c
  | .nip c => wfCore c
  | .tuck c => wfCore c
  | .drop2 c => wfCore c
  | .dup2 c => wfCore c
  | .pick c => wfCore c
  | .depth c => wfCore c
  | .tor c => wfCore c
  | .fromr c => wfCore c
  | .rfetch c => wfCore c
  | .rdrop c => wfCore c
  | .lit8 c _ => wfCore c
  | .lit16 c _ => wfCore c
  | .lit32 c _ => wfCore c
  | .lit64 c _ => wfCore c
  | .addi8 c _ => wfCore c
  | .addi32 c _ => wfCore c
  | .litu32 c _ => wfCore c
  | .picki c _ => wfCore c
  | .rsp c _ => wfCore c
  | .wsp c _ => wfCore c
  | .spill c => wfCore c
  | .add c => wfCore c
  | .sub c => wfCore c
  | .and c => wfCore c
  | .or c => wfCore c
  | .xor c => wfCore c
  | .shl c => wfCore c
  | .shr c => wfCore c
  | .sar c => wfCore c
  | .slt c => wfCore c
  | .sltu c => wfCore c
  | .seq c => wfCore c
  | .min c => wfCore c
  | .max c => wfCore c
  | .minu c => wfCore c
  | .maxu c => wfCore c
  | .not c => wfCore c
  | .neg c => wfCore c
  | .inc c => wfCore c
  | .dec c => wfCore c
  | .clz c => wfCore c
  | .ctz c => wfCore c
  | .popc c => wfCore c
  | .sext8 c => wfCore c
  | .sext16 c => wfCore c
  | .sext32 c => wfCore c
  | .zext8 c => wfCore c
  | .zext16 c => wfCore c
  | .zext32 c => wfCore c
  | .bswap c => wfCore c
  | .zeq c => wfCore c
  | .shli c _ => wfCore c
  | .shri c _ => wfCore c
  | .sari c _ => wfCore c
  | .andi32 c _ => wfCore c
  | .beq c long imm => wfCore c && (long || decide (imm.toNat < 2 ^ 16))
  | .bne c long imm => wfCore c && (long || decide (imm.toNat < 2 ^ 16))
  | .blt c long imm => wfCore c && (long || decide (imm.toNat < 2 ^ 16))
  | .bge c long imm => wfCore c && (long || decide (imm.toNat < 2 ^ 16))
  | .bltu c long imm => wfCore c && (long || decide (imm.toNat < 2 ^ 16))
  | .bgeu c long imm => wfCore c && (long || decide (imm.toNat < 2 ^ 16))
  | .bz c long imm => wfCore c && (long || decide (imm.toNat < 2 ^ 16))
  | .bnz c long imm => wfCore c && (long || decide (imm.toNat < 2 ^ 16))
  | .jmp c _ => wfCore c
  | .jmpL c _ => wfCore c
  | .call c _ => wfCore c
  | .callL c _ => wfCore c
  | .jmpi c => wfCore c
  | .calli c => wfCore c
  | .ret c => wfCore c
  | .rte c => wfCore c
  | .wfe c => wfCore c
  | .wfeWake c => wfCore c
  | .brk c _ => wfCore c
  | .svc c _ => wfCore c
  | .reservedOpcode c op => wfCore c && !lxListed c op.toNat
  | .interruptTaken c => wfCore c
  | .mul c => wfCore c
  | .mulu c => wfCore c
  | .mulResult c => wfCore c
  | .div c => wfCore c
  | .divu c => wfCore c
  | .divResult c => wfCore c
  | .ld8u c => wfCore c
  | .ld8s c => wfCore c
  | .ld16u c => wfCore c
  | .ld16s c => wfCore c
  | .ld32u c => wfCore c
  | .ld32s c => wfCore c
  | .ld64 c => wfCore c
  | .st8 c => wfCore c
  | .st16 c => wfCore c
  | .st32 c => wfCore c
  | .st64 c => wfCore c
  | .ldo64 c _ => wfCore c
  | .sto64 c _ => wfCore c
  | .cas64 c => wfCore c
  | .amoadd64 c => wfCore c
  | .fence c _ => wfCore c
  | .storePerformed c => wfCore c
  | .compatMove c _ _ _ => wfCore c
  | .compatAluTrigger c _ _ _ => wfCore c
  | .compatMulTrigger c _ _ _ => wfCore c
  | .compatLoadTrigger c _ _ _ => wfCore c
  | .compatStoreTrigger c _ _ _ => wfCore c
  | .compatJump c _ _ _ => wfCore c
  | .compatCondJump c _ _ _ => wfCore c
  | .compatCall c _ _ _ => wfCore c
  | .compatReturn c _ _ _ => wfCore c
  | .compatTcmd c _ _ _ => wfCore c
  | .lxcRestart m t => wfMaster m && wfTile t
  | .lxcStep m t => wfMaster m && wfTile t
  | .lxcHalt m t _ => wfMaster m && wfTile t
  | .lxcDoorbellRing m t => wfMaster m && wfTile t
  | .hbcScrubGo m shelf i => wfMaster m && (if shelf then wfDie i else wfStack i)
  | .hbcScrubAbort m shelf i => wfMaster m && (if shelf then wfDie i else wfStack i)
  | .scrubPassDone shelf i => if shelf then wfDie i else wfStack i
  | .ceWindowStart shelf i => if shelf then wfDie i else wfStack i
  | .hbmOdeccPoll i _ => wfStack i
  | .hbmRefresh i _ => wfStack i
  | .hbmRowClose i chan => wfStack i && decide (chan < 64)
  | .hbmWriteBatch i => wfStack i
  | .detectProbe n => wfLink n
  | .partnerDetected n => wfLink n
  | .noPartnerTimeout n => wfLink n
  | .trainFlit n _ _ => wfLink n
  | .negotiateDone n => wfLink n
  | .equalisationResult n _ lanes => wfLink n && decide (lanes < 16)
  | .keyxComplete n _ _ secret => wfLink n && decide (secret.length = 32)
  | .lossOfLock n => wfLink n
  | .retrainBackoffExpiry n => wfLink n
  | .linkDisableDrainEnd n => wfLink n
  | .dataFlit n bs _ => wfLink n && decide (bs.length = 64)
  | .idleFlit n bs => wfLink n && decide (bs.length = 64)
  | .tagFlit n bs => wfLink n && decide (bs.length = 64)
  | .keySwitchFlit n bs => wfLink n && decide (bs.length = 64)
  | .downFlit n bs => wfLink n && decide (bs.length = 64)
  | .retryFlit n bs => wfLink n && decide (bs.length = 64)
  | .retryRepeat n => wfLink n
  | .frameCloseTimer n => wfLink n
  | .creditReturnTimer n => wfLink n
  | .rekeyInterval n => wfLink n
  | .rekeyForce m n => wfMaster m && wfLink n
  | .masterSecretExchange n _ secret => wfLink n && decide (secret.length = 32)
  | .fecWindow n _ _ => wfLink n
  | .packetRoute p arr _ => wfPacket p && arr.all wfLink
  | .unreachableTimeout => true
  | .routeSwap m => wfMaster m
  | .routeSwapDone => true
  | .farEddyRequest n => wfLink n
  | .faultHeldRelease n => wfLink n
  | .ctxDoorbell m c v => wfMaster m && wfCtx c && decide (v < 2 ^ 32)
  | .descFetch c => wfCtx c
  | .put c => wfCtx c
  | .putFlag c => wfCtx c
  | .get c => wfCtx c
  | .atomic c => wfCtx c
  | .ledgerAdd c => wfCtx c
  | .queueWait c => wfCtx c
  | .queueNop c => wfCtx c
  | .reduce c => wfCtx c
  | .waitMet c => wfCtx c
  | .waitPoll c => wfCtx c
  | .waitTimeout c => wfCtx c
  | .putReceive p half => wfPacket p && wfPort half
  | .putFlagReceive p half => wfPacket p && wfPort half
  | .parkedFlagPlace c => wfCtx c
  | .getReqReceive p half => wfPacket p && wfPort half
  | .atomicReqReceive p half => wfPacket p && wfPort half
  | .ledgerAddReceive p half => wfPacket p && wfPort half
  | .resendReqReceive p half => wfPacket p && wfPort half
  | .getRspReceive p => wfPacket p
  | .atomicRspReceive p => wfPacket p
  | .completionReceive p => wfPacket p
  | .nackReceive p => wfPacket p
  | .trackerIdleTimeout c id => wfCtx c && decide (id < 2 ^ 24)
  | .msgTimeout c id => wfCtx c && decide (id < 2 ^ 24)
  | .busyResend c id => wfCtx c && decide (id < 2 ^ 24)
  | .ctxFetchDone c _ => wfCtx c
  | .winEnable m w => wfMaster m && wfWindow w
  | .winDisable m w => wfMaster m && wfWindow w
  | .winCrcCheck w => wfWindow w
  | .barArriveWrite m g => wfMaster m && wfGroup g
  | .barGroupEnable m g _ => wfMaster m && wfGroup g
  | .barrierArriveReceive n p => wfLink n && wfPacket p
  | .barrierReleaseReceive n p => wfLink n && wfPacket p
  | .reduceUpReceive n p => wfLink n && wfPacket p
  | .reduceDownReceive n p => wfLink n && wfPacket p
  | .partitionEnable m p => wfMaster m && wfSixteen p
  | .partitionDisable m p => wfMaster m && wfSixteen p
  | .jobSlotEnable m j => wfMaster m && wfSixteen j
  | .jobSlotDisable m j => wfMaster m && wfSixteen j
  | .joinReceive src job _ digest => decide (src < 2 ^ 20) && decide (job < 2 ^ 32) && decide (digest < 2 ^ 128)
  | .formedReceive src job => decide (src < 2 ^ 20) && decide (job < 2 ^ 32)
  | .joinTimeout j => wfSixteen j
  | .followSlowestWrite m j _ => wfMaster m && wfSixteen j
  | .paceNoticeReceive n p => wfLink n && wfPacket p
  | .throttleDetect j => wfSixteen j
  | .paceNoticeRepeat j => wfSixteen j
  | .throttleRelease j => wfSixteen j
  | .stragglerExpiry j module => wfSixteen j && decide (module < 2 ^ 20)
  | .streamEnable m p => wfMaster m && wfSixteen p
  | .streamTick p => wfSixteen p
  | .streamFrameDone m p v => wfMaster m && wfSixteen p && decide (v < 2 ^ 32)
  | .partStepWrite m p _ => wfMaster m && wfSixteen p
  | .ckptStepTrigger j => wfSixteen j
  | .ckptTimerTrigger j => wfSixteen j
  | .ckptManualTrigger m j => wfMaster m && wfSixteen j
  | .ckQuiesce job gen step idx retain via => decide (job < 2 ^ 32) && decide (gen < 2 ^ 32) && decide (step < 2 ^ 64) && decide (2 ≤ retain ∧ retain ≤ 7) && decide (idx ≤ retain) && wfVia via
  | .memberQuiesced j => wfSixteen j
  | .ckQuiesced src _ _ _ => decide (src < 2 ^ 20)
  | .ckTooLate src _ _ step => decide (src < 2 ^ 20) && decide (step < 2 ^ 64)
  | .ckWrite _ _ via => wfVia via
  | .shardWritesDone j => wfSixteen j
  | .ckWritten src _ _ entries => decide (src < 2 ^ 20) && entries.all (fun e => decide (e.length = 96))
  | .ckFailed src _ _ reason => decide (src < 2 ^ 20) && decide (reason < 256)
  | .ckResume _ _ via => wfVia via
  | .ckAbort _ _ reason via => wfVia via && decide (reason < 256)
  | .ckCommitted _ gen via => wfVia via && decide (gen < 2 ^ 32)
  | .quiesceTimeout j => wfSixteen j
  | .writeTimeout j => wfSixteen j
  | .manifestCommit j => wfSixteen j
  | .replicaWriteDone j _ => wfSixteen j
  | .rsBegin _ _ digest marks via => decide (digest < 2 ^ 384) && marks.all (fun e => decide (e.length = 256)) && wfVia via
  | .shardPartRequest src _ _ _ nsid _ _ digest _ _ => decide (src < 2 ^ 20) && wfNs nsid && decide (digest < 2 ^ 384)
  | .shardPartReceive src _ _ _ _ reason _ => decide (src < 2 ^ 20) && decide (reason < 256)
  | .rsDone src _ _ => decide (src < 2 ^ 20)
  | .rsFailed src _ _ reason via => decide (src < 2 ^ 20) && decide (reason < 256) && wfVia via
  | .rsResume _ _ step via => wfVia via && decide (step < 2 ^ 64)
  | .holderTimeout j => wfSixteen j
  | .restoreTimeout j => wfSixteen j
  | .inputSample mv ma => decide (mv < 2 ^ 16) && decide (ma < 655360)
  | .p1msWindow => true
  | .budgetTick _ _ draw calm => decide (draw.length = 16) && draw.all (fun r => decide (r.length = 16)) && decide (calm.length = 16)
  | .capWrite m v => wfMaster m && decide (v < 2 ^ 16)
  | .squallDutyStep duty => decide (duty ≤ 256)
  | .lullFillStart t => wfTile t
  | .lullHoldExpiry => true
  | .lullFillEnd t _ => wfTile t
  | .droopDetect t => wfTile t
  | .droopLimitExpiry d => wfDie d
  | .ageingCheck t _ => wfTile t
  | .brownoutWarning => true
  | .brownoutRecovered => true
  | .powerFail => true
  | .powerFailFlushDone => true
  | .holdupReserveReached => true
  | .overvoltage => true
  | .sensorRead temps hbm => decide (temps.length = 64) && decide (hbm.length = 16)
  | .emergencyRecheck => true
  | .thermalTrip i => decide (i < 56)
  | .coolantEstimate => true
  | .leakDetect => true
  | .leakClear => true
  | .getVersion req => wfReq req
  | .getCapabilities req => wfReq req
  | .negotiateAlgorithms req asym hash meas dhe aead reqAsym => wfReq req && decide (asym < 2 ^ 32) && decide (hash < 2 ^ 32) && decide (meas < 2 ^ 8) && decide (dhe < 2 ^ 16) && decide (aead < 2 ^ 16) && decide (reqAsym < 2 ^ 16)
  | .getDigests req => wfReq req
  | .getCertificate req slot off len => wfReq req && decide (slot < 8) && decide (off < 2 ^ 16) && decide (len < 2 ^ 16)
  | .challenge req slot nonce => wfReq req && decide (slot < 8) && decide (nonce.length = 32)
  | .getMeasurements req op _ nonce => wfReq req && decide (op < 256) && decide (nonce.length = 32)
  | .keyExchange req reqId secret => wfReq req && decide (reqId < 2 ^ 16) && decide (secret.length = 48)
  | .finish sess key _ => decide (sess < 2 ^ 32) && (match key with | some k => decide (k.length = 96) | none => true)
  | .heartbeat sess => decide (sess < 2 ^ 32)
  | .keyUpdate sess op => decide (sess < 2 ^ 32) && decide (op < 256)
  | .endSession sess => decide (sess < 2 ^ 32)
  | .chunkSend req part _ bs => wfReq req && decide (part < 2 ^ 16) && decide (bs.length ≤ 4096)
  | .chunkGet req part => wfReq req && decide (part < 2 ^ 16)
  | .spdmUnsupported req code => wfReq req && decide (code < 256)
  | .bind sess owner => decide (sess < 2 ^ 32) && wfOwner owner
  | .keyImport sess owner page typ usage _ _ => decide (sess < 2 ^ 32) && wfOwner owner && wfPage page && decide (typ < 8) && decide (usage < 16)
  | .keyDerive sess owner page child typ usage ctx => decide (sess < 2 ^ 32) && wfOwner owner && wfPage page && wfPage child && decide (typ < 8) && decide (usage < 16) && decide (ctx.length = 32)
  | .keyRelease sess page => decide (sess < 2 ^ 32) && wfPage page
  | .keyQuery sess owner => decide (sess < 2 ^ 32) && wfOwner owner
  | .seal sess p => decide (sess < 2 ^ 32) && wfSixteen p
  | .unseal sess p => decide (sess < 2 ^ 32) && wfSixteen p
  | .keyZeroiseDone i => wfPage i
  | .cipherDoorbell m r v => wfMaster m && wfRing r && decide (v < 2 ^ 32)
  | .gcmEnc r bad => wfRing r && wfBad bad
  | .gcmDec r bad => wfRing r && wfBad bad
  | .xtsEnc r bad => wfRing r && wfBad bad
  | .xtsDec r bad => wfRing r && wfBad bad
  | .sha384Job r bad => wfRing r && wfBad bad
  | .cipherJobComplete r => wfRing r
  | .engineSelfTestDone e _ => decide (e < 32)
  | .ideKmRequest sess op => decide (sess < 2 ^ 32) && wfIdeKm op
  | .ideStreamInsecure stream => wfStreamNo stream
  | .configRequest f tag _ => wfFn f && decide (tag < 2 ^ 14)
  | .bar2Read f tag off len => wfFn f && decide (tag < 2 ^ 14) && decide (0 < len ∧ len ≤ 4096) && decide (off < 2 ^ 40)
  | .bar2Write f off bs => wfFn f && decide (0 < bs.length ∧ bs.length ≤ 512) && decide (off < 2 ^ 40)
  | .bar2Atomic f tag off width _ => wfFn f && decide (tag < 2 ^ 14) && decide (off < 2 ^ 40) && decide (width = 4 ∨ width = 8 ∨ width = 16)
  | .readCompletion f _ _ bs _ => wfFn f && decide (bs.length ≤ 4096)
  | .completionTimeout f _ => wfFn f
  | .unexpectedCompletion f _ => wfFn f
  | .atsInvalidate f _ _ pages => wfFn f && decide (0 < pages)
  | .atsInvalidateDone f => wfFn f
  | .eventConsumerDoorbell m f v => wfMaster m && wfFn f && decide (v < 2 ^ 32)
  | .msixModerationExpiry f => wfFn f
  | .msixUnmask f vec addr data => wfFn f && decide (vec < 2048) && decide (addr < 2 ^ 64 ∧ data < 2 ^ 32)
  | .bmeClear f => wfFn f
  | .bmeSet f => wfFn f
  | .flr f => wfFn f
  | .flrResetState f _ => wfFn f
  | .ctxFlrReset c => wfCtx c
  | .powerStateChange f d => decide (f < 2) && decide (d < 3)
  | .perstAssert => true
  | .perstDeassert => true
  | .endpointReady => true
  | .mailboxGo f => wfFn f
  | .getResources f => wfFn f
  | .partCreate f r => wfFn f && wfPartReq r
  | .partDestroy f p => wfFn f && wfSixteen p
  | .ctxCreate f c r => wfFn f && wfCtx c && wfCtxReq r
  | .ctxReset f c msgId => wfFn f && wfCtx c && decide (msgId < 2 ^ 24)
  | .ctxPin f c _ => wfFn f && wfCtx c
  | .ctxDestroy f c => wfFn f && wfCtx c
  | .winWrite f w ctrl lo hi src mask ref => wfFn f && wfWindow w && decide (ctrl < 2 ^ 32 ∧ lo < 2 ^ 28 ∧ hi < 2 ^ 28 ∧ src < 2 ^ 20 ∧ mask < 2 ^ 20 ∧ ref < 2 ^ 32)
  | .barrierWrite f g cfg childLo childHi => wfFn f && wfGroup g && decide (cfg < 2 ^ 32 ∧ childLo < 2 ^ 32 ∧ childHi < 2 ^ 32)
  | .ringCreate f r part base log2 cpl vec => wfFn f && wfRing r && (match part with | some p => wfSixteen p | none => true) && decide (base < 2 ^ 40 ∧ cpl < 2 ^ 40 ∧ log2 < 32 ∧ vec < 64)
  | .ringDestroy f r => wfFn f && wfRing r
  | .slotMap f slot g => wfFn f && decide (slot < 1024) && decide (g < 768)
  | .slotUnmap f slot => wfFn f && decide (slot < 1024)
  | .eventRingSet f iova pasid log2 moderation => wfFn f && decide (iova < 2 ^ 64 ∧ pasid < 2 ^ 20 ∧ log2 < 32 ∧ moderation < 2 ^ 16)
  | .vfCreate f body => wfFn f && decide (body.length = 176)
  | .vfDestroy f v => wfFn f && wfVf v
  | .vfSetQos f v hbm send => wfFn f && wfVf v && decide (hbm < 256 ∧ send < 256)
  | .vfUnfreeze f v => wfFn f && wfVf v
  | .vfEnableChange pf _ num => decide (pf < 2) && decide (num < 64)
  | .movePrepare f v dst dstVf _ => wfFn f && wfVf v && decide (dst < 2 ^ 20) && wfVf dstVf
  | .moveFreeze f v => wfFn f && wfVf v
  | .moveHalted v => wfVf v
  | .moveSave f v => wfFn f && wfVf v
  | .moveSaved v => wfVf v
  | .moveRestore f v src srcVf key => wfFn f && wfVf v && decide (src < 2 ^ 20) && wfVf srcVf && decide (key.length = 32)
  | .moveChunkReceive v _ => wfVf v
  | .moveChunkTimeout v => wfVf v
  | .moveCommit f v => wfFn f && wfVf v
  | .moveCancel f v => wfFn f && wfVf v
  | .nvmeSqDoorbell ctrl qid tail => wfCtrl ctrl && decide (qid < 1536) && decide (tail < 65536)
  | .nvmeCqDoorbell ctrl qid head => wfCtrl ctrl && decide (qid < 1536) && decide (head < 65536)
  | .createIoSq h _ _ _ prio _ => wfNv h && decide (prio < 4)
  | .createIoCq h _ _ _ _ _ => wfNv h
  | .deleteIoSq h _ => wfNv h
  | .deleteIoCq h _ => wfNv h
  | .getLogPage h _ => wfNv h
  | .identify h _ => wfNv h
  | .nvmeAbort h _ _ => wfNv h
  | .setFeatures h _ value => wfNv h && decide (value < 2 ^ 32)
  | .getFeatures h _ _ => wfNv h
  | .asyncEventRequest h => wfNv h
  | .namespaceManagement h _ _ => wfNv h
  | .namespaceAttachment h _ _ => wfNv h
  | .firmwareImageDownload h _ _ => wfNv h
  | .firmwareCommit h action slot => wfNv h && decide (action < 8 ∧ slot < 8)
  | .nvmeUnsupported h op => wfNv h && decide (op < 256)
  | .nvmeFlush h => wfNv h
  | .nvmeWrite h _ nlb _ data engine => wfNv h && wfEngine engine && decide (0 < nlb) && (match data with | some d => decide (d.length = 4096 * nlb) | none => true)
  | .nvmeRead h _ nlb _ engine => wfNv h && wfEngine engine && decide (0 < nlb)
  | .writeZeroes h _ nlb _ engine => wfNv h && wfEngine engine && decide (0 < nlb)
  | .datasetManagement h _ ranges => wfNv h && decide (ranges.length ≤ 256)
  | .controllerEnable ctrl ams asqs acqs => wfCtrl ctrl && decide (ams < 8) && decide (2 ≤ asqs ∧ asqs ≤ 4096 ∧ 2 ≤ acqs ∧ acqs ≤ 4096)
  | .controllerReset ctrl => wfCtrl ctrl
  | .normalShutdown ctrl => wfCtrl ctrl
  | .abruptShutdown ctrl => wfCtrl ctrl
  | .destageBlock ns _ => wfNs ns
  | .dirtyClear ns => wfNs ns
  | .wbModeChange pct energy => decide (pct ≤ 100) && decide (energy < 256)
  | .driveFailure k => wfDrive k
  | .driveJoin k d => wfDrive k && wfDriveInfo d
  | .feedDoorbell m p v => wfMaster m && wfSixteen p && decide (v < 2 ^ 32)
  | .feedRead p engine => wfSixteen p && wfEngine engine
  | .feedComplete p _ => wfSixteen p
  | .frontPortLinkChange p _ _ partner lanes => wfPort p && decide (partner < 8 ∧ lanes < 16)
  | .frameReceive p _ _ ns bad => wfPort p && decide (ns < 1000) && wfEngine bad
  | .pfcFrameReceive p mask times => wfPort p && decide (mask < 256 ∧ times.length = 8) && times.all (· < 2 ^ 16)
  | .pfcPauseExpiry p prio => wfPort p && decide (prio < 8)
  | .ruleValidate m p r v => wfMaster m && wfPort p && decide (r < 4096 ∧ v < 2 ^ 32)
  | .policerRefill p => wfPort p
  | .policerWrite m p i k v => wfMaster m && wfPort p && decide (i < 1024 ∧ k < 4 ∧ v < 2 ^ 32)
  | .rxConsumerDoorbell m p r v => wfMaster m && wfPort p && decide (r < 512 ∧ v < 2 ^ 32)
  | .txDoorbell m p r v => wfMaster m && wfPort p && decide (r < 512 ∧ v < 2 ^ 32)
  | .txFrame p r bad => wfPort p && decide (r < 512) && wfEngine bad
  | .egressDequeue p => wfPort p
  | .roceSend c => wfCtx c
  | .roceWrite c => wfCtx c
  | .roceRead c => wfCtx c
  | .roceWriteImm c => wfCtx c
  | .rocePacketReceive p srcQp _ => wfPort p && decide (srcQp < 2 ^ 24)
  | .roceAckReceive p srcQp _ => wfPort p && decide (srcQp < 2 ^ 24)
  | .cnpReceive p srcQp _ => wfPort p && decide (srcQp < 2 ^ 24)
  | .roceRetryTimeout c => wfCtx c
  | .roceRateIncrease c => wfCtx c
  | .roceReceiveDoorbell m c v => wfMaster m && wfCtx c && decide (v < 2 ^ 32)
  | .telSample i _ => decide (i < 512)
  | .telConsumerDoorbell m v => wfMaster m && decide (v < 2 ^ 32)
  | .inputApplied => true
  | .startSequence r => wfReport r
  | .startStepLimit => true
  | .pwrEnDeassert => true
  | .refclkLoss => true
  | .refclkReturn => true
  | .circWatchdogExpiry k => decide (k < 8)
  | .coreRestartDone k => decide (k < 8)
  | .libWatchdogExpiry => true
  | .tracePoint k n => decide (k < 9 ∧ n < 256)
  | .deferredActivationDue => true
  | .recoveryBundle _ => true
  | .dictRead d => wfD d
  | .dictWrite d _ => wfD d && !ownCommand d.idx d.sub
  | .describe d => wfD d
  | .list d => wfD d
  | .dictChallenge d => wfD d
  | .login d _ _ _ => wfD d
  | .logout d => wfD d
  | .sessionOpen transport => decide (transport = 1 ∨ transport = 2)
  | .sessionIdleTimeout n => decide (n < 11)
  | .segmentGapTimeout n => decide (n < 11)
  | .loginBarExpiry transport => decide (transport < 3)
  | .scrubGo d _ => wfObj d 0xA111 4 4
  | .dictEddy d _ => wfObj d 0xA201 1 48
  | .dictFaultInject d _ => wfObj d 0xA200 1 48
  | .routeTables d _ tables => wfObj d 0x3013 1 1 && tables.all (fun x => decide (x.2.1 < 16384 ∧ x.2.2 < 2 ^ 50))
  | .driveFormat d _ => wfObj d 0x4003 1 1
  | .nsCreate d _ a => wfObj d 0x4010 1 1 && wfNsAsk a
  | .nsDelete d _ => wfObj d 0x4010 2 2
  | .nsAttach d _ _ _ => wfObj d 0x4010 3 3
  | .nsKeyBind d _ _ page => wfObj d 0x4012 1 1 && decide (page < 4096)
  | .nsClearLost d _ => wfObj d 0x4012 3 3
  | .jobGroup d _ job notice _ _ => wfObj d 0x9001 1 16 && decide (job < 2 ^ 32 ∧ notice < 4096)
  | .partition d _ _ r => wfObj d 0x9002 1 16 && wfPartReq r && decide (r.p + 1 = d.sub)
  | .ckptTrigger d _ => wfObj d 0x9011 1 16
  | .restore d _ j _ _ _ _ _ _ _ => wfObj d 0x9013 1 1 && wfSixteen j
  | .dictVfCreate d _ => wfObj d 0x6003 1 1
  | .dictVfDestroy d _ => wfObj d 0x6003 2 2
  | .restart d _ => wfObj d 0xA300 4 4
  | .coreRestart d _ => wfObj d 0xA320 1 1
  | .bundleImage d _ => wfObj d 0x7001 1 1
  | .catalogueImage d _ => wfObj d 0x7001 2 2
  | .commit d _ => wfObj d 0x7001 3 3
  | .activate d _ => wfObj d 0x7001 4 4
  | .cancel d _ => wfObj d 0x7001 5 5
  | .moduleTime d _ => wfObj d 0x1002 1 1
  | .debugEnable d _ => wfObj d 0xF001 1 1
  | .credentialReset d _ => wfObj d 0xF001 2 2
  | .i3cAddressAssign a => decide (a < 128)
  | .jtagAccess _ addr _ => decide (addr < 2 ^ 40 ∧ addr % 4 = 0)
  | .librarianReturn => true
  | .driveCompletion _ _ _ => true
  | .endpointLinkChange state speed width _ => decide (state < 7) && decide (speed ≤ 6) && decide (width ≤ 16)
  | .aggregationTimeExpiry ctrl _ => wfCtrl ctrl
  | .droopStretchEnd t => wfTile t

end Sys2Proof
end

