-- ==== Sys2Proof/Certificates/Slice0/Obligations.lean ====
section
/-!
DEFINITION. The statements for the provers, family by family.
-/
open Sys2Proof Sys2Proof.Machine

/-- For every command and every state: a step with the command at the front of the queue answers what exec of that command
answers on the state whose queue is the rest. That the commands wait in a queue is the model's form (log entry 1). -/
def Obligations.StepRunsTheFrontCommand : Prop :=
  ∀ (c : Instr) (s : State), step { s with pending := c :: s.pending } = exec c s

/-- At State.reset the module's STATE is OFF, every register of the maps reads the reset value of its map, every byte of memory
reads zero, no command waits, nothing was sent, every core is HELD, and every tile, queue context and partition is unused; the state has the
form that every step keeps. That
memory and the registers without a stated reset value are zero is the model's choice (log entries 2 and 3). -/
def Obligations.ResetState : Prop :=
  let s := State.reset
  s.fld F.MOD_STS_STATE = 0 ∧ (∀ o, s.reg o = resetAt o) ∧ (∀ a, s.readByte a = 0) ∧ FormOk s ∧
    s.pending = [] ∧ s.out = [] ∧ (∀ c, (s.core c).st = .held) ∧ (∀ t, (s.tile t).queue = [] ∧ (s.tile t).issued = []) ∧
    (∀ c, (s.ctx c).st = .free) ∧ (∀ t, s.partOf t = none)

/-- In every state, every command, and the step of an empty queue, answers a next state: no meaning faults and none refuses. -/
def Obligations.EveryStepAnswersNext : Prop :=
  (∀ (c : Instr) (s : State), ∃ t, exec c s = Next t) ∧ (∀ s : State, ∃ t, step s = Next t)

/-- For every register whose fields start no command of their own, and every master that its guard admits: a 32-bit write leaves
RO and RC fields as they are; a value outside a field's encodings leaves that field and sets BAD_ACCESS; an RW field takes the
value; a W1C field loses the bits written 1; an RWG field takes the value while the block is unlocked and its gate open, and
else keeps its own and sets LOCKED_WRITE or LATE_WRITE where the value differs. Memory, cores and tiles stay. -/
def Obligations.RegisterWriteFollowsAccessCodes : Prop :=
  ∀ (s : State) (m : Master) (off : Nat) (v : Word) (b : Blk) (rel : Nat) (r : RegRow),
    regAt off = some (b, rel, r) → off % 4 = 0 → s.regAbsent off = false → (r.guarded = true → s.isSecure m = true) →
    (∀ f ∈ r.fields, f.trig = false) →
    ∃ t, exec (.registerWrite m off 4 v) s = Next t ∧
      (∀ f ∈ r.fields,
        let old := bits (s.reg off).toNat f.hi f.lo
        let new := bits (t.reg off).toNat f.hi f.lo
        let x := bits v.toNat f.hi f.lo
        let fits := f.least ≤ x ∧ x ≤ f.greatest
        (f.acc = .ro ∨ f.acc = .rc → new = old) ∧
        (¬fits → f.acc ≠ .ro → f.acc ≠ .rc → new = old ∧ t.flag (b.err 5) = true) ∧
        (fits → f.acc = .rw → new = x) ∧
        (fits → f.acc = .w1c → new = old - (old &&& x)) ∧
        (fits → f.acc = .rwg → s.flag b.lock = false → s.gateClosed b rel r = false → new = x) ∧
        (fits → f.acc = .rwg → s.flag b.lock = true → new = old ∧ (x ≠ old → t.flag (b.err 2) = true)) ∧
        (fits → f.acc = .rwg → s.flag b.lock = false → s.gateClosed b rel r = true →
          new = old ∧ (x ≠ old → t.flag (b.err 1) = true))) ∧
      t.mem = s.mem ∧ t.cores = s.cores ∧ t.tiles = s.tiles

/-- A write of a guarded register by a master that is not secure leaves the register and sets GUARD: a host PF is only logged, a
lectern core that was not frozen is frozen from then on. A write narrower than 32 bits is discarded and sets BAD_ACCESS. A
write at an offset that holds no register changes no register but those of the MOD hole capture and error bit, which
shows ADDR_HOLE. None of them writes memory. -/
def Obligations.RegisterWriteRefusals : Prop :=
  ∀ (s : State) (m : Master) (off width : Nat) (v : Word), s.logFifo.length < 64 →
    (∀ b rel r, regAt off = some (b, rel, r) → off % 4 = 0 → (rel < 0xFF00 ∨ 0xFF18 < rel) → s.regAbsent off = false →
      (r.guarded = true → s.isSecure m = false → s.isFrozen m = false → (m.cls = .hostPf ∨ (m.cls = .lectern ∧ m.index < 16)) →
        ∃ t, exec (.registerWrite m off width v) s = Next t ∧ t.reg off = s.reg off ∧ t.flag (b.err 4) = true ∧
          (m.cls = .lectern → (t.core m.index).frozen = true) ∧ (m.cls = .hostPf → t.cores = s.cores) ∧ t.mem = s.mem) ∧
      ((r.guarded = true → s.isSecure m = true) → width < 4 →
        ∃ t, exec (.registerWrite m off width v) s = Next t ∧ t.reg off = s.reg off ∧ t.flag (b.err 5) = true ∧
          t.cores = s.cores ∧ t.mem = s.mem)) ∧
    (regAt (off / 4 * 4) = none → inDoors off = false →
      ∃ t, exec (.registerWrite m off width v) s = Next t ∧ t.flag (blkMod.err 18) = true ∧
        (∀ o, o ∉ [blkMod.errOff, 0x20, 0x24, 0x28] → t.reg o = s.reg o) ∧ t.cores = s.cores ∧ t.mem = s.mem)

/-- A 32-bit aligned write of the alias of a one-bit field that starts no command sets or clears an RW bit, clears a W1C bit
where it writes 1, and changes no other bit of the register; on a bit of a multi-bit field it changes nothing and sets
BAD_ACCESS; a misaligned one is a hole. A read of a counter's _LO half answers it and captures _HI, and the next read of
_HI answers the captured value whatever the counter holds by then. -/
def Obligations.BitAliasAndCounterPairs : Prop :=
  (∀ (s : State) (m : Master) (off n : Nat) (v : Word) (b : Blk) (rel : Nat) (r : RegRow) (f : FieldRow),
    regAt off = some (b, rel, r) → off % 4 = 0 → n < 32 → s.regAbsent off = false → (r.guarded = true → s.isSecure m = true) →
    r.fields.find? (fun f => decide (f.lo ≤ n ∧ n ≤ f.hi)) = some f → f.trig = false →
    let a := (off * 8 + n) * 4
    (f.lo = n → f.hi = n → f.least = 0 → f.greatest = 1 →
      (f.acc = .rw → ∃ t, exec (.bitAliasWrite m a v) s = Next t ∧
        (∀ k, (t.reg off).getLsbD k = if k = n then v.getLsbD 0 else (s.reg off).getLsbD k) ∧
        (∀ o, o ≠ off → t.reg o = s.reg o) ∧ t.mem = s.mem) ∧
      (f.acc = .w1c → ∃ t, exec (.bitAliasWrite m a v) s = Next t ∧
        (∀ k, (t.reg off).getLsbD k = if k = n ∧ v.getLsbD 0 = true then false else (s.reg off).getLsbD k) ∧
        (∀ o, o ≠ off → t.reg o = s.reg o) ∧ t.mem = s.mem) ∧
      (f.acc = .ro → exec (.bitAliasWrite m a v) s = Next s)) ∧
    (f.lo < f.hi → (rel < 0xFF00 ∨ 0xFF18 < rel) → s.logFifo.length < 64 →
      ∃ t, exec (.bitAliasWrite m a v) s = Next t ∧ t.reg off = s.reg off ∧ t.flag (b.err 5) = true ∧ t.mem = s.mem)) ∧
  (∀ (s : State) (m : Master) (a : Nat) (v : Word), a % 4 ≠ 0 →
    ∃ t, exec (.bitAliasWrite m a v) s = Next t ∧ t.flag (blkMod.err 18) = true ∧ t.mem = s.mem) ∧
  (∀ (s u : State) (m : Master) (off : Nat) (b : Blk) (rel : Nat) (r r' : RegRow), off % 4 = 0 →
    regAt off = some (b, rel, r) → regAt (off + 4) = some (b, rel + 4, r') → r.guarded = false → r'.guarded = false →
    isPairLo b rel = true → isPairLo b (rel + 4) = false → s.regAbsent off = false → u.regAbsent (off + 4) = false →
    r.maskOf .wo = 0 → r'.maskOf .wo = 0 → rel ≠ 0xFF00 →
    ∃ t, exec (.counterPairLoRead m off) s = Next t ∧ t.out = .readData m (s.reg off).toNat :: s.out ∧ t.regs = s.regs ∧
      (u.pairCap = t.pairCap → ∃ w, exec (.counterPairLoRead m (off + 4)) u = Next w ∧
        w.out = .readData m (s.reg (off + 4)).toNat :: u.out ∧ w.regs = u.regs))

/-- For a block other than a link or a tile, under a master that its header admits. ENABLE from 0 sets ACTIVE too with CRC_CHECK
at 0, leaves ACTIVE 0 with CRC_CHECK at 1 until the pass ends, and on a draining block cancels the drain; the router without a
module ID refuses. A disable clears ENABLE and keeps ACTIVE, which falls when the last accepted work completes. LOCK sets. The
enable pass starts the block where the CRC-32C of its gated image is REF, and else clears ENABLE and sets CFG_CRC; a pass of
an active block that mismatches sets CFG_CRC, and clears ENABLE only with CRC_STOP at 1. No memory is written. -/
def Obligations.BlockEnableDrainLockAndCrc : Prop :=
  ∀ (s : State) (m : Master) (b : Blk), b.kind ≠ .til → b.kind ≠ .myl →
    (∀ b' rel r, regAt b.ctrlOff = some (b', rel, r) → r.guarded = true → s.isSecure m = true) →
    let on := s.flag b.enable
    let act := s.flag b.active
    let chk := s.flag b.crcCheck
    let crc := BitVec.ofNat 32 (crc32c (s.cfgImage b))
    let shows := fun (t : State) (e a : Bool) => t.flag b.enable = e ∧ t.flag b.active = a ∧ t.mem = s.mem ∧
      ∀ o, o ≠ b.ctrlOff → t.reg o = s.reg o
    (b.kind ≠ .myr ∨ s.flag F.MYR_FABRIC_ID_VALID = true → on = false →
      (act = false → chk = false → ∃ t, exec (.blockEnable m b) s = Next t ∧ shows t true true) ∧
      (act = false → chk = true → ∃ t, exec (.blockEnable m b) s = Next t ∧ shows t true false) ∧
      (act = true → ∃ t, exec (.blockEnable m b) s = Next t ∧ shows t true true)) ∧
    (b.kind = .myr → s.flag F.MYR_FABRIC_ID_VALID = false → exec (.blockEnable m b) s = Next s) ∧
    (on = true → ∃ t, exec (.blockDisable m b) s = Next t ∧ shows t false act) ∧
    (on = false → act = true → s.blockBusy b = false → ∃ t, exec (.blockDrainDone b) s = Next t ∧ shows t false false) ∧
    (∃ t, exec (.blockLock m b) s = Next t ∧ t.flag b.lock = true ∧ shows t on act) ∧
    (on = true → act = false → chk = true → ∃ t, exec (.cfgCrcEnablePassDone b) s = Next t ∧ t.reg b.cfgCrcOff = crc ∧
      t.mem = s.mem ∧
      (crc = s.reg b.cfgRefOff → t.flag b.enable = true ∧ t.flag b.active = true) ∧
      (crc ≠ s.reg b.cfgRefOff → t.flag b.enable = false ∧ t.flag b.active = false ∧ t.flag (b.err 3) = true)) ∧
    (act = true → chk = true → ∃ t, exec (.cfgCrcPass b) s = Next t ∧ t.reg b.cfgCrcOff = crc ∧ t.flag b.active = true ∧
      t.mem = s.mem ∧
      (crc = s.reg b.cfgRefOff → t.flag b.enable = on) ∧
      (crc ≠ s.reg b.cfgRefOff → t.flag (b.err 3) = true ∧
        t.flag b.enable = (on && !s.flag b.crcStop)))

/-- For every core that is ready to retire an LX instruction, with its operands in hardware and room for its results: each of
NOP, DROP, DUP, SWAP, OVER, ROT, NIP, TUCK, DROP2, DUP2, DEPTH, PICK, PICKI, LIT8, LIT16, LIT32, LIT64, LITU32, ADDI8 and
ADDI32 answers the next state in which the data stack holds the cells that R160 gives (listed top first), PC has moved past
the instruction, CYCLE has counted one, and nothing else of the machine has changed: no other core, register, flag or
byte of memory. -/
def Obligations.LxStackAndLiteralInstructions : Prop :=
  ∀ (s : State) (c : Nat),
    let x := s.core c
    let goes := fun (n : Nat) (ds : List LxCell) => Next (s.retired c ds x.rs (x.pc + n) 1)
    (LxReady s c 1 →
      exec (.nop c) s = goes 1 x.ds ∧
      (∀ a r, x.ds = a :: r →
        exec (.drop c) s = goes 1 r ∧
        (r.length ≤ 30 → exec (.dup c) s = goes 1 (a :: a :: r))) ∧
      (∀ b a r, x.ds = b :: a :: r →
        exec (.swap c) s = goes 1 (a :: b :: r) ∧
        exec (.nip c) s = goes 1 (b :: r) ∧
        exec (.drop2 c) s = goes 1 r ∧
        (r.length ≤ 29 → exec (.over c) s = goes 1 (a :: b :: a :: r) ∧ exec (.tuck c) s = goes 1 (b :: a :: b :: r)) ∧
        (r.length ≤ 28 → exec (.dup2 c) s = goes 1 (b :: a :: b :: a :: r))) ∧
      (∀ d b a r, x.ds = d :: b :: a :: r → exec (.rot c) s = goes 1 (a :: d :: b :: r)) ∧
      (x.ds.length ≤ 31 → exec (.depth c) s = goes 1 (BitVec.ofNat 64 (x.ds.length + (x.dsMem - x.dsBase) / 8) :: x.ds)) ∧
      (∀ n r, x.ds = n :: r → n.toNat ≤ 23 → n.toNat < r.length → exec (.pick c) s = goes 1 (r.getD n.toNat 0 :: r))) ∧
    (LxReady s c 2 →
      (∀ imm : BitVec 8, imm.toNat ≤ 23 → imm.toNat < x.ds.length → x.ds.length ≤ 31 →
        exec (.picki c imm) s = goes 2 (x.ds.getD imm.toNat 0 :: x.ds)) ∧
      (∀ imm : BitVec 8, x.ds.length ≤ 31 → exec (.lit8 c imm) s = goes 2 (imm.signExtend 64 :: x.ds)) ∧
      (∀ (imm : BitVec 8) a r, x.ds = a :: r → exec (.addi8 c imm) s = goes 2 ((a + imm.signExtend 64) :: r))) ∧
    (LxReady s c 3 → x.ds.length ≤ 31 →
      ∀ imm : BitVec 16, exec (.lit16 c imm) s = goes 3 (imm.signExtend 64 :: x.ds)) ∧
    (LxReady s c 5 →
      (∀ imm : BitVec 32, x.ds.length ≤ 31 →
        exec (.lit32 c imm) s = goes 5 (imm.signExtend 64 :: x.ds) ∧
        exec (.litu32 c imm) s = goes 5 (imm.zeroExtend 64 :: x.ds)) ∧
      (∀ (imm : BitVec 32) a r, x.ds = a :: r → exec (.addi32 c imm) s = goes 5 ((a + imm.signExtend 64) :: r))) ∧
    (LxReady s c 9 → x.ds.length ≤ 31 → ∀ imm : BitVec 64, exec (.lit64 c imm) s = goes 9 (imm :: x.ds))

/-- On a core that is ready, with the operand in hardware and room on the stack that grows, TOR moves the data stack's top to
the return stack, FROMR moves it back, RFETCH copies the return stack's top to the data stack and RDROP drops it; PC and CYCLE
move on by one and nothing else changes. -/
def Obligations.LxReturnStackInstructions : Prop :=
  ∀ (s : State) (c : Nat), LxReady s c 1 →
    let x := s.core c
    (∀ a r, x.ds = a :: r → x.rs.length ≤ 15 → exec (.tor c) s = Next (s.retired c r (a :: x.rs) (x.pc + 1) 1)) ∧
    (∀ a r, x.rs = a :: r →
      (x.ds.length ≤ 31 →
        exec (.fromr c) s = Next (s.retired c (a :: x.ds) r (x.pc + 1) 1) ∧
        exec (.rfetch c) s = Next (s.retired c (a :: x.ds) x.rs (x.pc + 1) 1)) ∧
      exec (.rdrop c) s = Next (s.retired c x.ds r (x.pc + 1) 1))

/-- On a core that is ready, with the operands in hardware, every ALU instruction of R161 replaces its operands by the result
that R161 gives, in one cycle, and changes nothing else; the shift immediates above 63 raise UNDEF: at the user level CAUSE
becomes 1, and the stacks stay. -/
def Obligations.LxAluInstructions : Prop :=
  ∀ (s : State) (c : Nat),
    let x := s.core c
    let goes := fun (n : Nat) (ds : List LxCell) => Next (s.retired c ds x.rs (x.pc + n) 1)
    let flag := fun b : Bool => (if b then 1 else 0 : LxCell)
    (LxReady s c 1 →
      (∀ b a r, x.ds = b :: a :: r →
        exec (.add c) s = goes 1 ((a + b) :: r) ∧ exec (.sub c) s = goes 1 ((a - b) :: r) ∧
        exec (.and c) s = goes 1 ((a &&& b) :: r) ∧ exec (.or c) s = goes 1 ((a ||| b) :: r) ∧
        exec (.xor c) s = goes 1 ((a ^^^ b) :: r) ∧
        exec (.shl c) s = goes 1 ((a <<< (b.toNat % 64)) :: r) ∧ exec (.shr c) s = goes 1 ((a >>> (b.toNat % 64)) :: r) ∧
        exec (.sar c) s = goes 1 (a.sshiftRight (b.toNat % 64) :: r) ∧
        exec (.slt c) s = goes 1 (flag (decide (a.toInt < b.toInt)) :: r) ∧
        exec (.sltu c) s = goes 1 (flag (decide (a.toNat < b.toNat)) :: r) ∧
        exec (.seq c) s = goes 1 (flag (decide (a = b)) :: r) ∧
        exec (.min c) s = goes 1 ((if a.toInt ≤ b.toInt then a else b) :: r) ∧
        exec (.max c) s = goes 1 ((if a.toInt ≤ b.toInt then b else a) :: r) ∧
        exec (.minu c) s = goes 1 ((if a.toNat ≤ b.toNat then a else b) :: r) ∧
        exec (.maxu c) s = goes 1 ((if a.toNat ≤ b.toNat then b else a) :: r)) ∧
      (∀ a r, x.ds = a :: r →
        exec (.not c) s = goes 1 ((~~~a) :: r) ∧ exec (.neg c) s = goes 1 ((-a) :: r) ∧
        exec (.inc c) s = goes 1 ((a + 1) :: r) ∧ exec (.dec c) s = goes 1 ((a - 1) :: r) ∧
        (∀ n, n ≤ 64 → (∀ i, 64 - n ≤ i → i < 64 → a.getLsbD i = false) → (n = 64 ∨ a.getLsbD (63 - n) = true) →
          exec (.clz c) s = goes 1 (BitVec.ofNat 64 n :: r)) ∧
        (∀ n, n ≤ 64 → (∀ i, i < n → a.getLsbD i = false) → (n = 64 ∨ a.getLsbD n = true) →
          exec (.ctz c) s = goes 1 (BitVec.ofNat 64 n :: r)) ∧
        exec (.popc c) s = goes 1 (BitVec.ofNat 64 ((List.range 64).countP (fun i => a.getLsbD i)) :: r) ∧
        exec (.sext8 c) s = goes 1 (BitVec.signExtend 64 (a.setWidth 8) :: r) ∧
        exec (.sext16 c) s = goes 1 (BitVec.signExtend 64 (a.setWidth 16) :: r) ∧
        exec (.sext32 c) s = goes 1 (BitVec.signExtend 64 (a.setWidth 32) :: r) ∧
        exec (.zext8 c) s = goes 1 (BitVec.setWidth 64 (a.setWidth 8) :: r) ∧
        exec (.zext16 c) s = goes 1 (BitVec.setWidth 64 (a.setWidth 16) :: r) ∧
        exec (.zext32 c) s = goes 1 (BitVec.setWidth 64 (a.setWidth 32) :: r) ∧
        (∃ v : LxCell, exec (.bswap c) s = goes 1 (v :: r) ∧
          ∀ i, i < 8 → v.extractLsb' (8 * i) 8 = a.extractLsb' (8 * (7 - i)) 8) ∧
        exec (.zeq c) s = goes 1 (flag (decide (a = 0)) :: r))) ∧
    (LxReady s c 2 → ∀ (imm : BitVec 8),
      (imm.toNat ≤ 63 → ∀ a r, x.ds = a :: r →
        exec (.shli c imm) s = goes 2 ((a <<< imm.toNat) :: r) ∧ exec (.shri c imm) s = goes 2 ((a >>> imm.toNat) :: r) ∧
        exec (.sari c imm) s = goes 2 (a.sshiftRight imm.toNat :: r)) ∧
      (63 < imm.toNat → x.priv = false →
        (∃ t, exec (.shli c imm) s = Next t ∧ (t.core c).cause = 1 ∧ (t.core c).ds = x.ds ∧ (t.core c).epc = x.pc) ∧
        (∃ t, exec (.shri c imm) s = Next t ∧ (t.core c).cause = 1 ∧ (t.core c).ds = x.ds ∧ (t.core c).epc = x.pc) ∧
        (∃ t, exec (.sari c imm) s = Next t ∧ (t.core c).cause = 1 ∧ (t.core c).ds = x.ds ∧ (t.core c).epc = x.pc))) ∧
    (LxReady s c 5 → ∀ (imm : BitVec 32) a r, x.ds = a :: r →
      exec (.andi32 c imm) s = goes 5 ((a &&& imm.signExtend 64) :: r))

/-- On a core that is ready, with the operands in hardware, each of the eight branches, in its 16-bit and its 32-bit form, pops
its operands, and PC becomes the branch's own address plus the sign-extended offset where the condition of R162 holds, and the
address of the next instruction otherwise; nothing else changes but CYCLE and a division's remaining cycles. -/
def Obligations.LxBranches : Prop :=
  ∀ (s : State) (c : Nat) (long : Bool) (imm : BitVec 32), LxReady s c (if long then 5 else 3) →
    let x := s.core c
    let off : LxCell := if long then imm.signExtend 64 else (imm.setWidth 16).signExtend 64
    let taken := (BitVec.ofNat 64 x.pc + off).toNat
    let next := x.pc + (if long then 5 else 3)
    let goes := fun (b : Bool) (r : List LxCell) =>
      Next (s.retired c r x.rs (if b then taken else next) (if b then 2 else 1))
    (∀ b a r, x.ds = b :: a :: r →
      exec (.beq c long imm) s = goes (decide (a = b)) r ∧
      exec (.bne c long imm) s = goes (decide (a ≠ b)) r ∧
      exec (.blt c long imm) s = goes (decide (a.toInt < b.toInt)) r ∧
      exec (.bge c long imm) s = goes (decide (b.toInt ≤ a.toInt)) r ∧
      exec (.bltu c long imm) s = goes (decide (a.toNat < b.toNat)) r ∧
      exec (.bgeu c long imm) s = goes (decide (b.toNat ≤ a.toNat)) r) ∧
    (∀ a r, x.ds = a :: r →
      exec (.bz c long imm) s = goes (decide (a = 0)) r ∧
      exec (.bnz c long imm) s = goes (decide (a ≠ 0)) r)

/-- On a core that is ready, RSP of each special register that R170 lists pushes the content that R157, R166, R170 and R177 give
it, at the user level where the register is readable there and else at the privileged level; RSP of a privileged register at
the user level takes the PRIV trap, and RSP of a number that is not listed the UNDEF trap. WSP of each writable register, at a
level that may write it, pops the cell and writes it: low bits forced to zero, a new base sets the memory pointer, a
memory pointer outside base to limit is ignored. Nothing else changes. -/
def Obligations.LxSpecialRegisters : Prop :=
  ∀ (s : State) (c : Nat), LxReady s c 2 →
    let x := s.core c
    let num := fun v : Nat => BitVec.ofNat 64 v
    (x.ds.length ≤ 31 →
      (∀ p ∈ ([(0x00, num 0x32160200), (0x01, num (if c < 16 then 0x1F else 0x1E)),
          (0x02, num (coreIm c / 1024 + coreDm c / 1024 * 2 ^ 16 + 32 * 2 ^ 32 + 16 * 2 ^ 40)),
          (0x03, ((s.coreMaster c).word.zeroExtend 64)), (0x04, num x.cycle), (0x08, x.mlo), (0x09, x.mhi), (0x0A, x.quo),
          (0x0B, x.rem),
          (0x0C, num (ofBool x.divLost * 4 + ofBool (decide (x.mulQ ≠ [])) +
            (match x.divQ with | some d => max 1 (min d.2.2 255) * 256 + 2 | none => 0))),
          (0x10, num (ofBool (s.coreSecure c) * 16 + ofBool x.ie * 2 + ofBool x.priv)),
          (0x20, num x.dsBase), (0x21, num x.dsLimit), (0x22, num x.dsMem), (0x23, num x.ds.length),
          (0x24, num x.rsBase), (0x25, num x.rsLimit), (0x26, num x.rsMem), (0x27, num x.rs.length)] :
            List (BitVec 8 × LxCell)),
        exec (.rsp c p.1) s = Next (s.retired c (p.2 :: x.ds) x.rs (x.pc + 2) 1)) ∧
      (∀ p ∈ ([(0x11, num x.epc), (0x12, num x.estatus), (0x13, num x.cause), (0x14, num x.tval), (0x16, num x.vbase),
          (0x17, num x.scratch0), (0x18, num x.scratch1), (0x30, num x.timerCmp), (0x31, num (irqPend c x)),
          (0x32, num x.irqEn), (0x38, num x.watchAddr), (0x39, num x.watchMask), (0x3A, num x.watchCtrl)] :
            List (BitVec 8 × LxCell)),
        (x.priv = true → exec (.rsp c p.1) s = Next (s.retired c (p.2 :: x.ds) x.rs (x.pc + 2) 1)) ∧
        (x.priv = false → ∃ t v, exec (.rsp c p.1) s = Next t ∧ TookTrap s c 4 v x.pc t)) ∧
      (∀ n : BitVec 8, n ∈ ([0x05, 0x0D, 0x19, 0x28, 0x33, 0x3B, 0x40, 0xFF] : List (BitVec 8)) → x.priv = false →
        ∃ t v, exec (.rsp c n) s = Next t ∧ TookTrap s c 1 v x.pc t)) ∧
    (∀ a r, x.ds = a :: r →
      let y : Core := { x with ds := r }
      let v := a.toNat
      let goes := fun (z : Core) (n : Nat) => Next (s.setCore c (z.moved (x.pc + 2) n))
      exec (.wsp c 0x08) s = goes { y with mlo := a } 1 ∧ exec (.wsp c 0x09) s = goes { y with mhi := a } 1 ∧
      exec (.wsp c 0x0A) s = goes { y with quo := a } 1 ∧ exec (.wsp c 0x0B) s = goes { y with rem := a } 1 ∧
      exec (.wsp c 0x0C) s = goes { y with divLost := v.testBit 2 } 1 ∧
      (x.priv = true →
        exec (.wsp c 0x04) s = goes { y with cycle := v } 1 ∧
        exec (.wsp c 0x10) s = Next (s.setCore c
          (({ y with we := v.testBit 2, ie := v.testBit 1, priv := v.testBit 0 } : Core).moved (x.pc + 2) 1)) ∧
        exec (.wsp c 0x11) s = goes { y with epc := v } 1 ∧ exec (.wsp c 0x12) s = goes { y with estatus := v } 1 ∧
        exec (.wsp c 0x13) s = goes { y with cause := v } 1 ∧ exec (.wsp c 0x14) s = goes { y with tval := v } 1 ∧
        exec (.wsp c 0x16) s = goes { y with vbase := v / 64 * 64 } 1 ∧
        exec (.wsp c 0x17) s = goes { y with scratch0 := v } 1 ∧ exec (.wsp c 0x18) s = goes { y with scratch1 := v } 1 ∧
        exec (.wsp c 0x20) s = goes { y with dsBase := v / 64 * 64, dsMem := v / 64 * 64 } 2 ∧
        exec (.wsp c 0x21) s = goes { y with dsLimit := v / 64 * 64 } 2 ∧
        exec (.wsp c 0x22) s =
          goes (if x.dsBase ≤ v / 64 * 64 ∧ v / 64 * 64 ≤ x.dsLimit then { y with dsMem := v / 64 * 64 } else y) 2 ∧
        exec (.wsp c 0x24) s = goes { y with rsBase := v / 32 * 32, rsMem := v / 32 * 32 } 2 ∧
        exec (.wsp c 0x25) s = goes { y with rsLimit := v / 32 * 32 } 2 ∧
        exec (.wsp c 0x26) s =
          goes (if x.rsBase ≤ v / 32 * 32 ∧ v / 32 * 32 ≤ x.rsLimit then { y with rsMem := v / 32 * 32 } else y) 2 ∧
        exec (.wsp c 0x30) s = goes { y with timerCmp := v } 1 ∧
        exec (.wsp c 0x38) s = goes { y with watchAddr := v } 1 ∧ exec (.wsp c 0x39) s = goes { y with watchMask := v } 1 ∧
        exec (.wsp c 0x3A) s = goes { y with watchCtrl := v % 8 } 1))

/-- On a core that is ready: JMP and JMP_L go to the instruction's own address plus the sign-extended offset; CALL and CALL_L do
so and push the address of the next instruction on the return stack; JMPI and CALLI go to the offset that they pop; RET goes to
the return stack's top, which it pops; RTE, at the privileged level, sets PC to EPC and STATUS to ESTATUS. Each takes the cycles
of R176, and nothing else changes. -/
def Obligations.LxJumpsCallsAndReturns : Prop :=
  ∀ (s : State) (c : Nat),
    let x := s.core c
    let rel := fun off : LxCell => (BitVec.ofNat 64 x.pc + off).toNat
    (LxReady s c 3 → ∀ imm : BitVec 16,
      exec (.jmp c imm) s = Next (s.retired c x.ds x.rs (rel (imm.signExtend 64)) 2) ∧
      (x.rs.length ≤ 15 →
        exec (.call c imm) s =
          Next (s.retired c x.ds (BitVec.ofNat 64 (x.pc + 3) :: x.rs) (rel (imm.signExtend 64)) 2))) ∧
    (LxReady s c 5 → ∀ imm : BitVec 32,
      exec (.jmpL c imm) s = Next (s.retired c x.ds x.rs (rel (imm.signExtend 64)) 2) ∧
      (x.rs.length ≤ 15 →
        exec (.callL c imm) s =
          Next (s.retired c x.ds (BitVec.ofNat 64 (x.pc + 5) :: x.rs) (rel (imm.signExtend 64)) 2))) ∧
    (LxReady s c 1 →
      (∀ a r, x.ds = a :: r →
        exec (.jmpi c) s = Next (s.retired c r x.rs a.toNat 3) ∧
        (x.rs.length ≤ 15 →
          exec (.calli c) s = Next (s.retired c r (BitVec.ofNat 64 (x.pc + 1) :: x.rs) a.toNat 3))) ∧
      (∀ a r, x.rs = a :: r → exec (.ret c) s = Next (s.retired c x.ds r a.toNat 2)) ∧
      (x.priv = true → exec (.rte c) s = Next (s.setCore c
        (({ x with priv := x.estatus.testBit 0, ie := x.estatus.testBit 1, we := x.estatus.testBit 2,
                       compat := x.estatus.testBit 3 } : Core).moved x.epc 3))))

/-- At the user level BREAK takes the BREAK trap with its immediate in TVAL, SVC and a reserved opcode take EMULATE with TVAL 0
and nothing executed, RTE takes PRIV; an instruction whose operands neither stack nor memory hold takes STACK (here ADD and
RET). At the privileged level each of these stops the core instead. INTERRUPT_TAKEN on a running or waiting core with IE
set and an enabled source pending enters INTERRUPT with the lowest such source in TVAL and the next instruction in EPC. -/
def Obligations.LxTrapsAndInterrupts : Prop :=
  ∀ (s : State) (c : Nat),
    let x := s.core c
    let stops := fun (i : Instr) => ∃ t, exec i s = Next t ∧ (t.core c).st = .stopped ∧ (t.core c).pc = x.pc ∧
      (t.core c).ds = x.ds ∧ (t.core c).rs = x.rs ∧ (t.core c).epc = x.epc ∧ (∀ a, t.readByte a = s.readByte a)
    (LxReady s c 2 → ∀ imm : BitVec 8,
      (x.priv = false →
        (∃ t, exec (.brk c imm) s = Next t ∧ TookTrap s c 6 imm.toNat x.pc t) ∧
        (∃ t, exec (.svc c imm) s = Next t ∧ TookTrap s c 8 0 x.pc t)) ∧
      (x.priv = true → stops (.brk c imm) ∧ stops (.svc c imm))) ∧
    (LxReady s c 1 →
      (x.priv = false →
        (∀ op : BitVec 8, ∃ t, exec (.reservedOpcode c op) s = Next t ∧ TookTrap s c 8 0 x.pc t) ∧
        (∃ t v, exec (.rte c) s = Next t ∧ TookTrap s c 4 v x.pc t) ∧
        (x.ds.length < 2 → x.dsMem = x.dsBase → ∃ t, exec (.add c) s = Next t ∧ TookTrap s c 3 0 x.pc t) ∧
        (x.rs = [] → x.rsMem = x.rsBase → ∃ t, exec (.ret c) s = Next t ∧ TookTrap s c 3 2 x.pc t)) ∧
      (x.priv = true → ∀ op : BitVec 8, stops (.reservedOpcode c op))) ∧
    (∀ n, n < 32 → (irqReady c x).testBit n = true → (∀ k, k < n → (irqReady c x).testBit k = false) → x.ie = true →
      x.frozen = false → x.halt = false → (c < 16 → (s.tile c).calm = false) →
      (x.st = .running → ∃ t, exec (.interruptTaken c) s = Next t ∧ TookTrap s c 9 n x.pc t) ∧
      (x.st = .waiting → x.wait = .wfe → ∃ t, exec (.interruptTaken c) s = Next t ∧ TookTrap s c 9 n (x.pc + 1) t) ∧
      (x.st = .waiting → x.wait ≠ .wfe → ∃ t, exec (.interruptTaken c) s = Next t ∧ TookTrap s c 9 n x.pc t))

/-- On a core that is ready, MUL and MULU pop two cells and put the 128-bit signed or unsigned product in flight; MUL_RESULT
writes the oldest product to MLO and MHI. DIV and DIVU pop two cells and start a division of 34 cycles, abandoning one under
way, which sets DIV_LOST; DIV_RESULT writes QUO and REM: QUO toward zero and REM = a - QUO * b, all ones and a for a divisor
of zero, -2^63 and 0 for -2^63 by -1. Nothing else changes. -/
def Obligations.LxMultiplierAndDivider : Prop :=
  ∀ (s : State) (c : Nat),
    let x := s.core c
    (LxReady s c 1 → ∀ b a r, x.ds = b :: a :: r →
      let y : Core := { x with ds := r }
      let goes := fun z : Core => Next (s.setCore c (z.moved (x.pc + 1) 1))
      (∃ lo hi : LxCell, exec (.mul c) s = goes { y with mulQ := x.mulQ ++ [(lo, hi)] } ∧
        (lo.toNat : Int) + 2 ^ 64 * hi.toInt = a.toInt * b.toInt) ∧
      (∃ lo hi : LxCell, exec (.mulu c) s = goes { y with mulQ := x.mulQ ++ [(lo, hi)] } ∧
        lo.toNat + 2 ^ 64 * hi.toNat = a.toNat * b.toNat) ∧
      (∃ q m : LxCell,
        exec (.div c) s = Next (s.setCore c
          (({ y with divQ := some (q, m, 34), divLost := x.divLost || x.divQ.isSome } : Core).moved (x.pc + 1) 1)) ∧
        (b = 0 → q = BitVec.allOnes 64 ∧ m = a) ∧
        (b ≠ 0 → ¬(a = BitVec.intMin 64 ∧ b = -1) → q.toInt = a.toInt.tdiv b.toInt ∧ m.toInt = a.toInt - q.toInt * b.toInt) ∧
        (a = BitVec.intMin 64 → b = -1 → q = BitVec.intMin 64 ∧ m = 0)) ∧
      (∃ q m : LxCell,
        exec (.divu c) s = Next (s.setCore c
          (({ y with divQ := some (q, m, 34), divLost := x.divLost || x.divQ.isSome } : Core).moved (x.pc + 1) 1)) ∧
        (b = 0 → q = BitVec.allOnes 64 ∧ m = a) ∧
        (b ≠ 0 → q.toNat = a.toNat / b.toNat ∧ m.toNat = a.toNat % b.toNat))) ∧
    (∀ lo hi ps, x.mulQ = (lo, hi) :: ps →
      exec (.mulResult c) s = Next (s.setCore c { x with mlo := lo, mhi := hi, mulQ := ps })) ∧
    (∀ q m n, x.divQ = some (q, m, n) →
      exec (.divResult c) s = Next (s.setCore c { x with quo := q, rem := m, divQ := none }))

/-- On a core that is ready, the seven loads and LDO64 pop an address and push the little-endian value of its bytes,
zero-extended or sign-extended: from the core's own DM in 3 cycles, and from local memory that is present and without an
error; a load that one buffered store covers pushes the buffered data; a reserved local address gives zero. No memory, no
register and no other core changes by a load of DM or memory. A misaligned load takes the ALIGN trap at the user level with
the address in TVAL. -/
def Obligations.LxLoads : Prop :=
  ∀ (s : State) (c : Nat) (a : LxCell) (r : List LxCell), (s.core c).ds = a :: r →
    let x := s.core c
    let m := s.coreMaster c
    let value := fun (signed : Bool) (bs : List Byte) =>
      (if signed then BitVec.ofInt 64 (BitVec.ofNat (8 * bs.length) (ofLe bs)).toInt else BitVec.ofNat 64 (ofLe bs) : LxCell)
    let loads := fun (i : Instr) (len n : Nat) (signed : Bool) (addr : Nat) =>
      LxReady s c len →
        (addr % n = 0 → x.sbuf = [] →
          (∀ o, addr = dmWindow + o → o + n ≤ coreDm c → (∀ w ∈ eccWords o n, w ∉ x.dmUe ∧ w ∉ x.dmCe) →
            exec i s = Next (s.retired c
              (value signed ((List.range n).map (fun k => Tab.getD x.dm (o + k) 0)) :: r) x.rs (x.pc + len) 3)) ∧
          (addr < 2 ^ 40 → s.memPresent m addr = true → (∀ u ∈ unitsOf addr n, u ∉ s.ue ∧ u ∉ s.ce) →
            ∃ k, exec i s = Next (s.retired c
              (value signed ((List.range n).map (fun j => s.readByte (addr + j))) :: r) x.rs (x.pc + len) k)) ∧
          (addr < 2 ^ 40 → regionOf addr = .reserved →
            ∃ t, exec i s = Next t ∧ (t.core c).ds = 0 :: r ∧ (t.core c).pc = (x.pc + len) % 2 ^ 64 ∧
              t.flag (blkMod.err 18) = true ∧ (∀ b, t.readByte b = s.readByte b))) ∧
        (addr % n = 0 → addr < 2 ^ 40 → s.memPresent m addr = true → (∀ u ∈ unitsOf addr n, u ∉ s.ue ∧ u ∉ s.ce) →
          ∀ v, x.sbuf = [⟨addr, n, v⟩] →
            ∃ k, exec i s = Next (s.retired c (value signed (leBytes n v) :: r) x.rs (x.pc + len) k)) ∧
        (addr % n ≠ 0 → addr / 2 ^ 32 ≠ 0xFFFFFE00 → x.priv = false →
          ∃ t, exec i s = Next t ∧ TookTrap s c 2 addr x.pc t)
    loads (.ld8u c) 1 1 false a.toNat ∧ loads (.ld8s c) 1 1 true a.toNat ∧
    loads (.ld16u c) 1 2 false a.toNat ∧ loads (.ld16s c) 1 2 true a.toNat ∧
    loads (.ld32u c) 1 4 false a.toNat ∧ loads (.ld32s c) 1 4 true a.toNat ∧
    loads (.ld64 c) 1 8 false a.toNat ∧
    (∀ imm : BitVec 16, loads (.ldo64 c imm) 3 8 false (a + imm.signExtend 64).toNat)

/-- On a core that is ready, each store pops its address and value and retires in one cycle: a store to local memory takes the
last place of the store buffer with its low bytes, a store to the core's own DM writes it. A store that finds 8 entries in the
buffer does not retire. STORE_PERFORMED takes the oldest entry out of the buffer: directed at memory that is present and
without an error it writes its bytes there, least significant first, and every other byte of memory, every register and every
other core stay; directed at a register it is the register write of the core as its master. -/
def Obligations.LxStores : Prop :=
  (∀ (s : State) (c : Nat) (a v : LxCell) (r : List LxCell), (s.core c).ds = a :: v :: r →
    let x := s.core c
    let stores := fun (i : Instr) (len n : Nat) (addr : Nat) =>
      LxReady s c len → addr % n = 0 →
        (addr < 2 ^ 40 → regionOf addr ≠ .reserved →
          (x.sbuf.length < 8 →
            exec i s = Next (s.setCore c
              (({ x with ds := r, sbuf := x.sbuf ++ [⟨addr, n, v.toNat % 2 ^ (8 * n)⟩] } : Core).moved (x.pc + len) 1))) ∧
          (8 ≤ x.sbuf.length →
            ∃ t, exec i s = Next t ∧ (t.core c).ds = x.ds ∧ (t.core c).pc = x.pc ∧ (t.core c).sbuf = x.sbuf ∧
              (t.core c).st = x.st ∧ t.mem = s.mem ∧ t.regs = s.regs)) ∧
        (∀ o, addr = dmWindow + o → o + n ≤ coreDm c → (∀ w ∈ eccWords o n, w ∉ x.dmUe ∧ w ∉ x.dmCe) →
          ∃ t, exec i s = Next t ∧ (t.core c).ds = r ∧ (t.core c).pc = (x.pc + len) % 2 ^ 64 ∧
            (t.core c).dm = putBytes (leBytes n (v.toNat % 2 ^ (8 * n))) o x.dm ∧ t.mem = s.mem ∧ t.regs = s.regs)
    stores (.st8 c) 1 1 a.toNat ∧ stores (.st16 c) 1 2 a.toNat ∧ stores (.st32 c) 1 4 a.toNat ∧ stores (.st64 c) 1 8 a.toNat ∧
    (∀ imm : BitVec 16, stores (.sto64 c imm) 3 8 (a + imm.signExtend 64).toNat)) ∧
  (∀ (s : State) (c : Nat) (e : SbEntry) (es : List SbEntry), (s.core c).sbuf = e :: es → e.addr < 2 ^ 40 →
    (Memory.wf s.mem = true → e.width ∈ [1, 2, 4, 8] → e.addr % e.width = 0 → s.memPresent (s.coreMaster c) e.addr = true →
      (∀ u ∈ unitsOf e.addr e.width, u ∉ s.ue ∧ u ∉ s.ce) →
      ∃ t, exec (.storePerformed c) s = Next t ∧ (t.core c).sbuf = es ∧
        (∀ b, t.readByte b =
          if e.addr ≤ b ∧ b < e.addr + e.width then (leBytes e.width e.data).getD (b - e.addr) 0 else s.readByte b) ∧
        t.regs = s.regs ∧ (∀ d, d ≠ c → t.core d = s.core d)) ∧
    (∀ off, regionOf e.addr = .regs off → e.width = 4 →
      exec (.storePerformed c) s =
        exec (.registerWrite (s.coreMaster c) off 4 (BitVec.ofNat 32 e.data)) (s.setCore c { s.core c with sbuf := es })))

/-- On a core that is ready and whose store buffer is empty, CAS64 and AMOADD64 on an aligned 8 bytes of local memory that is
present and without an error push the old value; CAS64 writes the new value there if the old one is as expected, AMOADD64 writes
the sum modulo 2^64; every other byte of memory stays. While a buffered store overlaps the 8 bytes, the atomic does not
retire. FENCE with an empty buffer only retires; with one buffered store to memory in its scope it performs it and leaves
the buffer empty; any other scope number than 0, 1 and 2 is UNDEF. -/
def Obligations.LxAtomicsAndFences : Prop :=
  (∀ (s : State) (c : Nat), LxReady s c 1 → Memory.wf s.mem = true →
    let x := s.core c
    let here := fun a : LxCell => a.toNat % 8 = 0 ∧ a.toNat < 2 ^ 40 ∧ s.memPresent (s.coreMaster c) a.toNat = true ∧
      ∀ u ∈ unitsOf a.toNat 8, u ∉ s.ue ∧ u ∉ s.ce
    let does := fun (i : Instr) (a : LxCell) (r : List LxCell) (new : LxCell → LxCell) =>
      let old := cellOfBytes (s.readBytes a.toNat 8)
      ∃ t, exec i s = Next t ∧ (t.core c).ds = old :: r ∧ (t.core c).pc = (x.pc + 1) % 2 ^ 64 ∧ (t.core c).rs = x.rs ∧
        (∀ b, t.readByte b =
          if a.toNat ≤ b ∧ b < a.toNat + 8 then (leBytes 8 (new old).toNat).getD (b - a.toNat) 0 else s.readByte b) ∧
        t.regs = s.regs ∧ (∀ d, d ≠ c → t.core d = s.core d)
    (∀ n e a r, x.ds = n :: e :: a :: r → here a → x.sbuf = [] →
      does (.cas64 c) a r (fun old => if old = e then n else old)) ∧
    (∀ v a r, x.ds = v :: a :: r → here a →
      (x.sbuf = [] → does (.amoadd64 c) a r (fun old => old + v)) ∧
      (∀ e, e ∈ x.sbuf → e.addr < a.toNat + 8 → a.toNat < e.addr + e.width →
        ∃ t, exec (.amoadd64 c) s = Next t ∧ (t.core c).ds = x.ds ∧ (t.core c).pc = x.pc ∧ t.mem = s.mem))) ∧
  (∀ (s : State) (c : Nat) (imm : BitVec 8), LxReady s c 2 →
    let x := s.core c
    (imm.toNat ≤ 2 → x.sbuf = [] → ∃ k, exec (.fence c imm) s = Next (s.retired c x.ds x.rs (x.pc + 2) k)) ∧
    (imm.toNat ≤ 2 → Memory.wf s.mem = true → ∀ e, x.sbuf = [e] → inFence c imm.toNat e = true → e.addr < 2 ^ 40 →
      e.width ∈ [1, 2, 4, 8] → e.addr % e.width = 0 → s.memPresent (s.coreMaster c) e.addr = true →
      (∀ u ∈ unitsOf e.addr e.width, u ∉ s.ue ∧ u ∉ s.ce) →
      ∃ t, exec (.fence c imm) s = Next t ∧ (t.core c).sbuf = [] ∧ (t.core c).pc = (x.pc + 2) % 2 ^ 64 ∧
        (∀ b, t.readByte b =
          if e.addr ≤ b ∧ b < e.addr + e.width then (leBytes e.width e.data).getD (b - e.addr) 0 else s.readByte b)) ∧
    (2 < imm.toNat → x.priv = false → ∃ t v, exec (.fence c imm) s = Next t ∧ TookTrap s c 1 v x.pc t))

/-- The stacks between hardware and the core's own DM, without an error in the words touched. An instruction whose data operand
lies in memory first fills: DROP on an empty hardware stack with a group in memory leaves the seven cells below the deepest
address's top, and the memory pointer falls by 64. An instruction that would leave more than 32 data cells first spills the
deepest group: LIT8 on 32 cells writes the eight deepest at the memory pointer, deepest at the lowest address, and the
pointer rises by 64; where that would pass the limit it takes the STACK trap with TVAL 1 at the user level. SPILL with one
group of cells on each stack writes them and leaves both hardware stacks empty. -/
def Obligations.LxStackFillsAndSpills : Prop :=
  ∀ (s : State) (c : Nat),
    let x := s.core c
    let good := fun o n : Nat => o + n ≤ coreDm c ∧ ∀ w ∈ eccWords o n, w ∉ x.dmUe ∧ w ∉ x.dmCe
    let dmCell := fun o : Nat => cellOfBytes ((List.range 8).map (fun k => Tab.getD x.dm (o + k) 0))
    (LxReady s c 1 → x.ds = [] → x.sbuf = [] → ∀ o, x.dsMem = dmWindow + o + 64 → x.dsBase ≤ dmWindow + o → good o 64 →
      exec (.drop c) s = Next (s.setCore c
        (({ x with ds := [6, 5, 4, 3, 2, 1, 0].map (fun i => dmCell (o + 8 * i)), dsMem := dmWindow + o } : Core).moved
          (x.pc + 1) 7))) ∧
    (LxReady s c 2 → ∀ imm : BitVec 8, x.ds.length = 32 →
      (∀ o, x.dsMem = dmWindow + o → x.dsMem + 64 ≤ x.dsLimit → good o 64 →
        exec (.lit8 c imm) s = Next (s.setCore c
          (({ x with ds := imm.signExtend 64 :: x.ds.take 24, dsMem := x.dsMem + 64,
                     dm := putBytes (bytesOfCells (x.ds.drop 24).reverse) o x.dm } : Core).moved (x.pc + 2) 7))) ∧
      (x.dsLimit < x.dsMem + 64 → x.priv = false →
        ∃ t, exec (.lit8 c imm) s = Next t ∧ TookTrap s c 3 1 x.pc t)) ∧
    (LxReady s c 1 → x.ds.length = 8 → x.rs.length = 4 → ∀ o q, x.dsMem = dmWindow + o → x.rsMem = dmWindow + q →
      o + 64 ≤ q ∨ q + 32 ≤ o → x.dsMem + 64 ≤ x.dsLimit → x.rsMem + 32 ≤ x.rsLimit → good o 64 → good q 32 →
      exec (.spill c) s = Next (s.setCore c
        (({ x with ds := [], rs := [], dsMem := x.dsMem + 64, rsMem := x.rsMem + 32,
                   dm := putBytes (bytesOfCells x.rs.reverse) q (putBytes (bytesOfCells x.ds.reverse) o x.dm) } : Core).moved
          (x.pc + 1) 13)))

/-- WFE retires at once while an enabled source is pending and otherwise waits at its own PC; WFE_WAKE then moves on to the next
instruction. The librarian's write of RESTART starts a core from its image's entry with its stacks empty, neither frozen nor
stopped, at the user level with interrupts off; any other master's write does not and sets GUARD. A secure master's HALT puts
a running core in DEBUG and 0 resumes it; STEP in DEBUG retires one instruction (here a NOP) and returns to DEBUG. The doorbell
latches source 3. No byte of memory changes by any of them. -/
def Obligations.LxWaitsAndDebugControl : Prop :=
  (∀ (s : State) (c : Nat), LxReady s c 1 →
    let x := s.core c
    (irqReady c x ≠ 0 → exec (.wfe c) s = Next (s.retired c x.ds x.rs (x.pc + 1) 1)) ∧
    (irqReady c x = 0 → exec (.wfe c) s = Next (s.setCore c { x with st := .waiting, wait := .wfe }))) ∧
  (∀ (s : State) (c : Nat), (s.core c).st = .waiting → (s.core c).wait = .wfe → irqReady c (s.core c) ≠ 0 →
    (s.core c).halt = false →
    exec (.wfeWake c) s = Next (s.setCore c
      (({ s.core c with st := .running, wait := .none } : Core).moved ((s.core c).pc + 1) 1))) ∧
  (∀ (s : State) (t : Nat), t < 16 →
    let x := s.core t
    (∀ (m : Master) (img : LoadedImage), m.cls = .librarian → x.image = some img → x.halt = false →
      ∃ u, exec (.lxcRestart m t) s = Next u ∧ (u.core t).st = .running ∧ (u.core t).frozen = false ∧
        (u.core t).pc = img.entry ∧ (u.core t).ds = [] ∧ (u.core t).rs = [] ∧ (u.core t).dsMem = img.dsBase ∧
        (u.core t).rsMem = img.rsBase ∧ (u.core t).priv = false ∧ (u.core t).ie = false ∧
        u.tile t = s.tile t ∧ u.regs = s.regs ∧ u.mem = s.mem) ∧
    (∀ m : Master, m.cls = .debug →
      ∃ u, exec (.lxcRestart m t) s = Next u ∧ u.core t = x ∧ u.flag ((blkLxc t).err 4) = true ∧ u.mem = s.mem) ∧
    (∀ m : Master, s.isSecure m = true →
      (x.st = .running → ∃ u, exec (.lxcHalt m t true) s = Next u ∧ (u.core t).st = .debug ∧ (u.core t).pc = x.pc ∧
        u.flag (F.LXC_CTRL_HALT t) = true ∧ u.mem = s.mem) ∧
      (x.st = .debug → ∃ u, exec (.lxcHalt m t false) s = Next u ∧ (u.core t).st = .running ∧ (u.core t).pc = x.pc ∧
        u.flag (F.LXC_CTRL_HALT t) = false ∧ u.mem = s.mem) ∧
      (LxReady (s.setCore t { x with st := .running }) t 1 → x.st = .debug → Tab.getD x.im x.pc 0 = 0 →
        ∃ u, exec (.lxcStep m t) s = Next u ∧ (u.core t).st = .debug ∧ (u.core t).pc = (x.pc + 1) % 2 ^ 64 ∧
          (u.core t).ds = x.ds ∧ (u.core t).cycle = (x.cycle + 1) % 2 ^ 64 ∧ u.mem = s.mem)) ∧
    (∀ m : Master, ∃ u, exec (.lxcDoorbellRing m t) s = Next u ∧ (irqPend t (u.core t)).testBit 3 = true ∧
      (u.core t).pc = x.pc ∧ (u.core t).ds = x.ds ∧ u.regs = s.regs ∧ u.mem = s.mem))

/-- On a lectern core that is ready: TPUSHS, TPUSHSNB, TPUSH and TPUSHNB put their descriptor (the staging buffer, or 64
aligned bytes of the core's DM) at the tail of the tile's queue, count TAIL and push 0; with the block disabled they push 1, and
with a full queue the forms that do not stall push 2, and nothing is queued. TPUSHS on a full queue waits, and
PUSH_STALL_RELEASE pushes once there is room. TSTW and TLDW write and read a staging word; TSTS, TSIG and TMETA push TIL_STS,
a signal counter, a metadata slot; TWAIT retires when its counter has reached its value and else waits, and TWAIT_RELEASE
then retires it. On a core without the extension these opcodes raise EMULATE. -/
def Obligations.LxTensorExtension : Prop :=
  (∀ (s : State) (c : Nat), 16 ≤ c → LxReady s c 1 → (s.core c).priv = false →
    ∀ i ∈ [Instr.tpush c, .tpushnb c, .tpushs c, .tpushsnb c, .tsts c, .tsig c, .twait c, .tmeta c],
      ∃ t, exec i s = Next t ∧ TookTrap s c 8 0 (s.core c).pc t) ∧
  ∀ (s : State) (c : Nat), c < 16 →
    let x := s.core c
    let q := s.tile c
    let staged := BitVec.ofNat 512 (ofLe (bytesOfCells (x.staging.take 8)))
    let open_ := s.flag (blkTil c).enable = true
    let room := q.queue.length + ofBool q.failed.isSome < 64
    let pushes := fun (i : Instr) (d : BitVec 512) (r : List LxCell) =>
      (open_ → room → ∃ t, exec i s = Next t ∧ (t.core c).ds = 0 :: r ∧ (t.core c).pc = (x.pc + 1) % 2 ^ 64 ∧
        (t.tile c).queue = q.queue ++ [⟨d, s.coreSecure c, none⟩] ∧
        t.fld (F.TIL_CMD_TAIL_TAIL c) = (s.fld (F.TIL_CMD_TAIL_TAIL c) + 1) % 128 ∧ t.mem = s.mem) ∧
      (¬open_ → ∃ t, exec i s = Next t ∧ (t.core c).ds = 1 :: r ∧ (t.core c).pc = (x.pc + 1) % 2 ^ 64 ∧ t.tile c = q ∧
        t.flag ((blkTil c).err 17) = true ∧ t.mem = s.mem)
    (LxReady s c 1 →
      (x.ds.length ≤ 31 →
        pushes (.tpushs c) staged x.ds ∧ pushes (.tpushsnb c) staged x.ds ∧
        (open_ → ¬room →
          exec (.tpushsnb c) s = Next (s.retired c (2 :: x.ds) x.rs (x.pc + 1) 1) ∧
          exec (.tpushs c) s = Next (s.setCore c { x with st := .waiting, wait := .push true })) ∧
        exec (.tsts c) s = Next (s.retired c (BitVec.ofNat 64 (s.tilSts c) :: x.ds) x.rs (x.pc + 1) 1)) ∧
      (∀ a r o, x.ds = a :: r → a.toNat = dmWindow + o → o % 64 = 0 → o + 64 ≤ coreDm c → x.sbuf = [] →
        (∀ w ∈ eccWords o 64, w ∉ x.dmUe ∧ w ∉ x.dmCe) →
        let d := BitVec.ofNat 512 (ofLe ((List.range 64).map (fun k => Tab.getD x.dm (o + k) 0)))
        pushes (.tpush c) d r ∧ pushes (.tpushnb c) d r) ∧
      (∀ n r, x.ds = n :: r →
        (n.toNat ≤ 3 → exec (.tsig c) s =
          Next (s.retired c (BitVec.ofNat 64 (s.fld (F.TIL_SIG_CNT c n.toNat)) :: r) x.rs (x.pc + 1) 1)) ∧
        (n.toNat ≤ 63 → exec (.tmeta c) s =
          Next (s.retired c (BitVec.ofInt 64 (BitVec.ofNat 16 (s.fld (F.TIL_META c n.toNat))).toInt :: r) x.rs (x.pc + 1) 1)) ∧
        (3 < n.toNat → x.priv = false → ∃ t v, exec (.tsig c) s = Next t ∧ TookTrap s c 1 v x.pc t)) ∧
      (∀ v n r, x.ds = v :: n :: r → n.toNat ≤ 3 →
        let met := decide ((s.fld (F.TIL_SIG_CNT c n.toNat) + 2 ^ 32 - v.toNat % 2 ^ 32) % 2 ^ 32 < 2 ^ 31)
        exec (.twait c) s = if met then Next (s.retired c r x.rs (x.pc + 1) 1)
          else Next (s.setCore c { x with st := .waiting, wait := .twait }))) ∧
    (LxReady s c 2 → ∀ imm : BitVec 8, imm.toNat ≤ 7 →
      (∀ v r, x.ds = v :: r → exec (.tstw c imm) s = Next (s.setCore c
        (({ x with ds := r, staging := listSet x.staging imm.toNat v } : Core).moved (x.pc + 2) 1))) ∧
      (x.ds.length ≤ 31 →
        exec (.tldw c imm) s = Next (s.retired c (x.staging.getD imm.toNat 0 :: x.ds) x.rs (x.pc + 2) 1))) ∧
    (LxReady (s.setCore c { x with st := .running, wait := .none }) c 1 → x.st = .waiting →
      (x.wait = .push true → x.ds.length ≤ 31 → pushes (.pushStallRelease c) staged x.ds) ∧
      (∀ v n r, x.wait = .twait → x.ds = v :: n :: r → n.toNat ≤ 3 →
        (s.fld (F.TIL_SIG_CNT c n.toNat) + 2 ^ 32 - v.toNat % 2 ^ 32) % 2 ^ 32 < 2 ^ 31 →
        ∃ t, exec (.twaitRelease c) s = Next t ∧ (t.core c).ds = r ∧ (t.core c).pc = (x.pc + 1) % 2 ^ 64 ∧
          (t.core c).st = .running ∧ t.mem = s.mem))

/-- A compatibility word with one move (the other a constant to the discard port) on a core in compatibility mode whose words lie
in IM without an error: a move writes its register or operand port; an ALU trigger leaves the 32-bit result; a MUL trigger puts
the 64-bit product in flight, to be read from the fourth word after; LSU triggers load and store 32 bits of DM; a jump, a
conditional jump that is taken, a call and a return set the target that holds after the next word, a call pushes the word
offset after the delay word, a return pops its own; TCMD raises EMULATE at the user level. PC counts one word. -/
def Obligations.CompatibilityWords : Prop :=
  ∀ (s : State) (c : Nat) (w : BitVec 32) (src dst v : Nat),
    let x := s.core c
    let k := x.cmp
    s.coreRuns c true = true → x.we = false → x.halt = false → x.rs.length ≤ 15 →
    4 * x.pc + 4 ≤ coreIm c → (∀ n ∈ eccWords (4 * x.pc) 4, n ∉ x.imUe ∧ n ∉ x.imCe) → k.brTarget = none → k.mulQ = [] →
    w = BitVec.ofNat 32 (src * 256 + dst + 0x80FF * 2 ^ 16) → dst < 256 →
    ((src < 0x20 ∧ v = Tab.getD k.g src 0) ∨ (0x80 ≤ src ∧ src ≤ 0xBF ∧ v = src - 0x80) ∨ (src = 0x40 ∧ v = k.aluR)) →
    let goes := fun (z : Core) => Next (s.setCore c (z.moved (x.pc + 1) 1))
    let target := (((x.pc : Int) + (BitVec.ofNat 32 v).toInt) % 2 ^ 32).toNat
    (dst < 0x20 → exec (.compatMove c w 0 0) s = goes { x with cmp := { k with g := Tab.put k.g dst v 0 } }) ∧
    (dst = 0x40 → exec (.compatMove c w 0 0) s = goes { x with cmp := { k with aluA := v } }) ∧
    (dst = 0x41 → exec (.compatAluTrigger c w 0 0) s =
      goes { x with cmp := { k with aluR := (BitVec.ofNat 32 k.aluA + BitVec.ofNat 32 v).toNat } }) ∧
    (dst = 0x42 → exec (.compatAluTrigger c w 0 0) s =
      goes { x with cmp := { k with aluR := (BitVec.ofNat 32 k.aluA - BitVec.ofNat 32 v).toNat } }) ∧
    (dst = 0x4B → exec (.compatAluTrigger c w 0 0) s =
      goes { x with cmp := { k with aluR := if BitVec.ofNat 32 k.aluA = BitVec.ofNat 32 v then 1 else 0 } }) ∧
    (dst = 0x52 → exec (.compatMulTrigger c w 0 0) s =
      goes { x with cmp := { k with mulQ := [(k.mulA * v % 2 ^ 64, 4)] } }) ∧
    (dst = 0x61 → (k.lsuAddr + v) % 2 ^ 32 % 4 = 0 → ∀ o, o = (k.lsuAddr + v) % 2 ^ 32 → o + 4 ≤ coreDm c →
      (∀ n ∈ eccWords o 4, n ∉ x.dmUe ∧ n ∉ x.dmCe) →
      exec (.compatLoadTrigger c w 0 0) s =
        goes { x with cmp := { k with lsuR := ofLe ((List.range 4).map (fun i => Tab.getD x.dm (o + i) 0)) } }) ∧
    (dst = 0x63 → ∀ o, o = (k.lsuAddr + v) % 2 ^ 32 → o % 4 = 0 → o + 4 ≤ coreDm c →
      (∀ n ∈ eccWords o 4, n ∉ x.dmUe ∧ n ∉ x.dmCe) →
      ∃ t, exec (.compatStoreTrigger c w 0 0) s = Next t ∧ (t.core c).dm = putBytes (leBytes 4 k.lsuData) o x.dm ∧
        (t.core c).pc = (x.pc + 1) % 2 ^ 64 ∧ t.mem = s.mem ∧ t.regs = s.regs) ∧
    (dst = 0x71 → exec (.compatJump c w 0 0) s = goes { x with cmp := { k with brTarget := some target } }) ∧
    (dst = 0x72 → exec (.compatCondJump c w 0 0) s =
      goes { x with cmp := { k with brTarget := if k.cond ≠ 0 then some target else none } }) ∧
    (dst = 0x73 → exec (.compatCondJump c w 0 0) s =
      goes { x with cmp := { k with brTarget := if k.cond = 0 then some target else none } }) ∧
    (dst = 0x74 → ∃ ret, exec (.compatCall c w 0 0) s =
      goes { x with cmp := { k with brTarget := some target }, rs := BitVec.ofNat 64 ret :: x.rs } ∧
        ret = x.pc + 2 + wordImms (BitVec.ofNat 32 (ofLe (x.imBytes (4 * (x.pc + 1)) 4)))) ∧
    (∀ a r, dst = 0x75 → x.rs = a :: r → exec (.compatReturn c w 0 0) s =
      goes { x with cmp := { k with brTarget := some a.toNat }, rs := r }) ∧
    (dst = 0x78 → x.priv = false → ∃ t, exec (.compatTcmd c w 0 0) s = Next t ∧ TookTrap s c 8 0 x.pc t)

/-- A command at the head that nothing blocks and every check passes leaves the queue, is counted by HEAD and holds its slot. Of
one row, in memory that is there and without an error: LOAD with equal formats without scales copies the source bytes to the
carrel; STORE copies the carrel's bytes to memory; a raw DRAIN without post ops writes the row's ledger words; POST with a list
that reads no vector writes the row that its ops give; each changes no other byte. SCRUB in its zeroing mode leaves zeros in its
range alone. MMA writes no memory: processing element (i, j) of its bank holds what it held (zero in an opening MMA) with the
products of row i of A and column j of B in K order, under the bank's anchor. -/
def Obligations.TileDataCommandsDoTheirWork : Prop :=
  ∀ (s : State) (t : Nat) (c : TCmd) (rest : List TCmd), Memory.wf s.mem = true →
    let d := c.desc
    let m := tileMaster t c.secure
    (TileIssues s t 1 c rest → gSpace (dfld d 127 64) = 0 → dfld d 36 32 = dfld d 41 37 → dfld d 271 256 = 1 →
      ∀ f, Fmt.ofCode (dfld d 36 32) = some f → f.isMx = false → 0 < packedBytes f (dfld d 287 272) →
      Reachable s m (gLocal (dfld d 127 64)) (packedBytes f (dfld d 287 272)) →
      Reachable s m (carrelAddr t (dfld d 217 192)) (packedBytes f (dfld d 287 272)) →
      ∃ u, exec (.load t none) s = Next u ∧ TileIssued s t c rest u ∧
        Stored s (carrelAddr t (dfld d 217 192)) (s.readBytes (gLocal (dfld d 127 64)) (packedBytes f (dfld d 287 272))) u) ∧
    (TileIssues s t 5 c rest → gSpace (dfld d 191 128) = 0 → dfld d 207 192 = 1 → 0 < dfld d 255 224 →
      Reachable s m (carrelAddr t (dfld d 89 64)) (dfld d 255 224) →
      Reachable s m (gLocal (dfld d 191 128)) (dfld d 255 224) →
      ∃ u, exec (.store t) s = Next u ∧ TileIssued s t c rest u ∧
        Stored s (gLocal (dfld d 191 128)) (s.readBytes (carrelAddr t (dfld d 89 64)) (dfld d 255 224)) u) ∧
    (TileIssues s t 8 c rest → dfld d 32 32 = 1 →
      ∃ u, exec (.scrub t) s = Next u ∧ TileIssued s t c rest u ∧
        ∀ b, u.readByte b =
          if carrelAddr t (dfld d 89 64) ≤ b ∧ b < carrelAddr t (dfld d 89 64) + dfld d 122 96 then 0 else s.readByte b) ∧
    (TileIssues s t 3 c rest → Fmt.ofCode (dfld d 37 33) = some .ledger → dfld d 42 42 = 0 → dfld d 47 43 = 0 →
      dfld d 217 208 = 1 → 0 < dfld d 227 218 → Reachable s m (carrelAddr t (dfld d 89 64)) (32 * dfld d 227 218) →
      ∃ u, exec (.drain t) s = Next u ∧ TileIssued s t c rest u ∧
        Stored s (carrelAddr t (dfld d 89 64))
          ((((s.tile t).bank (dfld d 32 32)).row s.freeAt 0 (dfld d 227 218)).flatMap LWord.bytes) u) ∧
    (TileIssues s t 4 c rest → dfld d 207 192 = 1 →
      let p := s.postP t (s.hashNow t) d
      (∀ e ∈ p.ops, e.opnd ≠ 2 ∧ e.opnd ≠ 3 ∧ e.op ∉ [0x10, 0x11, 0x12]) → p.df.isMx = false →
      Reachable s m (carrelAddr t (dfld d 153 128)) (8 * p.ops.length) →
      ∀ f, Fmt.ofCode (dfld d 36 32) = some f → 0 < p.cols →
      Reachable s m (carrelAddr t (dfld d 89 64)) (packedBytes f p.cols) →
      let bs := s.readBytes (carrelAddr t (dfld d 89 64)) (packedBytes f p.cols)
      let xs := (List.range p.cols).map (fun j => (rnd32 (decodeElem f (elemAt f.width bs j))).1)
      let ys := (applyList p 0 (p.ops.map (fun _ => [])) (p.ops.map (fun _ => .nan)) xs).1
      let row := (p.outRow (fun q => s.freeAt (1024 + q)) 0 ys).1
      Reachable s m (carrelAddr t p.dst) row.length →
      ∃ u, exec (.post t) s = Next u ∧ TileIssued s t c rest u ∧ Stored s (carrelAddr t p.dst) row u) ∧
    (∀ rise, TileIssues s t 2 c rest → s.ue = [] → s.ce = [] → dfld d 89 80 ≤ 512 → dfld d 99 90 ≤ 512 →
      let bank := (s.tile t).bank (dfld d 42 42)
      let old : Bank :=
        if dfld d 43 43 = 1 then ⟨.opened, (s.openAnchor t d).1, ⟨0, (s.openAnchor t d).2, 0⟩, []⟩ else bank
      ∃ u, exec (.mma t rise) s = Next u ∧ TileIssued s t c rest u ∧ (∀ b, u.readByte b = s.readByte b) ∧
        ((u.tile t).bank (dfld d 42 42)).st = .opened ∧ ((u.tile t).bank (dfld d 42 42)).anchor = old.anchor ∧
        (u.tile t).bank (1 - dfld d 42 42) = (s.tile t).bank (1 - dfld d 42 42) ∧
        ∀ i j, i < dfld d 89 80 → j < dfld d 99 90 →
          let new := (u.tile t).bank (dfld d 42 42)
          Tab.getD new.cells (512 * i + j) new.base =
            accumulate old.anchor (mmaFp32 d) (Tab.getD old.cells (512 * i + j) old.base) (s.rowA t d i)
              ((List.range (dfld d 372 352)).map (fun k => (s.rowB t d k).getD j Elem.zero)))

/-- SYNC on a signal counter completes at the head where the counter has reached its value, and else holds the head;
SYNC_CONDITION_MET completes a held one once it has; SYNC_TIMEOUT with a TIMEOUT halts the tile with code 0x0C. PHASE writes its
phase for the power controller and completes. CMD_COMPLETE ends the local command of its slot: OK, the signal counter that it
names counts and the lectern core's event latches where the descriptor asks; with a fault, the tile halts with the fault's
code. DRAIN_BANK_READ_DONE frees the bank. A head that fails a check halts the tile with that check's code. Memory stays. -/
def Obligations.TileSyncCompletionAndHalts : Prop :=
  ∀ (s : State) (t : Nat), t < 16 →
    let x := s.tile t
    let head := s.fld (F.TIL_CMD_HEAD_HEAD t)
    (∀ c rest, x.queue = c :: rest → c.slot = none → s.issues t = true → firstBroken (s.checkDesc t c.desc) = none →
      s.blocked t c.desc = false →
      let d := c.desc
      let done := fun u : State => (u.tile t).queue = rest ∧ (u.tile t).syncHeld = false ∧
        u.fld (F.TIL_CMD_HEAD_HEAD t) = (head + 1) % 128 ∧ u.mem = s.mem
      let met := (s.fld (F.TIL_SIG_CNT t (dfld d 36 35)) + 2 ^ 32 - dfld d 95 64 % 2 ^ 32) % 2 ^ 32 < 2 ^ 31
      (opcodeOf d = 6 → dfld d 34 32 = 0 →
        (x.syncHeld = false → met → ∃ u, exec (.sync t) s = Next u ∧ done u) ∧
        (x.syncHeld = false → ¬met → ∃ u, exec (.sync t) s = Next u ∧ (u.tile t).queue = x.queue ∧
          (u.tile t).syncHeld = true ∧ u.regs = s.regs ∧ u.mem = s.mem) ∧
        (x.syncHeld = true → met → ∃ u, exec (.syncConditionMet t) s = Next u ∧ done u) ∧
        (x.syncHeld = true → dfld d 223 192 ≠ 0 → ∃ u, exec (.syncTimeout t) s = Next u ∧ (u.tile t).queue = rest ∧
          TileHalted t (head % 64) 0x0C d u)) ∧
      (opcodeOf d = 7 → ∃ u, exec (.phase t) s = Next u ∧ done u ∧ u.fld (F.PWR_TILE_OP_PHASE t) = dfld d 37 32)) ∧
    (∀ c rest b, x.queue = c :: rest → c.slot = none → s.issues t = true → opcodeOf c.desc = 5 →
      firstBroken (s.checkDesc t c.desc) = some b →
      ∃ u, exec (.store t) s = Next u ∧ (u.tile t).queue = rest ∧
        TileHalted t (head % 64) (b.2.2 % 256) c.desc u ∧ u.mem = s.mem) ∧
    (∀ slot i, x.issued.find? (fun i => i.slot = slot) = some i → i.remote = none →
      let d := i.cmd.desc
      (∃ u, exec (.cmdComplete t slot none) s = Next u ∧ (u.tile t).issued = dropSlot slot x.issued ∧ u.mem = s.mem ∧
        (dfld d 10 10 = 1 → u.fld (F.TIL_SIG_CNT t (dfld d 12 11)) = (s.fld (F.TIL_SIG_CNT t (dfld d 12 11)) + 1) % 2 ^ 32) ∧
        (dfld d 9 9 = 1 → (u.core t).irqLatch.testBit irqTileDone = true)) ∧
      (∀ f : TileFault, x.failed = none → s.flag (blkTil t).enable = true → f.code < 256 →
        ∃ u, exec (.cmdComplete t slot (some f)) s = Next u ∧ (u.tile t).issued = dropSlot slot x.issued ∧
          TileHalted t slot f.code d u ∧ u.mem = s.mem)) ∧
    (∀ i, x.issued.find? (fun i => opcodeOf i.cmd.desc = 3 && !i.bankRead) = some i →
      ∃ u, exec (.drainBankReadDone t) s = Next u ∧ ((u.tile t).bank (dfld i.cmd.desc 32 32)).st = .free ∧
        u.regs = s.regs ∧ u.mem = s.mem)

/-- On a halted tile, RETRY puts the failed command ahead of the queue with the slot it held; SKIP completes it FAILED, which
counts as an abort; FLUSH does so and aborts every unissued command. A calm request marks a tile that is ON and issue stops; the
stop of its clock makes it CALM; the release clears both. The librarian's write of GO starts a reset of a tile that is OFF
with its core held; any other master's sets GUARD and starts nothing; at its end the queue, the banks, the pointers and
the counters are as at reset, GO is 0 and DONE is 1. -/
def Obligations.TileActionsCalmAndReset : Prop :=
  ∀ (s : State) (t : Nat), t < 16 →
    let x := s.tile t
    (∀ (m : Master) (f : Failed), s.tileState t = 4 → x.failed = some f → f.issued = true →
      let aborts := s.fld (F.TIL_CMD_ABORTS t)
      (∃ u, exec (.tileRetry m t) s = Next u ∧ (u.tile t).failed = none ∧
        (u.tile t).queue = { f.cmd with slot := some f.slot } :: x.queue ∧ u.regs = s.regs ∧ u.mem = s.mem) ∧
      (∃ u, exec (.tileSkip m t) s = Next u ∧ (u.tile t).failed = none ∧ (u.tile t).queue = x.queue ∧
        u.fld (F.TIL_CMD_ABORTS t) = (aborts + 1) % 2 ^ 32 ∧ u.mem = s.mem) ∧
      (∃ u, exec (.tileFlush m t) s = Next u ∧ (u.tile t).failed = none ∧ (u.tile t).queue = [] ∧
        (u.tile t).issued = x.issued ∧ u.fld (F.TIL_CMD_ABORTS t) = (aborts + 1 + x.queue.length) % 2 ^ 32 ∧
        u.mem = s.mem)) ∧
    (1 ≤ s.tileState t → s.tileState t ≤ 5 →
      ∃ u, exec (.tileCalmRequest t) s = Next u ∧ (u.tile t).calmReq = true ∧ u.issues t = false ∧ u.mem = s.mem) ∧
    (x.calmReq = true → ∃ u, exec (.tileClockStopped t) s = Next u ∧ (u.tile t).calm = true ∧ u.mem = s.mem) ∧
    (∀ rise, ∃ u, exec (.tileCalmRelease t rise) s = Next u ∧ (u.tile t).calm = false ∧ (u.tile t).calmReq = false ∧
      (u.tile t).queue = x.queue ∧ (u.tile t).issued = x.issued ∧ u.mem = s.mem) ∧
    (∀ m : Master, m.cls = .librarian → s.flag (blkTil t).active = false → s.coreStCode t = 0 ∨ s.coreStCode t = 4 →
      ∃ u, exec (.tileReset m t) s = Next u ∧ (u.tile t).resetting = true ∧ u.flag (F.TIL_RESET_GO t) = true ∧
        u.mem = s.mem) ∧
    (∀ m : Master, m.cls = .hostPf →
      ∃ u, exec (.tileReset m t) s = Next u ∧ u.tile t = x ∧ u.flag ((blkTil t).err 4) = true ∧ u.mem = s.mem) ∧
    (x.resetting = true → ∃ u, exec (.tileResetDone t) s = Next u ∧ (u.tile t).queue = [] ∧ (u.tile t).issued = [] ∧
      (u.tile t).failed = none ∧ (u.tile t).bank0 = Bank.init ∧ (u.tile t).bank1 = Bank.init ∧
      (u.tile t).resetting = false ∧ u.fld (F.TIL_CMD_HEAD_HEAD t) = 0 ∧ u.fld (F.TIL_CMD_TAIL_TAIL t) = 0 ∧
      (∀ k, k < 4 → u.fld (F.TIL_SIG_CNT t k) = 0) ∧ u.flag (F.TIL_RESET_GO t) = false ∧ u.flag (F.TIL_RESET_DONE t) = true ∧
      u.mem = s.mem)

/-- GO by a master with the right starts a pass with the values of the range registers: BUSY reads 1 and nothing else changes; a
range or summary address that is not allowed gives RESULT 3 and SCRUB_REFUSED, and GO while BUSY only SCRUB_BUSY. A zeroing pass
that ends leaves zeros in its range and its 192-byte summary at its destination, and no other byte changes; a checking pass
writes the summary alone; BUSY falls and RESULT is 1. ABORT ends the pass with RESULT 2. A window start zeroes the window counters;
the on-die poll adds to its counter; refresh shows the doubled rate above 85 °C; closing a row and a write batch change nothing. -/
def Obligations.ScrubPassesAndControllers : Prop :=
  ∀ (s : State) (m : Master) (shelf : Bool) (i : Nat), s.isSecure m = true → i < (if shelf then 8 else 16) →
    Memory.wf s.mem = true →
    let b := memBlk shelf i
    let busy : Fld := ⟨b.base + 0x11C, 0, 0⟩
    let result : Fld := ⟨b.base + 0x11C, 3, 1⟩
    let start := s.fld ⟨b.base + 0x104, 31, 0⟩ + s.fld ⟨b.base + 0x108, 7, 0⟩ * 2 ^ 32
    let len := s.fld ⟨b.base + 0x10C, 31, 0⟩ + s.fld ⟨b.base + 0x110, 7, 0⟩ * 2 ^ 32
    let dest := s.fld ⟨b.base + 0x114, 31, 0⟩ + s.fld ⟨b.base + 0x118, 7, 0⟩ * 2 ^ 32
    (s.flag busy = true → ∃ t, exec (.hbcScrubGo m shelf i) s = Next t ∧ t.flag (b.err 19) = true ∧ t.scrubs = s.scrubs ∧
      t.mem = s.mem) ∧
    (s.flag busy = false → s.scrubAllowed shelf i start len dest = true →
      ∃ t, exec (.hbcScrubGo m shelf i) s = Next t ∧ t.flag busy = true ∧
        Tab.find? t.scrubs b.base = some (s.flag ⟨b.base + 0x100, 2, 2⟩, start, len, dest) ∧ t.mem = s.mem ∧ t.ue = s.ue ∧
        (∀ o, o ≠ b.base + 0x11C → t.reg o = s.reg o)) ∧
    (s.flag busy = false → s.scrubAllowed shelf i start len dest = false →
      ∃ t, exec (.hbcScrubGo m shelf i) s = Next t ∧ t.fld result = 3 ∧ t.flag (b.err 20) = true ∧ t.scrubs = s.scrubs ∧
        t.mem = s.mem) ∧
    (∀ a n d, n ≤ 2 ^ 40 → (d + 192 ≤ a ∨ a + n ≤ d) → (∀ u ∈ unitsOf d 192, u ∉ s.ue) →
      (Tab.find? s.scrubs b.base = some (true, a, n, d) →
        ∃ t, exec (.scrubPassDone shelf i) s = Next t ∧ t.flag busy = false ∧ t.fld result = 1 ∧
          t.scrubs = Tab.erase s.scrubs b.base ∧ (∀ u ∈ t.ue, ¬(a ≤ u ∧ u < a + n)) ∧
          ∀ x, t.readByte x =
            if d ≤ x ∧ x < d + 192 then (s.scrubRecord 2 a n n).getD (x - d) 0
            else if a ≤ x ∧ x < a + n then 0 else s.readByte x) ∧
      (Tab.find? s.scrubs b.base = some (false, a, n, d) →
        ∃ t, exec (.scrubPassDone shelf i) s = Next t ∧ t.flag busy = false ∧ t.fld result = 1 ∧
          t.scrubs = Tab.erase s.scrubs b.base ∧ t.ue = s.ue ∧ Stored s d (s.scrubRecord 0 a n n) t) ∧
      (∀ z, Tab.find? s.scrubs b.base = some (z, a, n, d) →
        ∃ t, exec (.hbcScrubAbort m shelf i) s = Next t ∧ t.flag busy = false ∧ t.fld result = 2 ∧
          t.scrubs = Tab.erase s.scrubs b.base ∧
          ∀ x, ¬(d ≤ x ∧ x < d + 192) → ¬(a ≤ x ∧ x < a + n) → t.readByte x = s.readByte x)) ∧
    (∃ t, exec (.ceWindowStart shelf i) s = Next t ∧ t.mem = s.mem ∧
      (shelf = false → t.fld (F.HBC_CE_WINDOW i) = 0) ∧ (shelf = true → ∀ k, k < 3 → t.fld (F.SHF_CE_WINDOW i k) = 0) ∧
      ∀ o, (∀ k, k < 3 → o ≠ b.base + 0x18 + 0x20 * k) → t.reg o = s.reg o) ∧
    (∀ n, ∃ t, exec (.hbmOdeccPoll i n) s = Next t ∧ t.fld (F.HBC_ODECC_CNT i) = min (s.fld (F.HBC_ODECC_CNT i) + n) 0xFFFFFFFF ∧
      t.mem = s.mem ∧ ∀ o, o ≠ (F.HBC_ODECC_CNT i).off → t.reg o = s.reg o) ∧
    (∀ celsius, ∃ t, exec (.hbmRefresh i celsius) s = Next t ∧ t.flag (F.HBC_STS_REFRESH_2X i) = decide (85 < celsius) ∧
      t.mem = s.mem ∧ ∀ o, o ≠ (F.HBC_STS_REFRESH_2X i).off → t.reg o = s.reg o) ∧
    (∀ chan, exec (.hbmRowClose i chan) s = Next s) ∧ exec (.hbmWriteBatch i) s = Next s

/-- In DETECT a probe is sent, an answering partner starts NEGOTIATE, and silence sets NO_PARTNER. An offer shows in MYL_PARTNER.
NEGOTIATE ends in TRAIN with the common candidate modes and FEC mode, or on a first attempt in FAULT with NO_COMMON_MODE, NO_CIPHER
or WRONG_PARTNER. Equalisation takes the first candidate into KEYX, or goes on to the next, or ends in EQ_FAIL. An accepted key
exchange makes the link ACTIVE at epoch 0 in the up mask; a refused one is AUTH_FAIL. A lost lock takes an ACTIVE link to RETRAIN,
or to FAULT without AUTO_RETRAIN; the back-off ends in DETECT, or in FAULT after eight failed attempts. A disabled link that drained
is DISABLED. A far loop is served only with ALLOW_FAR_EDDY, and refused it ends the requester's EDDY in FAULT. -/
def Obligations.LinkTraining : Prop :=
  ∀ (s : State) (n : Nat), n < 48 →
    let l := s.lnk n
    let failed := fun (t : State) (reason : Nat) =>
      t.linkSt n = linkFault ∧ t.fld (F.MYL_STS_REASON n) = reason ∧ t.mem = s.mem ∧ t.links = s.links
    (s.linkSt n = linkDetect →
      exec (.detectProbe n) s = Next (s.emit (.train n 0)) ∧
      (∃ t, exec (.partnerDetected n) s = Next t ∧ t.linkSt n = linkNegotiate ∧ t.links = s.links ∧
        ∀ o, o ≠ (F.MYL_STS_STATE n).off → t.reg o = s.reg o) ∧
      (∃ t, exec (.noPartnerTimeout n) s = Next t ∧ t.linkSt n = linkDetect ∧ t.fld (F.MYL_STS_REASON n) = 1 ∧
        t.links = s.links ∧ ∀ o, o ≠ (F.MYL_STS_REASON n).off → t.reg o = s.reg o) ∧
      (s.flag (F.MYL_CFG_ALLOW_FAR_EDDY n) = true → ∃ t, exec (.farEddyRequest n) s = Next t ∧ t.linkSt n = linkEddy ∧
        (t.lnk n).farLoop = true) ∧
      (s.flag (F.MYL_CFG_ALLOW_FAR_EDDY n) = false → ∃ t, exec (.farEddyRequest n) s = Next t ∧ t.linkSt n = linkDetect ∧
        t.out = .train n 3 :: s.out)) ∧
    (s.linkSt n = linkEddy → s.fld (F.MYL_EDDY_MODE n) = 2 → ∀ o, ∃ t, exec (.trainFlit n o true) s = Next t ∧ failed t 14) ∧
    (s.linkSt n = linkNegotiate → ∀ (o : Offer) (r : Bool), o.module < 2 ^ 20 → o.link < 64 →
      ∃ t, exec (.trainFlit n (some o) r) s = Next t ∧ (t.lnk n).partner = some o ∧ t.linkSt n = linkNegotiate ∧
        t.fld (F.MYL_PARTNER_MODULE n) = o.module ∧ t.fld (F.MYL_PARTNER_LINK n) = o.link ∧
        t.flag (F.MYL_PARTNER_TREE n) = o.features.testBit 0 ∧ t.flag (F.MYL_PARTNER_LEDGER n) = o.features.testBit 1 ∧
        t.flag (F.MYL_PARTNER_VALID n) = true ∧ ∀ q, q ≠ (F.MYL_PARTNER_VALID n).off → t.reg q = s.reg q) ∧
    (s.linkSt n = linkNegotiate → l.attempts = 0 → ∀ o, l.partner = some o →
      (s.candidates n o = [] → ∃ t, exec (.negotiateDone n) s = Next t ∧ failed t 3) ∧
      (∀ f, s.candidates n o ≠ [] → s.commonFec n o = some f →
        (o.cipher = false → ∃ t, exec (.negotiateDone n) s = Next t ∧ failed t 5) ∧
        (o.cipher = true → s.flag (F.MYL_EXPECT_CHECK n) = true → s.fld (F.MYL_EXPECT_PARTNER_MODULE n) ≠ o.module →
          ∃ t, exec (.negotiateDone n) s = Next t ∧ failed t 4 ∧ t.flag ((blkMyl n).err 21) = true) ∧
        (o.cipher = true → s.flag (F.MYL_EXPECT_CHECK n) = false →
          ∃ t, exec (.negotiateDone n) s = Next t ∧ t.linkSt n = linkTrain ∧ (t.lnk n).cands = s.candidates n o ∧
            (t.lnk n).fec = f ∧ t.fld (F.MYL_TRAIN_CNT n) = satAdd32 (s.fld (F.MYL_TRAIN_CNT n)) 1 ∧ t.mem = s.mem))) ∧
    (s.linkSt n = linkTrain → ∀ c cs lanes, l.cands = c :: cs → c.1 < 8 → c.2 < 4 → lanes < 16 → l.fec < 2 →
      (∃ t, exec (.equalisationResult n true lanes) s = Next t ∧ t.linkSt n = linkKeyx ∧ t.fld (F.MYL_STS_RATE n) = c.1 ∧
        t.fld (F.MYL_STS_WIDTH n) = c.2 ∧ t.fld (F.MYL_STS_LANES n) = lanes ∧ t.fld (F.MYL_STS_FEC n) = l.fec ∧
        ∀ o, o ≠ (F.MYL_STS_RATE n).off → t.reg o = s.reg o) ∧
      (cs ≠ [] → ∃ t, exec (.equalisationResult n false lanes) s = Next t ∧ (t.lnk n).cands = cs ∧ t.regs = s.regs) ∧
      (cs = [] → l.attempts = 0 → ∃ t, exec (.equalisationResult n false lanes) s = Next t ∧ failed t 2)) ∧
    (s.linkSt n = linkKeyx → s.mgmt.libDown = false → ∀ svn secret,
      (s.partnerAllowed n svn = true → s.unreach = [] → s.flag (blkMyl n).enable = true →
        ∃ t, exec (.keyxComplete n true svn secret) s = Next t ∧ t.linkSt n = linkActive ∧ t.linkUp n = true ∧
          t.fld (F.MYL_TX_EPOCH n) = 0 ∧ t.fld (F.MYL_RX_EPOCH n) = 0 ∧ (t.lnk n).attempts = 0 ∧
          (t.lnk n).txSecret = natsOf secret ∧ (t.lnk n).rxSecret = natsOf secret ∧ t.mem = s.mem) ∧
      (l.attempts = 0 → ∃ t, exec (.keyxComplete n false svn secret) s = Next t ∧ failed t 6 ∧
        t.flag ((blkMyl n).err 22) = true)) ∧
    (s.linkSt n = linkActive → LinkQuiet s n →
      (∃ t, exec (.lossOfLock n) s = Next t ∧
        LinkLeft s n (if s.flag (F.MYL_CFG_AUTO_RETRAIN n) then linkRetrain else linkFault) 7 t ∧
        t.flag ((blkMyl n).err 16) = true) ∧
      (s.flag (blkMyl n).enable = false → ∃ t, exec (.linkDisableDrainEnd n) s = Next t ∧ LinkLeft s n linkDisabled 12 t ∧
        t.flag (blkMyl n).active = false ∧ t.lnk n = Link.init)) ∧
    (s.linkSt n = linkRetrain → s.coreUp (if n < 24 then 2 else 5) = true →
      ∃ t, exec (.retrainBackoffExpiry n) s = Next t ∧ t.linkSt n = (if 8 < l.attempts then linkFault else linkDetect) ∧
        t.links = s.links ∧ ∀ o, o ≠ (F.MYL_STS_STATE n).off → t.reg o = s.reg o)

/-- A DATA, KEY_SWITCH or DOWN flit with a good CRC and the expected SEQ joins the open frame and moves the expected SEQ; a bad CRC is
counted and answered by one RETRY for the expected SEQ, the open frame unchanged. An engine mismatch retrains with ENGINE_FAULT. An
IDLE flit's ACK frees the replay buffer up to its SEQ. A TAG that matches releases the frame: a packet that one DATA flit carries is
handed to the router, the frame counter rises, ACK takes the TAG's SEQ; one that does not match is counted, sets TAG_FAIL, discards
the frame and asks for its first SEQ. A RETRY sends the stored flits again, unchanged, from its SEQ; the eighth for one SEQ retrains.
A RETRY outstanding is repeated, and after eight the link retrains. -/
def Obligations.LinkReceiver : Prop :=
  ∀ (s : State) (n : Nat) (bs : List Byte), n < 48 → s.linkSt n = linkActive →
    let l := s.lnk n
    let c := rxCtrl bs
    let down := if s.flag (F.MYL_CFG_AUTO_RETRAIN n) then linkRetrain else linkFault
    let held := fun (t : State) (data : Bool) =>
      (t.lnk n).rxFrame = l.rxFrame ++ [⟨c - c % 4096, rxBody bs, data⟩] ∧ (t.lnk n).rxSeq = (l.rxSeq + 1) % 4096 ∧
        (t.lnk n).retry = none ∧ t.regs = s.regs ∧ t.out = s.out ∧ t.mem = s.mem
    let fresh := FlitGood bs ∧ bits c 23 12 = l.rxSeq ∧ ∀ r ∈ l.replay, r.1 ≠ c % 4096
    (fresh → bits c 31 30 = 0 → ∃ t, exec (.dataFlit n bs false) s = Next t ∧ held t true) ∧
    (fresh → bits c 31 30 = 1 → leAt bs 4 1 = 2 → ∃ t, exec (.keySwitchFlit n bs) s = Next t ∧ held t false) ∧
    (fresh → bits c 31 30 = 1 → leAt bs 4 1 = 3 → ∃ t, exec (.downFlit n bs) s = Next t ∧ held t false) ∧
    (¬FlitGood bs → l.retry = none →
      ∃ t, exec (.dataFlit n bs false) s = Next t ∧ (t.lnk n).rxFrame = l.rxFrame ∧ (t.lnk n).rxSeq = l.rxSeq ∧
        (t.lnk n).retry = some (l.rxSeq, 1) ∧ t.fld (F.MYL_CRC_ERR n) = satAdd32 (s.fld (F.MYL_CRC_ERR n)) 1 ∧
        t.fld (F.MYL_REPLAY n) = satAdd32 (s.fld (F.MYL_REPLAY n)) 1 ∧ t.mem = s.mem) ∧
    (LinkQuiet s n → ∃ t, exec (.dataFlit n bs true) s = Next t ∧ LinkLeft s n down 10 t ∧ t.flag ((blkMyl n).err 19) = true) ∧
    (FlitGood bs → isControl bs 0 = true → l.txq = [] → l.forceAgain = false → (∃ r ∈ l.replay, r.1 = c % 4096) →
      ∃ t, exec (.idleFlit n bs) s = Next t ∧
        (t.lnk n).replay = (l.replay.dropWhile (fun r => decide (r.1 ≠ c % 4096))).drop 1 ∧ t.regs = s.regs ∧ t.out = s.out) ∧
    (fresh → isControl bs 1 = true → l.txq = [] → l.forceAgain = false → l.txFrame ≠ [] →
      let tag : FrameFlit := ⟨c - c % 4096, rxBody bs, false⟩
      let ki := s.rxKeyIv n
      let want := gcmTag ki.1 ki.2 (frameAad l.rxFrame tag) (dataOf l.rxFrame)
      (∀ f p rest, l.rxFrame = [f] → f.isData = true → f.ctrl.testBit 26 = true → f.ctrl.testBit 25 = true →
        f.ctrl.testBit 24 = false → chunksOf 56 (gcmCtr ki.1 ki.2 (dataOf [f])) = p :: rest →
        want = (tag.body.drop 12).take 16 →
        ∃ t, exec (.tagFlit n bs) s = Next t ∧ (t.lnk n).rxFrame = [] ∧ (t.lnk n).rxCount = l.rxCount + 1 ∧
          (t.lnk n).ackOut = bits c 23 12 ∧ t.out = .arrive n (pktOfBytes (bytesOf p)) :: s.out ∧ t.regs = s.regs) ∧
      (l.rxFrame ≠ [] → want ≠ (tag.body.drop 12).take 16 → l.tagFailed ≠ some l.rxFirst →
        ∃ t, exec (.tagFlit n bs) s = Next t ∧ (t.lnk n).rxFrame = [] ∧ (t.lnk n).rxSeq = l.rxFirst ∧
          (t.lnk n).tagFailed = some l.rxFirst ∧ t.fld (F.MYL_TAG_FAIL n) = satAdd32 (s.fld (F.MYL_TAG_FAIL n)) 1 ∧
          t.flag ((blkMyl n).err 18) = true ∧ t.fld (F.MYL_REPLAY n) = satAdd32 (s.fld (F.MYL_REPLAY n)) 1)) ∧
    (FlitGood bs → bits c 31 30 = 2 → (∀ r ∈ l.replay, r.1 ≠ c % 4096) →
      (l.asked = none → ∃ t, exec (.retryFlit n bs) s = Next t ∧ (t.lnk n).asked = some (bits c 23 12, 1) ∧
        t.out = ((l.replay.dropWhile (fun r => decide (r.1 ≠ bits c 23 12))).map (fun r => Out.wire n r.2)).reverse ++ s.out ∧
        (t.lnk n).replay = l.replay ∧ t.regs = s.regs) ∧
      (l.asked = some (bits c 23 12, 7) → (∃ r ∈ l.replay, r.1 = bits c 23 12) → LinkQuiet s n →
        ∃ t, exec (.retryFlit n bs) s = Next t ∧ LinkLeft s n down 8 t)) ∧
    (∀ seq k, l.retry = some (seq, k) →
      (k < 8 → ∃ t, exec (.retryRepeat n) s = Next t ∧ (t.lnk n).retry = some (seq, k + 1) ∧
        t.fld (F.MYL_REPLAY n) = satAdd32 (s.fld (F.MYL_REPLAY n)) 1 ∧ t.mem = s.mem) ∧
      (8 ≤ k → LinkQuiet s n → ∃ t, exec (.retryRepeat n) s = Next t ∧ LinkLeft s n down 8 t))

/-- A frame that is open is closed by its TAG flit when its timer ends, and credits owed without traffic are returned by a frame of
one TAG: the frame counter rises, nothing more is owed, and one more flit is in the replay buffer. At the end of the interval, or
when FORCE is written, the transmitter moves to the next epoch with frame counter 0 and waits for the acknowledgement of its
KEY_SWITCH; FORCE during a pending switch stays 1 for one more. A new master secret waits for the next epoch of both directions; a
failed exchange retrains with AUTH_FAIL. The FEC window counts, and uncorrectable codewords set FEC_HIGH. A packet held by the
fault injector goes out. -/
def Obligations.LinkTransmitter : Prop :=
  ∀ (s : State) (n : Nat), n < 48 → s.linkSt n = linkActive →
    let l := s.lnk n
    let closed := fun t : State => (t.lnk n).txFrame = [] ∧ (t.lnk n).txCount = l.txCount + 1 ∧
      (t.lnk n).owed = List.replicate 8 0 ∧ (t.lnk n).txSeq = (l.txSeq + 1) % 4096 ∧
      (t.lnk n).replay.length = l.replay.length + 1 ∧ t.regs = s.regs ∧ t.mem = s.mem
    let switched := fun t : State => t.fld (F.MYL_TX_EPOCH n) = (s.fld (F.MYL_TX_EPOCH n) + 1) % 2 ^ 32 ∧ (t.lnk n).txCount = 0 ∧
      (t.lnk n).switchSeq = some l.txSeq ∧ (t.lnk n).txSecret = l.txNext.getD l.txSecret ∧
      t.flag (F.MYL_REKEY_FORCE n) = false ∧ t.mem = s.mem
    (l.txFrame ≠ [] → l.txCount + 1 < 2 ^ 48 → ∃ t, exec (.frameCloseTimer n) s = Next t ∧ closed t) ∧
    (l.txFrame = [] → (∃ v ∈ l.owed, v ≠ 0) → l.txCount + 1 < 2 ^ 48 → ∃ t, exec (.creditReturnTimer n) s = Next t ∧ closed t) ∧
    (l.switchSeq = none → 2 ^ s.fld (F.MYL_REKEY_INTERVAL n) ≤ l.txCount → ∃ t, exec (.rekeyInterval n) s = Next t ∧ switched t) ∧
    (∀ m, l.switchSeq = none → ∃ t, exec (.rekeyForce m n) s = Next t ∧ switched t) ∧
    (∀ m q, l.switchSeq = some q → ∃ t, exec (.rekeyForce m n) s = Next t ∧ t.flag (F.MYL_REKEY_FORCE n) = true ∧
      (t.lnk n).forceAgain = true ∧ t.fld (F.MYL_TX_EPOCH n) = s.fld (F.MYL_TX_EPOCH n)) ∧
    (s.mgmt.libDown = false → ∀ secret,
      (∃ t, exec (.masterSecretExchange n true secret) s = Next t ∧ (t.lnk n).txNext = some (natsOf secret) ∧
        (t.lnk n).rxNext = some (natsOf secret) ∧ t.regs = s.regs ∧ t.mem = s.mem) ∧
      (LinkQuiet s n → ∃ t, exec (.masterSecretExchange n false secret) s = Next t ∧
        LinkLeft s n (if s.flag (F.MYL_CFG_AUTO_RETRAIN n) then linkRetrain else linkFault) 6 t)) ∧
    (∀ corr uncorr, ∃ t, exec (.fecWindow n corr uncorr) s = Next t ∧
      t.fld (F.MYL_FEC_CORR n) = satAdd32 (s.fld (F.MYL_FEC_CORR n)) corr ∧
      t.fld (F.MYL_FEC_UNCORR n) = satAdd32 (s.fld (F.MYL_FEC_UNCORR n)) uncorr ∧
      t.flag ((blkMyl n).err 20) = (s.flag ((blkMyl n).err 20) || decide (uncorr ≠ 0)) ∧ t.mem = s.mem) ∧
    (∀ h, l.finHeld = some h → ∃ t ws, exec (.faultHeldRelease n) s = Next t ∧ (t.lnk n).finHeld = none ∧ ws ≠ [] ∧
      t.out = ws ++ s.out ∧ t.regs = s.regs ∧ t.mem = s.mem)

/-- A packet with a bad header is discarded, counted and sets BAD_HEADER; a packet for this module is delivered; one that arrives with
HOPS 7 for another is discarded for HOP_LIMIT; one with no eligible link waits; else it leaves over its egress, HOPS one higher, and
its VC one higher over a hall-class link, where level 2 is discarded for LEVEL_LIMIT: it stands in the link's queue, or its flits
went out. The packet that waited longest is discarded for UNREACHABLE when its time ends. SWAP sets, and when every port has swapped
it clears and the other bank is active. -/
def Obligations.RouterMovesPackets : Prop :=
  ∀ (s : State) (p : Packet) (arr : Option Nat),
    let discarded := fun (t : State) (reason : Nat) =>
      t.fld (F.MYR_DISC_CNT reason) = satAdd32 (s.fld (F.MYR_DISC_CNT reason)) 1 ∧ t.flag (blkMyr.err (16 + reason)) = true ∧
        t.out = s.out ∧ t.links = s.links ∧ t.mem = s.mem
    (s.flag blkMyr.active = true →
      (s.badHeader p arr = true → ∀ mis, ∃ t, exec (.packetRoute p arr mis) s = Next t ∧ discarded t 0 ∧ t.unreach = s.unreach) ∧
      (s.badHeader p arr = false →
        (p.dst = s.ownModule → ∀ mis, exec (.packetRoute p arr mis) s = Next (s.emit (.deliver p))) ∧
        (p.dst ≠ s.ownModule → arr ≠ none → p.hops = 7 →
          ∃ t, exec (.packetRoute p arr false) s = Next t ∧ discarded t 1 ∧ t.unreach = s.unreach) ∧
        (p.dst ≠ s.ownModule → (arr = none ∨ p.hops ≠ 7) → ∀ q,
          (s.egress p arr = (q, none) → exec (.packetRoute p arr false) s = Next { s with unreach := s.unreach ++ [(q, arr)] }) ∧
          (∀ n, s.egress p arr = (q, some n) →
            let hall := s.fld (F.MYL_CFG_LINK_CLASS n) = 2 ∧ q.vc < 6
            (hall → vcLevel q.vc = 2 → ∃ t, exec (.packetRoute p arr false) s = Next t ∧ discarded t 2 ∧ t.unreach = s.unreach) ∧
            (¬(hall ∧ vcLevel q.vc = 2) → s.flag (F.FIN_LINK_CTRL_ARM n) = false →
              let sent : Packet := { q with hops := (q.hops + 1) % 8, vc := if hall then q.vc + 1 else q.vc }
              ∃ t ws, exec (.packetRoute p arr false) s = Next t ∧ t.lastLink = n ∧ t.out = ws ++ s.out ∧
                (sent ∈ (t.lnk n).txq ∨ ws ≠ []) ∧ t.regs = s.regs ∧ t.mem = s.mem ∧
                ∀ k, k ≠ n → t.lnk k = s.lnk k))))) ∧
    (∀ rest, s.unreach = (p, arr) :: rest → ∃ t, exec .unreachableTimeout s = Next t ∧ discarded t 3 ∧ t.unreach = rest) ∧
    (∀ m, ∃ t, exec (.routeSwap m) s = Next t ∧ t.flag F.MYR_ROUTE_CTRL_SWAP = true ∧
      t.flag F.MYR_ROUTE_CTRL_ACTIVE_BANK = s.flag F.MYR_ROUTE_CTRL_ACTIVE_BANK ∧
      ∀ o, o ≠ F.MYR_ROUTE_CTRL_SWAP.off → t.reg o = s.reg o) ∧
    (s.flag F.MYR_ROUTE_CTRL_SWAP = true → ∃ t, exec .routeSwapDone s = Next t ∧ t.flag F.MYR_ROUTE_CTRL_SWAP = false ∧
      t.flag F.MYR_ROUTE_CTRL_ACTIVE_BANK = !s.flag F.MYR_ROUTE_CTRL_ACTIVE_BANK ∧
      ∀ o, o ≠ F.MYR_ROUTE_CTRL_SWAP.off → t.reg o = s.reg o)

/-- The header read back from its 32 bytes' number gives every field of a packet whose fields fit R254, and the packet read back from
the bodies of its DATA flits, padding and all, is the packet, for every payload of 0 to 4,096 bytes. -/
def Obligations.PacketSurvivesItsFlits : Prop :=
  ∀ p : Packet, wfPacket p = true →
    pktOfHeader (pktHeader p) p.payload = p ∧
    (p.payload.length = p.length → p.length ≤ 4096 →
      pktOfBytes ((pktBodies p).flatMap bytesOf) = p ∧ (pktBodies p).length = flitsFor p.length ∧
        ∀ b ∈ pktBodies p, b.length = 56)

/-- The owner's doorbell sets PRODUCER; a value beyond the ring sets DOORBELL_BAD, another master's write GUARD, and neither moves
PRODUCER. A fetched descriptor advances CONSUMER and waits its turn; one that breaks a constraint puts the context in ERROR with
BAD_DESC. On an idle context PUT, PUT_FLAG and LEDGER_ADD send the packets of their first message with the source bytes, GET its
GET_REQ with the byte count in OFFSET, ATOMIC its 24-byte operands; the message takes NEXT_MSG. NOP completes at once. WAIT completes
where its counter has reached the value, else it holds the context in WAITING until it has, or fails with WAIT_TIMEOUT. REDUCE counts
as an arrival at its group, or fails with REDUCE_FAIL on a group that is not enabled. -/
def Obligations.QueueContextSends : Prop :=
  ∀ (s : State) (c : Nat),
    let x := s.ctx c
    let me := s.ctxMaster c
    (∀ m v, s.ownsOrFw m x.owner = true →
      ((v + 2 ^ 32 - x.consumer) % 2 ^ 32 ≤ 2 ^ x.ringLog2 → ∃ t, exec (.ctxDoorbell m c v) s = Next t ∧
        t.ctx c = { x with producer := v % 2 ^ 32 } ∧ t.mem = s.mem ∧ ∀ d, d ≠ c → t.ctx d = s.ctx d) ∧
      (2 ^ x.ringLog2 < (v + 2 ^ 32 - x.consumer) % 2 ^ 32 → ∃ t, exec (.ctxDoorbell m c v) s = Next t ∧ t.gma = s.gma ∧
        t.flag (blkGma.err 23) = true ∧ t.mem = s.mem)) ∧
    (∀ m v, s.ownsOrFw m x.owner = false → ∃ t, exec (.ctxDoorbell m c v) s = Next t ∧ t.gma = s.gma ∧
      t.flag (blkGma.err 4) = true ∧ t.mem = s.mem) ∧
    (s.fetches c = true → x.typ ≠ 1 → x.ringHost = false →
      let a := x.ringBase + 64 * (x.consumer % 2 ^ x.ringLog2)
      let d := ofLe (s.readBytes a 64)
      Reachable s me a 64 →
      (s.descOk x d = true → ∃ t, exec (.descFetch c) s = Next t ∧
        t.ctx c = { x with consumer := (x.consumer + 1) % 2 ^ 32, fetched := x.fetched ++ [(x.consumer, d)] } ∧
        t.regs = s.regs ∧ t.mem = s.mem) ∧
      (s.descOk x d = false → ∃ t, exec (.descFetch c) s = Next t ∧ (t.ctx c).st = .error ∧ (t.ctx c).errCode = ceBadDesc ∧
        (t.ctx c).errIndex = x.consumer ∧ (t.ctx c).fetched = x.fetched ∧ t.flag (blkGma.err 18) = true ∧ t.mem = s.mem)) ∧
    (∀ op i d, MayStart s c op i d →
      let n := bits d 63 32
      let loc := bits d 127 64
      let rem := bits d 191 128
      let aux := leBytes 8 (bits d 199 192) ++ leBytes 8 (bits d 319 256) ++ leBytes 8 (bits d 383 320)
      let h : Packet := { pktZero with
        dst := x.peerModule, src := s.ownModule, endpoint := x.peerCtx, opcode := op, msgId := x.nextMsg, policy := x.policy,
        addr := gLocal rem, space := gSpace rem, srcCtx := c, flag := decide (op = 2), first := true, last := true }
      let sent := fun (t : State) (ps : List Packet) => (t.ctx c).fetched = x.fetched.drop 1 ∧
        (t.ctx c).nextMsg = (x.nextMsg + 1) % 2 ^ 24 ∧ (t.ctx c).compCnt = x.compCnt ∧
        (∃ m, (t.ctx c).msgs = [m] ∧ m.id = x.nextMsg ∧ m.opcode = op ∧ m.len = n) ∧
        t.out = (ps.map Out.inject).reverse ++ s.out ∧ t.regs = s.regs ∧ t.mem = s.mem
      0 < n → n ≤ 262144 →
      (Reachable s me loc n →
        (op = 1 → ∃ t, exec (.put c) s = Next t ∧ sent t (cutPackets h (s.readBytes loc n))) ∧
        (op = 2 → ∃ t, exec (.putFlag c) s = Next t ∧ sent t (cutPackets h (s.readBytes loc n))) ∧
        (op = 5 → ∃ t, exec (.ledgerAdd c) s = Next t ∧ sent t (cutPackets h (s.readBytes loc n)))) ∧
      (op = 3 → ∃ t, exec (.get c) s = Next t ∧ sent t [{ h with offset := n }]) ∧
      (op = 4 → ∃ t, exec (.atomic c) s = Next t ∧ sent t (cutPackets h (aux.take 1 ++ leBytes 1 0 ++ aux.drop 2)))) ∧
    (x.ops = [] → x.msgs = [] → ∀ i d, d.testBit 9 = false →
      (s.headDesc c 7 = some (i, d) → ∃ t, exec (.queueNop c) s = Next t ∧ OpCounted s c t ∧ t.out = s.out ∧ t.regs = s.regs) ∧
      (s.headDesc c 6 = some (i, d) →
        let w : WaitSt := ⟨bits d 247 230, d.testBit 248, bits d 303 256, bits d 351 320⟩
        (s.waitMet w = true → ∃ t, exec (.queueWait c) s = Next t ∧ OpCounted s c t ∧ (t.ctx c).st = .ready) ∧
        (s.waitMet w = false → ∃ t, exec (.queueWait c) s = Next t ∧ (t.ctx c).st = .waiting ∧ (t.ctx c).wait = some w ∧
          (t.ctx c).compCnt = x.compCnt)) ∧
      (s.headDesc c 8 = some (i, d) →
        let g := bits d 211 200
        let o := bits d 127 64
        (s.flag (F.GMA_BAR_CFG_ENABLE g) = false → ∃ t, exec (.reduce c) s = Next t ∧ (t.ctx c).st = .error ∧
          (t.ctx c).errCode = ceReduceFail ∧ t.mem = s.mem) ∧
        (GroupGathers s g → (s.bar g).given = [] → 0 < bits d 63 32 → Reachable s me o (bits d 63 32) →
          s.fld (F.GMA_BAR_STS_ARRIVED g) + 1 < s.fld (F.GMA_BAR_CFG_LOCAL_EXPECT g) →
          ∃ t, exec (.reduce c) s = Next t ∧ t.fld (F.GMA_BAR_STS_ARRIVED g) = s.fld (F.GMA_BAR_STS_ARRIVED g) + 1 ∧
            (t.bar g).reduces = [(s.fld (F.GMA_BAR_STS_GEN g), c, x.nextOp)] ∧ (t.ctx c).compCnt = x.compCnt ∧
            t.mem = s.mem))) ∧
    (∀ w n o, x.st = .waiting → x.wait = some w → x.ops = [(n, o)] → x.msgs = [] → o.op = 6 → o.waiting = true → o.sent = o.length →
      o.failed = false → o.notify = false → o.tile = none →
      (s.waitMet w = true → ∃ t, exec (.waitMet c) s = Next t ∧ exec (.waitPoll c) s = Next t ∧ OpCounted s c t ∧
        (t.ctx c).st = .ready ∧ (t.ctx c).wait = none) ∧
      (s.waitMet w = false → exec (.waitMet c) s = Next s ∧ exec (.waitPoll c) s = Next s ∧
        (w.timeout ≠ 0 → ∃ t, exec (.waitTimeout c) s = Next t ∧ (t.ctx c).st = .error ∧ (t.ctx c).errCode = ceWaitTimeout ∧
          (t.ctx c).compCnt = x.compCnt ∧ t.mem = s.mem)))

/-- A PUT packet that passes its checks is placed at ADDR + OFFSET and no other byte changes; with its message whole, COMPLETION is sent
and DONE marks it, else its tracker takes it. A flagged write in its turn is placed, counted in ARRIVE_CNT and completed; an early one
is parked; under FLAG_BLOCK it is refused with FLAG_BLOCKED; a parked one is placed when its turn comes. A GET_REQ is answered with the
bytes asked for. An ATOMIC_REQ performs its operation, logs the old value and answers it. A LEDGER_ADD packet of one word leaves the
sum of R94. A duplicate is counted and answered with COMPLETION, not applied. A PUT that no window admits is refused with WINDOW,
counted as a violation, and sets FLAG_BLOCK. A RESEND_REQ of a message still outstanding sends the packets whose bit is clear. -/
def Obligations.QueueContextReceives : Prop :=
  ∀ (s : State) (p : Packet) (half : Nat), Memory.wf s.mem = true →
    let c := p.endpoint
    let x := s.ctx c
    let me := s.ctxMaster c
    let a := p.addr + p.offset
    (RequestClean s p opPut → Reachable s me a p.length →
      let tr := (s.trackerOf c p.msgId).getD (newTracker p)
      tr.bitmap.testBit (p.offset / 4096) = false →
      ∃ t, exec (.putReceive p half) s = Next t ∧ Stored s a p.payload t ∧ t.regs = s.regs ∧
        (if (p.first ∧ p.last) ∨ (tr.take p).whole = true then
          t.out = (s.completion p).out ∧ t.ctx c = x.markDone p.msgId
        else t.out = s.out ∧ t.trackerOf c p.msgId = some (tr.take p) ∧ t.ctx c = x)) ∧
    (RequestClean s p opPutFlag →
      (x.flagBlock = false → x.expMsg = p.msgId → Reachable s me p.addr p.length →
        ∃ t, exec (.putFlagReceive p half) s = Next t ∧ Stored s p.addr p.payload t ∧ t.out = (s.completion p).out ∧
          (t.ctx c).arriveCnt = (x.arriveCnt + 1) % 2 ^ 48) ∧
      (x.flagBlock = false → x.expMsg ≠ p.msgId → x.parked = none →
        ∃ t, exec (.putFlagReceive p half) s = Next t ∧ t.ctx c = { x with parked := some p } ∧ t.out = s.out ∧ t.mem = s.mem) ∧
      (x.flagBlock = true → x.parked = none → ∃ t, exec (.putFlagReceive p half) s = Next t ∧
        t.out = (s.nack p ceFlagBlocked).out ∧ (t.ctx c).flagBlock = true ∧ (t.ctx c).arriveCnt = x.arriveCnt ∧
        t.mem = s.mem)) ∧
    (x.parked = some p → x.expMsg = p.msgId → x.flagBlock = false → s.admitAt p p.addr p.length = none →
      p.payload.length = p.length → Reachable s me p.addr p.length →
      ∃ t, exec (.parkedFlagPlace c) s = Next t ∧ Stored s p.addr p.payload t ∧ t.out = (s.completion p).out ∧
        (t.ctx c).parked = none ∧ (t.ctx c).arriveCnt = (x.arriveCnt + 1) % 2 ^ 48) ∧
    (RequestClean s p opGetReq → Reachable s me p.addr p.offset →
      let h : Packet := { pktZero with
        dst := p.src, src := s.ownModule, endpoint := p.srcCtx, vc := 3, opcode := opGetRsp, msgId := p.msgId,
        policy := x.policy, addr := p.addr, space := p.space, srcCtx := c }
      ∃ t, exec (.getReqReceive p half) s = Next t ∧ t.mem = s.mem ∧ t.ctx c = x.markDone p.msgId ∧
        t.out = ((cutPackets h (s.readBytes p.addr p.offset)).map Out.inject).reverse ++ s.out) ∧
    (RequestClean s p opAtomicReq → Reachable s me p.addr 8 →
      let old := ofLe (s.readBytes p.addr 8)
      let new := atomicResult (leAt p.payload 0 1) old (leAt p.payload 8 8) (leAt p.payload 16 8)
      ∃ t, exec (.atomicReqReceive p half) s = Next t ∧ Stored s p.addr (leBytes 8 new) t ∧
        t.out = (s.answer p opAtomicRsp (leBytes 8 old)).out ∧
        Tab.find? (t.ctx c).atomicLog (leAt p.payload 1 1 % 4) = some (p.msgId, old)) ∧
    (RequestClean s p opLedgerAdd → p.length = 32 → p.first = true → p.last = true → s.trackerOf c p.msgId = none →
      Reachable s me a 32 →
      ∃ t, exec (.ledgerAddReceive p half) s = Next t ∧ t.out = (s.completion p).out ∧
        Stored s a (ledgerAdd s.freeNat (LWord.ofBytes (s.readBytes a 32)) (LWord.ofBytes p.payload)).bytes t) ∧
    (p.opcode = opPut → c ∈ s.gma.cache → s.connected p = true → x.st = .ready → reqFormed p = true → p.encrypted = false →
      (x.isDup p.msgId = true → ∃ t, exec (.putReceive p half) s = Next t ∧ t.out = (s.completion p).out ∧ t.ctx c = x ∧
        t.fld (F.GMA_CNT 7) = satAdd32 (s.fld (F.GMA_CNT 7)) 1 ∧ t.mem = s.mem) ∧
      (x.isDup p.msgId = false → s.noTracker p = false → s.admitAt p (reqFirst p) (reqBytes p) = some ceWindow →
        x.parked = none →
        ∃ t, exec (.putReceive p half) s = Next t ∧ t.out = (s.nack p ceWindow).out ∧
          t.ctx c = ({ x with flagBlock := true } : Ctx).markDone p.msgId ∧
          t.fld (F.GMA_CNT 5) = satAdd32 (s.fld (F.GMA_CNT 5)) 1 ∧ t.flag (blkGma.err 16) = true ∧ t.mem = s.mem)) ∧
    (p.opcode = opResendReq → c ∈ s.gma.cache → (leAt p.payload 8 1).testBit 1 = false → ∀ m o, s.msgOf c p.msgId = some m →
      m.opcode ≠ opGetReq → m.wire ≠ [] → Tab.find? x.ops m.opNo = some o →
      ∃ t, exec (.resendReqReceive p half) s = Next t ∧ t.ctx c = x ∧ t.mem = s.mem ∧
        t.out = (((cutPackets (s.reqHeader c x m o) m.wire).filter
          (fun q => !(leAt p.payload 0 8).testBit (q.offset / 4096))).map Out.inject).reverse ++ s.out)

/-- A GET_RSP is placed at its message's own destination plus OFFSET, once, and the last missing one completes the GET; an ATOMIC_RSP
writes the old value at LOCAL; a COMPLETION ends its message: each counts the operation in COMP_CNT. A NACK of BUSY is remembered for
its resend; a violation freezes the context and is counted; any other code puts it in ERROR. An idle tracker of an inbound message
sends RESEND_REQ, four times; then a PUT is forgotten, and a LEDGER_ADD is answered with TIMEOUT and sets FLAG_BLOCK. A message that
times out is sent again, three times, and then fails with TIMEOUT; packets refused with BUSY are sent again. A fetch that completes
puts its context in the cache; an uncorrectable entry makes it LOST. -/
def Obligations.QueueContextCompletes : Prop :=
  ∀ (s : State) (c : Nat), Memory.wf s.mem = true →
    let x := s.ctx c
    let me := s.ctxMaster c
    (∀ (m : Msg) (p : Packet), OnlyMessage s c m → p.endpoint = c → p.msgId = m.id →
      (p.opcode = opGetRsp → m.opcode = opGetReq → getRspOk p m.len = true → m.bitmap.testBit (p.offset / 4096) = false →
        Reachable s me (m.localAddr + p.offset) p.length →
        let bitmap := m.bitmap ||| 2 ^ (p.offset / 4096)
        ∃ t, exec (.getRspReceive p) s = Next t ∧ Stored s (m.localAddr + p.offset) p.payload t ∧
          (if bitmap + 1 = 2 ^ ((m.len + 4095) / 4096) then OpCounted s c t
           else (t.ctx c).msgs = [{ m with bitmap := bitmap, resends := 0 }] ∧ (t.ctx c).compCnt = x.compCnt)) ∧
      (p.opcode = opAtomicRsp → m.opcode = opAtomicReq → p.payload.length = 8 → Reachable s me m.localAddr 8 →
        ∃ t, exec (.atomicRspReceive p) s = Next t ∧ Stored s m.localAddr p.payload t ∧ OpCounted s c t) ∧
      (p.opcode = opCompletion → m.opcode ≠ opGetReq → m.opcode ≠ opAtomicReq →
        ∃ t, exec (.completionReceive p) s = Next t ∧ OpCounted s c t ∧ t.regs = s.regs ∧ t.mem = s.mem) ∧
      (p.opcode = opNack →
        let code := leAt p.payload 0 1
        let k := leAt p.payload 4 4 / 4096
        (code = ceBusy → k ∉ m.busy → ∃ t, exec (.nackReceive p) s = Next t ∧ (t.ctx c).msgs = [{ m with busy := m.busy ++ [k] }] ∧
          (t.ctx c).st = x.st ∧ t.regs = s.regs ∧ t.mem = s.mem) ∧
        (isViolation code = true → x.st ≠ .frozen → ∃ t, exec (.nackReceive p) s = Next t ∧ (t.ctx c).st = .frozen ∧
          (t.ctx c).errCode = code ∧ (t.ctx c).compCnt = x.compCnt ∧ t.flag (blkGma.err 17) = true ∧
          t.fld (F.GMA_CNT 6) = satAdd32 (s.fld (F.GMA_CNT 6)) 1 ∧ t.mem = s.mem) ∧
        (isViolation code = false → code ≠ ceBusy → x.st = .ready ∨ x.st = .waiting →
          ∃ t, exec (.nackReceive p) s = Next t ∧ (t.ctx c).st = .error ∧ (t.ctx c).errCode = code ∧
            (t.ctx c).compCnt = x.compCnt ∧ t.flag (blkGma.err 18) = true ∧ t.mem = s.mem))) ∧
    (∀ id (tr : Tracker), s.trackerOf c id = some tr →
      (tr.resends < 4 → ∃ t, exec (.trackerIdleTimeout c id) s = Next t ∧
        t.trackerOf c id = some { tr with resends := tr.resends + 1 } ∧
        t.fld (F.GMA_CNT 3) = satAdd32 (s.fld (F.GMA_CNT 3)) 1 ∧ t.out.length = s.out.length + 1 ∧ t.mem = s.mem) ∧
      (4 ≤ tr.resends → tr.opcode ≠ opLedgerAdd → ∃ t, exec (.trackerIdleTimeout c id) s = Next t ∧
        t.trackerOf c id = none ∧ t.ctx c = x ∧ t.out = s.out ∧ t.mem = s.mem) ∧
      (4 ≤ tr.resends → tr.opcode = opLedgerAdd → ∃ t, exec (.trackerIdleTimeout c id) s = Next t ∧
        t.trackerOf c id = none ∧ (t.ctx c).flagBlock = true ∧ s.out.length < t.out.length ∧ t.mem = s.mem)) ∧
    (∀ m : Msg, OnlyMessage s c m → x.st = .ready →
      (m.wire ≠ [] → m.opcode ≠ opGetReq →
        (m.repeats < 3 → ∃ t, exec (.msgTimeout c m.id) s = Next t ∧
          (t.ctx c).msgs = [{ m with repeats := m.repeats + 1, busy := [] }] ∧
          t.fld (F.GMA_CNT 4) = satAdd32 (s.fld (F.GMA_CNT 4)) 1 ∧
          t.out.length = s.out.length + (m.wire.length + 4095) / 4096 ∧ t.mem = s.mem) ∧
        (m.busy ≠ [] → ∃ t, exec (.busyResend c m.id) s = Next t ∧ (t.ctx c).msgs = [{ m with busy := [] }] ∧
          t.fld (F.GMA_CNT 2) = satAdd32 (s.fld (F.GMA_CNT 2)) 1 ∧ t.mem = s.mem)) ∧
      (3 ≤ m.repeats → ∃ t, exec (.msgTimeout c m.id) s = Next t ∧ (t.ctx c).st = .error ∧ (t.ctx c).errCode = ceTimeout ∧
        (t.ctx c).msgs = [] ∧ (t.ctx c).compCnt = x.compCnt ∧ t.mem = s.mem)) ∧
    (s.coreUp 5 = true → c ∈ s.gma.fetches → s.flag F.GMA_CTX_LOC_HOST = false → x.holding = [] → x.roceHold = [] →
      ∀ rest auth, s.cacheRoom c = some rest →
      ((∀ u ∈ unitsOf (s.backingAddr c) 256, u ∉ s.ue ∧ u ∉ s.ce) → ∃ t, exec (.ctxFetchDone c auth) s = Next t ∧
        t.gma.cache = c :: rest ∧ t.gma.fetches = s.gma.fetches.erase c ∧ t.ctx c = x ∧ t.mem = s.mem) ∧
      ((∃ u ∈ unitsOf (s.backingAddr c) 256, u ∈ s.ue) → x.st ≠ .free → ∃ t, exec (.ctxFetchDone c auth) s = Next t ∧
        t.gma.cache = c :: rest ∧ (t.ctx c).st = .lost ∧ t.flag (blkGma.err 19) = true ∧ t.mem = s.mem))

/-- ENABLE written 1 to a window makes it admit, but not where CRC_CHECK is 1 and its entry does not match: it stays disabled with
WIN_CRC. ENABLE written 0 stops it; the periodic check disables a window that does not match. A write of the group's number by a master
of its OWNER is an arrival; another master's changes nothing of the group. Enabling a group sets GEN and ARRIVED to 0. The last local
arrival at a root without children releases: GEN advances, ARRIVED is 0. A child's BARRIER_ARRIVE is counted; a release from the parent
advances GEN. A child's REDUCE_UP packet joins the reduction of its group; a packet of the total is written at the member's result
address. -/
def Obligations.WindowsBarriersAndReductions : Prop :=
  ∀ (s : State) (m : Master), s.isSecure m = true → Memory.wf s.mem = true →
    (∀ w, w < 4096 →
      let on := F.GMA_WIN_CTRL_ENABLE w
      let act := F.GMA_WIN_CTRL_ACTIVE w
      let mismatch := s.flag blkGma.crcCheck = true ∧ s.winMatches w = false
      (s.flag on = false → ¬mismatch → ∃ t, exec (.winEnable m w) s = Next t ∧ t.flag on = true ∧ t.flag act = true ∧
        t.mem = s.mem ∧ ∀ o, o ≠ on.off → t.reg o = s.reg o) ∧
      (s.flag on = false → mismatch → ∃ t, exec (.winEnable m w) s = Next t ∧ t.flag on = false ∧
        t.flag (blkGma.err 20) = true ∧ t.mem = s.mem) ∧
      (∃ t, exec (.winDisable m w) s = Next t ∧ t.flag on = false ∧ t.flag act = false ∧ t.mem = s.mem ∧
        ∀ o, o ≠ on.off → t.reg o = s.reg o) ∧
      (s.flag on = true → mismatch → ∃ t, exec (.winCrcCheck w) s = Next t ∧ t.flag on = false ∧ t.flag act = false ∧
        t.flag (blkGma.err 20) = true ∧ t.mem = s.mem) ∧
      (¬(s.flag on = true ∧ mismatch) → exec (.winCrcCheck w) s = Next s)) ∧
    (∀ g, g < 4096 →
      let arrived := F.GMA_BAR_STS_ARRIVED g
      let gen := F.GMA_BAR_STS_GEN g
      let child := s.fld (F.GMA_BAR_STS_CHILD_ARRIVED g)
      let b := s.bar g
      let released := fun t : State => t.fld gen = (s.fld gen + 1) % 256 ∧ t.fld arrived = 0 ∧
        t.fld (F.GMA_BAR_STS_STATE g) = barIdle ∧ (t.bar g).children = [] ∧ t.mem = s.mem
      (s.flag (F.GMA_BAR_CFG_ENABLE g) = false → ∃ t, exec (.barGroupEnable m g true) s = Next t ∧
        t.flag (F.GMA_BAR_CFG_ENABLE g) = true ∧ t.fld gen = 0 ∧ t.fld arrived = 0 ∧ t.bar g = Bar.init ∧ t.mem = s.mem) ∧
      (∃ t, exec (.barGroupEnable m g false) s = Next t ∧ t.flag (F.GMA_BAR_CFG_ENABLE g) = false ∧ t.bar g = b ∧ t.mem = s.mem) ∧
      (∀ m', s.masterOwner m' ≠ some (s.fld (F.GMA_BAR_CHILD_HI_OWNER g)) →
        ∃ t, exec (.barArriveWrite m' g) s = Next t ∧ t.fld arrived = s.fld arrived ∧ t.gma = s.gma ∧ t.mem = s.mem) ∧
      (GroupGathers s g →
        (∀ m', s.masterOwner m' = some (s.fld (F.GMA_BAR_CHILD_HI_OWNER g)) →
          (s.fld arrived + 1 < s.fld (F.GMA_BAR_CFG_LOCAL_EXPECT g) → ∃ t, exec (.barArriveWrite m' g) s = Next t ∧
            t.fld arrived = s.fld arrived + 1 ∧ t.fld gen = s.fld gen ∧ t.out = s.out ∧ t.mem = s.mem) ∧
          (s.fld arrived + 1 = s.fld (F.GMA_BAR_CFG_LOCAL_EXPECT g) → s.flag (F.GMA_BAR_CFG_ROOT g) = true →
            s.barChildren g = [] → b.heldArr = 0 → ∃ t, exec (.barArriveWrite m' g) s = Next t ∧ released t)) ∧
        (∀ n p, p.msgId % 4096 = g → p.offset % 2 = 0 → p.msgId / 4096 % 256 = s.fld gen →
          (p.opcode = opBarArrive → n ∈ s.barChildren g → n ∉ b.children → b.children.length < 63 →
            ∃ t, exec (.barrierArriveReceive n p) s = Next t ∧ (t.bar g).children = b.children ++ [n] ∧
              t.fld (F.GMA_BAR_STS_CHILD_ARRIVED g) = b.children.length + 1 ∧ t.fld arrived = s.fld arrived ∧ t.mem = s.mem) ∧
          (p.opcode = opBarRelease → s.flag (F.GMA_BAR_CFG_ROOT g) = false → s.fld (F.GMA_BAR_CFG_PARENT g) = n →
            s.barChildren g = [] → b.heldArr = 0 → ∃ t, exec (.barrierReleaseReceive n p) s = Next t ∧ released t) ∧
          (p.opcode = opReduceUp → n ∈ s.barChildren g → s.flag (F.GMA_BAR_CFG_REDUCE_EN g) = true →
            ∃ t r, exec (.reduceUpReceive n p) s = Next t ∧ (t.bar g).red = some r ∧ Tab.getD r.got (p.offset / 4096) 0 = 1 ∧
              r.length = (if p.last then some (p.offset + p.length) else none) ∧ t.fld arrived = s.fld arrived ∧
              t.fld (F.GMA_BAR_STS_CHILD_ARRIVED g) = child ∧ t.mem = s.mem))) ∧
      (∀ n p r, p.opcode = opReduceDown → p.msgId % 4096 = g → p.offset % 2 = 0 → p.msgId / 4096 % 256 = s.fld gen →
        s.flag (F.GMA_BAR_CFG_ENABLE g) = true → s.fld (F.GMA_BAR_STS_STATE g) ≠ barBroken →
        s.flag (F.GMA_BAR_CFG_ROOT g) = false → s.fld (F.GMA_BAR_CFG_PARENT g) = n → s.barChildren g = [] →
        b.red = some r → r.localGiven = true → r.length = none → p.last = false → b.reduces = [] → p.payload ≠ [] →
        Reachable s Master.firmware (r.resultAddr + p.offset) p.payload.length →
        ∃ t, exec (.reduceDownReceive n p) s = Next t ∧ Stored s (r.resultAddr + p.offset) p.payload t ∧
          (t.bar g).red = some { r with down := r.down ++ [p.offset / 4096] } ∧ t.fld gen = s.fld gen))

/-- Words that are empty or share one anchor, none marked ANCHOR_MIX, give the same ledger word in whatever order they are added, and
whatever the free values are: with a word that is not empty among them its VALUE is the sum of the values of the words that are not
empty modulo 2^160, its TERMS the sum of their counts, at most 0xFFFF_FFFF. A word of 32 bytes reads back as it was written. -/
def Obligations.LedgerAdditionIsOrderFree : Prop :=
  ∀ (a : Int) (d : LWord) (ws vs : List LWord) (fv gv : Nat), ws.Perm vs →
    (∀ w ∈ d :: ws, w.terms < 2 ^ 32 ∧ (w.isEmpty = true ∨ (w.anchor = a ∧ w.flags.testBit 8 = false))) →
    let r := ws.foldl (ledgerAdd fv) d
    let full := (d :: ws).filter (fun w => !w.isEmpty)
    (full ≠ [] → r = vs.foldl (ledgerAdd gv) d ∧ r.value = (full.map (fun w => w.value)).foldl (· + ·) 0 ∧ r.anchor = a ∧
      r.terms = min ((full.map (fun w => w.terms)).foldl (· + ·) 0) 0xFFFFFFFF) ∧
    (full = [] → r = d) ∧
    (r.flags < 2 ^ 16 → r.terms < 2 ^ 32 → -2 ^ 15 ≤ r.anchor → r.anchor < 2 ^ 15 → LWord.ofBytes r.bytes = r)

/-- Enabling a partition sets ENABLE and ACTIVE and enables each of its unparked tiles; disabling it clears ENABLE, disables its
tiles and abandons its frame. A stream is enabled only in an ACTIVE partition of ROLE 4 that owns its INPUT_CTX; else STREAM_REFUSED
sets. At a tick the next frame stays undecided before its start, is admitted while the partition is free and its input present (the
lead core gets the doorbell), and is skipped past its latest start, counted in OVERRUN or NO_INPUT and recorded. A core of the
partition ends the frame as DONE or LATE; another number sets BAD_DONE, another master's write GUARD. The HI half makes a step value
take effect. -/
def Obligations.PartitionsAndStreams : Prop :=
  ∀ (s : State) (m : Master) (p : Nat), p < 16 →
    let has := fun k => (s.fld (F.MOD_PART_TILES_TILES p)).testBit k
    (s.isSecure m = true → s.flag (F.MOD_PART_CFG_ENABLE p) = false → ∃ t, exec (.partitionEnable m p) s = Next t ∧
      t.flag (F.MOD_PART_CFG_ENABLE p) = true ∧ t.flag (F.MOD_PART_CFG_ACTIVE p) = true ∧
      (∀ k, k < 16 → has k = true → (s.fld F.MOD_PARKED0_TILES).testBit k = false → t.flag (blkTil k).enable = true) ∧
      t.mem = s.mem ∧ t.cores = s.cores) ∧
    (s.isSecure m = true → s.flag (F.MOD_PART_CFG_ENABLE p) = true → ∃ t, exec (.partitionDisable m p) s = Next t ∧
      t.flag (F.MOD_PART_CFG_ENABLE p) = false ∧ (∀ k, k < 16 → has k = true → t.flag (blkTil k).enable = false) ∧
      t.flag (F.MOD_STREAM_STS_FRAME_ACTIVE p) = false ∧ t.mem = s.mem) ∧
    (s.isSecure m = true → s.flag (F.MOD_STREAM_CTRL_ENABLE p) = false →
      let ok := s.flag (F.MOD_PART_CFG_ENABLE p) = true ∧ s.flag (F.MOD_PART_CFG_ACTIVE p) = true ∧
        s.fld (F.MOD_PART_CFG_ROLE p) = 4 ∧ (s.flag (F.MOD_STREAM_CTRL_INPUT_EN p) = true →
          (s.ctx (s.fld (F.MOD_STREAM_CTRL_INPUT_CTX p))).owner = partOwner p)
      (ok → ∃ t, exec (.streamEnable m p) s = Next t ∧ t.flag (F.MOD_STREAM_CTRL_ENABLE p) = true ∧
        t.flag (F.MOD_STREAM_CTRL_ACTIVE p) = true ∧ t.fld (F.MOD_STREAM_EST p) = s.fld (F.MOD_STREAM_EST_SET p) ∧
        (t.stream p).t0 = s.time ∧ (t.stream p).next = 0 ∧ (t.stream p).base = s.streamCounter p ∧ t.mem = s.mem) ∧
      (¬ ok → ∃ t, exec (.streamEnable m p) s = Next t ∧ t.flag (F.MOD_STREAM_CTRL_ENABLE p) = false ∧ t.jobs = s.jobs ∧
        t.flag (blkMod.err 24) = true ∧ t.mem = s.mem)) ∧
    (s.flag (F.MOD_STREAM_CTRL_ENABLE p) = true → s.flag (F.MOD_PART_CFG_ENABLE p) = true →
      let k := (s.stream p).next
      let tk := s.frameStart p k
      let busy := s.flag (F.MOD_STREAM_STS_FRAME_ACTIVE p)
      (s.time < tk → ∃ t, exec (.streamTick p) s = Next t ∧ t.stream p = s.stream p ∧ t.regs = s.regs ∧ t.mem = s.mem) ∧
      (tk ≤ s.time → s.time ≤ s.latest p k → busy = false → s.inputHere p k = true →
        ∃ t, exec (.streamTick p) s = Next t ∧ t.fld (F.MOD_STREAM_FRAME p) = k % 2 ^ 32 ∧
          t.flag (F.MOD_STREAM_STS_FRAME_ACTIVE p) = true ∧ (t.stream p).next = k + 1 ∧ t.mem = s.mem ∧
          ∀ c rest, maskTiles (s.fld (F.MOD_PART_TILES_TILES p)) = c :: rest → (t.core c).irqLatch.testBit irqDoorbell = true) ∧
      (s.latest p k < s.time →
        let cnt := if busy then F.MOD_STREAM_CNT_OVERRUN p else F.MOD_STREAM_CNT_NO_INPUT p
        ∃ t, exec (.streamTick p) s = Next t ∧ t.fld cnt = satAdd32 (s.fld cnt) 1 ∧ (t.stream p).next = k + 1 ∧
          t.flag (F.MOD_STREAM_STS_FRAME_ACTIVE p) = busy ∧ t.mem = s.mem ∧
          t.jobs.missLog.head? = some ⟨k % 2 ^ 32, if busy then 2 else 1, p, 0xFFFFFFFF, tk % 2 ^ 32, true⟩)) ∧
    (∀ v,
      let due := s.frameStart p (s.stream p).frame + s.fld (F.MOD_STREAM_DEADLINE p)
      let cnt := if due < s.time then F.MOD_STREAM_CNT_LATE p else F.MOD_STREAM_CNT_DONE p
      let here := s.flag (F.MOD_STREAM_STS_FRAME_ACTIVE p) = true ∧ v = s.fld (F.MOD_STREAM_FRAME p)
      (s.coreOfPart m p = true → here → ∃ t, exec (.streamFrameDone m p v) s = Next t ∧
        t.flag (F.MOD_STREAM_STS_FRAME_ACTIVE p) = false ∧ t.fld cnt = satAdd32 (s.fld cnt) 1 ∧ t.mem = s.mem) ∧
      (s.coreOfPart m p = true → ¬ here → ∃ t, exec (.streamFrameDone m p v) s = Next t ∧ t.jobs = s.jobs ∧
        t.flag (blkMod.err 25) = true ∧ t.mem = s.mem) ∧
      (s.coreOfPart m p = false → ∃ t, exec (.streamFrameDone m p v) s = Next t ∧ t.jobs = s.jobs ∧
        t.flag (blkMod.err 4) = true ∧ t.mem = s.mem)) ∧
    (∀ v : Word,
      (s.coreOfPart m p = true ∨ m.cls = .librarian → ∃ t, exec (.partStepWrite m p v) s = Next t ∧
        t.fld (F.MOD_PART_STEP_HI p) = v.toNat ∧ t.mem = s.mem ∧
        t.fld (F.MOD_PART_STEP_LO p) = Tab.getD s.jobs.stepLo p (s.fld (F.MOD_PART_STEP_LO p)) % 2 ^ 32) ∧
      (s.coreOfPart m p = false → m.cls ≠ .librarian → ∃ t, exec (.partStepWrite m p v) s = Next t ∧
        t.reg (F.MOD_PART_STEP_HI p).off = s.reg (F.MOD_PART_STEP_HI p).off ∧ t.flag (blkMod.err 4) = true ∧ t.mem = s.mem))

/-- Enabling a slot whose list names this module enters FORMING and sends JOIN to the coordinator; disabling it returns it to IDLE.
The coordinator records each JOIN, sends FORMED to every member once all have joined alike, and breaks the slot on one that
disagrees. FORMED makes a forming slot ACTIVE; without it in time the slot breaks with JOIN_TIMEOUT. FOLLOW_SLOWEST takes the value
written. A notice adds its module to the straggler table of an ACTIVE slot; an entry without refresh leaves it. A throttled member
records the cause of its notice and counts SEQ, again at each repeat; a release sends REASON 0. -/
def Obligations.JobSlots : Prop :=
  ∀ (s : State) (j : Nat), j < 16 →
    let own := s.ownModule
    let ms := (s.slot j).members
    let job := s.fld (F.MOD_JOB_ID_JOB_ID j)
    (∀ m, s.isSecure m = true →
      (s.flag (F.MOD_JOB_CFG_ENABLE j) = false → own ∈ ms → ms.headD 0 < 2 ^ 20 → ∃ t, exec (.jobSlotEnable m j) s = Next t ∧
        t.flag (F.MOD_JOB_CFG_ENABLE j) = true ∧ t.flag (F.MOD_JOB_CFG_ACTIVE j) = true ∧
        t.fld (F.MOD_JOB_STS_STATE j) = slotForming ∧ t.fld (F.MOD_JOB_COORD j) = ms.headD 0 ∧
        t.out = .mgmt (ms.headD 0) mgJoin [own, job, ms.length, memberDigest ms] :: s.out ∧ t.mem = s.mem) ∧
      (own ∉ ms → exec (.jobSlotEnable m j) s = Next s) ∧
      (s.flag (F.MOD_JOB_CFG_ENABLE j) = true → s.ckPhase j = 0 → ∃ t, exec (.jobSlotDisable m j) s = Next t ∧
        t.flag (F.MOD_JOB_CFG_ENABLE j) = false ∧ t.fld (F.MOD_JOB_STS_STATE j) = slotIdle ∧ (t.slot j).strag = [] ∧
        (t.slot j).members = ms ∧ t.mem = s.mem) ∧
      (∀ on, ∃ t, exec (.followSlowestWrite m j on) s = Next t ∧ t.flag (F.MOD_JOB_CFG_FOLLOW_SLOWEST j) = on ∧
        t.jobs = s.jobs ∧ t.mem = s.mem)) ∧
    (∀ src jb count digest,
      let js := s.jobs.joins.filter (fun r => !(r.job = jb && r.src = src)) ++ [⟨jb, src, count, digest⟩]
      let mine := js.filter (fun r => r.job = jb)
      (s.slotOfJob jb = none → ∃ t, exec (.joinReceive src jb count digest) s = Next t ∧ t.jobs.joins = js ∧ t.regs = s.regs ∧
        t.out = s.out ∧ t.mem = s.mem) ∧
      (s.slotOfJob jb = some j → s.fld (F.MOD_JOB_COORD j) = own → s.fld (F.MOD_JOB_STS_STATE j) = slotForming →
        ((∃ r ∈ mine, r.count ≠ ms.length ∨ r.digest ≠ memberDigest ms) → ∃ t, exec (.joinReceive src jb count digest) s = Next t ∧
          t.fld (F.MOD_JOB_STS_STATE j) = slotBroken ∧ t.fld (F.MOD_JOB_STS_REASON j) = 1 ∧ (t.slot j).strag = [] ∧
          t.flag (blkMod.err 26) = true ∧ t.mem = s.mem) ∧
        ((∀ r ∈ mine, r.count = ms.length ∧ r.digest = memberDigest ms) →
          ∃ t, exec (.joinReceive src jb count digest) s = Next t ∧ t.jobs.joins = js ∧ t.regs = s.regs ∧ t.mem = s.mem ∧
            ((∀ k ∈ ms, ∃ r ∈ mine, r.src = k) →
              t.out = (ms.map (fun k => Out.mgmt k mgFormed [own, jb])).reverse ++ s.out) ∧
            ((∃ k ∈ ms, ∀ r ∈ mine, r.src ≠ k) → t.out = s.out)))) ∧
    (∀ src jb, s.slotOfJob jb = some j → s.fld (F.MOD_JOB_STS_STATE j) = slotForming → s.fld (F.MOD_JOB_COORD j) = src →
      ∃ t, exec (.formedReceive src jb) s = Next t ∧ t.fld (F.MOD_JOB_STS_STATE j) = slotActive ∧ t.mem = s.mem ∧
        t.jobs = s.jobs ∧ ∀ o, o ≠ (F.MOD_JOB_STS_STATE j).off → t.reg o = s.reg o) ∧
    (s.fld (F.MOD_JOB_STS_STATE j) = slotForming → ∃ t, exec (.joinTimeout j) s = Next t ∧
      t.fld (F.MOD_JOB_STS_STATE j) = slotBroken ∧ t.fld (F.MOD_JOB_STS_REASON j) = 2 ∧ t.flag (blkMod.err 26) = true ∧
      t.mem = s.mem) ∧
    (∀ n (p : Packet),
      let w := leAt p.payload 4 4
      let e : StragEnt := ⟨bits w 19 0, bits w 23 20, bits w 27 24, leAt p.payload 8 4, s.time⟩
      p.opcode = opPace → s.treeLinks (p.msgId % 4096) = [] → s.slotOfJob (leAt p.payload 0 4) = some j →
      s.fld (F.MOD_JOB_STS_STATE j) = slotActive → (∀ x ∈ (s.slot j).strag, x.module ≠ e.module) →
      (s.slot j).strag.length < 64 → ∃ t, exec (.paceNoticeReceive n p) s = Next t ∧
        (t.slot j).strag = (if e.reason = 0 then (s.slot j).strag else (s.slot j).strag ++ [e]) ∧ t.out = s.out ∧
        t.mem = s.mem) ∧
    (∀ k, ∃ t, exec (.stragglerExpiry j k) s = Next t ∧ (t.slot j).strag = (s.slot j).strag.filter (fun e => e.module ≠ k) ∧
      t.out = s.out ∧ t.mem = s.mem) ∧
    (s.fld (F.MOD_JOB_STS_STATE j) = slotActive →
      (∀ op r, s.coreUp 7 = true → s.throttleNow j = some (op, r) →
        (∃ t, exec (.throttleDetect j) s = Next t ∧ (t.slot j).throttle = some r ∧ (t.slot j).members = ms ∧
          (t.slot j).seq = ((s.slot j).seq + 1) % 2 ^ 32 ∧ t.mem = s.mem) ∧
        ((s.slot j).throttle.isSome = true → exec (.paceNoticeRepeat j) s = exec (.throttleDetect j) s)) ∧
      ((s.slot j).throttle.isSome = true → ∃ t, exec (.throttleRelease j) s = Next t ∧ (t.slot j).throttle = none ∧
        (t.slot j).seq = ((s.slot j).seq + 1) % 2 ^ 32 ∧ t.mem = s.mem))

/-- CK_QUIESCE sets HOLD, the target and the attempt; a member beyond N answers CK_TOO_LATE, a MOVING one CK_FAILED. With the step
equal to N, tiles idle and no message outstanding it sends CK_QUIESCED. CK_WRITE writes the shards of the map in order, skipping OMIT
entries; an invalid map or a slot too small ends the member's part before any shard. The last shard write sends CK_WRITTEN, or
CK_FAILED. CK_RESUME clears HOLD and wakes the held cores; CK_ABORT ends the part with its reason; CK_COMMITTED records the
generation. The codes of the messages are the model's own (log entry 63). -/
def Obligations.CheckpointAtMember : Prop :=
  ∀ (s : State) (j job gen : Nat), s.slotOfJob job = some j → gen < 2 ^ 32 →
    let ph := s.ckPhase j
    let co := s.coordOf j
    let own := s.ownModule
    let at_ := s.fld (F.MOD_CKPT_ATTEMPT j)
    (∀ step idx retain, s.ckOn j = true → ph = 0 → step < 2 ^ 64 → ∃ t,
      exec (.ckQuiesce job gen step idx retain none) s = Next t ∧ t.fld (F.MOD_CKPT_ATTEMPT j) = gen ∧ t.ckTarget j = step ∧
      t.mem = s.mem ∧ t.cores = s.cores ∧
      (if s.flag F.MOD_STS_MOVING = true then
        t.out = .mgmt co mgFailed [gen, own, ckBusyMoving] :: s.out ∧ t.ckPhase j = 0
      else if step < s.memberStep j then
        t.out = .mgmt co mgTooLate [gen, own, s.memberStep j] :: s.out ∧ t.ckPhase j = 0
      else t.out = s.out ∧ t.ckPhase j = 1 ∧ t.flag (F.MOD_CKPT_STS_HOLD j) = true)) ∧
    (s.isQuiesced j = true → ∃ t, exec (.memberQuiesced j) s = Next t ∧ t.ckPhase j = 2 ∧
      t.fld F.MOD_STS_STATE = (if s.fld F.MOD_STS_STATE = 6 then 7 else s.fld F.MOD_STS_STATE) ∧
      t.out = .mgmt co mgQuiesced [at_, own, s.memberStep j] :: s.out ∧ t.mem = s.mem) ∧
    (∀ u es, ph = 2 → at_ = gen → (s.setFld (F.MOD_CKPT_STS_PHASE j) 3).mapEntries j = (u, some es) →
      let kept := es.filter (fun e => !(mapPiece e).omitted)
      let blocks := kept.foldl (fun a e => a + shardBlocks (mapPiece e).length) (s.fld (F.MOD_CKPT_MANIFEST j))
      let size := (u.ckSlot (s.fld (F.MOD_CKPT_NS_NSID j)) (s.ck j).idx (s.ck j).retain).2
      ∃ t, exec (.ckWrite job gen none) s = Next t ∧ t.ckPhase j = 3 ∧ t.mem = s.mem ∧
        ((∃ e ∈ es, u.entryOk j e = false) → t.out = .mgmt co mgFailed [gen, own, ckMapInvalid] :: u.out ∧ t.ckpt = s.ckpt) ∧
        ((∀ e ∈ es, u.entryOk j e = true) →
          (size < blocks → t.out = .mgmt co mgFailed [gen, own, ckNoSpace] :: u.out ∧ t.ckpt = s.ckpt) ∧
          (blocks ≤ size → (∀ e ∈ kept, 0 < (mapPiece e).length → Reachable u Master.firmware (mapPiece e).addr (mapPiece e).length) →
            ∃ l, (t.ck j).shards = (s.ck j).shards ++ l ∧ l.length = kept.length ∧ ∀ e ∈ l, leAt e 0 4 = own))) ∧
    (ph = 3 → (s.ck j).ops = 0 →
      ((s.ck j).failed = 0 → ∃ t, exec (.shardWritesDone j) s = Next t ∧ t.ckPhase j = 4 ∧ t.mem = s.mem ∧ t.ckpt = s.ckpt ∧
        t.out = .mgmt co mgWritten ([at_, own] ++ (s.ck j).shards.flatten.map BitVec.toNat) :: s.out) ∧
      ((s.ck j).failed ≠ 0 → ∃ t, exec (.shardWritesDone j) s = Next t ∧ t.regs = s.regs ∧ t.mem = s.mem ∧
        t.out = .mgmt co mgFailed [at_, own, (s.ck j).failed] :: s.out)) ∧
    (1 ≤ ph → ph ≤ 4 → at_ = gen →
      (∃ t, exec (.ckResume job gen none) s = Next t ∧ t.ckPhase j = 0 ∧ t.flag (F.MOD_CKPT_STS_HOLD j) = false ∧
        t.out = s.out ∧ t.mem = s.mem ∧ (s.flag (F.MOD_CKPT_STS_HOLD j) = true → ∀ k p, k < 16 → p ∈ s.trainParts j →
          s.partHasTile p k = true → (t.core k).irqLatch.testBit irqDoorbell = true)) ∧
      (∀ reason, reason < 256 → ∃ t, exec (.ckAbort job gen reason none) s = Next t ∧ t.ckPhase j = 0 ∧
        t.flag (F.MOD_CKPT_STS_HOLD j) = false ∧ t.fld (F.MOD_CKPT_STS_LAST_RESULT j) = 2 ∧
        t.fld (F.MOD_CKPT_STS_REASON j) = reason ∧ t.flag (blkMod.err 27) = true ∧ t.mem = s.mem)) ∧
    (∃ t, exec (.ckCommitted job gen none) s = Next t ∧ t.fld (F.MOD_CKPT_GEN j) = gen ∧
      t.fld (F.MOD_CKPT_STS_LAST_RESULT j) = 1 ∧ t.ckPhase j = ph ∧ t.out = s.out ∧ t.mem = s.mem ∧ t.ckpt = s.ckpt)

/-- Only an ACTIVE coordinator with checkpointing enabled starts rounds; a step or timer trigger during a round counts as SKIPPED. A
round takes the next generation and sends CK_QUIESCE with the slot of R372. CK_WRITE follows once every member has quiesced. A late
member aborts the round and a new one starts above the highest step, three times at most; a failed member or a timeout aborts it.
Once every member has written, CK_RESUME goes out and the manifest to the medium, unless it does not fit. Its last block commits the
generation; then the copy goes to the second member and CK_COMMITTED follows, whatever became of the copy. -/
def Obligations.CheckpointAtCoordinator : Prop :=
  ∀ (s : State) (j : Nat), j < 16 →
    let r := (s.ck j).round
    let job := s.jobId j
    let own := s.ownModule
    let ms := (s.slot j).members
    let top := s.memberStep j + s.fld (F.MOD_CKPT_CFG_LEAD j)
    let retain := s.fld (F.MOD_CKPT_CFG_RETAIN j)
    let high := ((s.ck j).high + 1) % 2 ^ 32
    let began := fun (t : State) (target repeats : Nat) (out : List Out) =>
      (t.ck j).high = high ∧ t.flag (F.MOD_CKPT_CFG_TRIGGER j) = false ∧ t.mem = s.mem ∧ (t.ck j).gens = (s.ck j).gens ∧
        (t.ck j).round = { CkRound.init with active := true, gen := high, target := target, idx := s.ckPick j retain, repeats := repeats } ∧
        t.out = s.toTree j mgQuiesce [job, high, target, s.ckPick j retain, retain] ++ out
    let aborted := fun (t : State) (reason member : Nat) =>
      (t.ck j).round.active = false ∧ (t.ck j).ended = s.time ∧ (t.ck j).gens = (s.ck j).gens ∧ t.mem = s.mem ∧
        (t.ck j).log.head? = some ⟨r.gen, r.target, 2, reason, member, s.modTime⟩ ∧
        t.out = s.toTree j mgAbort [job, r.gen, reason] ++ s.out
    (s.roundAllowed j = false → exec (.ckptStepTrigger j) s = Next s ∧ exec (.ckptTimerTrigger j) s = Next s ∧
      ∀ m, s.isSecure m = true → exec (.ckptManualTrigger m j) s = Next s) ∧
    (s.roundAllowed j = true → r.active = false →
      (s.fld (F.MOD_CKPT_INTERVAL j) ≠ 0 → top ≠ 0 → top % s.fld (F.MOD_CKPT_INTERVAL j) = 0 →
        ∃ t, exec (.ckptStepTrigger j) s = Next t ∧ began t top 0 s.out) ∧
      (s.fld (F.MOD_CKPT_TIMER j) ≠ 0 → ∃ t, exec (.ckptTimerTrigger j) s = Next t ∧ began t top 0 s.out) ∧
      (∀ m, s.isSecure m = true → ∃ t, exec (.ckptManualTrigger m j) s = Next t ∧ began t top 0 s.out)) ∧
    (s.roundAllowed j = true → r.active = true → s.fld (F.MOD_CKPT_TIMER j) ≠ 0 → ∃ t, exec (.ckptTimerTrigger j) s = Next t ∧
      t.ck j = { s.ck j with skipped := (s.ck j).skipped + 1 } ∧ t.out = s.out ∧ t.regs = s.regs ∧ t.mem = s.mem) ∧
    (∀ src, s.roundOf job r.gen = some j →
      let q := if src ∈ r.quiesced then r.quiesced else r.quiesced ++ [src]
      (∀ step, step ≠ r.target → exec (.ckQuiesced src job r.gen step) s = Next s) ∧
      (r.stage = 0 → ∃ t, exec (.ckQuiesced src job r.gen r.target) s = Next t ∧ t.mem = s.mem ∧
        ((∃ k ∈ ms, k ∉ q) → (t.ck j).round = { r with quiesced := q } ∧ t.out = s.out) ∧
        ((∀ k ∈ ms, k ∈ q) → (t.ck j).round = { r with quiesced := q, stage := 1 } ∧
          ∃ l, t.out = s.toTree j mgWrite [job, r.gen] ++ l ++ s.out)) ∧
      (∀ step,
        let most := (r.late ++ [(src, step)]).foldl (fun a p => max a p.2) 0
        (r.repeats < 3 → s.roundAllowed j = true → ∃ t, exec (.ckTooLate src job r.gen step) s = Next t ∧
          began t (most + s.fld (F.MOD_CKPT_CFG_LEAD j)) (r.repeats + 1) (s.toTree j mgAbort [job, r.gen, ckTooLateReason] ++ s.out)) ∧
        (3 ≤ r.repeats → ∃ t, exec (.ckTooLate src job r.gen step) s = Next t ∧ aborted t ckTooLateReason src ∧
          (t.ck j).skipped = (s.ck j).skipped + 1)) ∧
      (∀ reason, ∃ t, exec (.ckFailed src job r.gen reason) s = Next t ∧ aborted t ckMemberFailed src ∧ t.regs = s.regs) ∧
      (∀ es, r.stage = 1 →
        let s' := s.modRound j (fun r => { r with entries := Tab.set r.entries src es })
        let r' := (s'.ck j).round
        ((∃ k ∈ ms, ∀ e ∈ r'.entries, e.1 ≠ k) → exec (.ckWritten src job r.gen es) s = Next s') ∧
        ((∀ k ∈ ms, ∃ e ∈ r'.entries, e.1 = k) →
          (s.fld (F.MOD_CKPT_MANIFEST j) * 4096 < (s'.manifestOf j).length →
            ∃ t, exec (.ckWritten src job r.gen es) s = Next t ∧ aborted t ckManifestFull own) ∧
          ((s'.manifestOf j).length ≤ s.fld (F.MOD_CKPT_MANIFEST j) * 4096 →
            ∃ t, exec (.ckWritten src job r.gen es) s = Next t ∧ (t.ck j).round.stage = 2 ∧ t.mem = s.mem ∧
              (t.ck j).round.manifest = s'.manifestOf j ∧
              ∃ l, t.out = l ++ s.toTree j mgResume [job, r.gen] ++ s.out)))) ∧
    (r.active = true →
      (r.stage = 0 → ∃ t k, exec (.quiesceTimeout j) s = Next t ∧ aborted t ckQuiesceTimeout k) ∧
      (r.stage = 1 → ∃ t k, exec (.writeTimeout j) s = Next t ∧ aborted t ckWriteTimeout k) ∧
      (r.stage = 2 → r.ops = 0 →
        (r.bad = true → ∃ t, exec (.manifestCommit j) s = Next t ∧ aborted t ckWriteError own) ∧
        (r.bad = false → ∃ t, exec (.manifestCommit j) s = Next t ∧ t.mem = s.mem ∧ t.regs = s.regs ∧
          (t.ck j).gens = ⟨r.gen, r.target, r.idx⟩ :: (s.ck j).gens.filter (fun g => decide (g.idx ≠ r.idx)) ∧
          (∀ k, ms[1]? = some k → (t.ck j).round.stage = 3 ∧
            t.out = .mgmt k mgReplica ([job, r.gen, r.idx] ++ r.manifest.map BitVec.toNat) :: s.out) ∧
          (ms[1]? = none → (t.ck j).round.active = false ∧ t.out = s.toTree j mgCommitted [job, r.gen] ++ s.out))) ∧
      (r.stage = 3 → ∀ ok, ∃ t, exec (.replicaWriteDone j ok) s = Next t ∧ (t.ck j).round.active = false ∧
        (t.ck j).gens = (s.ck j).gens ∧ t.out = s.toTree j mgCommitted [job, r.gen] ++ s.out ∧ t.mem = s.mem))

/-- RS_BEGIN fails with NO_MANIFEST at a member that does not hold the candidate; a member that needs no part is done at once. A
holder serves the parts of a shard that passes every check, and READ_ERROR for a namespace that it does not hold. A part that holds
a whole byte-wide one-dimensional piece is stored at the entry's address, and the last part sends RS_DONE; a failure goes to the
coordinator. With all members done, RS_RESUME goes out; it sets the step of every TRAIN partition, clears HOLD, and records
SUCCESS. A failure or a timeout moves the group to the next candidate; without one the restore fails with NO_GENERATION. -/
def Obligations.RestoreOfAGeneration : Prop :=
  ∀ (s : State) (job j : Nat) (r : Restore), s.restoreOf job = some (j, r) →
    let co := s.coordOf j
    let own := s.ownModule
    let tells := fun (t : State) (code : Nat) (args : List Nat) => t.out = .mgmt co code ([job] ++ args) :: s.out
    let moved := fun (t : State) => t.mem = s.mem ∧ match r.cands with
      | [] => t.out = s.toTree j mgRsFailed [job, 0, rsNoGeneration] ++ s.out ∧ (t.ck j).restore = some r
      | c :: rest => t.out = s.toTree j mgRsBegin [job, c.gen, ofLeNats (sha384 (natsOf c.bytes))] ++ s.out ∧
          (t.ck j).restore = some { r with cur := some c, cands := rest, done := [] }
    (∀ gen digest marks,
      let held := fun c : RsCand => c.gen = gen ∧ ofLeNats (sha384 (natsOf c.bytes)) = digest
      ((∀ c ∈ r.cands ++ r.cur.toList, ¬ held c) → ∃ t, exec (.rsBegin job gen digest marks none) s = Next t ∧
        tells t mgRsFailed [gen, own, rsNoManifest] ∧ t.ckpt = s.ckpt ∧ t.mem = s.mem) ∧
      ((∃ c ∈ r.cands ++ r.cur.toList, held c) → s.fld (F.MOD_CKPT_MAP_CNT j) = 0 →
        ∃ t, exec (.rsBegin job gen digest marks none) s = Next t ∧ tells t mgRsDone [gen, own] ∧ t.mem = s.mem ∧
          ∃ q, (t.ck j).restore = some q ∧ q.parts = [] ∧ ∃ c, q.cur = some c ∧ held c)) ∧
    (∀ src jb gen step nsid lba length digest parts blocks,
      (s.ns? nsid = none → ∃ t, exec (.shardPartRequest src jb gen step nsid lba length digest parts blocks) s = Next t ∧
        t.out = .mgmt src mgPart [jb, gen, own, lba, 0, rsReadError] :: s.out ∧ t.mem = s.mem) ∧
      (∀ x k ct, s.ns? nsid = some x → s.nsServes x = true → s.nsKeyPair nsid x = some k → blocks = some ct →
        let plain := (chunksOf 4096 ct).zipIdx.flatMap (fun b => plainBlock k (lba + b.2) b.1)
        let mark := plain.take 256
        let payload := (plain.drop 4096).take length
        ofLeNats (sha384 (natsOf mark)) = digest → mark.take 8 = markMagic → leAt mark 16 4 = jb → leAt mark 20 4 = gen →
        leAt mark 24 8 = step → bytesOf (sha384 (natsOf payload)) = (mark.drop 144).take 48 → s.slotOfJob jb = none →
        ∃ t l, exec (.shardPartRequest src jb gen step nsid lba length digest parts blocks) s = Next t ∧ t.mem = s.mem ∧
          t.out = (parts.map (fun p => Out.mgmt src mgPart ([jb, gen, own, lba, p.1, 0] ++
            ((payload.drop p.1).take p.2).map BitVec.toNat))).reverse ++ l)) ∧
    (∀ src gen lba off reason data, r.job = job → (∀ k, k < j → s.ckPhase k ≠ 5) → r.cur.map (·.gen) = some gen →
      (reason ≠ 0 → ∃ t, exec (.shardPartReceive src job gen lba off reason data) s = Next t ∧
        tells t mgRsFailed [gen, own, reason] ∧ t.mem = s.mem) ∧
      (∀ m e n o f, reason = 0 → off = 0 → data.length = n → 0 < n → (src, lba, 0, n) ∈ r.parts → r.marks = [m] → m.1 = src →
        m.2.1 = lba → s.mapEntries j = (s, some [e]) → Memory.wf s.mem = true →
        let p := markPiece m.2.2
        let q := mapPiece e
        p.tensor = q.tensor → p.dtype = q.dtype → Fmt.ofCode q.dtype = some f → f.width = 8 → f.isMx = false → p.layout = 0 →
        q.layout = 0 → p.offset = [o] → q.offset = [o] → p.extent = [n] → q.extent = [n] →
        Reachable s Master.firmware q.addr n →
        ∃ t, exec (.shardPartReceive src job gen lba off reason data) s = Next t ∧ Stored s q.addr data t ∧
          (t.ck j).restore = some { r with parts := r.parts.erase (src, lba, 0, n) } ∧
          (r.parts = [(src, lba, 0, n)] → tells t mgRsDone [gen, own]))) ∧
    (∀ src c, r.cur = some c → co = own →
      let done := if src ∈ r.done then r.done else r.done ++ [src]
      ∃ t, exec (.rsDone src job c.gen) s = Next t ∧ (t.ck j).restore = some { r with done := done } ∧ t.regs = s.regs ∧
        t.mem = s.mem ∧ ((∃ k ∈ (s.slot j).members, k ∉ done) → t.out = s.out) ∧
        ((∀ k ∈ (s.slot j).members, k ∈ done) → t.out = s.toTree j mgRsResume [job, c.gen, c.step] ++ s.out)) ∧
    (∀ src gen, ∃ t, exec (.rsFailed src job gen rsNoGeneration none) s = Next t ∧ t.ckPhase j = 0 ∧
      (t.ck j).restore = none ∧ t.fld (F.MOD_CKPT_STS_LAST_RESULT j) = 4 ∧ t.fld (F.MOD_CKPT_STS_REASON j) = rsNoGeneration ∧
      t.flag (blkMod.err 28) = true ∧ t.mem = s.mem) ∧
    (∀ src c reason, r.cur = some c → co = own → reason ≠ rsNoGeneration →
      ∃ t, exec (.rsFailed src job c.gen reason none) s = Next t ∧ moved t) ∧
    (∀ gen step, gen < 2 ^ 32 → step < 2 ^ 64 → ∃ t, exec (.rsResume job gen step none) s = Next t ∧
      (∀ p ∈ s.trainParts j, t.partStep p = step) ∧ t.flag (F.MOD_CKPT_STS_HOLD j) = false ∧ t.ckPhase j = 0 ∧
      (t.ck j).restore = none ∧ t.fld (F.MOD_CKPT_GEN j) = gen ∧ t.fld (F.MOD_CKPT_STS_LAST_RESULT j) = 3 ∧ t.mem = s.mem) ∧
    (∀ c, r.cur = some c → r.parts ≠ [] → ∃ t, exec (.holderTimeout j) s = Next t ∧ tells t mgRsFailed [c.gen, own, rsHolder] ∧
      t.mem = s.mem) ∧
    (co = own → ∃ t, exec (.restoreTimeout j) s = Next t ∧ moved t)

/-- A sample advances time by 1 µs, shows VIN and enters the window; a window of 1 ms gives P_1ms and P_1s, and stretches beyond 256
lower the die's droop limit. A controller tick without a cap whose prediction fits raises each budget term by one, and each tile runs
at the least of its terms. A cap of 0, or from the floor to 2,800 W, is taken; any other sets CAP_REFUSED. The duty of paced arrays
rises until the squall ends. A fall starts filler work on the idle arrays; HOLD ends in a decay, and the decay in no filler, or in a
squall. A stretch counts in DROOP_CNT; a droop limit expires; a margin below the guard lowers the ceiling by one. -/
def Obligations.PowerController : Prop :=
  ∀ (s : State),
    (∀ mv ma, mv < 65536 → ∃ t, exec (.inputSample mv ma) s = Next t ∧ t.time = s.time + 1 ∧ t.fld F.PWR_INPUT0_VIN = mv ∧
      t.power.acc = s.power.acc + mv * ma ∧ t.power.samples = s.power.samples + 1 ∧ t.mem = s.mem ∧ t.out = s.out ∧
      ∀ o, o ≠ F.PWR_INPUT0_VIN.off → o ≠ F.PWR_STS_BROWNOUT.off → t.reg o = s.reg o) ∧
    (∀ mw, s.power.samples ≠ 0 → s.power.acc / (1000 * s.power.samples) = mw → mw < 65536000 →
      ∃ t, exec .p1msWindow s = Next t ∧ t.power.wins = (mw :: s.power.wins).take 1000 ∧ t.power.acc = 0 ∧ t.power.samples = 0 ∧
        t.fld F.PWR_INPUT1_P1MS = mw / 1000 ∧ t.mem = s.mem ∧ t.time = s.time ∧
        ∀ d, d < 8 → s.power.droop.length = 8 → s.power.droop.getD d 15 = 15 → 256 < s.power.stretch.getD d 0 →
          t.power.droop.getD d 15 = min (s.fld (F.PWR_TILE_OP_RUN (2 * d))) (s.fld (F.PWR_TILE_OP_RUN (2 * d + 1))) - 1) ∧
    (∀ keep fixed draw calm, s.coreUp 7 = true →
      let start := (List.range 16).map s.otherTerms
      drawAt draw start ≤ 98 * keep / 100 - fixed → s.fld F.PWR_CAP_CAP_W = 0 → s.power.forced = false →
      s.fld F.PWR_STS_CAP_STAGE = 0 → ∃ t, exec (.budgetTick keep fixed draw calm) s = Next t ∧ t.mem = s.mem ∧ t.out = s.out ∧
        ∀ k, k < 16 → t.fld (F.PWR_TILE_OP_RUN k) = min (s.otherTerms k) (min 15 (s.budgetOp k + 1))) ∧
    (∀ m v, s.isSecure m = true →
      (v = 0 ∨ (s.fld F.PWR_FLOOR_FLOOR_W ≤ v ∧ v ≤ 2800) → ∃ t, exec (.capWrite m v) s = Next t ∧
        t.fld F.PWR_CAP_CAP_W = v ∧ t.mem = s.mem ∧ ∀ o, o ≠ F.PWR_CAP_CAP_W.off → t.reg o = s.reg o) ∧
      (v ≠ 0 → v < s.fld F.PWR_FLOOR_FLOOR_W ∨ 2800 < v → ∃ t, exec (.capWrite m v) s = Next t ∧
        t.fld F.PWR_CAP_CAP_W = s.fld F.PWR_CAP_CAP_W ∧ t.flag (blkPwr.err 16) = true ∧ t.mem = s.mem)) ∧
    (∀ duty, s.power.paced ≠ [] → ∃ t, exec (.squallDutyStep duty) s = Next t ∧ t.mem = s.mem ∧
      (if 256 ≤ max s.power.duty duty then t.flag F.PWR_STS_SQUALL = false ∧ t.power.paced = []
       else t.regs = s.regs ∧ t.power = { s.power with duty := max s.power.duty duty })) ∧
    (∀ k, (s.mayFill = false → exec (.lullFillStart k) s = Next s) ∧
      (s.mayFill = true → ∃ t, exec (.lullFillStart k) s = Next t ∧ t.fld F.PWR_FILL_CNT = satAdd32 (s.fld F.PWR_FILL_CNT) 1 ∧
        (∀ a, (t.fld F.PWR_STS_FILL_TILES).testBit a = true ↔ a ∈ s.fillTiles) ∧ t.mem = s.mem ∧
        t.power.lull = some ⟨s.lullKey k, s.time, s.lullHold (s.lullKey k), false⟩)) ∧
    (∀ l, s.power.lull = some l →
      (∃ t, exec .lullHoldExpiry s = Next t ∧ t.power = { s.power with lull := some { l with decays := true } } ∧ t.regs = s.regs ∧
        t.mem = s.mem) ∧
      (l.decays = true → ∀ k rise, ∃ t, exec (.lullFillEnd k rise) s = Next t ∧ t.fld F.PWR_STS_FILL_TILES = 0 ∧ t.mem = s.mem ∧
        (s.fld F.PWR_LIMITS_SLEW * 10 ^ 12 < s.fld F.PWR_INPUT0_VIN * rise ^ 2 →
          t.flag F.PWR_STS_SQUALL = true ∧ k ∈ t.power.paced))) ∧
    (∀ k, k < 16 →
      (∃ t, exec (.droopDetect k) s = Next t ∧ t.fld F.PWR_DROOP_CNT = satAdd32 (s.fld F.PWR_DROOP_CNT) 1 ∧
        (t.tile k).stretched = true ∧ t.mem = s.mem ∧ ∀ a, a ≠ k → t.tile a = s.tile a) ∧
      (∃ t, exec (.droopStretchEnd k) s = Next t ∧ t.tile k = { s.tile k with stretched := false } ∧ t.regs = s.regs ∧
        t.mem = s.mem ∧ ∀ a, a ≠ k → t.tile a = s.tile a) ∧
      (∃ t, exec (.droopLimitExpiry (k / 2)) s = Next t ∧ t.power = { s.power with droop := listSet s.power.droop (k / 2) 15 } ∧
        t.mem = s.mem ∧ t.fld (F.PWR_TILE_OP_RUN k) = min (t.otherTerms k) (t.budgetOp k)) ∧
      (exec (.ageingCheck k false) s = Next s) ∧
      (s.fld (F.PWR_TILE_OP_CEIL k) ≠ 0 → ∃ t, exec (.ageingCheck k true) s = Next t ∧
        t.fld (F.PWR_TILE_OP_CEIL k) = s.fld (F.PWR_TILE_OP_CEIL k) - 1 ∧ t.flag (blkPwr.err 19) = true ∧ t.mem = s.mem ∧
        Tab.find? t.dict (dictKey 0x2012 (k + 1)) = some (leBytes 1 (s.fld (F.PWR_TILE_OP_CEIL k) - 1))))

/-- R396 lowers OPs one by one, in the shed order of the roles, until the prediction fits. The result never raises a tile's OP, a tile
of no partition gives none, and when it is done either the predicted draw is within the room, or every tile that may be shed is at
OP 0. -/
def Obligations.BudgetFitsOrNothingIsLeft : Prop :=
  ∀ (s : State) (draw : List (List Nat)) (room : Nat) (ops : List Nat), ops.length = 16 → (∀ x ∈ ops, x ≤ 15) →
    let res := shed s.shedOrder draw room 256 ops
    res.length = 16 ∧ (∀ k, res.getD k 0 ≤ ops.getD k 0) ∧ (∀ k, s.partOf k = none → res.getD k 0 = ops.getD k 0) ∧
      (drawAt draw res ≤ room ∨ ∀ k, k < 16 → s.partOf k ≠ none → res.getD k 0 = 0)

/-- A warning limits every tile to OP 4, stops filler work and sets EMERGENCY; its end is counted. A power-fail or an overvoltage in
operation takes every link out of ACTIVE and runs until the flush is done or the reserve is reached; before SERVICE it leads to OFF
at once. A sensor at 110 °C begins a thermal emergency: every tile runs at OP 0. A junction still there 100 ms later leads to stage
3; a trip at 115 °C runs R408, or drops the rails for a circulation die. A tenth low estimate of the flow sets COOLANT_LOW. A leak sets
LEAK and EMERGENCY and applies LEAK_ACTION, and its end clears LEAK. -/
def Obligations.PowerAndThermalEvents : Prop :=
  ∀ (s : State),
    let st := s.fld F.MOD_STS_STATE
    let off := fun (t : State) => t.fld F.MOD_STS_STATE = 0 ∧ t.mem = [] ∧ t.cores = [] ∧ t.gma = State.reset.gma
    let fails := fun (t : State) => t.power.failing = true ∧ t.flag F.PWR_STS_EMERGENCY = true ∧
      (∀ n, n < 48 → t.linkSt n ≠ linkActive) ∧ t.carrelInit = false
    let em := decide (s.power.failing = true ∨ s.flag F.THM_STS_EMERGENCY = true ∨ s.flag F.THM_STS_LEAK = true)
    (s.power.failing = false →
      (s.fld F.PWR_STS_BROWNOUT = 0 → ∃ t, exec .brownoutWarning s = Next t ∧ t.fld F.PWR_STS_BROWNOUT = 1 ∧
        t.fld F.PWR_BROWNOUT_CNT = satAdd32 (s.fld F.PWR_BROWNOUT_CNT) 1 ∧ t.flag F.PWR_STS_EMERGENCY = true ∧
        t.fld F.PWR_STS_FILL_TILES = 0 ∧ t.flag (blkPwr.err 18) = true ∧ (∀ k, k < 16 → t.fld (F.PWR_TILE_OP_RUN k) ≤ 4) ∧
        t.mem = s.mem) ∧
      (s.fld F.PWR_STS_BROWNOUT ≠ 0 → exec .brownoutWarning s = Next s) ∧
      (5 ≤ st → (∃ t, exec .powerFail s = Next t ∧ fails t ∧ t.fld F.PWR_STS_BROWNOUT = 3) ∧
        (∃ t, exec .overvoltage s = Next t ∧ fails t ∧ t.fld F.PWR_STS_BROWNOUT = 3) ∧
        ∀ i, i < 48 → ∃ t, exec (.thermalTrip i) s = Next t ∧ fails t ∧ t.mgmt.needCycle = true ∧ t.power.trip = true) ∧
      (0 < st → st < 5 → (∃ t, exec .powerFail s = Next t ∧ off t) ∧ ∃ t, exec .overvoltage s = Next t ∧ off t)) ∧
    (s.fld F.PWR_STS_BROWNOUT = 1 ∨ s.fld F.PWR_STS_BROWNOUT = 2 → ∃ t, exec .brownoutRecovered s = Next t ∧
      t.fld F.PWR_STS_BROWNOUT = 0 ∧ t.fld F.PWR_RECOVERED_CNT = satAdd32 (s.fld F.PWR_RECOVERED_CNT) 1 ∧
      t.flag F.PWR_STS_EMERGENCY = em ∧ t.mem = s.mem) ∧
    (s.power.failing = true →
      (s.store.wb = [] → ∃ t, exec .powerFailFlushDone s = Next t ∧ off t) ∧
      (s.store.wb ≠ [] → exec .powerFailFlushDone s = Next s) ∧
      (∃ t, exec .holdupReserveReached s = Next t ∧ off t ∧
        t.power.incomplete = (s.power.incomplete || decide (s.store.wb ≠ [])))) ∧
    (∀ i, 48 ≤ i → i < 56 → 0 < st → ∃ t, exec (.thermalTrip i) s = Next t ∧ off t ∧ t.mgmt.needCycle = true ∧ t.power.trip = true) ∧
    (∀ (temps : List (Option Int)) hbm i (v : Int), temps.length = 64 → s.power.thermal.length = 8 → i < 56 →
      temps.getD i none = some v → 1760 ≤ v → v < 32768 → ∃ t, exec (.sensorRead temps hbm) s = Next t ∧
        t.flag F.THM_STS_EMERGENCY = true ∧ t.flag F.PWR_STS_EMERGENCY = true ∧ t.fld F.PWR_STS_FILL_TILES = 0 ∧
        (∀ k, k < 16 → t.fld (F.PWR_TILE_OP_RUN k) = 0) ∧ t.mem = s.mem ∧
        (s.flag F.THM_STS_EMERGENCY = false → t.flag (blkThm.err 17) = true)) ∧
    (∀ (temps : List (Option Int)) hbm, temps.length = 64 → s.flag F.THM_STS_EMERGENCY = false → s.power.sensorBad = [] →
      s.power.thermal.length = 8 →
      (∀ i, i < 64 → ∃ v : Int, temps.getD i none = some v ∧ -32768 ≤ v ∧ v < 1760 ∧ v < 16 * s.fld F.THM_CFG_THROTTLE_C) →
      (∀ c ∈ hbm, c < 95) → ∃ t, exec (.sensorRead temps hbm) s = Next t ∧ t.flag F.THM_STS_EMERGENCY = false ∧
        (∀ d, d < 8 → min (s.power.thermal.getD d 15) 15 ≤ t.power.thermal.getD d 15) ∧ t.out = s.out ∧ t.mem = s.mem) ∧
    ((∀ i, i < 56 → s.atLeast 110 i = false) → exec .emergencyRecheck s = Next s) ∧
    (∀ i, i < 56 → s.atLeast 110 i = true → s.flag F.THM_STS_EMERGENCY = true → ∃ t, exec .emergencyRecheck s = Next t ∧
      t.fld F.PWR_STS_CAP_STAGE = 3 ∧ t.power.forced = true ∧ t.flag (blkThm.err 17) = true ∧ t.mem = s.mem) ∧
    (∀ a b : Int, s.temp 56 = some a → s.temp 57 = some b → a < b → 500 ≤ s.fld F.PWR_INPUT1_P1S →
      let f := 60 * 100 * 16 * s.fld F.PWR_INPUT1_P1S / (s.dictVal 0x2003 3 4180 * (b - a).toNat)
      ∃ t, exec .coolantEstimate s = Next t ∧ t.fld F.THM_COOLANT_FLOW = min f 0xFFFF ∧ t.mem = s.mem ∧
        (450 ≤ f → t.flag F.THM_STS_COOLANT_LOW = false ∧ t.power.flowLow = 0) ∧
        (f < 450 → t.power.flowLow = s.power.flowLow + 1 ∧
          (s.power.flowLow = 9 → t.flag F.THM_STS_COOLANT_LOW = true ∧ t.flag (blkThm.err 19) = true))) ∧
    (2 ≤ st → s.mgmt.leakLow = false → ∃ t, exec .leakDetect s = Next t ∧
      (s.fld F.THM_CFG_LEAK_ACTION < 2 → t.flag F.THM_STS_LEAK = true ∧ t.flag (blkThm.err 18) = true ∧
        t.flag F.PWR_STS_EMERGENCY = true ∧ t.mem = s.mem) ∧
      (s.fld F.THM_CFG_LEAK_ACTION = 1 → t.fld F.PWR_STS_CAP_STAGE = 3 ∧ t.power.forced = true) ∧
      (s.fld F.THM_CFG_LEAK_ACTION = 2 → 5 ≤ st → s.power.failing = false → fails t)) ∧
    (s.mgmt.leakLow = true → exec .leakDetect s = Next s) ∧
    (s.flag F.THM_STS_LEAK = true → ∃ t, exec .leakClear s = Next t ∧ t.flag F.THM_STS_LEAK = false ∧ t.mgmt.leakLow = false ∧
      t.flag F.PWR_STS_EMERGENCY = decide (s.fld F.PWR_STS_BROWNOUT ≠ 0 ∨ s.power.failing = true ∨ s.flag F.THM_STS_EMERGENCY = true) ∧
      t.mem = s.mem)

/-- While the librarian core is down its requests wait. GET_VERSION starts a connection, then capabilities and algorithms; before them
every other request is unexpected. Digests, certificate portions, a signed challenge and signed measurement blocks answer with the
content of R452 and R453. KEY_EXCHANGE opens a session with an identifier that none has, up to 64; FINISH completes it or ends it;
HEARTBEAT, KEY_UPDATE and END_SESSION need a finished one. A response may be fetched, and a request sent, in chunks; an unsupported
request gets an error. The message codes are those of SPDM 1.2 (log entry 21: PRESUMED), nonces are free values. -/
def Obligations.SpdmSessions : Prop :=
  ∀ (s : State) (req : Nat),
    let answers := fun (c : Instr) (code : Nat) (bs : List Byte) => ∃ t, exec c s = Next t ∧ t.out = .spdm req code bs :: s.out ∧
      t.mem = s.mem ∧ t.regs = s.regs ∧ t.trust.sessions = s.trust.sessions
    let wrong := fun (c : Instr) (code : Nat) => answers c 0x7F (leBytes 1 code)
    let lead := bytesOf (sha384 (natsOf s.certs))
    (s.mgmt.libDown = true → ∀ a b k n l g q w bs i o, ∀ c ∈ ([.getVersion req, .getCapabilities req,
      .negotiateAlgorithms req a b k n l g, .getDigests req, .getCertificate req a b k, .challenge req a bs,
      .getMeasurements req a o bs, .keyExchange req a bs, .finish a i o, .heartbeat a, .keyUpdate a b, .endSession a,
      .chunkSend req q o bs, .chunkGet req q, .spdmUnsupported req w] : List Instr), exec c s = Next s) ∧
    (s.mgmt.libDown = false →
      (∃ t, exec (.getVersion req) s = Next t ∧ t.out = .spdm req 0x04 [0x00, 0x12] :: s.out ∧ t.conn req = 1 ∧ t.regs = s.regs) ∧
      (s.conn req = 0 → wrong (.getCapabilities req) spdmUnexpected) ∧
      (0 < s.conn req → ∃ t, exec (.getCapabilities req) s = Next t ∧ t.out = .spdm req 0x61 (leBytes 4 spdmCaps) :: s.out ∧
        t.conn req = 2 ∧ t.regs = s.regs) ∧
      (∀ a h m d e r, (s.conn req < 2 → wrong (.negotiateAlgorithms req a h m d e r) spdmUnexpected) ∧
        (2 ≤ s.conn req → ∃ t bs, exec (.negotiateAlgorithms req a h m d e r) s = Next t ∧ t.conn req = 3 ∧
          t.out = .spdm req 0x63 bs :: s.out ∧ leAt bs 0 4 = a &&& 0x80 ∧ leAt bs 4 4 = h &&& 2 ∧ t.regs = s.regs)) ∧
      (s.conn req < 3 → ∀ a b k bs o, ∀ c ∈ ([.getDigests req, .getCertificate req a b k, .challenge req a bs,
        .getMeasurements req a o bs, .keyExchange req a bs, .chunkSend req b o bs, .chunkGet req b] : List Instr),
        wrong c spdmUnexpected) ∧
      (∀ code, wrong (.spdmUnsupported req code) spdmUnsupportedErr) ∧
      (3 ≤ s.conn req →
        (answers (.getDigests req) 0x01 ([0x01] ++ lead)) ∧
        (∀ off len, off < s.certs.length ∨ off = 0 →
          let part := (s.certs.drop off).take len
          answers (.getCertificate req 0 off len) 0x02
            (leBytes 2 part.length ++ leBytes 2 (s.certs.length - off - part.length) ++ part)) ∧
        (∀ slot off len nonce, slot ≠ 0 → wrong (.getCertificate req slot off len) spdmInvalid ∧
          wrong (.challenge req slot nonce) spdmInvalid) ∧
        (∀ nonce, ∃ r : List Byte, r.length = 32 ∧
          answers (.challenge req 0 nonce) 0x03 (lead ++ r ++ Config.sign (natsOf (nonce ++ (lead ++ r))))) ∧
        (∀ i nonce, i ∈ measureIndices → ∃ r : List Byte, r.length = 32 ∧
          let body := leBytes 1 1 ++ leBytes 3 (s.measureBlock i).length ++ s.measureBlock i ++ r
          answers (.getMeasurements req i true nonce) 0x60 (body ++ Config.sign (natsOf (nonce ++ body)))) ∧
        (∀ reqId secret,
          (64 ≤ s.trust.sessions.length → wrong (.keyExchange req reqId secret) spdmSessionLimit) ∧
          (s.trust.sessions.length < 64 → ∃ t id bs, exec (.keyExchange req reqId secret) s = Next t ∧ s.session id = none ∧
            t.session id = some ⟨req, none, false, natsOf secret⟩ ∧ (∀ k, k ≠ id → t.session k = s.session k) ∧
            t.out = .spdm req 0x64 bs :: s.out ∧ t.regs = s.regs)) ∧
        (∀ bs, ∃ t, exec (.chunkSend req 0 true bs) s = Next t ∧ Tab.find? t.trust.chunks (2 * req) = some bs ∧
          t.out = .spdm req 0x05 (leBytes 2 0) :: s.out ∧ t.regs = s.regs) ∧
        (∀ seq, let whole := Tab.getD s.trust.chunks (2 * req + 1) []
          seq * 4096 < whole.length → answers (.chunkGet req seq) 0x06
            (leBytes 1 (ofBool (decide (whole.length ≤ (seq + 1) * 4096))) ++ leBytes 2 seq ++ (whole.drop (seq * 4096)).take 4096))) ∧
      (∀ id x, s.session id = some x → x.req = req →
        (x.finished = false →
          (∀ key, ∃ t, exec (.finish id key true) s = Next t ∧ t.session id = some { x with finished := true, key := key } ∧
            t.out = .spdm req 0x65 [] :: s.out ∧ t.regs = s.regs) ∧
          (∀ key, ∃ t, exec (.finish id key false) s = Next t ∧ t.trust.sessions = Tab.erase s.trust.sessions id ∧ t.regs = s.regs ∧
            t.out = .spdm req 0x7F (leBytes 1 spdmDecrypt) :: s.out) ∧
          wrong (.heartbeat id) spdmUnexpected) ∧
        (x.finished = true → answers (.heartbeat id) 0x68 [] ∧ (∀ op, 1 ≤ op → op ≤ 3 → answers (.keyUpdate id op) 0x69 (leBytes 1 op)) ∧
          ∃ t, exec (.endSession id) s = Next t ∧ t.trust.sessions = Tab.erase s.trust.sessions id ∧ t.out = .spdm req 0x6C [] :: s.out ∧ t.regs = s.regs)))

/-- BIND ties an OWNER to the key of a finished session; every other request is refused unless its OWNER is bound to that key.
KEY_IMPORT loads a well-wrapped key of its TYPE into a FREE page of the owner; a wrap that does not open leaves the page FREE.
KEY_DERIVE loads the child of a derivation key. KEY_RELEASE leads to ZEROISING, and the last job's end to FREE. KEY_QUERY changes
nothing. SEAL zeroes the partition's granules and carrels, marks them, and changes no other byte; UNSEAL zeroes them again and
removes the mark. The outcome codes are free values of the configuration. -/
def Obligations.TenantKeysAndSeals : Prop :=
  ∀ (s : State) (id : Nat) (x : Session) (k : List Byte), s.session id = some x → x.finished = true → x.key = some k →
    let told := fun (t : State) (outcome : Nat) => ∃ bs, t.out = .spdm x.req 0x7E (Config.vendorStatus outcome :: bs) :: s.out
    let loaded := fun (t : State) (i owner typ : Nat) (key : List Nat) => t.pageSt i = pageLoaded ∧ t.fld (F.KEY_PAGE_STS_OWNER i) = owner ∧
      t.fld (F.KEY_PAGE_STS_TYPE i) = typ ∧ (t.page i).key = key ∧ (t.page i).counter = 0 ∧ (∀ j, j ≠ i → t.page j = s.page j) ∧
      t.fld F.KEY_FREE = s.fld F.KEY_FREE - 1 ∧ t.mem = s.mem ∧
      ∀ o, o ≠ (F.KEY_PAGE_STS_STATE i).off → o ≠ F.KEY_FREE.off → t.reg o = s.reg o
    (∀ owner,
      (Tab.find? s.trust.binds owner = none → ∃ t, exec (.bind id owner) s = Next t ∧ t.boundTo owner k = true ∧ told t vsDone ∧
        t.regs = s.regs ∧ t.mem = s.mem) ∧
      (∀ k', Tab.find? s.trust.binds owner = some k' → k' ≠ k → ∃ t, exec (.bind id owner) s = Next t ∧ told t vsRefused ∧
        t.trust.binds = s.trust.binds ∧ t.regs = s.regs) ∧
      (s.boundTo owner k = false → ∀ page child typ use so bs, ∀ c ∈ ([.keyImport id owner page typ use so bs,
        .keyDerive id owner page child typ use bs, .keyQuery id owner] : List Instr), ∃ t, exec c s = Next t ∧ told t vsRefused ∧
        t.trust.pages = s.trust.pages ∧ t.regs = s.regs ∧ t.mem = s.mem) ∧
      (s.boundTo owner k = true → owner < 2 ^ 16 →
        (∃ t, exec (.keyQuery id owner) s = Next t ∧ told t vsDone ∧ t.trust.pages = s.trust.pages ∧ t.regs = s.regs) ∧
        (∀ page typ use so wrapped, page < 4096 →
          (kwUnwrap (tnImport x.secret id page owner) (natsOf wrapped) = none → ∃ t,
            exec (.keyImport id owner page typ use so wrapped) s = Next t ∧ told t vsWrapFail ∧ t.trust.pages = s.trust.pages ∧
            t.regs = s.regs) ∧
          (∀ key, kwUnwrap (tnImport x.secret id page owner) (natsOf wrapped) = some key → typeOk typ use = true →
            key.length = typeBytes typ → s.pageFreeFor owner page = true →
            (∀ p ∈ s.trust.pages, p.2.key = key → s.pageSt p.1 ≠ pageLoaded) →
            ∃ t, exec (.keyImport id owner page typ use so wrapped) s = Next t ∧ told t vsDone ∧ loaded t page owner typ key)) ∧
        (∀ page child typ use ctx, child < 4096 → s.pageSt page = pageLoaded → s.fld (F.KEY_PAGE_STS_TYPE page) = 3 →
          s.fld (F.KEY_PAGE_STS_OWNER page) = owner → s.pageUse page useKdf = true → typeOk typ use = true →
          s.pageFreeFor owner child = true → ∃ t, exec (.keyDerive id owner page child typ use ctx) s = Next t ∧ told t vsDone ∧
            loaded t child owner typ (tnChild (s.page page).key (natsOf ctx) (8 * typeBytes typ))))) ∧
    (∀ page, page < 4096 → s.boundTo (s.fld (F.KEY_PAGE_STS_OWNER page)) k = true → s.pageSt page = pageLoaded →
      ∃ t, exec (.keyRelease id page) s = Next t ∧ told t vsDone ∧ t.pageSt page = pageZeroising ∧ t.page page = s.page page ∧
        t.mem = s.mem) ∧
    (∀ page, page < 4096 → s.pageSt page = pageZeroising →
      (s.pageBusy page = true → exec (.keyZeroiseDone page) s = Next s) ∧
      (s.pageBusy page = false → ∃ t, exec (.keyZeroiseDone page) s = Next t ∧ t.pageSt page = pageFree ∧
        t.trust.pages = Tab.erase s.trust.pages page ∧ t.mem = s.mem)) ∧
    (∀ p, p < 16 → s.boundTo (s.sealOwner p) k = true → s.fld (F.MOD_PART_TILES_TILES p) ≠ 0 →
      let inside := fun a => (∃ g ∈ s.partGranules p, (granuleRange g).1 ≤ a ∧ a < (granuleRange g).1 + (granuleRange g).2) ∨
        ∃ t ∈ s.partTiles p, carrelAddr t 0 ≤ a ∧ a < carrelAddr t 0 + carrelSize
      (s.flag (F.MOD_PART_CFG_SEALED p) = false → ∃ t, exec (.seal id p) s = Next t ∧ told t vsDone ∧
        t.flag (F.MOD_PART_CFG_SEALED p) = true ∧ (∀ g ∈ s.partGranules p, Tab.find? t.trust.sealed g = some p) ∧
        (∀ a, inside a → t.readByte a = 0) ∧ ∀ a, ¬ inside a → t.readByte a = s.readByte a) ∧
      (s.flag (F.MOD_PART_CFG_SEALED p) = true → ∃ t bs l, exec (.unseal id p) s = Next t ∧
        t.out = .spdm x.req 0x7E (Config.vendorStatus vsDone :: bs) :: l ∧ t.flag (F.MOD_PART_CFG_SEALED p) = false ∧ (∀ g ∈ t.trust.sealed, g.2 ≠ p) ∧ ∀ a, inside a → t.readByte a = 0) ∧
      (s.flag (F.MOD_PART_CFG_SEALED p) = true → ∃ t, exec (.seal id p) s = Next t ∧ told t vsRefused ∧ t.regs = s.regs ∧
        t.mem = s.mem))

/-- A ring's owner sets PRODUCER within the ring's size; another master's write is a GUARD violation. The next job runs as its
descriptor says: encryption and decryption with AES-256-GCM or XTS, or SHA-384, with the output at DST and the tag or digest kept for
its completion; a job that a check refuses writes nothing. At completion the tag or digest is written, the destination of a failed
decryption is zeroed, and then the record. An engine that passes its self-test returns, else it is parked. IDE_KM over PF0's session
programs, starts and stops a stream; one that turns insecure is a security event. -/
def Obligations.CipherRingsAndIde : Prop :=
  ∀ (s : State),
    (∀ (r : Nat) (x : CipRing) (m : Master) (v : Nat), s.cipRing r = some x →
      (s.ownsOrFw m x.owner = true →
        ((v + 2 ^ 32 - x.consumer) % 2 ^ 32 ≤ 2 ^ x.log2 → ∃ t, exec (.cipherDoorbell m r v) s = Next t ∧
          t.cipRing r = some { x with producer := v % 2 ^ 32 } ∧ t.regs = s.regs ∧ t.mem = s.mem) ∧
        (2 ^ x.log2 < (v + 2 ^ 32 - x.consumer) % 2 ^ 32 → exec (.cipherDoorbell m r v) s = Next s)) ∧
      (s.ownsOrFw m x.owner = false → ∃ t, exec (.cipherDoorbell m r v) s = Next t ∧ t.trust = s.trust ∧
        t.flag (blkCip.err 4) = true ∧ t.mem = s.mem)) ∧
    (∀ (r op : Nat) (c : Instr) (x : CipRing), (op, c) ∈ ([(1, .gcmEnc r none), (2, .gcmDec r none), (3, .xtsEnc r none),
        (4, .xtsDec r none), (5, .sha384Job r none)] : List (Nat × Instr)) →
      s.cipRing r = some x → s.cipReady x = true →
      let a := x.base + 64 * (x.consumer % 2 ^ x.log2)
      let w := ofLe (s.readBytes a 64)
      let d := cipDesc w
      let page := if op = 5 then none else some d.page
      let fw := Master.firmware
      let ran := fun (t : State) (status : Nat) (tail : List Byte) => t.cipRing r = some { x with
        consumer := (x.consumer + 1) % 2 ^ 32, jobs := x.jobs ++ [⟨x.consumer, w, tail, page, status⟩] }
      Reachable s fw a 64 → d.op = op →
      (s.cipCheck x.owner d = cjOk → d.overlaps = false → Memory.wf s.mem = true → (0 < d.len → Reachable s fw d.src d.len) →
        (d.isGcm = true → 0 < d.aadLen → Reachable s fw d.aad d.aadLen) → (op = 2 → Reachable s fw (d.src + d.len) 16) →
        (op ≠ 5 → 0 < d.len → Reachable s fw d.dst d.len) →
        let res := cipAlgorithm d (if op = 5 then [] else (s.page d.page).key) (if d.isGcm = true then s.readBytes d.aad d.aadLen else [])
          (s.readBytes d.src d.len)
        (op = 2 → res.2 = s.readBytes (d.src + d.len) 16) →
        ∃ t, exec c s = Next t ∧ ran t cjOk (if op = 2 then [] else res.2) ∧ Stored s d.dst res.1 t ∧ t.regs = s.regs) ∧
      (s.cipCheck x.owner d = cjLength → ∃ t, exec c s = Next t ∧ ran t cjLength [] ∧ t.mem = s.mem ∧
        t.fld F.CIP_LENGTH_CNT = satAdd32 (s.fld F.CIP_LENGTH_CNT) 1) ∧
      (s.cipCheck x.owner d = cjBadDesc ∨ s.cipCheck x.owner d = cjState ∨ s.cipCheck x.owner d = cjAddr → ∃ t, exec c s = Next t ∧
        ran t (s.cipCheck x.owner d) [] ∧ t.mem = s.mem ∧ t.regs = s.regs) ∧
      (s.cipCheck x.owner d = cjRefused → ∃ t, exec c s = Next t ∧ ran t cjRefused [] ∧ t.mem = s.mem ∧
        t.fld F.CIP_KEY_REFUSED_CNT = satAdd32 (s.fld F.CIP_KEY_REFUSED_CNT) 1 ∧ t.flag (blkCip.err 20) = true)) ∧
    (∀ (r : Nat) (x : CipRing) (j : CipJob) (rest : List CipJob), s.cipRing r = some x → x.jobs = j :: rest →
      Memory.wf s.mem = true →
      let d := cipDesc j.desc
      let a := x.cpl + 8 * (x.written % 2 ^ x.log2)
      let to_ := if d.op = 5 then d.dst else d.dst + d.len
      let fw := Master.firmware
      let record := leBytes 4 j.status ++ leBytes 4 d.tag
      let ended := fun (t : State) => t.cipRing r = some { x with jobs := rest, written := x.written + 1 } ∧ t.regs = s.regs ∧
        t.out = s.out
      Reachable s fw a 8 → d.notify = false →
      (j.status = cjOk → j.tail = [] → ∃ t, exec (.cipherJobComplete r) s = Next t ∧ ended t ∧ Stored s a record t) ∧
      (j.status = cjOk → j.tail ≠ [] → Reachable s fw to_ j.tail.length → ∃ t u, exec (.cipherJobComplete r) s = Next t ∧ ended t ∧
        Stored s to_ j.tail u ∧ Stored u a record t) ∧
      (d.isDec = true → j.status = cjTag → 0 < d.len → Reachable s fw d.dst d.len → ∃ t u, exec (.cipherJobComplete r) s = Next t ∧
        ended t ∧ Stored s d.dst (List.replicate d.len 0) u ∧ Stored u a record t)) ∧
    (∀ e, e < 32 → (e ∉ s.trust.selfTest → ∀ ok, exec (.engineSelfTestDone e ok) s = Next s) ∧
      (e ∈ s.trust.selfTest →
        (∃ t, exec (.engineSelfTestDone e true) s = Next t ∧ t.trust = { s.trust with selfTest := s.trust.selfTest.erase e } ∧
          t.regs = s.regs) ∧
        (∃ t, exec (.engineSelfTestDone e false) s = Next t ∧ (t.fld F.CIP_ENGINE_STS_PARKED).testBit e = true ∧
          t.flag (blkCip.err 17) = true ∧ t.mem = s.mem))) ∧
    (∀ id x n k, s.session id = some x → x.finished = true →
      (x.req ≠ reqPf0Doe → ∀ op, ∃ t, exec (.ideKmRequest id op) s = Next t ∧ t.trust.ide = s.trust.ide ∧ t.regs = s.regs) ∧
      (x.req = reqPf0Doe →
        (∀ key fns, ∃ t, exec (.ideKmRequest id (.prog n k key fns)) s = Next t ∧
          Tab.find? (t.ideStream n).keys k = some key ∧ (t.ideStream n).secure = (s.ideStream n).secure) ∧
        ((Tab.find? (s.ideStream n).keys k).isSome = true → ∃ t, exec (.ideKmRequest id (.go n k)) s = Next t ∧
          (t.ideStream n).secure = true ∧ (t.ideStream n).keySet = k) ∧
        ((s.ideStream n).keySet = k → ∃ t, exec (.ideKmRequest id (.stop n k)) s = Next t ∧ (t.ideStream n).secure = false))) ∧
    (∀ n, ((s.ideStream n).secure = false → exec (.ideStreamInsecure n) s = Next s) ∧
      ((s.ideStream n).secure = true → ∃ t, exec (.ideStreamInsecure n) s = Next t ∧ (t.ideStream n).secure = false ∧
        t.trust.secLog.head? = some (s.modTime, fwOwner, n, 10)))

/-- A configuration request is served, or completed with CRS or Unsupported Request. An aperture read answers with the bytes of its
granule, a write stores there, an AtomicOp stores the new value and answers with the old; an unmapped slot is a hole and Unsupported
Request, and a function that is shut out reads zeros. A completion ends its read and gives a context its descriptor; one without a
read is reported; a timeout reserves the tag. An invalidation drops the matching entries and is answered once its reads have ended.
The consumer doorbell is the function's own. Held messages go out at the end of moderation or of the mask. Clearing Bus Master Enable
stops the reads; setting it sends what waited. -/
def Obligations.EndpointRequests : Prop :=
  ∀ (s : State) (f tag : Nat), f < 128 →
    let x := s.fn f
    let m := fnMaster f
    let answers := fun (t : State) (status : Nat) (bs : List Byte) => t.out = .completion f tag status false bs :: s.out ∧ t.mem = s.mem
    let opens := hasBar2 f = true ∧ s.decodes f = true ∧ s.shutOut f = false
    let refused := fun (t : State) => answers t 1 [] ∧ t.fld F.PCE_UR_SENT = satAdd32 (s.fld F.PCE_UR_SENT) 1
    (s.host.perstHigh = true →
      (s.fnPresent f = false → ∀ r, ∃ t, exec (.configRequest f tag r) s = Next t ∧ refused t) ∧
      (s.fnPresent f = true → (x.flr = true ∨ s.host.ready = false) → ∀ r, ∃ t, exec (.configRequest f tag r) s = Next t ∧
        answers t 2 [] ∧ t.regs = s.regs) ∧
      (s.fnPresent f = true → x.flr = false → s.host.ready = true →
        (∃ t, exec (.configRequest f tag (.read 0)) s = Next t ∧
          answers t 0 (leBytes 4 (deviceId f * 2 ^ 16 + Config.vendorId % 2 ^ 16)) ∧ t.regs = s.regs) ∧
        ∀ on, ∃ t, exec (.configRequest f tag (.mse on)) s = Next t ∧ answers t 0 [] ∧ t.fn f = { x with mse := on } ∧ t.regs = s.regs)) ∧
    (∀ off len,
      (opens → ∀ a, s.aperture f off = some a → 0 < len → Reachable s m a len → ∃ t, exec (.bar2Read f tag off len) s = Next t ∧
        answers t 0 (s.readBytes a len) ∧ t.regs = s.regs) ∧
      (opens → s.aperture f off = none → ∃ t, exec (.bar2Read f tag off len) s = Next t ∧ refused t ∧ t.flag (blkMod.err 18) = true) ∧
      (hasBar2 f = true → s.decodes f = true → s.shutOut f = true → ∃ t, exec (.bar2Read f tag off len) s = Next t ∧
        answers t 0 (List.replicate len 0) ∧ t.fld F.VFN_FROZEN_DISCARDS = satAdd32 (s.fld F.VFN_FROZEN_DISCARDS) 1) ∧
      (s.decodes f = false → ∃ t, exec (.bar2Read f tag off len) s = Next t ∧ refused t)) ∧
    (∀ off bs, (opens → ∀ a, s.aperture f off = some a → bs ≠ [] → Memory.wf s.mem = true → Reachable s m a bs.length →
        ∃ t, exec (.bar2Write f off bs) s = Next t ∧ Stored s a bs t ∧ t.regs = s.regs ∧ t.out = s.out) ∧
      (opens → s.aperture f off = none → ∃ t, exec (.bar2Write f off bs) s = Next t ∧ t.mem = s.mem ∧ t.flag (blkMod.err 18) = true) ∧
      (s.decodes f = false → exec (.bar2Write f off bs) s = Next s)) ∧
    (∀ off width op a, opens → (width = 4 ∨ width = 8) → off % width = 0 → s.aperture f off = some a → Memory.wf s.mem = true →
      Reachable s m a width → ∃ t, exec (.bar2Atomic f tag off width op) s = Next t ∧ t.regs = s.regs ∧
        Stored s a (leBytes width (atomicNew width (ofLe (s.readBytes a width)) op)) t ∧
        t.out = .completion f tag 0 false (s.readBytes a width) :: s.out) ∧
    (∀ (r : RdReq) (c : Nat), x.reads.find? (fun q => decide (q.tag = tag)) = some r → r.use = .ctxRing c → r.dropped = false →
      let rest := x.reads.filter (fun q => decide (q.tag ≠ tag))
      let y := s.ctx c
      (∀ bs : List Byte, r.got = [] → r.len = 64 → bs.length = 64 → y.typ ≠ 1 → s.descOk y (ofLe bs) = true →
        ∃ t, exec (.readCompletion f tag 0 bs true) s = Next t ∧ (t.fn f).reads = rest ∧ t.regs = s.regs ∧ t.mem = s.mem ∧
          t.ctx c = { y with consumer := (y.consumer + 1) % 2 ^ 32, fetched := y.fetched ++ [(y.consumer, ofLe bs)] }) ∧
      (∀ bs off, y.st = .ready → ∃ t, exec (.readCompletion f tag off bs false) s = Next t ∧ (t.fn f).reads = rest ∧
        (t.ctx c).st = .error ∧ (t.ctx c).errCode = ceLocalFault ∧ t.mem = s.mem) ∧
      (x.flr = false → ∃ t, exec (.completionTimeout f tag) s = Next t ∧ (t.fn f).reads = rest ∧
        (t.fn f).staleTags = x.staleTags ++ [tag] ∧ t.fld F.PCE_CPL_TIMEOUT = satAdd32 (s.fld F.PCE_CPL_TIMEOUT) 1 ∧
        t.flag (blkPce.err 16) = true ∧ t.mem = s.mem)) ∧
    (∃ t, exec (.unexpectedCompletion f tag) s = Next t ∧ t.flag (blkPce.err 17) = true ∧ t.out = .pcie 4 f tag :: s.out ∧
      t.fld F.PCE_UNEXP_CPL = satAdd32 (s.fld F.PCE_UNEXP_CPL) 1 ∧ t.mem = s.mem) ∧
    (∀ pasid page pages, ∃ t, exec (.atsInvalidate f pasid page pages) s = Next t ∧ t.out = s.out ∧ t.regs = s.regs ∧ t.mem = s.mem ∧
      ∀ e ∈ t.host.ats, e ∈ s.host.ats ∧ ¬ (e.f = f ∧ (pasid = none ∨ pasid = some e.pasid) ∧ page ≤ e.page ∧ e.page < page + pages)) ∧
    (∀ i rest, s.host.atsInv = i :: rest → i.f = f →
      ((∀ k ∈ i.tags, ∀ r ∈ x.reads, r.tag ≠ k) → ∃ t, exec (.atsInvalidateDone f) s = Next t ∧ t.host.atsInv = rest ∧
        t.out = .pcie 2 f i.page :: s.out ∧ t.fld F.PCE_ATS_INV = satAdd32 (s.fld F.PCE_ATS_INV) 1 ∧ t.mem = s.mem) ∧
      (rest = [] → (∃ k ∈ i.tags, ∃ r ∈ x.reads, r.tag = k) → exec (.atsInvalidateDone f) s = Next s)) ∧
    (∀ v r, x.ring = some r → x.lost = 0 →
      (∃ t, exec (.eventConsumerDoorbell m f v) s = Next t ∧ t.regs = s.regs ∧ t.mem = s.mem ∧
        t.fn f = { x with ring := some { r with consumed := r.head - (r.head + 2 ^ 32 - v % 2 ^ 32) % 2 ^ 32 } }) ∧
      ∀ q, isFirmware q = false → q ≠ m → ∃ t, exec (.eventConsumerDoorbell q f v) s = Next t ∧ (t.fn f).ring.map (·.consumed) = some r.consumed ∧
        t.flag (blkPce.err 4) = true ∧ t.mem = s.mem) ∧
    (∀ vec addr data, addr ≠ 0 → s.busMaster f = true → x.fnMask = false →
      (vec ∈ x.pba → ∃ t, exec (.msixUnmask f vec addr data) s = Next t ∧ t.out = .msix f vec :: s.out ∧
        (t.fn f).pba = x.pba.erase vec ∧ t.regs = s.regs) ∧
      (vec ∉ x.pba → ∃ t, exec (.msixUnmask f vec addr data) s = Next t ∧ t.out = s.out ∧ (t.fn f).pba = x.pba ∧ t.regs = s.regs) ∧
      (x.modPend = [vec] → Tab.find? x.msix vec = some ⟨addr, data, false⟩ → ∃ t, exec (.msixModerationExpiry f) s = Next t ∧
        t.out = .msix f vec :: s.out ∧ (t.fn f).modPend = [] ∧ t.regs = s.regs)) ∧
    (x.bme = true → x.reads = [] → fnCtrl f = none → ∃ t, exec (.bmeClear f) s = Next t ∧ t.fn f = { x with bme := false } ∧
      t.out = s.out ∧ t.regs = s.regs ∧ t.mem = s.mem) ∧
    (x.held = [] → x.pba = [] → ∃ t, exec (.bmeSet f) s = Next t ∧ t.fn f = { x with bme := true } ∧ t.out = s.out ∧
      t.regs = s.regs ∧ t.mem = s.mem)

/-- An FLR marks the function, ends its event ring and is counted; it completes once its reads have ended, or late: bus mastering,
ring, slots and MSI-X are as after reset, the contexts of the function wait in ERROR, FROZEN stays, and the host is told. A context
whose messages have ended is then reset to message ID 0. A power state change is taken. PERST_N resets every function and nothing
else; its release starts training; a running module makes the endpoint ready. PCE_LINK_STS follows the link, and losing it sets
LINK_DOWN. -/
def Obligations.EndpointResets : Prop :=
  ∀ (s : State),
    (∀ f, 2 ≤ f → f < 128 → s.fnPresent f = true →
      let x := s.fn f
      (x.flr = false → x.reads = [] → fnCtrl f = none → ∃ t, exec (.flr f) s = Next t ∧ (t.fn f).flr = true ∧ (t.fn f).ring = none ∧
        (t.fn f).held = [] ∧ (t.fn f).slots = x.slots ∧ t.fld F.VFN_VF_FLRS = satAdd32 (s.fld F.VFN_VF_FLRS) 1 ∧ t.out = s.out ∧
        t.mem = s.mem) ∧
      (x.flr = true → exec (.flr f) s = Next s) ∧
      (x.flr = true → x.reads ≠ [] → exec (.flrResetState f false) s = Next s) ∧
      (∀ late, x.flr = true → (x.reads = [] ∨ late = true) → Tab.find? s.host.moves f = none → fnCtrl f = none →
        ∃ t, exec (.flrResetState f late) s = Next t ∧ (t.fn f).flr = false ∧ (t.fn f).bme = false ∧ (t.fn f).ring = none ∧
          (t.fn f).slots = [] ∧ (t.fn f).msix = [] ∧ (t.fn f).reads = [] ∧ t.out.head? = some (.pcie 3 f 0) ∧ t.mem = s.mem ∧
          t.flag (F.VFN_STS_FROZEN f) = s.flag (F.VFN_STS_FROZEN f) ∧
          ∀ c ∈ s.ctxsOwned f, (t.ctx c).st = .error ∧ (t.ctx c).errCode = ceEndpointState ∧ c ∈ t.host.flrCtx)) ∧
    (∀ c, c ∈ s.host.flrCtx →
      ((s.ctx c).msgs ≠ [] → exec (.ctxFlrReset c) s = Next s) ∧
      ((s.ctx c).msgs = [] → ∃ t, exec (.ctxFlrReset c) s = Next t ∧ (t.ctx c).st = .ready ∧ (t.ctx c).nextMsg = 0 ∧ (t.ctx c).expMsg = 0 ∧
        (t.ctx c).consumer = (s.ctx c).producer ∧ t.host.flrCtx = s.host.flrCtx.erase c ∧ t.regs = s.regs ∧ t.mem = s.mem ∧
        ∀ d, d ≠ c → t.ctx d = s.ctx d)) ∧
    (∀ f d, f < 2 → ((s.fn f).dstate = d → exec (.powerStateChange f d) s = Next s) ∧
      ∃ t, exec (.powerStateChange f d) s = Next t ∧ (t.fn f).dstate = d) ∧
    (∃ t, exec .perstAssert s = Next t ∧ t.host.perstHigh = false ∧ t.host.ready = false ∧ t.host.ats = [] ∧
      t.flag F.PCE_LINK_STS_READY = false ∧ t.fld F.PCE_LINK_STS_STATE = 0 ∧ (t.fn 0).flr = false ∧ (t.fn 1).flr = false ∧
      (t.fn 0).ring = none ∧ (t.fn 1).ring = none ∧ t.fld F.MOD_STS_STATE = s.fld F.MOD_STS_STATE ∧
      (s.host.moves = [] → t.mem = s.mem)) ∧
    (s.host.perstHigh = true → exec .perstDeassert s = Next s) ∧
    (s.host.perstHigh = false → ∃ t, exec .perstDeassert s = Next t ∧ t.host.perstHigh = true ∧ t.fld F.PCE_LINK_STS_STATE = 1 ∧
      (t.fn 0).dstate = 0 ∧ (t.fn 1).dstate = 0 ∧ t.out = .pcie 6 0 0 :: s.out ∧ t.mem = s.mem) ∧
    (let st := s.fld F.MOD_STS_STATE
      let may := s.host.perstHigh = true ∧ s.host.ready = false ∧ 5 ≤ st ∧ st ≤ 7 ∧ (s.fn 0).flr = false ∧ (s.fn 1).flr = false
      (¬ may → exec .endpointReady s = Next s) ∧
      (may → ∃ t, exec .endpointReady s = Next t ∧ t.host.ready = true ∧ t.flag F.PCE_LINK_STS_READY = true ∧
        t.out = .pcie 0 0 0 :: s.out ∧ t.mem = s.mem)) ∧
    (∀ st speed width flit, st < 16 → speed < 16 → width < 32 →
      let old := s.fld F.PCE_LINK_STS_STATE
      ∃ t, exec (.endpointLinkChange st speed width flit) s = Next t ∧ t.fld F.PCE_LINK_STS_STATE = st ∧
        t.fld F.PCE_LINK_STS_SPEED = speed ∧ t.fld F.PCE_LINK_STS_WIDTH = width ∧ t.flag F.PCE_LINK_STS_FLIT = flit ∧
        ((old = 2 ∨ old = 3) → st < 2 → t.flag (blkPce.err 21) = true) ∧ t.out = s.out ∧ t.mem = s.mem)

/-- GO takes the request buffer, and is ignored while BUSY; a frozen VF's request and an unknown code are answered at once. Firmware
serves the request in full, or answers with an abort code and changes no object; a function outside PF0's side has no role for one on
these objects. A partition is created with its tiles, role and owner, enabled, and destroyed with none; a context is created READY, reset
out of ERROR, pinned and destroyed; a window, a barrier group, a cipher ring, a BAR 2 slot and an event ring take the values asked
for. -/
def Obligations.MailboxRequests : Prop :=
  ∀ (s : State) (f : Nat), f < 128 →
    let x := s.fn f
    let code := leAt (s.mbReqBytes f) 0 2
    let seq := leAt (s.mbReqBytes f) 4 4
    let done := fun (t : State) (q status : Nat) => (t.fn f).mbBusy = none ∧ (t.fn f).mbDone = true ∧ (t.fn f).mbStatus = status ∧
      (t.fn f).mbRespSeq = q
    (x.mbBusy.isSome = true → exec (.mailboxGo f) s = Next s) ∧
    (x.mbBusy = none → hasPage f = true → s.coreUp 0 = true →
      (2 ≤ f → s.flag (F.VFN_STS_FROZEN f) = true → ∃ t, exec (.mailboxGo f) s = Next t ∧ done t seq abModuleState ∧ t.mem = s.mem) ∧
      (f = 0 → code ∉ mailboxCodes → ∃ t, exec (.mailboxGo f) s = Next t ∧ done t seq abUnknownService ∧ t.mem = s.mem) ∧
      (f = 0 → code ∈ mailboxCodes → ∃ t, exec (.mailboxGo f) s = Next t ∧ t.fn f = { x with mbBusy := some (code, seq), mbGo := false } ∧
        t.regs = s.regs ∧ t.out = s.out)) ∧
    (∀ q, s.coreUp 0 = true → onPf0 f = true →
      let owner := fnOwner f
      let aborts := fun (t : State) (status : Nat) => done t q status ∧ t.gma = s.gma ∧ t.trust = s.trust ∧ t.mem = s.mem
      (x.mbBusy = some (0x01, q) → ∃ t, exec (.getResources f) s = Next t ∧ done t q 0 ∧ t.mem = s.mem) ∧
      (∀ r, x.mbBusy = some (0x10, q) →
        (s.partCheck f r ≠ 0 → ∃ t, exec (.partCreate f r) s = Next t ∧ aborts t (s.partCheck f r)) ∧
        (s.partCheck f r = 0 → r.sealIt = false → r.p < 16 → r.tiles < 2 ^ 16 → s.flag (F.MOD_PART_CFG_ENABLE r.p) = false →
          ∃ t, exec (.partCreate f r) s = Next t ∧ done t q 0 ∧ t.fld (F.MOD_PART_TILES_TILES r.p) = r.tiles ∧
            t.fld (F.MOD_PART_CFG_OWNER r.p) = owner ∧ t.fld (F.MOD_PART_CFG_ROLE r.p) = r.role ∧
            t.flag (F.MOD_PART_CFG_ENABLE r.p) = true ∧ t.flag (F.MOD_PART_CFG_JOB_VALID r.p) = r.job.isSome ∧ t.mem = s.mem)) ∧
      (∀ p, x.mbBusy = some (0x11, q) →
        (p ∉ s.partsOwned f → ∃ t, exec (.partDestroy f p) s = Next t ∧ aborts t abNotOwned) ∧
        (p ∈ s.partsOwned f → s.flag (F.MOD_PART_CFG_ENABLE p) = false → s.flag (F.MOD_PART_CFG_ACTIVE p) = false →
          s.flag (F.MOD_PART_CFG_SEALED p) = false → ∃ t, exec (.partDestroy f p) s = Next t ∧ done t q 0 ∧
            t.fld (F.MOD_PART_TILES_TILES p) = 0 ∧ t.reg (F.MOD_PART_CFG_ENABLE p).off = 0 ∧ t.mem = s.mem)) ∧
      (∀ c r o, x.mbBusy = some (0x20, q) → s.reqOwner f r.part = some o →
        (s.ctxCheck f c r o ≠ 0 → ∃ t, exec (.ctxCreate f c r) s = Next t ∧ aborts t (s.ctxCheck f c r o)) ∧
        (s.ctxCheck f c r o = 0 → ∃ t, exec (.ctxCreate f c r) s = Next t ∧ done t q 0 ∧ t.mem = s.mem ∧
          t.ctx c = { newCtx r o with rate := if r.typ = 1 then s.portRate r.port else 0 } ∧ ∀ d, d ≠ c → t.ctx d = s.ctx d)) ∧
      (∀ c, (s.ctx c).st ≠ .free → (s.ctx c).owner ∈ s.ownersOf f →
        (∀ k, x.mbBusy = some (0x21, q) → ((s.ctx c).st = .error ∨ (s.ctx c).st = .frozen) → (s.ctx c).msgs = [] → c ∉ s.host.flrCtx →
          ∃ t, exec (.ctxReset f c k) s = Next t ∧ done t q 0 ∧ (t.ctx c).st = .ready ∧ (t.ctx c).nextMsg = k ∧ (t.ctx c).expMsg = k ∧
            (t.ctx c).consumer = (s.ctx c).producer ∧ (t.ctx c).flagBlock = false ∧ t.mem = s.mem ∧ ∀ d, d ≠ c → t.ctx d = s.ctx d) ∧
        (∀ on, x.mbBusy = some (0x22, q) → (on = true → s.pinnedIn c < 8) → ∃ t, exec (.ctxPin f c on) s = Next t ∧ done t q 0 ∧
          t.ctx c = { s.ctx c with pin := on } ∧ t.mem = s.mem ∧ ∀ d, d ≠ c → t.ctx d = s.ctx d) ∧
        (x.mbBusy = some (0x23, q) → Tab.risingFrom 0 s.gma.ctxs = true → ∃ t, exec (.ctxDestroy f c) s = Next t ∧ done t q 0 ∧
          (t.ctx c).st = .free ∧ t.mem = s.mem ∧ ∀ d, d ≠ c → t.ctx d = s.ctx d)) ∧
      (∀ w ctrl lo hi src mask ref, x.mbBusy = some (0x30, q) → w < 4096 → lo < 2 ^ 28 → hi < 2 ^ 28 → lo ≤ hi →
        placeCode f (Tab.getD s.host.pools.wins w .pool) = 0 → bits ctrl 15 0 ∈ s.ownersOf f →
        (ctrl.testBit 31 = false → ∃ t, exec (.winWrite f w ctrl lo hi src mask ref) s = Next t ∧ done t q 0 ∧
          t.flag (F.GMA_WIN_CTRL_ENABLE w) = false ∧ t.fld (F.GMA_WIN_LO w) = lo ∧ t.fld (F.GMA_WIN_HI w) = hi ∧ t.mem = s.mem) ∧
        (ctrl.testBit 31 = true → s.flag (F.GMA_WIN_CTRL_ENABLE w) = false → s.flag (F.GMA_WIN_CTRL_ACTIVE w) = false →
          s.rangeAllocated (bits ctrl 15 0) (ownerPart (bits ctrl 15 0)) (winRange lo hi).1 (winRange lo hi).2 = true →
          s.flag blkGma.crcCheck = false → ∃ t, exec (.winWrite f w ctrl lo hi src mask ref) s = Next t ∧ done t q 0 ∧
            t.flag (F.GMA_WIN_CTRL_ENABLE w) = true ∧ t.flag (F.GMA_WIN_CTRL_ACTIVE w) = true ∧ t.fld (F.GMA_WIN_LO w) = lo ∧
            t.fld (F.GMA_WIN_HI w) = hi ∧ t.fld (F.GMA_WIN_CTRL_OWNER w) = bits ctrl 15 0 ∧ t.mem = s.mem)) ∧
      (∀ g cfg lo hi, x.mbBusy = some (0x31, q) → g < 4096 → lo < 2 ^ 32 → hi < 2 ^ 32 → cfg.testBit 31 = true →
        s.flag (F.GMA_BAR_CFG_ENABLE g) = false → placeCode f (Tab.getD s.host.pools.bars g .pool) = 0 → bits hi 31 16 ∈ s.ownersOf f →
        ∃ t, exec (.barrierWrite f g cfg lo hi) s = Next t ∧ done t q 0 ∧ t.flag (F.GMA_BAR_CFG_ENABLE g) = true ∧
          t.fld (F.GMA_BAR_CFG_LOCAL_EXPECT g) = bits cfg 21 12 ∧ t.fld (F.GMA_BAR_CHILD_LO_CHILD g) = lo ∧
          t.fld (F.GMA_BAR_STS_GEN g) = 0 ∧ t.fld (F.GMA_BAR_STS_ARRIVED g) = 0 ∧ t.bar g = Bar.init ∧ t.mem = s.mem) ∧
      (∀ r part o base log2 cpl vec, x.mbBusy = some (0x32, q) → s.reqOwner f part = some o → 4 ≤ log2 → log2 ≤ 12 → s.cipRing r = none →
        placeCode f (Tab.getD s.host.pools.rings r .pool) = 0 → s.rangeAllocated o (ownerPart o) base (64 * 2 ^ log2) = true →
        s.rangeAllocated o (ownerPart o) cpl (8 * 2 ^ log2) = true → ∃ t, exec (.ringCreate f r part base log2 cpl vec) s = Next t ∧
          done t q 0 ∧ t.cipRing r = some ⟨o, base, log2, cpl, 0, 0, 0, [], vec⟩ ∧ t.mem = s.mem) ∧
      (∀ r y, x.mbBusy = some (0x33, q) → s.cipRing r = some y → y.owner ∈ s.ownersOf f →
        (y.jobs ≠ [] → ∃ t, exec (.ringDestroy f r) s = Next t ∧ aborts t abBusy) ∧
        (y.jobs = [] → ∃ t, exec (.ringDestroy f r) s = Next t ∧ done t q 0 ∧ t.trust.rings = Tab.erase s.trust.rings r ∧
          t.mem = s.mem)) ∧
      (∀ slot g, slot < slotLimit f →
        (x.mbBusy = some (0x40, q) → Tab.find? s.trust.sealed g = none → placeCode f (Tab.getD s.host.pools.hbm g .pool) = 0 →
          ∃ t, exec (.slotMap f slot g) s = Next t ∧ done t q 0 ∧ Tab.find? (t.fn f).slots slot = some g ∧ t.mem = s.mem) ∧
        (x.mbBusy = some (0x40, q) → (Tab.find? s.trust.sealed g).isSome = true → ∃ t, exec (.slotMap f slot g) s = Next t ∧
          aborts t abSealed ∧ (t.fn f).slots = x.slots) ∧
        (x.mbBusy = some (0x41, q) → ∃ t, exec (.slotUnmap f slot) s = Next t ∧ done t q 0 ∧ (t.fn f).slots = Tab.erase x.slots slot ∧
          t.mem = s.mem)) ∧
      (∀ iova pasid log2 moderation, x.mbBusy = some (0x50, q) →
        (6 ≤ log2 → log2 ≤ 16 → moderation ≤ 1000 → ∃ t r, exec (.eventRingSet f iova pasid log2 moderation) s = Next t ∧ done t q 0 ∧
          (t.fn f).ring = some r ∧ r.iova = iova ∧ r.pasid = pasid ∧ r.log2 = log2 ∧ r.consumed = 0 ∧
          (t.fn f).moderation = moderation ∧ t.mem = s.mem) ∧
        (log2 < 6 ∨ 16 < log2 ∨ 1000 < moderation → ∃ t, exec (.eventRingSet f iova pasid log2 moderation) s = Next t ∧
          aborts t abRange))) ∧
    (∀ q c r p, s.coreUp 0 = true → onPf0 f = false →
      (x.mbBusy = some (0x20, q) → ∃ t, exec (.ctxCreate f c r) s = Next t ∧ done t q abRole ∧ t.gma = s.gma ∧ t.mem = s.mem) ∧
      (x.mbBusy = some (0x11, q) → ∃ t, exec (.partDestroy f p) s = Next t ∧ done t q abRole ∧ t.gma = s.gma ∧ t.mem = s.mem))

/-- VF_CREATE refuses with the earliest cause and changes no object, or records the resource set, sets the link share and the two
weights, and a VF that is present becomes READY. VF_DESTROY is refused out of range, for a VF that is not provisioned, that is
moved or that has an active partition; else every granule and carrel of the set reads zero, the set is gone, the slots and the
weights are gone, and the VF is EMPTY or ABSENT. VF_SET_QOS writes the weights; VF_UNFREEZE clears FROZEN. A request of these from
another function than PF0 has no role. VF Enable and NumVFs make VFs ABSENT, READY or EMPTY. -/
def Obligations.VirtualFunctions : Prop :=
  ∀ (s : State),
    let x := s.fn 0
    let done := fun (t : State) (q status : Nat) => (t.fn 0).mbBusy = none ∧ (t.fn 0).mbDone = true ∧ (t.fn 0).mbStatus = status ∧
      (t.fn 0).mbRespSeq = q
    let aborts := fun (t : State) (q status : Nat) => done t q status ∧ t.host.pools = s.host.pools ∧ t.host.moves = s.host.moves ∧
      t.trust = s.trust ∧ t.gma = s.gma ∧ t.mem = s.mem
    (∀ q, s.coreUp 0 = true →
      (∀ body, x.mbBusy = some (0x100, q) →
        let v := vfFn (leAt body 1 1) (leAt body 0 1)
        (s.vfCreateCode body ≠ 0 → ∃ t, exec (.vfCreate 0 body) s = Next t ∧ aborts t q (s.vfCreateCode body)) ∧
        (s.vfCreateCode body = 0 → ∃ t, exec (.vfCreate 0 body) s = Next t ∧ done t q 0 ∧
          Tab.find? t.host.pools.sets v = some ((body.drop 2).take 164) ∧ t.fld (F.VFN_QOS_LINK_SHARE v) = leAt body 166 1 ∧
          t.fld (F.VFN_QOS_HBM_WEIGHT v) = leAt body 167 1 ∧ t.fld (F.VFN_QOS_SEND_WEIGHT v) = leAt body 168 1 ∧
          (s.fnPresent v = true → t.vfSt v = vfReady) ∧ t.gma = s.gma ∧ t.trust = s.trust ∧ t.mem = s.mem)) ∧
      (∀ v, x.mbBusy = some (0x101, q) →
        (v < 2 ∨ 127 < v → ∃ t, exec (.vfDestroy 0 v) s = Next t ∧ aborts t q abRange) ∧
        (2 ≤ v → v < 128 → s.vfSet v = none → ∃ t, exec (.vfDestroy 0 v) s = Next t ∧ aborts t q abNoResource) ∧
        (∀ r, 2 ≤ v → v < 128 → s.vfSet v = some r →
          (s.vfSt v = vfMoving → ∃ t, exec (.vfDestroy 0 v) s = Next t ∧ aborts t q abMoving) ∧
          (s.vfSt v ≠ vfMoving → (∃ p ∈ s.partsOwned v, s.flag (F.MOD_PART_CFG_ACTIVE p) = true) →
            ∃ t, exec (.vfDestroy 0 v) s = Next t ∧ aborts t q abBusy) ∧
          (s.vfSt v ≠ vfMoving → (∀ p ∈ s.partsOwned v, s.flag (F.MOD_PART_CFG_ACTIVE p) = false) →
            ∃ t, exec (.vfDestroy 0 v) s = Next t ∧ done t q 0 ∧ t.host.pools.sets = Tab.erase s.host.pools.sets v ∧
              t.reg (F.VFN_QOS_LINK_SHARE v).off = 0 ∧ t.vfSt v = (if s.fnPresent v then vfEmpty else vfAbsent) ∧
              (t.fn v).slots = [] ∧ (∀ a, r.covers a → t.readByte a = 0) ∧
              (s.partsOwned v = [] → ∀ a, ¬ r.covers a → t.readByte a = s.readByte a)))) ∧
      (∀ v hbm send, x.mbBusy = some (0x102, q) → v < 128 → hbm < 2 ^ 8 → send < 2 ^ 8 →
        ((s.vfSet v).isSome = true → 0 < hbm → (if v < 65 then 0 < send else send = 0) →
          ∃ t, exec (.vfSetQos 0 v hbm send) s = Next t ∧ done t q 0 ∧ t.fld (F.VFN_QOS_HBM_WEIGHT v) = hbm ∧
            t.fld (F.VFN_QOS_SEND_WEIGHT v) = send ∧ t.fld (F.VFN_QOS_LINK_SHARE v) = s.fld (F.VFN_QOS_LINK_SHARE v) ∧
            t.host.pools = s.host.pools ∧ t.mem = s.mem) ∧
        (hbm = 0 → ∃ t, exec (.vfSetQos 0 v hbm send) s = Next t ∧ aborts t q abRange)) ∧
      (∀ v, x.mbBusy = some (0x103, q) → v < 128 → ∃ t, exec (.vfUnfreeze 0 v) s = Next t ∧ done t q 0 ∧
        t.flag (F.VFN_STS_FROZEN v) = false ∧ t.vfSt v = s.vfSt v ∧ t.host.pools = s.host.pools ∧ t.gma = s.gma ∧ t.mem = s.mem)) ∧
    (∀ f q body v, s.coreUp 0 = true → f ≠ 0 →
      let role := fun (t : State) => (t.fn f).mbBusy = none ∧ (t.fn f).mbStatus = abRole ∧ t.host.pools = s.host.pools ∧ t.mem = s.mem
      ((s.fn f).mbBusy = some (0x100, q) → ∃ t, exec (.vfCreate f body) s = Next t ∧ role t) ∧
      ((s.fn f).mbBusy = some (0x101, q) → ∃ t, exec (.vfDestroy f v) s = Next t ∧ role t)) ∧
    (∀ pf on num, ∃ t, exec (.vfEnableChange pf on num) s = Next t ∧
      (if pf = 0 then t.host.vfEnable0 = on ∧ t.host.numVfs0 = num else t.host.vfEnable1 = on ∧ t.host.numVfs1 = num) ∧
      ∀ v ∈ vfsOf pf,
        (s.fnPresent v = true → t.fnPresent v = false → t.vfSt v = vfAbsent) ∧
        (s.fnPresent v = false → t.fnPresent v = true → t.vfSt v = if (s.vfSet v).isSome then vfReady else vfEmpty) ∧
        (s.fnPresent v = true → t.fnPresent v = true → t.vfSt v = s.vfSt v))

/-- MOVE_PREPARE of a READY VF loads the migration key into a firmware page and makes the VF MOVING, or is refused where the target
did not pass. MOVE_FREEZE begins HALTING; the VF is HALTED once nothing it issued is left, and its contexts are in ERROR with
ENDPOINT_STATE. MOVE_SAVE sends every chunk of the stream, sealed under the key with its number; SAVED counts. MOVE_COMMIT clears the
resources and the VF is READY; MOVE_CANCEL keeps memory. MOVE_RESTORE puts a READY VF without objects into RESTORING. A chunk with a
counter that came before or a tag that does not match fails the restore, which zeroes the granules and carrels; a memory chunk is
stored; END with the right count and digest ends it. 10 s without a chunk fail it. -/
def Obligations.MigrationPhases : Prop :=
  ∀ (s : State) (v : Nat), 2 ≤ v → v < 65 →
    let x := s.fn 0
    let done := fun (t : State) (q status : Nat) => (t.fn 0).mbBusy = none ∧ (t.fn 0).mbDone = true ∧ (t.fn 0).mbStatus = status ∧
      (t.fn 0).mbRespSeq = q
    let aborts := fun (t : State) (q status : Nat) => done t q status ∧ t.host.moves = s.host.moves ∧ t.mem = s.mem
    (∀ q, s.coreUp 0 = true →
      (∀ dst dstVf page, x.mbBusy = some (0x110, q) →
        (s.vfSt v = vfReady → s.firmwarePage = some page →
          (∃ t, exec (.movePrepare 0 v dst dstVf false) s = Next t ∧ aborts t q abFailed) ∧
          ∃ t m, exec (.movePrepare 0 v dst dstVf true) s = Next t ∧ done t q 0 ∧ Tab.find? t.host.moves v = some m ∧
            m.source = true ∧ m.peerModule = dst ∧ m.peerVf = dstVf ∧ m.keyPage = page ∧ t.pageSt page = pageLoaded ∧
            t.vfSt v = vfMoving ∧ t.phase v = 0 ∧ t.flag F.MOD_STS_MOVING = true ∧
            Out.mgmt dst mgMigrationKey [dstVf] ∈ t.out ∧ t.mem = s.mem) ∧
        (s.vfSt v = vfMoving → ∃ t, exec (.movePrepare 0 v dst dstVf true) s = Next t ∧ aborts t q abMoving)) ∧
      (∀ src srcVf key page, x.mbBusy = some (0x113, q) → s.vfSt v = vfReady → s.firmwarePage = some page →
        (s.partsOwned v = [] → s.ctxsOwned v = [] → (s.fn v).slots = [] → (∀ r ∈ s.trust.rings, r.2.owner ∉ s.ownersOf v) →
          ∃ t m, exec (.moveRestore 0 v src srcVf key) s = Next t ∧ done t q 0 ∧ Tab.find? t.host.moves v = some m ∧
            m.source = false ∧ m.peerModule = src ∧ m.peerVf = srcVf ∧ m.counters = [] ∧ (t.page page).key = natsOf key ∧
            t.vfSt v = vfMoving ∧ t.phase v = 5 ∧ t.flag F.MOD_STS_MOVING = true ∧ t.mem = s.mem) ∧
        (s.ctxsOwned v ≠ [] → ∃ t, exec (.moveRestore 0 v src srcVf key) s = Next t ∧ aborts t q abInconsistent)) ∧
      (∀ m, Tab.find? s.host.moves v = some m → m.source = true →
        (x.mbBusy = some (0x111, q) →
          (s.phase v = 0 → ∃ t, exec (.moveFreeze 0 v) s = Next t ∧ done t q 0 ∧ t.phase v = 1 ∧ t.vfSt v = s.vfSt v ∧
            t.host.moves = s.host.moves ∧ t.mem = s.mem) ∧
          (s.phase v ≠ 0 → ∃ t, exec (.moveFreeze 0 v) s = Next t ∧ aborts t q abInconsistent)) ∧
        (∀ r, x.mbBusy = some (0x112, q) → s.phase v = 2 → s.vfSet v = some r →
          let cs := s.stream1 v r
          ∃ t, exec (.moveSave 0 v) s = Next t ∧ done t q 0 ∧ t.phase v = 3 ∧ t.mem = s.mem ∧
            ∀ c ∈ (cs ++ [endChunk cs]).zipIdx, Out.chunk v (c.1.seal (s.page m.keyPage).key c.2) ∈ t.out) ∧
        (∀ r, x.mbBusy = some (0x114, q) → s.phase v = 4 → s.vfSet v = some r →
          ∃ t, exec (.moveCommit 0 v) s = Next t ∧ done t q 0 ∧ t.vfSt v = vfReady ∧ t.phase v = 0 ∧
            t.host.moves = Tab.erase s.host.moves v ∧ (t.fn v).slots = [] ∧ ∀ a, r.covers a → t.readByte a = 0) ∧
        (x.mbBusy = some (0x115, q) → (s.phase v = 2 ∨ s.phase v = 4) →
          ∃ t, exec (.moveCancel 0 v) s = Next t ∧ done t q 0 ∧ t.vfSt v = vfReady ∧ t.phase v = 0 ∧
            t.host.moves = Tab.erase s.host.moves v ∧ t.mem = s.mem))) ∧
    (∀ m, Tab.find? s.host.moves v = some m → m.source = true →
      (s.phase v = 1 → s.quiet v = true → (∀ p ∈ s.partsOwned v, ∀ c ∈ s.partTiles p, (s.core c).sbuf = []) →
        ∃ t, exec (.moveHalted v) s = Next t ∧ t.phase v = 2 ∧ t.mem = s.mem ∧
          ∀ c ∈ s.ctxsOwned v, (s.ctx c).st = .ready → (t.ctx c).st = .error ∧ (t.ctx c).errCode = ceEndpointState) ∧
      ((s.phase v ≠ 1 ∨ s.quiet v = false) → exec (.moveHalted v) s = Next s) ∧
      (s.phase v = 3 → ∃ t, exec (.moveSaved v) s = Next t ∧ t.phase v = 4 ∧ t.host = s.host ∧ t.mem = s.mem ∧
        t.fld F.VFN_MOVES_SAVED = satAdd32 (s.fld F.VFN_MOVES_SAVED) 1)) ∧
    (∀ m r, Tab.find? s.host.moves v = some m → m.source = false → s.phase v = 5 → s.vfSet v = some r →
      let failed := fun (t : State) => t.vfSt v = vfReady ∧ t.phase v = 0 ∧ t.flag (blkVfn.err 17) = true ∧
        t.fld F.VFN_MOVES_FAILED = satAdd32 (s.fld F.VFN_MOVES_FAILED) 1 ∧ ∀ a, r.covers a → t.readByte a = 0
      (∃ t, exec (.moveChunkTimeout v) s = Next t ∧ failed t ∧ t.host.moves = Tab.erase s.host.moves v) ∧
      (∀ bs : List Byte,
        let h := bs.take 32
        let n := leAt h 8 8
        let len := leAt h 16 4
        let addr := leAt h 24 8
        let ct := natsOf ((bs.drop 32).take len)
        let key := (s.page m.keyPage).key
        let good := len ≤ mib ∧ bs.length = 32 + len + 16 ∧ gcmTag key (chunkIv n) (natsOf h) ct = natsOf ((bs.drop (32 + len)).take 16)
        let data := bytesOf (gcmCtr key (chunkIv n) ct)
        (n ∈ m.counters ∨ ¬ good → ∃ t, exec (.moveChunkReceive v bs) s = Next t ∧ failed t ∧
          t.host.moves = Tab.erase s.host.moves v) ∧
        (n ∉ m.counters → good → leAt h 0 1 = 6 → 0 < len →
          ((∃ g ∈ r.hbm, g * 2 ^ 30 ≤ addr ∧ addr + len ≤ (g + 1) * 2 ^ 30) → Memory.wf s.mem = true →
            Reachable s Master.firmware addr len → ∃ t m', exec (.moveChunkReceive v bs) s = Next t ∧ Stored s addr data t ∧
              Tab.find? t.host.moves v = some m' ∧ m'.counters = m.counters ++ [n] ∧ t.regs = s.regs) ∧
          (r.hbm = [] → r.shelf = [] → ∃ t, exec (.moveChunkReceive v bs) s = Next t ∧ failed t)) ∧
        (n ∉ m.counters → good → leAt h 0 1 = 4 → leAt h 20 4 ∉ r.tiles → ∃ t, exec (.moveChunkReceive v bs) s = Next t ∧ failed t) ∧
        (n ∉ m.counters → good → leAt h 0 1 = 7 → m.headed = true → m.held = [] →
          (∀ k ∈ r.tiles, (imageOf m.tileParts k).isSome = true) → leAt data 0 8 = m.counters.length + 1 →
          natsOf ((data.drop 8).take 48) = sha384 (natsOf ((Tab.set m.headers n h).flatMap (·.2))) →
          ∃ t, exec (.moveChunkReceive v bs) s = Next t ∧ t.vfSt v = vfReady ∧ t.phase v = 0 ∧
            t.fld F.VFN_MOVES_RESTORED = satAdd32 (s.fld F.VFN_MOVES_RESTORED) 1)))

/-- A doorbell within a queue's size moves its pointer and frees completions that wait; another changes nothing. An admin command
that is ready is taken and answered: queues are created and deleted, features kept and read back, log pages and Identify return
their pages, an event request takes an event or waits, a namespace is created READY at the size asked for or more, deleted, attached
and detached, image pieces are kept, a reserved commit action is an invalid field, and an opcode that is not listed is invalid. CC.EN
makes a controller ready with its admin queues alone; a reset, and an abrupt shutdown, leave none of its commands or queues; a normal
shutdown flushes its drives. The aggregation time sends a pending interrupt. Other controllers and memory stay as they were. -/
def Obligations.NvmeQueuesAndAdmin : Prop :=
  ∀ (s : State),
    (∀ c q v,
      (∀ x, Tab.find? (s.nvCtrl c).sqs q = some x →
        (v < x.size → ∃ t, exec (.nvmeSqDoorbell c q v) s = Next t ∧ Tab.find? (t.nvCtrl c).sqs q = some { x with tail := v } ∧
          t.regs = s.regs ∧ t.out = s.out ∧ t.mem = s.mem ∧ ∀ d, d ≠ c → t.nvCtrl d = s.nvCtrl d) ∧
        (x.size ≤ v → exec (.nvmeSqDoorbell c q v) s = Next s)) ∧
      (Tab.find? (s.nvCtrl c).sqs q = none → exec (.nvmeSqDoorbell c q v) s = Next s) ∧
      (∀ x, Tab.find? (s.nvCtrl c).cqs q = some x →
        (v < x.size → x.held = [] → ∃ t, exec (.nvmeCqDoorbell c q v) s = Next t ∧
          Tab.find? (t.nvCtrl c).cqs q = some { x with head := v } ∧ t.regs = s.regs ∧ t.out = s.out ∧ t.mem = s.mem) ∧
        (∀ e, v < x.size → x.held = [e] → ({ x with head := v } : NvCq).room = true → ∃ t, exec (.nvmeCqDoorbell c q v) s = Next t ∧
          Out.nvme c q e.cid e.status e.result e.data ∈ t.out ∧ (Tab.find? (t.nvCtrl c).cqs q).map (·.held) = some [] ∧ t.mem = s.mem) ∧
        (x.size ≤ v → exec (.nvmeCqDoorbell c q v) s = Next s))) ∧
    (∀ (h : NvHdr) (q : NvSq), NvReady s h q → h.sq = 0 →
      let x := s.nvCtrl h.ctrl
      let only := fun (t : State) => t.mem = s.mem ∧ ∀ c, c ≠ h.ctrl → t.nvCtrl c = s.nvCtrl c
      (∀ qid size cq prio y, Tab.find? x.cqs cq = some y → 0 < cq → 0 < qid → qid ≤ x.granted → Tab.find? x.sqs qid = none →
        (2 ≤ size → size ≤ 65536 → ∃ t, exec (.createIoSq h qid size cq prio true) s = Next t ∧ NvAnswered h q 0 0 [] t ∧ only t ∧
          Tab.find? (t.nvCtrl h.ctrl).sqs qid = some ⟨size, 0, 0, cq, prio⟩) ∧
        (65536 < size → ∃ t, exec (.createIoSq h qid size cq prio true) s = Next t ∧ NvAnswered h q nvQueueSize 0 [] t ∧ only t ∧
          Tab.find? (t.nvCtrl h.ctrl).sqs qid = none)) ∧
      (∀ qid size vec ien, 0 < qid → qid ≤ x.granted → Tab.find? x.cqs qid = none → 2 ≤ size → size ≤ 65536 →
        (vec < ctrlVectors h.ctrl → ∃ t, exec (.createIoCq h qid size vec ien true) s = Next t ∧ NvAnswered h q 0 0 [] t ∧ only t ∧
          Tab.find? (t.nvCtrl h.ctrl).cqs qid = some ⟨size, 0, 0, vec, ien, [], 0⟩) ∧
        (ctrlVectors h.ctrl ≤ vec → ∃ t, exec (.createIoCq h qid size vec ien true) s = Next t ∧ NvAnswered h q nvQueueVector 0 [] t ∧
          only t ∧ Tab.find? (t.nvCtrl h.ctrl).cqs qid = none)) ∧
      (∀ qid y, 0 < qid → Tab.find? x.sqs qid = some y → Tab.risingFrom 0 x.sqs = true →
        ((∀ p ∈ s.store.cmds, ¬ (p.2.ctrl = h.ctrl ∧ p.2.sq = qid)) → ∃ t, exec (.deleteIoSq h qid) s = Next t ∧ NvAnswered h q 0 0 [] t ∧
          only t ∧ Tab.find? (t.nvCtrl h.ctrl).sqs qid = none) ∧
        (∀ n c, s.store.cmds = [(n, c)] → c.ctrl = h.ctrl → c.sq = qid → ∃ t, exec (.deleteIoSq h qid) s = Next t ∧ t.store.cmds = [])) ∧
      (∀ qid y, 0 < qid → Tab.find? x.cqs qid = some y → Tab.risingFrom 0 x.cqs = true →
        ((∀ p ∈ x.sqs, p.2.cq ≠ qid) → ∃ t, exec (.deleteIoCq h qid) s = Next t ∧ NvAnswered h q 0 0 [] t ∧ only t ∧
          Tab.find? (t.nvCtrl h.ctrl).cqs qid = none) ∧
        ((∃ p ∈ x.sqs, p.2.cq = qid) → ∃ t, exec (.deleteIoCq h qid) s = Next t ∧ NvAnswered h q nvQueueDelete 0 [] t ∧ only t)) ∧
      (∃ t, exec (.getLogPage h 1) s = Next t ∧ NvAnswered h q 0 0 (errPage x) t ∧ only t) ∧
      (∃ t, exec (.getLogPage h 4) s = Next t ∧ (t.nvCtrl h.ctrl).changed = [] ∧ NvAnswered h q 0 0
        ((x.changed ++ List.replicate (1024 - x.changed.length) 0).flatMap (leBytes 4)) t ∧ only t) ∧
      (∀ lid, 5 < lid → ∃ t, exec (.getLogPage h lid) s = Next t ∧ NvAnswered h q 0x109 0 [] t ∧ only t) ∧
      (∃ t, exec (.identify h 1) s = Next t ∧ NvAnswered h q 0 0 (s.identCtrl h.ctrl) t ∧ only t) ∧
      (∃ t, exec (.identify h 2) s = Next t ∧ NvAnswered h q 0 0 (s.nsList h.ctrl h.nsid) t ∧ only t) ∧
      ((s.ns? h.nsid).isSome = true → ∃ t, exec (.identify h 0) s = Next t ∧ NvAnswered h q 0 0 (s.identNs h.ctrl h.nsid) t ∧ only t) ∧
      (∀ sq cid,
        ((∀ p ∈ s.store.cmds, ¬ (p.2.ctrl = h.ctrl ∧ p.2.sq = sq ∧ p.2.cid = cid)) →
          ∃ t, exec (.nvmeAbort h sq cid) s = Next t ∧ NvAnswered h q 0 1 [] t ∧ only t) ∧
        (∀ n c, s.store.cmds = [(n, c)] → c.ctrl = h.ctrl → c.sq = sq → c.cid = cid → c.op ≠ 0x10D →
          ∃ t, exec (.nvmeAbort h sq cid) s = Next t ∧ t.store.cmds = [])) ∧
      (∀ fid v, fid ∈ featKept → ∃ t, exec (.setFeatures h fid v) s = Next t ∧ NvAnswered h q 0 0 [] t ∧ only t ∧
        Tab.find? (t.nvCtrl h.ctrl).feats fid = some v) ∧
      (∀ v, x.sqs.length = 1 → x.cqs.length = 1 →
        let g := min (max (v % 65536 + 1) (v / 65536 + 1)) (s.pairLimit h.ctrl)
        ∃ t, exec (.setFeatures h 7 v) s = Next t ∧ NvAnswered h q 0 ((g + 65535) % 65536 * 65537) [] t ∧ only t ∧
          (t.nvCtrl h.ctrl).granted = g) ∧
      (∀ fid vec, fid ∈ featKept → ∃ t, exec (.getFeatures h fid vec) s = Next t ∧
        NvAnswered h q 0 (Tab.getD x.feats fid (featDefault fid)) [] t ∧ only t) ∧
      (x.events = [] → ∃ t, exec (.asyncEventRequest h) s = Next t ∧ NvTaken h q t ∧ (t.nvCtrl h.ctrl).aers = x.aers ++ [h.cid] ∧
        t.out = s.out ∧ only t) ∧
      (∀ e es, x.events = e :: es → ∃ t, exec (.asyncEventRequest h) s = Next t ∧ NvAnswered h q 0 e [] t ∧
        (t.nvCtrl h.ctrl).events = es ∧ only t) ∧
      (∀ op, ∃ t, exec (.nvmeUnsupported h op) s = Next t ∧ NvAnswered h q nvInvalidOpcode 0 [] t ∧ only t) ∧
      (h.ctrl = 1 →
        (∀ n nsze, s.freeNsid = some n → 0 < nsze →
          let ks := (List.range 8).filter (fun k => s.driveUp k && !s.flag (F.NVC_DRIVE_STS_BLANK k))
          let w := ks.length * 262144
          ks ≠ [] → (∀ k ∈ ks, (nsze + w - 1) / w ≤ (s.driveFree k).length) →
            ∃ t y, exec (.namespaceManagement h false nsze) s = Next t ∧ NvAnswered h q 0 n [] t ∧ t.ns? n = some y ∧ y.st = 0 ∧
              y.r.durable = false ∧ y.r.ctrl = 0 ∧ y.r.stripe = ks ∧ nsze ≤ nsSize y.r ∧ t.store.gen = s.store.gen + 1 ∧ only t) ∧
        (∀ y, s.ns? h.nsid = some y → y.deleting = false →
          (y.r.durable = false → y.r.ctrl = 0 → Tab.risingFrom 0 s.store.ns = true → (∀ p ∈ s.store.cmds, p.2.ns ≠ h.nsid) →
            (∀ p ∈ s.store.feeds, p.2.feeds = []) → ∃ t, exec (.namespaceManagement h true 0) s = Next t ∧ NvAnswered h q 0 0 [] t ∧
              t.ns? h.nsid = none ∧ t.mem = s.mem) ∧
          (y.r.durable = true → ∃ t, exec (.namespaceManagement h true 0) s = Next t ∧ NvAnswered h q nvInvalidNs 0 [] t ∧
            t.ns? h.nsid = some y ∧ only t) ∧
          (∀ c, s.ctrlExists c = true → (s.nvCtrl c).aers = [] →
            (y.r.ctrl = 0 → ∃ t, exec (.namespaceAttachment h false [c]) s = Next t ∧ NvAnswered h q 0 0 [] t ∧ t.mem = s.mem ∧
              t.ns? h.nsid = some { y with r := { y.r with ctrl := c, owner := fnOwner (ctrlFn c) } }) ∧
            (y.r.ctrl = c → ∃ t, exec (.namespaceAttachment h true [c]) s = Next t ∧ NvAnswered h q 0 0 [] t ∧ t.mem = s.mem ∧
              t.ns? h.nsid = some { y with r := { y.r with ctrl := 0, owner := 1 } }))) ∧
        (∀ off bs, s.updBar = 0 → s.dictReceiving = false → ∃ t, exec (.firmwareImageDownload h off bs) s = Next t ∧
          NvAnswered h q 0 0 [] t ∧ (t.nvCtrl 1).image = x.image ++ [(off, bs)] ∧ only t) ∧
        (∀ off bs, s.updBar ≠ 0 → ∃ t, exec (.firmwareImageDownload h off bs) s = Next t ∧ NvAnswered h q nvFwProhibited 0 [] t ∧
          (t.nvCtrl 1).image = [] ∧ t.fld F.FWM_STS_LAST_REFUSAL = s.updBar ∧ only t) ∧
        (∀ action slot, (3 ≤ action → ∃ t, exec (.firmwareCommit h action slot) s = Next t ∧ NvAnswered h q nvInvalidField 0 [] t ∧ only t) ∧
          (action = 2 → s.updBar = 0 → s.dictReceiving = false → slot = s.mgmt.flash.active + 1 → slot < 3 →
            ∃ t, exec (.firmwareCommit h action slot) s = Next t ∧ NvAnswered h q nvFwReset 0 [] t ∧ t.mgmt.flash.pending = none ∧ only t)))) ∧
    (∀ c,
      let x := s.nvCtrl c
      let others := fun (t : State) => ∀ d, d ≠ c → t.nvCtrl d = s.nvCtrl d
      (∀ ams asqs acqs, x.en = false → s.ctrlExists c = true → ∃ t, exec (.controllerEnable c ams asqs acqs) s = Next t ∧
        t.nvCtrl c = { x with
          en := true, rdy := true, wrr := decide (ams = 1), shst := 0, sqs := [(0, ⟨asqs, 0, 0, 0, 0⟩)]
          cqs := [(0, ⟨acqs, 0, 0, 0, true, [], 0⟩)] } ∧ others t ∧ t.regs = s.regs ∧ t.out = s.out ∧ t.mem = s.mem) ∧
      (∀ ams asqs acqs, x.en = true → exec (.controllerEnable c ams asqs acqs) s = Next s) ∧
      ((∀ p ∈ s.store.ns, p.2.deleting = false) →
        (∃ t, exec (.controllerReset c) s = Next t ∧ t.nvCtrl c = NvCtrl.init ∧ (∀ p ∈ t.store.cmds, p.2.ctrl ≠ c) ∧
          t.store.wb = s.store.wb ∧ others t ∧ t.out = s.out ∧ t.mem = s.mem) ∧
        (∃ t, exec (.abruptShutdown c) s = Next t ∧ t.nvCtrl c = { NvCtrl.init with shst := 2 } ∧ (∀ p ∈ t.store.cmds, p.2.ctrl ≠ c) ∧
          t.store.wb = s.store.wb ∧ others t ∧ t.out = s.out ∧ t.mem = s.mem)) ∧
      ((∀ n ∈ s.ctrlNs c, s.wbOf n = []) → ∃ t, exec (.normalShutdown c) s = Next t ∧ t.nvCtrl c = { x with shst := 2 } ∧ others t ∧
        t.mem = s.mem ∧ ∀ n ∈ s.ctrlNs c, ∀ y, s.ns? n = some y → ∀ k ∈ y.r.stripe, k < 8 → Out.drive k 3 0 0 [] ∈ t.out) ∧
      (∀ q y, Tab.find? x.cqs q = some y →
        (y.agg = 0 → exec (.aggregationTimeExpiry c q) s = Next s) ∧
        (∀ e, y.agg ≠ 0 → Tab.find? (s.fn (ctrlFn c)).msix y.vec = some e → e.masked = false → e.addr ≠ 0 →
          (s.fn (ctrlFn c)).fnMask = false → s.busMaster (ctrlFn c) = true → ∃ t, exec (.aggregationTimeExpiry c q) s = Next t ∧
            t.out = .msix (ctrlFn c) y.vec :: s.out ∧ Tab.find? (t.nvCtrl c).cqs q = some { y with agg := 0 } ∧ t.regs = s.regs)))

/-- A buffered write puts its encrypted block into the buffer and completes; one to the medium goes to the drives, piece by piece, and
so do Write Zeroes and Deallocate for whole stripe units. A read asks the drive; its completion answers with the plaintext, or with an
error. A Flush with nothing buffered completes. A destage sends the block, and a good end removes it from the buffer. DIRTY clears, the
mode follows the hold-up store, a failing drive fails its namespaces, a drive joins with its label. A feed doorbell moves PRODUCER; a
feed descriptor starts its reads or stops with a status; the end of a feed writes its record, counts it and its signal counter, and a
feed that failed leaves zeros. -/
def Obligations.BlocksDrivesAndFeeds : Prop :=
  ∀ (s : State),
    let fw := Master.firmware
    (∀ (h : NvHdr) (q : NvSq) (x : Ns) (k : List Nat) (slba : Nat), NvReady s h q → h.sq ≠ 0 → s.ns? h.nsid = some x →
      s.nsKeyPair h.nsid x = some k → x.deleting = false →
      let place := nsPlace x.r slba
      let key := wbKey h.nsid slba
      (∀ (pt : List Byte) fua, pt.length = 4096 → s.ioStop h slba 1 512 useEnc false true = 0 → Tab.find? s.store.wb key = none →
        (s.buffered x h.ctrl fua = true → s.wbRoom h.nsid slba 1 = true → Memory.wf s.mem = true →
          let addr := s.store.wbBase.getD 0 + 4096 * s.store.freeSlot
          Reachable s fw addr 4096 → ∃ t e, exec (.nvmeWrite h slba 1 fua (some pt) none) s = Next t ∧ NvAnswered h q 0 0 [] t ∧
            Tab.find? t.store.wb key = some e ∧ e.slot = s.store.freeSlot ∧ (t.ns? h.nsid).map (·.r.dirty) = some true ∧
            Stored s addr (cipherBlock k slba pt) t) ∧
        (s.buffered x h.ctrl fua = false → ∃ t c, exec (.nvmeWrite h slba 1 fua (some pt) none) s = Next t ∧ NvTaken h q t ∧
          Tab.find? t.store.cmds s.store.nextCmd = some c ∧ c.ops = 1 ∧ t.mem = s.mem ∧
          t.out = .drive place.1 2 place.2 1 (cipherBlock k slba pt) :: s.out)) ∧
      (∀ fua, s.ioStop h slba 1 65536 useEnc false true = 0 → Tab.find? s.store.wb key = none → s.buffered x h.ctrl fua = false →
        ∃ t c, exec (.writeZeroes h slba 1 fua none) s = Next t ∧ NvTaken h q t ∧ Tab.find? t.store.cmds s.store.nextCmd = some c ∧
          c.ops = 1 ∧ t.mem = s.mem ∧ t.out = .drive place.1 2 place.2 1 (cipherBlock k slba zeroBlock) :: s.out) ∧
      (s.ioStop h slba 1 512 useDec false true = 0 → Tab.find? s.store.wb key = none →
        ∃ t c, exec (.nvmeRead h slba 1 true none) s = Next t ∧ NvTaken h q t ∧ Tab.find? t.store.cmds s.store.nextCmd = some c ∧
          c.op = 2 ∧ c.ops = 1 ∧ Tab.find? t.store.ops s.store.nextOp = some ⟨place.1, 0, slba, 1, h.nsid, .cmd s.store.nextCmd⟩ ∧
          t.out = .drive place.1 0 place.2 1 [] :: s.out ∧ t.regs = s.regs ∧ t.mem = s.mem) ∧
      (s.ioStop h 0 0 (2 ^ 64) useEnc false true = 0 →
        (∃ t, exec (.datasetManagement h false []) s = Next t ∧ NvAnswered h q 0 0 [] t ∧ t.store.ops = s.store.ops ∧ t.mem = s.mem) ∧
        ∀ r, s.ioStop h r.1 r.2 (2 ^ 64) useEnc false true = 0 → wholeUnits r ≠ [] →
          ∃ t, exec (.datasetManagement h true [r]) s = Next t ∧ NvTaken h q t ∧ t.mem = s.mem ∧
            ∀ u ∈ wholeUnits r, Out.drive (nsPlace x.r u).1 4 (nsPlace x.r u).2 32 [] ∈ t.out) ∧
      (h.nsid ≠ 0xFFFFFFFF → s.ioStop h 0 0 512 useEnc false true = 0 →
        (s.wbOf h.nsid = [] → ∃ t, exec (.nvmeFlush h) s = Next t ∧ NvAnswered h q 0 0 [] t ∧ t.store.ops = s.store.ops ∧ t.mem = s.mem) ∧
        ∀ l e, s.wbOf h.nsid = [(wbKey h.nsid l, e)] → e.busy = true → l < 2 ^ 64 → Tab.find? s.store.wb (wbKey h.nsid l) = some e →
          ∃ t c, exec (.nvmeFlush h) s = Next t ∧ NvTaken h q t ∧ Tab.find? t.store.cmds s.store.nextCmd = some c ∧ c.op = 0 ∧
            c.need = [(wbKey h.nsid l, e.ver)] ∧ t.out = s.out ∧ t.mem = s.mem)) ∧
    (∀ n o, Tab.find? s.store.ops n = some o →
      (∀ m c x k q cq data, o.use = .cmd m → o.op = 0 → o.blocks = 1 → Tab.find? s.store.cmds m = some c → c.op = 2 → c.ops = 1 →
        c.nlb = 1 → o.first = c.slba → c.ns = o.ns → c.waits = [] → c.need = [] → c.flush = [] → c.status = 0 → s.ns? o.ns = some x →
        x.deleting = false → s.nsKeyPair o.ns x = some k → Tab.find? (s.nvCtrl c.ctrl).sqs c.sq = some q →
        Tab.find? (s.nvCtrl c.ctrl).cqs q.cq = some cq → cq.held = [] → cq.room = true → s.busMaster (ctrlFn c.ctrl) = true →
        (∃ t, exec (.driveCompletion n true data) s = Next t ∧ t.mem = s.mem ∧
          Out.nvme c.ctrl q.cq c.cid 0 0 (plainBlock k c.slba (data.take 4096)) ∈ t.out) ∧
        (c.got = [] → ∃ t, exec (.driveCompletion n false data) s = Next t ∧ t.mem = s.mem ∧
          t.fld F.NVC_MEDIA_ERRORS = satAdd32 (s.fld F.NVC_MEDIA_ERRORS) 1 ∧
          Out.nvme c.ctrl q.cq c.cid nvReadError 0 zeroBlock ∈ t.out)) ∧
      (∀ key ver e data, o.use = .destage key ver → Tab.find? s.store.wb key = some e → e.ver = ver → s.store.cmds = [] →
        ∃ t, exec (.driveCompletion n true data) s = Next t ∧ t.store.wb = Tab.erase s.store.wb key ∧ t.mem = s.mem)) ∧
    (∀ n l e x, Tab.find? s.store.wb (wbKey n l) = some e → s.ns? n = some x →
      let addr := s.store.wbBase.getD 0 + 4096 * e.slot
      (e.busy = false → s.driveUp (nsPlace x.r l).1 = true → s.coreUp 4 = true → Reachable s fw addr 4096 →
        ∃ t, exec (.destageBlock n l) s = Next t ∧ Tab.find? t.store.wb (wbKey n l) = some { e with busy := true } ∧ t.mem = s.mem ∧
          t.out = .drive (nsPlace x.r l).1 1 (nsPlace x.r l).2 1 (s.readBytes addr 4096) :: s.out) ∧
      (e.busy = true → exec (.destageBlock n l) s = Next s)) ∧
    (∀ n x, s.ns? n = some x →
      (x.r.dirty = true → s.wbOf n = [] → ∃ t, exec (.dirtyClear n) s = Next t ∧
        t.ns? n = some { x with r := { x.r with dirty := false } } ∧ t.store.gen = s.store.gen + 1 ∧ t.store.wb = s.store.wb ∧ t.mem = s.mem) ∧
      (s.wbOf n ≠ [] → exec (.dirtyClear n) s = Next s)) ∧
    (∀ pct energy, pct < 2 ^ 8 → ∃ t, exec (.wbModeChange pct energy) s = Next t ∧ t.fld F.PWR_HOLDUP_CHARGE_PCT = pct ∧
      t.flag F.PWR_STS_HOLDUP_OK = decide (90 ≤ pct) ∧ t.fld F.NVC_WB_STS_MODE =
        if s.store.wbBase.isNone then 0 else if pct < 90 ∨ s.fld F.PWR_STS_BROWNOUT ≠ 0 then 2 else 1) ∧
    (∀ k, k < 8 →
      (s.flag (F.NVC_DRIVE_STS_FAILED k) = false → s.flag (F.NVC_DRIVE_STS_PRESENT k) = true → s.store.ops = [] → s.store.wb = [] →
        ∃ t, exec (.driveFailure k) s = Next t ∧ t.flag (F.NVC_DRIVE_STS_FAILED k) = true ∧ t.flag (F.NVC_DRIVE_STS_UP k) = false ∧
          t.flag (blkNvc.err 16) = true ∧ t.mem = s.mem ∧ ∀ n x, s.ns? n = some x → k ∈ x.r.stripe → (t.ns? n).map (·.st) = some 3) ∧
      (s.flag (F.NVC_DRIVE_STS_FAILED k) = true → ∀ d, s.flag (F.NVC_DRIVE_STS_UP k) = true →
        exec (.driveFailure k) s = Next s ∧ exec (.driveJoin k d) s = Next s) ∧
      (∀ d : DriveInfo, s.halfExists k = true → s.flag (F.NVC_DRIVE_STS_UP k) = false →
        (d.good = true → d.labels = [] → ∃ t, exec (.driveJoin k d) s = Next t ∧ t.flag (F.NVC_DRIVE_STS_PRESENT k) = true ∧
          s.driveUp k = false ∧ t.driveUp k = true ∧ t.flag (F.NVC_DRIVE_STS_BLANK k) = true ∧
          Tab.find? t.store.drives k = some ⟨d.extents, d.info, []⟩ ∧ t.store.ns = s.store.ns ∧ t.mem = s.mem) ∧
        (∀ l, d.good = true → d.labels = [l] → s.store.gen < l.gen → s.mgmt.lostFlush = false → ∃ t, exec (.driveJoin k d) s = Next t ∧
          t.driveUp k = true ∧ t.flag (F.NVC_DRIVE_STS_LABEL_OK k) = true ∧ t.store.gen = l.gen ∧ t.mem = s.mem) ∧
        (d.good = false → ∃ t, exec (.driveJoin k d) s = Next t ∧ t.flag (F.NVC_DRIVE_STS_FAILED k) = true ∧
          t.flag (F.NVC_DRIVE_STS_UP k) = false ∧ t.flag (blkNvc.err 16) = true ∧ t.store = s.store ∧ t.mem = s.mem))) ∧
    (∀ p, p < 16 →
      let r := s.feedRing p
      let log2 := s.fld (F.NVC_FEED_CTRL_RING_LOG2 p)
      (∀ m v,
        (s.feedMaster m p = true → s.flag (F.NVC_FEED_CTRL_ENABLE p) = true → (v + 2 ^ 32 - r.consumer % 2 ^ 32) % 2 ^ 32 ≤ 2 ^ log2 →
          ∃ t, exec (.feedDoorbell m p v) s = Next t ∧ t.feedRing p = { r with producer := v } ∧ t.regs = s.regs ∧ t.mem = s.mem) ∧
        (s.feedMaster m p = true → 2 ^ log2 < (v + 2 ^ 32 - r.consumer % 2 ^ 32) % 2 ^ 32 → exec (.feedDoorbell m p v) s = Next s)) ∧
      (∀ engine, r.producer = r.consumer → exec (.feedRead p engine) s = Next s) ∧
      (let a := s.feedBase p + 64 * (r.consumer % 2 ^ log2)
       let d := ofLe (s.readBytes a 64)
       s.flag (F.NVC_FEED_CTRL_ENABLE p) = true → r.producer ≠ r.consumer → r.feeds.length < 64 → s.flag blkNvc.enable = true →
       s.admits = true → Reachable s fw a 64 →
        (∀ x k, s.ns? (bits d 63 32) = some x → s.feedStop p d = 0 → s.nsKeyPair (bits d 63 32) x = some k → bits d 159 128 = 1 →
          s.wbOf (bits d 63 32) = [] → ∃ t, exec (.feedRead p none) s = Next t ∧ t.mem = s.mem ∧
            (t.feedRing p).consumer = (r.consumer + 1) % 2 ^ 32 ∧ Tab.find? (t.feedRing p).feeds r.consumer = some ⟨d, 1, 0⟩ ∧
            t.out = .drive (nsPlace x.r (bits d 127 64)).1 0 (nsPlace x.r (bits d 127 64)).2 1 [] :: s.out) ∧
        (s.feedStop p d ≠ 0 → ∃ t, exec (.feedRead p none) s = Next t ∧ t.mem = s.mem ∧ t.out = s.out ∧
          Tab.find? (t.feedRing p).feeds r.consumer = some ⟨d, 0, s.feedStop p d⟩)) ∧
      (∀ n x, Tab.find? r.feeds n = some x →
        let addr := s.feedCpl p + 8 * (r.written % 2 ^ log2)
        (x.ops ≠ 0 → exec (.feedComplete p n) s = Next s) ∧
        (x.ops = 0 → x.status = 0 → Memory.wf s.mem = true → Reachable s fw addr 8 → ∃ t, exec (.feedComplete p n) s = Next t ∧
          Stored s addr (leBytes 4 0 ++ leBytes 4 (bits x.desc 31 16)) t ∧ (t.feedRing p).feeds = Tab.erase r.feeds n ∧
          t.fld F.NVC_FEEDS_DONE = satAdd32 (s.fld F.NVC_FEEDS_DONE) 1 ∧ (bits x.desc 8 8 = 1 →
            let f := F.TIL_SIG_CNT (bits x.desc 14 11) (bits x.desc 10 9)
            t.fld f = (s.fld f + 1) % 2 ^ 32)) ∧
        (let lo := bits x.desc 199 160
         let len := 4096 * bits x.desc 159 128
         x.ops = 0 → x.status = feedMedium → s.rangeAllocated (s.fld (F.MOD_PART_CFG_OWNER p)) p lo len = true → Memory.wf s.mem = true →
         Reachable s fw addr 8 → ∃ t, exec (.feedComplete p n) s = Next t ∧
          t.fld F.NVC_FEEDS_FAILED = satAdd32 (s.fld F.NVC_FEEDS_FAILED) 1 ∧ t.readBytes addr 8 = leBytes 4 feedMedium ++ leBytes 4 (bits x.desc 31 16) ∧
          ∀ b, lo ≤ b → b < lo + len → (b < addr ∨ addr + 8 ≤ b) → t.readByte b = 0)))

/-- A link comes up in the forced or the fastest common mode, or goes down and says so. A frame with a bad FCS, too short or too long is
counted and goes nowhere; PAUSE is ignored; a frame whose winning rule delivers it stands in the ring's next slot with its record,
a full ring drops it, and TARGET 0 drops it. PFC pauses and ends pauses. A rule becomes VALID only after its check. Each microsecond
refills the policers, and a written one is full. A doorbell in range moves its pointer. A transmit descriptor queues its frame
and writes its record, or a record with the status that refused it. The scheduler sends the head of the queue whose turn it is. -/
def Obligations.FrontPorts : Prop :=
  ∀ (s : State) (p : Nat), p < 2 →
    let y := s.port p
    let fw := Master.firmware
    let onlyCounts := fun (f : Fld) (t : State) => t.fld f = satAdd32 (s.fld f) 1 ∧ (∀ o, o ≠ f.off → t.reg o = s.reg o) ∧ t.out = s.out ∧
      t.ports = s.ports ∧ t.mem = s.mem
    (∀ optical partner lanes,
      (∃ t, exec (.frontPortLinkChange p false optical partner lanes) s = Next t ∧ t.flag (F.FPP_PORT_STS_UP p) = false ∧
        t.fld (F.FPP_PORT_STS_LANES p) = 0 ∧ (s.flag (F.FPP_PORT_STS_UP p) = true → t.flag ((blkFpp p).err 19) = true) ∧ t.mem = s.mem) ∧
      (∀ k, lanes < 16 → s.flag (blkFpp p).enable = true →
        (if optical then k = s.fld (F.FPP_PORT_CFG_MODE p) else fastMode (s.fld (F.FPP_MODE_ALLOW_MODE_ALLOW p) &&& partner) = some k) →
        ∃ t, exec (.frontPortLinkChange p true optical partner lanes) s = Next t ∧ t.flag (F.FPP_PORT_STS_UP p) = true ∧
          t.fld (F.FPP_PORT_STS_MODE p) = k ∧ t.fld (F.FPP_PORT_STS_LANES p) = lanes ∧
          (∀ o, o ≠ (F.FPP_PORT_STS_UP p).off → t.reg o = s.reg o) ∧ t.out = s.out ∧ t.mem = s.mem) ∧
      (optical = false → fastMode (s.fld (F.FPP_MODE_ALLOW_MODE_ALLOW p) &&& partner) = none →
        ∃ t, exec (.frontPortLinkChange p true optical partner lanes) s = Next t ∧ t.flag (F.FPP_PORT_STS_UP p) = false)) ∧
    (∀ (bs : List Byte) fcs ns bad,
      let max := s.fld (F.FPP_PORT_CFG_MAXFRAME p)
      (s.portRuns p = false → exec (.frameReceive p bs fcs ns bad) s = Next s) ∧
      (s.portRuns p = true →
        (fcs = false ∨ bs.length < 60 → ∃ t, exec (.frameReceive p bs fcs ns bad) s = Next t ∧ onlyCounts (F.FPP_FCS_ERR p) t) ∧
        (fcs = true → 60 ≤ bs.length → max < bs.length + 4 → ∃ t, exec (.frameReceive p bs fcs ns bad) s = Next t ∧
          onlyCounts (F.FPP_OVERSIZE p) t) ∧
        (fcs = true → 60 ≤ bs.length → bs.length + 4 ≤ max → macControl bs = some 1 → ∃ t, exec (.frameReceive p bs fcs ns bad) s = Next t ∧
          t.fld (F.FPP_RX_FRAMES p) = satAdd32 (s.fld (F.FPP_RX_FRAMES p)) 1 ∧
          t.fld (F.FPP_PAUSE_IGNORED p) = satAdd32 (s.fld (F.FPP_PAUSE_IGNORED p)) 1 ∧ t.ports = s.ports ∧ t.mem = s.mem) ∧
        (∀ q r, fcs = true → 60 ≤ bs.length → bs.length + 4 ≤ max → macControl bs = none →
          parseFrame bs (s.fld (F.FPP_PORT_CFG_VXLAN_PORT p)) = some q → s.lookup p q bs = some r → r < 4096 →
          let a := pact (leAt (s.ruleBytes p r) 112 16)
          a.count = none → a.police = none → a.mirror = none → a.decrypt = none → (∀ o ∈ a.ops, o.1 = 0) →
          (a.target = 0 → ∃ t, exec (.frameReceive p bs fcs ns bad) s = Next t ∧ t.ports = s.ports ∧ t.out = s.out ∧ t.mem = s.mem ∧
            t.fld (F.FPP_RULE_DROP p) = satAdd32 (s.fld (F.FPP_RULE_DROP p)) 1) ∧
          (a.target = 1 →
            let x := s.rxEntry p a.index
            let z := Tab.getD y.rx a.index PortRing.init
            let slot := x.area + z.written % 2 ^ x.log2 * 2 ^ x.slotLog2
            let cplAt := x.cpl + 16 * (z.written % 2 ^ x.log2)
            let info : RxInfo := ⟨0, false, false, q.outer.ip.isSome, l4Good bs (q.inner.getD q.outer), false, r, s.modTime * 1000 + ns⟩
            (s.rxRoom p a.index bs.length = none → Memory.wf s.mem = true → Reachable s fw slot bs.length → Reachable s fw cplAt 16 →
              slot + bs.length ≤ cplAt ∨ cplAt + 16 ≤ slot → ∃ t, exec (.frameReceive p bs fcs ns bad) s = Next t ∧
                (∀ b, t.readByte b = if cplAt ≤ b ∧ b < cplAt + 16 then (info.record bs.length).getD (b - cplAt) 0
                  else if slot ≤ b ∧ b < slot + bs.length then bs.getD (b - slot) 0 else s.readByte b) ∧
                (t.port p).rx = Tab.set y.rx a.index { z with written := (z.written + 1) % 2 ^ 32 } ∧
                t.fld (F.FPP_RX_FRAMES p) = satAdd32 (s.fld (F.FPP_RX_FRAMES p)) 1) ∧
            (s.rxRoom p a.index bs.length = some true → ∃ t, exec (.frameReceive p bs fcs ns bad) s = Next t ∧ t.ports = s.ports ∧
              t.fld (F.FPP_RING_FULL p) = satAdd32 (s.fld (F.FPP_RING_FULL p)) 1 ∧ t.flag ((blkFpp p).err 17) = true ∧ t.mem = s.mem))))) ∧
    (∀ c (times : List Nat), c < 8 →
      (s.portRuns p = false → exec (.pfcFrameReceive p (2 ^ c) times) s = Next s) ∧
      (s.portRuns p = true → ∃ t, exec (.pfcFrameReceive p (2 ^ c) times) s = Next t ∧ t.regs = s.regs ∧ t.mem = s.mem ∧
        (times.getD c 0 ≠ 0 → c ∈ (t.port p).paused) ∧ (times.getD c 0 = 0 → (t.port p).paused = y.paused.erase c) ∧
        ∀ k, k ≠ c → (k ∈ (t.port p).paused ↔ k ∈ y.paused))) ∧
    (∀ prio, ∃ t, exec (.pfcPauseExpiry p prio) s = Next t ∧ t.port p = { y with paused := y.paused.erase prio } ∧ t.regs = s.regs ∧
      t.out = s.out ∧ t.mem = s.mem) ∧
    (∀ m r v, s.isSecure m = true → r < 4096 → v < 2 ^ 32 →
      let off := (F.FPP_RULE p r 26).off
      let u := s.setReg off (BitVec.ofNat 32 v)
      (v % 2 = 0 → ∃ t, exec (.ruleValidate m p r v) s = Next t ∧ (t.reg off).toNat = v ∧ (∀ o, o ≠ off → t.reg o = s.reg o) ∧ t.mem = s.mem) ∧
      (v % 2 = 1 → (s.reg off).toNat.testBit 0 = false →
        (u.ruleOk p (u.ruleBytes p r) = true → ∃ t, exec (.ruleValidate m p r v) s = Next t ∧ (t.reg off).toNat = v ∧
          (∀ o, o ≠ off → t.reg o = s.reg o) ∧ t.mem = s.mem) ∧
        (u.ruleOk p (u.ruleBytes p r) = false → ∃ t, exec (.ruleValidate m p r v) s = Next t ∧ (t.reg off).toNat = v - 1 ∧
          t.flag ((blkFpp p).err 16) = true ∧ t.mem = s.mem))) ∧
    (Tab.risingFrom 0 s.regs = true → Tab.risingFrom 0 y.tokens = true → ∃ t, exec (.policerRefill p) s = Next t ∧ t.regs = s.regs ∧ t.out = s.out ∧ t.mem = s.mem ∧
      ∀ i, i < 1024 → s.policerRate p i ≠ 0 → Tab.getD (t.port p).tokens i 0 =
        min (s.policerBurst p i * 2 ^ 20) (Tab.getD y.tokens i 0 + s.policerRate p i * 2 ^ 20 / 1000000)) ∧
    (∀ m i v, s.isSecure m = true → i < 1024 → v < 2 ^ 32 → Tab.risingFrom 0 y.tokens = true → ∃ t, exec (.policerWrite m p i 1 v) s = Next t ∧
      (t.reg (F.FPP_POLICER p i 1).off).toNat = v ∧ Tab.getD (t.port p).tokens i 0 = v % 2 ^ 16 * 2 ^ 20 ∧
      (∀ o, o ≠ (F.FPP_POLICER p i 1).off → t.reg o = s.reg o) ∧ t.mem = s.mem) ∧
    (∀ m r v,
      let x := s.rxEntry p r
      let z := Tab.getD y.rx r PortRing.init
      let xt := s.txEntry p r
      let zt := Tab.getD y.tx r PortRing.init
      (s.ringMaster m x.owner = true →
        ((v + 2 ^ 32 - z.consumer) % 2 ^ 32 ≤ 2 ^ x.log2 → ∃ t, exec (.rxConsumerDoorbell m p r v) s = Next t ∧ t.regs = s.regs ∧
          t.port p = { y with rx := Tab.set y.rx r { z with consumer := v % 2 ^ 32 } } ∧ t.mem = s.mem) ∧
        (2 ^ x.log2 < (v + 2 ^ 32 - z.consumer) % 2 ^ 32 → exec (.rxConsumerDoorbell m p r v) s = Next s)) ∧
      (s.ringMaster m xt.owner = true →
        ((v + 2 ^ 32 - zt.consumer) % 2 ^ 32 ≤ 2 ^ xt.log2 → ∃ t, exec (.txDoorbell m p r v) s = Next t ∧ t.regs = s.regs ∧
          t.port p = { y with tx := Tab.set y.tx r { zt with producer := v % 2 ^ 32 } } ∧ t.mem = s.mem) ∧
        (2 ^ xt.log2 < (v + 2 ^ 32 - zt.consumer) % 2 ^ 32 → exec (.txDoorbell m p r v) s = Next s)) ∧
      (s.ringMaster m x.owner = false → ∃ t, exec (.rxConsumerDoorbell m p r v) s = Next t ∧ (t.port p).rx = y.rx ∧
        t.flag ((blkFpp p).err errGuard) = true ∧ t.mem = s.mem)) ∧
    (∀ r bad,
      let x := s.txEntry p r
      let z := Tab.getD y.tx r PortRing.init
      let da := x.area + 32 * (z.consumer % 2 ^ x.log2)
      let d := ofLe (s.readBytes da 32)
      let a := bits d 39 0
      let n := bits d 53 40
      let cplAt := x.cpl + 8 * (z.written % 2 ^ x.log2)
      let next := Tab.set y.tx r { z with consumer := (z.consumer + 1) % 2 ^ 32, written := (z.written + 1) % 2 ^ 32 }
      (z.producer = z.consumer → exec (.txFrame p r bad) s = Next s) ∧
      (x.on = true → z.producer ≠ z.consumer → s.flag (blkFpp p).enable = true → s.power.failing = false → Memory.wf s.mem = true →
        Reachable s fw da 32 → Reachable s fw cplAt 8 →
        (bits d 127 76 = 0 → bits d 255 160 = 0 → 60 ≤ n → n ≤ 9212 → n + 4 ≤ s.fld (F.FPP_PORT_CFG_MAXFRAME p) → d.testBit 54 = false →
          d.testBit 55 = false → s.rangeAllocated x.owner (if x.owner / 0x4000 = 2 then x.owner % 16 else 16) a n = true →
          s.sealedIn a n = [] → Reachable s fw a n → (s.egPut p x.queue (s.readBytes a n)).2 = true →
          ∃ t, exec (.txFrame p r bad) s = Next t ∧ t.egQueue p x.queue = s.egQueue p x.queue ++ [s.readBytes a n] ∧
            Stored s cplAt (leBytes 4 txOk ++ leBytes 4 (bits d 159 128)) t ∧ (t.port p).tx = next) ∧
        (n < 60 → ∃ t, exec (.txFrame p r bad) s = Next t ∧ (t.port p).queues = y.queues ∧ (t.port p).tx = next ∧
          Stored s cplAt (leBytes 4 txBadDesc ++ leBytes 4 (bits d 159 128)) t))) ∧
    (s.flag (F.FPP_PORT_STS_UP p) = true → s.flag (blkFps p).enable = true → s.power.failing = false →
      (s.egNext p = none → exec (.egressDequeue p) s = Next s) ∧
      ∀ q turn left bs rest, q < 8 → Tab.risingFrom 0 y.queues = true → s.egNext p = some (q, turn, left) → s.egQueue p q = bs :: rest → ∃ t, exec (.egressDequeue p) s = Next t ∧
        t.out = .frame p bs :: s.out ∧ t.egQueue p q = rest ∧ t.fld (F.FPS_TX_PKTS p q) = satAdd32 (s.fld (F.FPS_TX_PKTS p q)) 1 ∧
        (∀ k, k ≠ q → t.egQueue p k = s.egQueue p k) ∧ t.mem = s.mem)

/-- A SEND, WRITE, WRITE with immediate or READ descriptor takes its place among the messages, advances the PSN by its packets, and a
message of one packet stands in the egress queue. An ACK completes the operation it covers, a CNP halves the rate down to its floor, 55
µs raise it by 1 %, and a timeout uses up a retry or ends in TIMEOUT. An inbound SEND stands in the next slot and counts, a WRITE in
the region, a READ is answered with the memory it names, a range outside the region is refused and counted, a gap is refused once,
a bad ICRC is counted. The owner returns slots. A sample goes to its entry of the telemetry ring, is counted where the ring is
full, and the consumer doorbell frees entries. That RoCE layouts follow the IBTA annex is presumed; the packets are built by the
model's own functions. -/
def Obligations.RoceAndTelemetry : Prop :=
  ∀ (s : State),
    (∀ c i d,
      let x := s.ctx c
      let loc := bits d 127 64
      let len := bits d 63 32
      let va := bits d 191 128
      let reth := rethBytes va (bits d 287 256) len
      let bs := s.readBytes loc len
      x.typ = 1 → x.msgs.length < x.maxOut → c ∈ s.gma.cache → x.e2e = false → 0 < len → Reachable s (s.ctxMaster c) loc len →
      let sent := fun (op va : Nat) (t : State) => ∃ m, (t.ctx c).msgs = x.msgs ++ [m] ∧ m.id = x.psnSend ∧ m.opcode = op ∧ m.len = len ∧
        m.remote = va ∧ m.opNo = x.nextOp ∧ (t.ctx c).psnSend = psnAdd x.psnSend (packetsOf x.mtu len) ∧
        (t.ctx c).fetched = x.fetched.drop 1 ∧ t.out = s.out ∧ t.mem = s.mem
      let queued := fun (op : Nat) (hdr pay : List Byte) (t : State) =>
        let k := rocePacket x op x.psnSend true hdr pay
        (s.egPut x.port x.egressQ k).2 = true → t.egQueue x.port x.egressQ = s.egQueue x.port x.egressQ ++ [k]
      (s.headDesc c rSend = some (i, d) → ∃ t, exec (.roceSend c) s = Next t ∧ sent rSend 0 t ∧ (len ≤ x.mtu → queued 4 [] bs t)) ∧
      (s.headDesc c rWrite = some (i, d) → ∃ t, exec (.roceWrite c) s = Next t ∧ sent rWrite va t ∧ (len ≤ x.mtu → queued 0xA reth bs t)) ∧
      (s.headDesc c rWriteImm = some (i, d) → ∃ t, exec (.roceWriteImm c) s = Next t ∧ sent rWriteImm va t ∧
        (len ≤ x.mtu → queued 0xB (reth ++ beOf 4 (bits d 351 320)) bs t)) ∧
      (s.headDesc c rRead = some (i, d) → ∃ t, exec (.roceRead c) s = Next t ∧ sent rRead va t ∧ queued opReadReq reth [] t)) ∧
    (∀ c, s.headDesc c rSend = none → exec (.roceSend c) s = Next s) ∧
    (∀ p srcQp bs q c, RoceArrives s p srcQp .ack bs q c → ∀ m, OnlyMessage s c m → m.opcode ≠ rRead → beAt q.body 0 1 / 32 = 0 →
      psnDiff q.psn (s.ctx c).psnAck < psnDiff (s.ctx c).psnSend (s.ctx c).psnAck → psnGe q.psn (psnAdd m.id (m.space - 1)) = true →
      ∃ t, exec (.roceAckReceive p srcQp bs) s = Next t ∧ OpCounted s c t ∧ (t.ctx c).retries = (s.ctx c).retryCnt ∧ t.mem = s.mem) ∧
    (∀ p srcQp bs q c, RoceArrives s p srcQp .cnp bs q c → ∃ t, exec (.cnpReceive p srcQp bs) s = Next t ∧
      t.ctx c = { s.ctx c with rate := max 100 ((s.ctx c).rate / 2) } ∧ t.regs = s.regs ∧ t.out = s.out ∧ t.mem = s.mem ∧
      ∀ k, k ≠ c → t.ctx k = s.ctx k) ∧
    (∀ p srcQp bs q c, p < 2 → RoceArrives s p srcQp .data bs q c →
      let x := s.ctx c
      let me := s.ctxMaster c
      let a := x.recvBase + x.arriveCnt % 2 ^ x.recvLog2 * 2 ^ x.slotLog2
      let va := beAt q.body 0 8
      let len := beAt q.body 12 4
      x.rxOp = 0 → x.e2e = false → Memory.wf s.mem = true →
      (q.psn = x.psnRecv →
        (q.op = 4 → x.noSlot = false → 0 < q.body.length → q.body.length ≤ 2 ^ x.slotLog2 → Reachable s me a q.body.length →
          ∃ t, exec (.rocePacketReceive p srcQp bs) s = Next t ∧ Stored s a q.body t ∧ (t.ctx c).arriveCnt = (x.arriveCnt + 1) % 2 ^ 48 ∧
            (t.ctx c).psnRecv = psnAdd q.psn 1 ∧ (t.ctx c).msn = psnAdd x.msn 1 ∧ (q.ack = false → t.ports = s.ports ∧ t.regs = s.regs)) ∧
        (q.op = 4 → x.noSlot = true → ∃ t, exec (.rocePacketReceive p srcQp bs) s = Next t ∧ (t.ctx c).psnRecv = x.psnRecv ∧
          (t.ctx c).arriveCnt = x.arriveCnt ∧ t.mem = s.mem) ∧
        (q.op = 0xA → 16 ≤ q.body.length →
          (x.regionOk x.remWrite va (beAt q.body 8 4) len = true → q.body.length = 16 + len → 0 < len →
            Reachable s me (x.regionBase + va) len → ∃ t, exec (.rocePacketReceive p srcQp bs) s = Next t ∧
              Stored s (x.regionBase + va) (q.body.drop 16) t ∧ (t.ctx c).psnRecv = psnAdd q.psn 1 ∧ (t.ctx c).msn = psnAdd x.msn 1 ∧
              (t.ctx c).arriveCnt = x.arriveCnt) ∧
          (x.regionOk x.remWrite va (beAt q.body 8 4) len = false → ∃ t, exec (.rocePacketReceive p srcQp bs) s = Next t ∧
            t.fld (F.GMA_CNT 5) = satAdd32 (s.fld (F.GMA_CNT 5)) 1 ∧ t.flag (blkGma.err 16) = true ∧ (t.ctx c).psnRecv = x.psnRecv ∧
            (t.ctx c).st = .ready ∧ t.mem = s.mem)) ∧
        (q.op = opReadReq → q.body.length = 16 → 0 < len → len ≤ x.mtu → len ≤ 2 ^ 31 → x.regionOk x.remRead va (beAt q.body 8 4) len = true →
          Reachable s me (x.regionBase + va) len →
          let k := rocePacket x 0x10 q.psn false (aethBytes synAck (psnAdd x.msn 1)) (s.readBytes (x.regionBase + va) len)
          ∃ t, exec (.rocePacketReceive p srcQp bs) s = Next t ∧ (t.ctx c).psnRecv = psnAdd q.psn 1 ∧ t.mem = s.mem ∧
            ((s.egPut x.port x.egressQ k).2 = true → t.egQueue x.port x.egressQ = s.egQueue x.port x.egressQ ++ [k]))) ∧
      (q.psn ≠ x.psnRecv → psnGe q.psn x.psnRecv = true → ¬ (0x0D ≤ q.op ∧ q.op ≤ 0x10) →
        (x.gapNak = true → ∃ t, exec (.rocePacketReceive p srcQp bs) s = Next t ∧ t.ctx c = x ∧ t.ports = s.ports ∧ t.mem = s.mem) ∧
        (x.gapNak = false → ∃ t, exec (.rocePacketReceive p srcQp bs) s = Next t ∧ t.ctx c = { x with gapNak := true } ∧ t.mem = s.mem))) ∧
    (∀ p srcQp bs q, p < 2 → rpkt bs (s.fld (F.FPP_PORT_CFG_VXLAN_PORT p)) = some q → q.kind = .data → q.icrc = false →
      ∃ t, exec (.rocePacketReceive p srcQp bs) s = Next t ∧ t.fld (F.FPP_FCS_ERR p) = satAdd32 (s.fld (F.FPP_FCS_ERR p)) 1 ∧
        t.gma = s.gma ∧ t.mem = s.mem) ∧
    (∀ c,
      let x := s.ctx c
      (x.msgs = [] → exec (.roceRetryTimeout c) s = Next s) ∧
      (∀ m, x.typ = 1 → x.retries = 0 → OnlyMessage s c m → x.st = .ready → ∃ t, exec (.roceRetryTimeout c) s = Next t ∧
        (t.ctx c).st = .error ∧ (t.ctx c).errCode = ceTimeout ∧ t.mem = s.mem) ∧
      (∀ m rest, x.typ = 1 → 0 < x.retries → x.msgs = m :: rest → ∃ t, exec (.roceRetryTimeout c) s = Next t ∧
        (t.ctx c).retries = x.retries - 1 ∧ (t.ctx c).st = x.st ∧ (t.ctx c).psnSend = x.psnSend ∧ t.mem = s.mem) ∧
      (x.typ = 1 → ∃ t, exec (.roceRateIncrease c) s = Next t ∧
        t.ctx c = { x with rate := min (s.portRate x.port) (x.rate + s.portRate x.port / 100) } ∧ t.regs = s.regs ∧ t.out = s.out ∧ t.mem = s.mem) ∧
      (x.typ ≠ 1 → exec (.roceRateIncrease c) s = Next s) ∧
      (∀ m v, s.ownsOrFw m x.owner = true →
        ((v + 2 ^ 32 - x.recvConsumed % 2 ^ 32) % 2 ^ 32 ≤ 2 ^ x.recvLog2 → ∃ t, exec (.roceReceiveDoorbell m c v) s = Next t ∧
          t.ctx c = { x with recvConsumed := v % 2 ^ 32 } ∧ t.regs = s.regs ∧ t.mem = s.mem) ∧
        (2 ^ x.recvLog2 < (v + 2 ^ 32 - x.recvConsumed % 2 ^ 32) % 2 ^ 32 → exec (.roceReceiveDoorbell m c v) s = Next s))) ∧
    (∀ i delay depth,
      let id := s.fld (F.TEL_SEL_ID_QUEUE_ID i)
      let addr := s.fld F.TEL_RING_HI * 2 ^ 32 + s.fld F.TEL_RING_LO + 16 * (s.tel.head % 2 ^ s.fld F.TEL_CTRL_RING_LOG2)
      (s.flag F.TEL_CTRL_ENABLE = false → exec (.telSample i delay) s = Next s) ∧
      (s.flag F.TEL_CTRL_ENABLE = true → id ≠ 0 → s.queueDepth id = some depth → s.coreUp 7 = true → (s.tel.us ≠ s.time ∨ s.tel.inUs < 16) →
        s.tel.lost = 0 →
        (s.telFull = false → Memory.wf s.mem = true → Reachable s Master.firmware addr 16 → ∃ t, exec (.telSample i delay) s = Next t ∧
          Stored s addr (leBytes 4 id ++ leBytes 4 depth ++ leBytes 4 (if depth = 0 then 0 else min delay 0xFFFFFFFF) ++ leBytes 4 s.modTime) t ∧
          t.tel.head = s.tel.head + 1 ∧ t.tel.lost = 0) ∧
        (s.telFull = true → ∃ t, exec (.telSample i delay) s = Next t ∧ t.fld F.TEL_SAMPLES_LOST = satAdd32 (s.fld F.TEL_SAMPLES_LOST) 1 ∧
          t.tel.lost = 1 ∧ t.tel.head = s.tel.head ∧ t.mem = s.mem)) ∧
      (s.flag F.TEL_CTRL_ENABLE = true → id ≠ 0 → s.queueDepth id = some depth → s.tel.us = s.time → 16 ≤ s.tel.inUs →
        ∃ t, exec (.telSample i delay) s = Next t ∧ t.fld F.TEL_SAMPLES_SKIPPED = satAdd32 (s.fld F.TEL_SAMPLES_SKIPPED) 1 ∧
          t.tel = s.tel ∧ t.mem = s.mem)) ∧
    (∀ m v,
      let back := apart (s.tel.head % 2 ^ 32) v
      (back ≤ 2 ^ s.fld F.TEL_CTRL_RING_LOG2 → back ≤ s.tel.head → ∃ t, exec (.telConsumerDoorbell m v) s = Next t ∧
        t.tel = { s.tel with consumed := s.tel.head - back } ∧ t.regs = s.regs ∧ t.mem = s.mem) ∧
      (2 ^ s.fld F.TEL_CTRL_RING_LOG2 < back → exec (.telConsumerDoorbell m v) s = Next s))

/-- Input power puts an OFF module into STANDBY. A start that is allowed, that nothing stops and that no unit stalls, with a slot that
verifies, ends at STEP 9 in READY or SERVICE with that slot active and every byte of memory zero; without one it is held in BOOT with
stop code 3. At a step limit the named units are parked and the start goes on. PWR_EN deasserted ends in STANDBY. REFCLK sets and clears
holdover. A circulation core's watchdog restarts it, now or when the librarian is back; it resumes. The librarian's watchdog ends its
sessions; it returns. A trace point with its mask bit records an entry of KIND 2. A deferred activation that is due restarts the module,
waits for a cut, or ends. A recovery bundle goes to slot 0 of a module held with both slots failed. The I3C address is taken in every
state but OFF; the JTAG port acts only while DEBUG_ENABLE is 1. -/
def Obligations.StartFirmwareAndPins : Prop :=
  ∀ (s : State),
    let st := s.fld F.MOD_STS_STATE
    let f := s.mgmt.flash
    let ended := fun (r : StartReport) (t : State) => t.fld F.MOD_STS_STEP = 9 ∧ (t.fld F.MOD_STS_STATE = 5 ∨ t.fld F.MOD_STS_STATE = 6) ∧
      (t.flag F.MOD_STS_READY = true ↔ t.fld F.MOD_STS_STATE = 6) ∧ t.mgmt.start = none ∧ t.fld F.MOD_START_START_MS = r.ms
    (st = 0 → s.power.failing = false → ∃ t, exec .inputApplied s = Next t ∧ t.fld F.MOD_STS_STATE = 1 ∧ t.mem = s.mem ∧
      ∀ o, o ≠ F.MOD_STS_STATE.off → t.reg o = s.reg o) ∧
    (st ≠ 0 → exec .inputApplied s = Next s) ∧
    (∀ r, (st ≠ 1 ∨ s.mgmt.start ≠ none ∨ s.mgmt.held ≠ 0 ∨ s.mgmt.needCycle = true ∨ s.mgmt.leakLow = true →
        exec (.startSequence r) s = Next s) ∧
      (st = 1 → s.mgmt.start = none → s.mgmt.held = 0 → s.mgmt.needCycle = false → s.mgmt.leakLow = false → r.stop.2 = 0 → r.stalls = [] →
        (∀ k fell, s.bootChoice r = some (k, fell) → s.store.ns = [] → r.ms < 2 ^ 16 → ∃ t, exec (.startSequence r) s = Next t ∧
          ended r t ∧ t.mgmt.flash.active = k ∧ t.flag F.FWM_STS_FALLBACK = fell ∧ ∀ a, t.readByte a = 0) ∧
        (s.bootChoice r = none → ∃ t, exec (.startSequence r) s = Next t ∧ t.mgmt.held = 3 ∧ t.mgmt.flash.stop = 3 ∧
          t.fld F.MOD_STS_STATE = 2 ∧ t.fld F.MOD_STS_STEP = 3 ∧ t.mem = s.mem))) ∧
    (s.mgmt.start = none → exec .startStepLimit s = Next s) ∧
    (∀ r, s.mgmt.start = some r → ∀ units, 3 ≤ s.fld F.MOD_STS_STEP → s.fld F.MOD_STS_STEP ≤ 8 → s.mgmt.held = 0 → r.stop.2 = 0 →
      r.ms < 2 ^ 16 → r.stalls = [(s.fld F.MOD_STS_STEP, units)] → s.store.ns = [] → ∃ t, exec .startStepLimit s = Next t ∧ ended r t ∧
        (s.fld F.MOD_STS_STEP ≠ 8 → ∀ i, i < 16 → .tile i ∈ units → (t.fld F.MOD_PARKED0_TILES).testBit i = true)) ∧
    (s.power.failing = false →
      (2 ≤ st → ∃ t, exec .pwrEnDeassert s = Next t ∧ t.fld F.MOD_STS_STATE = 1 ∧ t.mgmt.cause = 1 ∧ t.mgmt.needCycle = false ∧
        t.mgmt.start = none ∧ t.mgmt.held = 0 ∧ ∀ a, t.readByte a = 0) ∧
      (st = 0 → exec .pwrEnDeassert s = Next { s with mgmt := { s.mgmt with needCycle := false } })) ∧
    exec .refclkLoss s = Next { s with mgmt := { s.mgmt with holdover := true } } ∧
    exec .refclkReturn s = Next { s with mgmt := { s.mgmt with holdover := false } } ∧
    (∀ k, k < 8 →
      (s.fld (F.FWM_CORE_STS_STATE k) ≠ 1 → exec (.circWatchdogExpiry k) s = Next s) ∧
      (s.fld (F.FWM_CORE_STS_STATE k) = 1 →
        (s.mgmt.libDown = false → ∃ t, exec (.circWatchdogExpiry k) s = Next t ∧ t.fld (F.FWM_CORE_STS_STATE k) = 2 ∧
          t.fld (F.FWM_CORE_STS_LAST_CAUSE k) = 1 ∧ t.fld (F.FWM_CORE_STS_RESTARTS k) = min 255 (s.fld (F.FWM_CORE_STS_RESTARTS k) + 1) ∧
          t.flag (blkFwm.err 16) = true ∧ t.mgmt.coreDown = s.mgmt.coreDown ++ [k] ∧ t.mem = s.mem) ∧
        (s.mgmt.libDown = true → ∃ t, exec (.circWatchdogExpiry k) s = Next t ∧ t.regs = s.regs ∧ t.mem = s.mem ∧
          t.mgmt = { s.mgmt with waiting := s.mgmt.waiting ++ [(k, 1)] })) ∧
      (k ∉ s.mgmt.coreDown → exec (.coreRestartDone k) s = Next s) ∧
      (k ∈ s.mgmt.coreDown → ∃ t, exec (.coreRestartDone k) s = Next t ∧ t.fld (F.FWM_CORE_STS_STATE k) = 1 ∧
        t.mgmt.coreDown = s.mgmt.coreDown.filter (· ≠ k) ∧ t.mem = s.mem)) ∧
    (s.mgmt.libDown = false → exec .librarianReturn s = Next s ∧ (s.fld (F.FWM_CORE_STS_STATE 8) = 1 →
      ∃ t, exec .libWatchdogExpiry s = Next t ∧ t.mgmt.libDown = true ∧ t.mgmt.sessions = [] ∧ t.trust.sessions = [] ∧
        t.fld (F.FWM_CORE_STS_STATE 8) = 2 ∧ t.flag (blkFwm.err 18) = true ∧ (s.host.moves = [] → t.mem = s.mem))) ∧
    (s.mgmt.libDown = true → exec .libWatchdogExpiry s = Next s ∧ (s.mgmt.owed = [] → s.mgmt.owedRestore = [] → s.mgmt.waiting = [] →
      ∃ t, exec .librarianReturn s = Next t ∧ t.mgmt.libDown = false ∧ t.fld (F.FWM_CORE_STS_STATE 8) = 1 ∧ t.mem = s.mem ∧
        ∀ o, o ≠ (F.FWM_CORE_STS_STATE 8).off → t.reg o = s.reg o)) ∧
    (∀ k n, ((ofLe (s.stored 0x7030 (k + 1))).testBit n = false → exec (.tracePoint k n) s = Next s) ∧
      ((ofLe (s.stored 0x7030 (k + 1))).testBit n = true → s.logFifo.length ≤ 32 → ∃ t e, exec (.tracePoint k n) s = Next t ∧
        t.logFifo = s.logFifo ++ [e] ∧ e.kind = 2 ∧ t.regs = s.regs ∧ t.mem = s.mem)) ∧
    ((f.deferred = false ∨ f.due = none → exec .deferredActivationDue s = Next s) ∧
      (∀ when_, f.deferred = true → f.due = some when_ →
        (s.updBar ≠ 0 → ∃ t, exec .deferredActivationDue s = Next t ∧ t.mgmt.flash = { f with deferred := false, due := none } ∧
          t.mem = s.mem) ∧
        (s.updBar = 0 → st = 7 → exec .deferredActivationDue s = Next s) ∧
        (s.updBar = 0 → st ≠ 7 → ∃ t, exec .deferredActivationDue s = Next t ∧ t.fld F.MOD_STS_STATE = 1 ∧ t.mgmt.cause = 4 ∧
          ∀ a, t.readByte a = 0))) ∧
    (∀ data, (s.mgmt.held ≠ 3 → exec (.recoveryBundle data) s = Next s) ∧
      (∀ i, s.mgmt.held = 3 → s.imageOf false data = some i → ∃ t, exec (.recoveryBundle data) s = Next t ∧
        Tab.find? t.mgmt.flash.slots 0 = some i ∧ t.mgmt.flash.active = 0 ∧ t.mgmt.flash.pending = none ∧ t.mgmt.held = 3 ∧
        t.regs = s.regs ∧ t.mem = s.mem)) ∧
    (∀ a, (st = 0 → exec (.i3cAddressAssign a) s = Next s) ∧
      (st ≠ 0 → exec (.i3cAddressAssign a) s = Next { s with mgmt := { s.mgmt with i3cAddr := some a } })) ∧
    (∀ w addr v, (s.mgmt.debugOn = false → exec (.jtagAccess w addr v) s = Next s) ∧
      (s.mgmt.debugOn = true →
        exec (.jtagAccess true addr v) s = Next (s.busWrite Master.jtag addr (leBytes 4 v.toNat)).1 ∧
        ∃ t x, exec (.jtagAccess false addr v) s = Next t ∧ t.out.head? = some (.readData Master.jtag x) ∧
          ((s.busRead Master.jtag addr 4).2.2 = none → x = ofLe (s.busRead Master.jtag addr 4).2.1) ∧ t.mem = s.mem))

/-- A request that does not reach the dictionary changes nothing. A READ at OFFSET 0 answers the object's value and keeps a snapshot,
from which later segments are served; a missing object, a missing subindex and a missing right abort. A WRITE of a whole value takes
effect, is stored and journaled, or is refused; the first of several segments is kept. DESCRIBE, LIST and CHALLENGE answer; LOGIN with
the key's signature gives the role and uses up the nonce, and with a wrong one fails; LOGOUT ends the role. A connection opens the first
free session of its transport; an idle session closes; a gap discards a transfer and a snapshot; a bar ends. -/
def Obligations.DictionaryServices : Prop :=
  ∀ (s : State) (d : DHdr),
    let x := s.sess d.sess
    let st := s.fld F.MOD_STS_STATE
    (s.dictReaches d.sess = false → ∀ data sig tok, exec (.dictRead d) s = Next s ∧ exec (.dictWrite d data) s = Next s ∧
      exec (.describe d) s = Next s ∧ exec (.list d) s = Next s ∧ exec (.dictChallenge d) s = Next s ∧
      exec (.login d data sig tok) s = Next s ∧ exec (.logout d) s = Next s) ∧
    (s.dictReaches d.sess = true →
      (∀ r, d.off = 0 → objRow d.idx d.sub = some r → readBar x r = 0 → s.stateBar false d.idx = 0 →
        let v := s.objValue d.idx d.sub
        ∃ t, exec (.dictRead d) s = Next t ∧ DictAnswered d svcRead 0 v.length (v.take (min d.total (segmentMost x.transport))) t ∧
          (t.sess d.sess).snap = some (d.idx, d.sub, v) ∧ t.dict = s.dict ∧ t.mem = s.mem) ∧
      (∀ r, d.off = 0 → objRow d.idx d.sub = some r → readBar x r ≠ 0 →
        ∃ t, exec (.dictRead d) s = Next t ∧ DictAnswered d svcRead (readBar x r) 0 [] t ∧ t.dict = s.dict ∧ t.mem = s.mem) ∧
      (d.off = 0 → indexExists d.idx = false →
        ∃ t, exec (.dictRead d) s = Next t ∧ DictAnswered d svcRead abNoObject 0 [] t ∧ t.dict = s.dict ∧ t.mem = s.mem) ∧
      (d.off = 0 → indexExists d.idx = true → d.sub ≠ 0 → objRow d.idx d.sub = none →
        ∃ t, exec (.dictRead d) s = Next t ∧ DictAnswered d svcRead abNoSub 0 [] t ∧ t.dict = s.dict ∧ t.mem = s.mem) ∧
      (d.off ≠ 0 →
        (∀ v, x.snap = some (d.idx, d.sub, v) → ∃ t, exec (.dictRead d) s = Next t ∧ t.mem = s.mem ∧
          DictAnswered d svcRead 0 v.length ((v.drop d.off).take (min d.total (segmentMost x.transport))) t) ∧
        (x.snap = none → ∃ t, exec (.dictRead d) s = Next t ∧ t.mem = s.mem ∧ DictAnswered d svcRead abSequence 0 [] t)) ∧
      (∀ data, x.xfer = none → d.off = 0 → data.length ≤ d.total →
        let bar := s.segmentBar x d data.length
        (bar ≠ 0 → ∃ t, exec (.dictWrite d data) s = Next t ∧ WriteRefused s d bar t) ∧
        (∀ r, bar = 0 → objRow d.idx d.sub = some r → data.length < d.total →
          ∃ t, exec (.dictWrite d data) s = Next t ∧ DictAnswered d svcWrite 0 d.total [] t ∧
            (t.sess d.sess).xfer = some (d.idx, d.sub, d.total, data) ∧ t.dict = s.dict ∧ t.mem = s.mem)) ∧
      (∀ data r, MayWrite s d data r → d.idx = 0x2003 → d.sub = 1 →
        (85 ≤ ofLe data → ofLe data ≤ 100 → Tab.risingFrom 0 s.dict = true → ∃ t, exec (.dictWrite d data) s = Next t ∧
          WriteTaken d data [] t ∧ t.fld F.THM_CFG_THROTTLE_C = ofLe data ∧ t.stored 0x2003 1 = data ∧
          t.mgmt.auditSeq = (s.mgmt.auditSeq + 1) % 2 ^ 32 ∧ t.mem = s.mem) ∧
        (ofLe data < 85 ∨ 100 < ofLe data → ∃ t, exec (.dictWrite d data) s = Next t ∧ WriteRefused s d abRange t)) ∧
      (∀ r, 5 ≤ st → objRow d.idx d.sub = some r → ∃ t, exec (.describe d) s = Next t ∧
        DictAnswered d svcDescribe 0 12 (describeBytes r.ty.code r.rd r.wr r.pers r.dflt) t ∧ t.mem = s.mem) ∧
      (5 ≤ st →
        let bs := (pairsAfter d.idx d.sub).flatMap (fun p => leBytes 2 p.1 ++ leBytes 1 p.2 ++ [0])
        ∃ t, exec (.list d) s = Next t ∧ DictAnswered d svcList 0 bs.length bs t ∧ t.mem = s.mem) ∧
      (st < 5 → (∃ t, exec (.describe d) s = Next t ∧ DictAnswered d svcDescribe abModuleState 0 [] t) ∧
        ∃ t, exec (.list d) s = Next t ∧ DictAnswered d svcList abModuleState 0 [] t) ∧
      (∃ t nonce, exec (.dictChallenge d) s = Next t ∧ nonce.length = 48 ∧ (t.sess d.sess).nonce = some nonce ∧
        DictAnswered d svcChallenge 0 48 nonce t ∧ t.mem = s.mem) ∧
      (∀ data tok, data.length = 130 → leAt data 0 1 = 1 →
        let slot := leAt data 1 1
        let key := s.stored 0x5020 slot
        1 ≤ slot → slot ≤ 8 → allZero key = false → key.take 32 = (data.drop 2).take 32 → x.transport ∉ s.mgmt.bars → x.nonce ≠ none →
          (∃ t, exec (.login d data true tok) s = Next t ∧ DictAnswered d svcLogin 0 0 [] t ∧ (t.sess d.sess).role = 1 ∧
            (t.sess d.sess).slot = slot ∧ (t.sess d.sess).ident = (data.drop 2).take 32 ∧ (t.sess d.sess).nonce = none ∧ t.mem = s.mem ∧
            t.mgmt.auditSeq = (s.mgmt.auditSeq + 1) % 2 ^ 32) ∧
          (∃ t, exec (.login d data false tok) s = Next t ∧ DictAnswered d svcLogin abAuthFail 0 [] t ∧
            (t.sess d.sess).role = x.role ∧ (t.sess d.sess).nonce = none ∧ t.mem = s.mem)) ∧
      (5 ≤ st →
        (x.role ≠ 0 → ∃ t, exec (.logout d) s = Next t ∧ DictAnswered d svcLogout 0 0 [] t ∧ (t.sess d.sess).role = 0 ∧
          (t.sess d.sess).rights = 0 ∧ t.mem = s.mem) ∧
        (x.role = 0 → ∃ t, exec (.logout d) s = Next t ∧ DictAnswered d svcLogout abNotAuth 0 [] t ∧ t.mem = s.mem))) ∧
    (∀ k n, s.mgmt.libDown = false → 3 ≤ st → s.mgmt.held = 0 →
      let ns := if k = 1 then (List.range 8).map (· + 1) else [9, 10]
      (ns.find? (fun n => (Tab.find? s.mgmt.sessions n).isNone) = some n → ∃ t, exec (.sessionOpen k) s = Next t ∧
        Tab.find? t.mgmt.sessions n = some { Sess.init with transport := k, opened := s.modTime } ∧ t.regs = s.regs ∧ t.mem = s.mem) ∧
      ((∀ n ∈ ns, (Tab.find? s.mgmt.sessions n).isSome = true) → exec (.sessionOpen k) s = Next s)) ∧
    (∀ n, (Tab.risingFrom 0 s.mgmt.sessions = true → ∃ t, exec (.sessionIdleTimeout n) s = Next t ∧
        Tab.find? t.mgmt.sessions n = none ∧ t.dict = s.dict ∧ t.mem = s.mem ∧
        ∀ k, k ≠ n → Tab.find? t.mgmt.sessions k = Tab.find? s.mgmt.sessions k) ∧
      (Tab.find? s.mgmt.sessions n = none → exec (.segmentGapTimeout n) s = Next s) ∧
      (∀ y, Tab.find? s.mgmt.sessions n = some y → ∃ t, exec (.segmentGapTimeout n) s = Next t ∧ t.dict = s.dict ∧ t.mem = s.mem ∧
        Tab.find? t.mgmt.sessions n = some { y with xfer := none, snap := none })) ∧
    (∀ k, exec (.loginBarExpiry k) s = Next { s with mgmt := { s.mgmt with bars := s.mgmt.bars.filter (· ≠ k) } })

/-- A write that the session may make acts as its object's chapter says, or is refused with that chapter's code: the scrub, EDDY, the
injector and the route tables; a drive's fresh label, a namespace created, deleted, attached, bound to a key and cleared of LOST; a job
slot formed, a partition created, a round triggered, a restore begun; a VF created and destroyed; the module and a circulation core
restarted; an image staged, committed, activated and cancelled; the time set, debug enabled and the credentials erased. -/
def Obligations.DictionaryActions : Prop :=
  ∀ (s : State) (d : DHdr) (data : List Byte) (r : ObjRow), MayWrite s d data r →
    let x := s.sess d.sess
    let v := ofLe data
    let n := d.sub - 1
    let f := s.mgmt.flash
    -- diagnostics and the fabric
    (v = 1 →
      let a := s.storedNat 0xA111 1
      let len := s.storedNat 0xA111 2
      (scrubberOf a = none → ∃ t, exec (.scrubGo d data) s = Next t ∧ WriteRefused s d abInconsistent t) ∧
      (∀ shelf i, scrubberOf a = some (shelf, i) → s.mgmt.scrub = none → s.flag (memFld (memBlk shelf i) 0x11C 0 0) = false →
        (s.scrubParked shelf i a len = true → ∃ t, exec (.scrubGo d data) s = Next t ∧ WriteRefused s d abParked t) ∧
        (s.scrubParked shelf i a len = false → s.scrubAllowed shelf i a len (s.fwGranule * 2 ^ 30) = true →
          ∃ t, exec (.scrubGo d data) s = Next t ∧ WriteTaken d data [] t ∧ t.mgmt.scrub = some (shelf, i) ∧ t.mem = s.mem))) ∧
    (n < 48 →
      (s.linkAbsent n = false → regFits (F.MYL_EDDY_MODE n).off v = true → ∃ t, exec (.dictEddy d data) s = Next t ∧
        WriteTaken d data [] t ∧ t.reg (F.MYL_EDDY_MODE n).off = BitVec.ofNat 32 v ∧ t.mem = s.mem) ∧
      (s.linkAbsent n = true → regFits (F.MYL_EDDY_MODE n).off v = true → ∃ t, exec (.dictEddy d data) s = Next t ∧
        WriteRefused s d abParked t) ∧
      (s.linkAbsent n = false → v.testBit 31 = false → regFits (F.FIN_LINK_CTRL_ARM n).off (v % 2 ^ 32) = true →
        regFits (F.FIN_LINK_PARAM_PARAM n).off (v / 2 ^ 32) = true → ∃ t, exec (.dictFaultInject d data) s = Next t ∧
          WriteTaken d data [] t ∧ t.mem = s.mem)) ∧
    (∀ tables, (s.coreUp 2 = false → exec (.routeTables d data tables) s = Next s) ∧
      (s.coreUp 2 = true → s.coreUp 5 = true →
        (s.flag F.MYR_ROUTE_CTRL_SWAP = false → ∃ t, exec (.routeTables d data tables) s = Next t ∧ WriteTaken d data [] t ∧
          t.mgmt.tables = some tables ∧ t.flag F.MYR_ROUTE_CTRL_SWAP = true ∧ t.mem = s.mem) ∧
        (s.flag F.MYR_ROUTE_CTRL_SWAP = true → ∃ t, exec (.routeTables d data tables) s = Next t ∧ WriteRefused s d abBusy t))) ∧
    -- storage
    (v < 8 → s.driveUp v = true →
      (s.driveTaken v = [] → ∃ t, exec (.driveFormat d data) s = Next t ∧ WriteTaken d data [] t ∧ t.flag (F.NVC_DRIVE_STS_BLANK v) = false ∧
        t.flag (F.NVC_DRIVE_STS_LABEL_OK v) = true ∧ t.store.gen = s.store.gen + 1 ∧ t.mem = s.mem) ∧
      (s.driveTaken v ≠ [] → ∃ t, exec (.driveFormat d data) s = Next t ∧ WriteRefused s d abInconsistent t)) ∧
    (∀ a, a.extents ≠ 0 → a.stripe ≠ [] → a.keySource ≤ 2 →
      (classRole x.role a.durable = false → ∃ t, exec (.nsCreate d data a) s = Next t ∧ WriteRefused s d abRole t) ∧
      (classRole x.role a.durable = true → ((a.stripe.zip (a.stripe.drop 1)).all (fun p => decide (p.1 < p.2))) = true →
        s.freeNsid ≠ none → a.durable = false →
        (∀ k ∈ a.stripe, s.driveUp k = true ∧ s.flag (F.NVC_DRIVE_STS_BLANK k) = false ∧ a.extents ≤ (s.driveFree k).length) →
          ∃ t i y, exec (.nsCreate d data a) s = Next t ∧ WriteTaken d data (leBytes 4 i) t ∧ s.ns? i = none ∧ t.ns? i = some y ∧
            y.r.durable = a.durable ∧ y.r.keySource = a.keySource ∧ y.r.job = a.job ∧ y.r.stripe = a.stripe ∧ y.r.ctrl = 0 ∧ t.mem = s.mem)) ∧
    (s.ns? v = none → (∃ t, exec (.nsDelete d data) s = Next t ∧ WriteRefused s d abInconsistent t) ∧
      ∃ t, exec (.nsClearLost d data) s = Next t ∧ WriteRefused s d abInconsistent t) ∧
    (∀ y, s.ns? v = some y →
      (y.deleting = false → classRole x.role y.r.durable = true → Tab.risingFrom 0 s.store.ns = true →
        ∃ t, exec (.nsDelete d data) s = Next t ∧ (∀ z, t.ns? v = some z → z.deleting = true) ∧ t.mem = s.mem) ∧
      (∃ t z, exec (.nsClearLost d data) s = Next t ∧ WriteTaken d data [] t ∧ t.ns? v = some z ∧ z.r.lost = false ∧ t.mem = s.mem)) ∧
    (∀ i y, s.ns? i = some y → y.deleting = false →
      (∀ c, c ≠ 0 → s.ctrlExists c = true → y.r.ctrl = 0 → ∃ t z, exec (.nsAttach d data i c) s = Next t ∧ WriteTaken d data [] t ∧
        t.ns? i = some z ∧ z.r.ctrl = c ∧ z.r.owner = fnOwner (ctrlFn c) ∧ t.mem = s.mem) ∧
      (y.r.ctrl ≠ 0 → ∃ t z, exec (.nsAttach d data i 0) s = Next t ∧ WriteTaken d data [] t ∧ t.ns? i = some z ∧ z.r.ctrl = 0 ∧
        t.mem = s.mem) ∧
      (∀ page, y.r.keySource ≠ 0 →
        (s.pageSt page ≠ pageLoaded → ∃ t, exec (.nsKeyBind d data i page) s = Next t ∧ WriteRefused s d abInconsistent t) ∧
        (s.pageSt page = pageLoaded → s.bindAllowed y page = true → ∃ t z, exec (.nsKeyBind d data i page) s = Next t ∧
          WriteTaken d data [] t ∧ t.ns? i = some z ∧ z.page = some page ∧ t.mem = s.mem))) ∧
    -- jobs, partitions, checkpoints and VFs
    (n < 16 →
      (s.fld (F.MOD_CKPT_STS_PHASE n) = 0 → (s.ck n).round.active = false →
        (∀ notice follow, ∃ t, exec (.jobGroup d data 0 notice follow []) s = Next t ∧ WriteTaken d data [] t ∧
          t.flag (F.MOD_JOB_CFG_ENABLE n) = false ∧ t.mem = s.mem) ∧
        (∀ job notice follow ms, 0 < job → job < 2 ^ 32 → notice < 4096 → s.ownModule ∈ ms → (∀ m ∈ ms, m < 2 ^ 20) →
          ((ms.zip (ms.drop 1)).all (fun p => decide (p.1 < p.2))) = true →
          (∀ k, k < 16 → k ≠ n → s.flag (F.MOD_JOB_CFG_ENABLE k) = true → s.jobId k ≠ job) →
          ∃ t, exec (.jobGroup d data job notice follow ms) s = Next t ∧ WriteTaken d data [] t ∧ t.flag (F.MOD_JOB_CFG_ENABLE n) = true ∧
            t.jobId n = job ∧ (t.slot n).members = ms ∧ t.fld (F.MOD_JOB_CFG_NOTICE_GROUP n) = notice ∧
            t.fld (F.MOD_JOB_STS_STATE n) = slotForming ∧ t.fld (F.MOD_JOB_COORD n) = ms.headD 0 ∧ t.mem = s.mem)) ∧
      (v = 1 →
        (s.ckOn n = false → ∃ t, exec (.ckptTrigger d data) s = Next t ∧ WriteRefused s d abInconsistent t) ∧
        (s.roundAllowed n = true → (s.ck n).round.active = false → ∃ t, exec (.ckptTrigger d data) s = Next t ∧ WriteTaken d data [] t ∧
          (t.ck n).round.active = true ∧ t.mem = s.mem) ∧
        (s.roundAllowed n = true → (s.ck n).round.active = true → ∃ t, exec (.ckptTrigger d data) s = Next t ∧ WriteRefused s d abBusy t))) ∧
    (∀ owner q g, (List.range 128).find? (fun f => decide (fnOwner f = owner) && s.fnPresent f) = some g →
      s.fld (F.MOD_PART_TILES_TILES q.p) = 0 →
        (s.partCheck g q ≠ 0 → ∃ t, exec (.partition d data owner q) s = Next t ∧ WriteRefused s d (s.partCheck g q) t) ∧
        (s.partCheck g q = 0 → q.sealIt = false → q.p < 16 → q.tiles < 2 ^ 16 → s.flag (F.MOD_PART_CFG_ENABLE q.p) = false →
          ∃ t, exec (.partition d data owner q) s = Next t ∧ WriteTaken d data [] t ∧ t.fld (F.MOD_PART_TILES_TILES q.p) = q.tiles ∧
            t.fld (F.MOD_PART_CFG_OWNER q.p) = fnOwner g ∧ t.flag (F.MOD_PART_CFG_ENABLE q.p) = true ∧ t.mem = s.mem)) ∧
    (∀ j job coord replica gen staging length manifests, j < 16 →
      (s.ckOn j = false → ∃ t, exec (.restore d data j job coord replica gen staging length manifests) s = Next t ∧
        WriteRefused s d abInconsistent t) ∧
      (s.ckOn j = true → s.ckPhase j ≠ 0 → ∃ t, exec (.restore d data j job coord replica gen staging length manifests) s = Next t ∧
        WriteRefused s d abBusy t) ∧
      (s.ckOn j = true → s.ckPhase j = 0 → (s.ck j).round.active = false →
        ∃ t, exec (.restore d data j job coord replica gen staging length manifests) s = Next t ∧ WriteTaken d data [] t ∧ t.ckPhase j = 5 ∧
          t.flag (F.MOD_CKPT_STS_HOLD j) = true ∧ (t.ck j).restore ≠ none ∧ t.mem = s.mem)) ∧
    (data.length = 176 →
      (s.vfCreateCode data ≠ 0 → ∃ t, exec (.dictVfCreate d data) s = Next t ∧ WriteRefused s d (s.vfCreateCode data) t) ∧
      (s.vfCreateCode data = 0 → ∃ t, exec (.dictVfCreate d data) s = Next t ∧ WriteTaken d data [] t ∧
        Tab.find? t.host.pools.sets (vfFn (leAt data 1 1) (leAt data 0 1)) = some ((data.drop 2).take 164) ∧ t.mem = s.mem)) ∧
    (2 ≤ v → v < 128 →
      (s.vfSet v = none → ∃ t, exec (.dictVfDestroy d data) s = Next t ∧ WriteRefused s d abNoResource t) ∧
      (∀ q, s.vfSet v = some q → s.vfSt v ≠ vfMoving → (∀ p ∈ s.partsOwned v, s.flag (F.MOD_PART_CFG_ACTIVE p) = false) →
        ∃ t, exec (.dictVfDestroy d data) s = Next t ∧ WriteTaken d data [] t ∧ t.host.pools.sets = Tab.erase s.host.pools.sets v ∧
          ∀ a, q.covers a → t.readByte a = 0)) ∧
    -- restart and firmware
    (v = 1 →
      let stopped := fun (t : State) => t.fld F.MOD_STS_STATE = 1 ∧ t.mgmt.cause = 4 ∧ (∀ a, t.readByte a = 0) ∧
        (d.sess ≠ 0 → WriteTaken d data [] t)
      (s.flag F.MOD_STS_MOVING = true → ∃ t, exec (.restart d data) s = Next t ∧ WriteRefused s d abMoving t) ∧
      (s.flag F.MOD_STS_MOVING = false → s.cutHeld = true → ∃ t, exec (.restart d data) s = Next t ∧ WriteRefused s d abCut t) ∧
      (s.flag F.MOD_STS_MOVING = false → s.cutHeld = false → ∃ t, exec (.restart d data) s = Next t ∧ stopped t) ∧
      (s.activateWhy ≠ 0 → ∃ t, exec (.activate d data) s = Next t ∧ WriteRefused s d (refusalCode s.activateWhy) t ∧
        t.fld F.FWM_STS_LAST_REFUSAL = s.activateWhy ∧ t.mgmt.flash = f) ∧
      (s.activateWhy = 0 → s.activatesNow = true → ∃ t, exec (.activate d data) s = Next t ∧ stopped t) ∧
      (s.activateWhy = 0 → s.activatesNow = false → ∃ t, exec (.activate d data) s = Next t ∧ WriteTaken d data [] t ∧
        t.mgmt.flash = { f with deferred := true } ∧ t.mem = s.mem) ∧
      (∃ t, exec (.cancel d data) s = Next t ∧ WriteTaken d data [] t ∧ t.mgmt.flash.deferred = false ∧ t.mgmt.flash.pending = none ∧
        t.mgmt.flash.catPending = none ∧ t.mgmt.flash.slots = f.slots ∧ t.mem = s.mem) ∧
      (s.trust.sealed = [] → ∃ t, exec (.debugEnable d data) s = Next t ∧ WriteTaken d data [] t ∧ t.mgmt.debugOn = true ∧
        t.dict = s.dict ∧ t.mem = s.mem) ∧
      (s.trust.sealed ≠ [] → ∃ t, exec (.debugEnable d data) s = Next t ∧ WriteRefused s d abSealed t ∧
        t.mgmt.debugOn = s.mgmt.debugOn) ∧
      (∃ t, exec (.credentialReset d data) s = Next t ∧ WriteTaken d data [] t ∧ t.mem = s.mem ∧
        (∀ i, i < 256 → Tab.find? t.dict (dictKey 0x5020 i) = none ∧ Tab.find? t.dict (dictKey 0x5021 i) = none) ∧
        ∀ p ∈ t.mgmt.sessions, p.2.role = 0)) ∧
    (v < 8 →
      (v ∈ s.mgmt.coreDown → ∃ t, exec (.coreRestart d data) s = Next t ∧ WriteRefused s d abBusy t) ∧
      (v ∉ s.mgmt.coreDown → s.fld (F.FWM_CORE_STS_STATE v) = 1 → ∃ t, exec (.coreRestart d data) s = Next t ∧ WriteTaken d data [] t ∧
        t.fld (F.FWM_CORE_STS_STATE v) = 2 ∧ t.fld (F.FWM_CORE_STS_LAST_CAUSE v) = 3 ∧ t.mgmt.coreDown = s.mgmt.coreDown ++ [v] ∧
        t.mem = s.mem)) ∧
    (s.imageWhy false data = 0 → ∃ t i, exec (.bundleImage d data) s = Next t ∧ WriteTaken d data [] t ∧ s.imageOf false data = some i ∧
      Tab.find? t.mgmt.flash.slots (1 - f.active) = some i ∧ t.mgmt.flash.staged = true ∧ t.mgmt.flash.pending = none ∧
      t.mgmt.flash.active = f.active ∧ t.mem = s.mem) ∧
    (s.imageWhy false data ≠ 0 → ∃ t, exec (.bundleImage d data) s = Next t ∧
      WriteRefused s d (refusalCode (s.imageWhy false data)) t ∧ t.fld F.FWM_STS_LAST_REFUSAL = s.imageWhy false data ∧ t.mgmt.flash = f) ∧
    (s.imageWhy true data = 0 → ∃ t i, exec (.catalogueImage d data) s = Next t ∧ WriteTaken d data [] t ∧ s.imageOf true data = some i ∧
      Tab.find? t.mgmt.flash.cats (1 - f.catActive) = some i ∧ t.mgmt.flash.catStaged = true ∧ t.mgmt.flash.catPending = none ∧ t.mem = s.mem) ∧
    (s.imageWhy true data ≠ 0 → ∃ t, exec (.catalogueImage d data) s = Next t ∧
      WriteRefused s d (refusalCode (s.imageWhy true data)) t ∧ t.mgmt.flash = f) ∧
    (v = 1 →
      (f.staged = false → f.pending = none → ∃ t, exec (.commit d data) s = Next t ∧ WriteRefused s d abInconsistent t) ∧
      (f.staged = true → s.commitWhy ≠ 0 → ∃ t, exec (.commit d data) s = Next t ∧ WriteRefused s d (refusalCode s.commitWhy) t ∧
        t.fld F.FWM_STS_LAST_REFUSAL = s.commitWhy ∧ t.mgmt.flash = f) ∧
      (f.staged = true → s.commitWhy = 0 → ∃ t, exec (.commit d data) s = Next t ∧ WriteTaken d data [] t ∧
        t.mgmt.flash = { f with pending := some (1 - f.active), staged := false } ∧ t.mem = s.mem)) ∧
    -- time
    (∃ t, exec (.moduleTime d data) s = Next t ∧ WriteTaken d data [] t ∧ t.mgmt.timeSet = true ∧ t.modTime = v ∧ t.mem = s.mem)

/-- From every state of the form, whether a run reaches it or not, a step of any command, or of the empty queue, gives a state of the
form: memory lists its bytes in rising order and no zero byte; the tables of registers, objects, queue contexts, functions, namespaces
and sessions list each number once, in rising order; the FIFO before the log ring holds at most 64 entries, the audit journal at most
16,384 records with a sequence number of 32 bits, the security log 256, the power log 64 and the violation log 64. -/
def Obligations.StepKeepsForm : Prop := ∀ s t : State, FormOk s → step s = Next t → FormOk t
end

