-- ==== Sys2Proof/Laws/Tab.lean ====
section
/-!
SUPPORT. Sparse tables: reading after writing, and the canonical form.
-/
namespace Sys2Proof.Machine

@[simp] theorem Tab.find?_set {α : Type} (t : Tab α) (k j : Nat) (v : α) :
    Tab.find? (Tab.set t k v) j = if j = k then some v else Tab.find? t j := by
  induction t with
  | nil => simp [Tab.set, Tab.find?]
  | cons p t ih =>
    obtain ⟨i, w⟩ := p
    simp only [Tab.set]
    split
    · rfl
    · split
      · next h => subst h; simp only [Tab.find?]; split <;> rfl
      · simp only [Tab.find?, ih]; grind

@[simp] theorem Tab.getD_set {α : Type} (t : Tab α) (k j : Nat) (v d : α) :
    Tab.getD (Tab.set t k v) j d = if j = k then v else Tab.getD t j d := by
  simp only [Tab.getD, Tab.find?_set]; split <;> rfl

theorem Tab.risingFrom_mono {α : Type} {t : Tab α} {b c : Nat} (h : Tab.risingFrom c t = true) (hb : b ≤ c) :
    Tab.risingFrom b t = true := by
  cases t with
  | nil => rfl
  | cons p t => simp only [Tab.risingFrom, Bool.and_eq_true, decide_eq_true_eq] at *; exact ⟨by omega, h.2⟩

theorem Tab.find?_of_rising {α : Type} {t : Tab α} {b k : Nat} (h : Tab.risingFrom b t = true) (hk : k < b) :
    Tab.find? t k = none := by
  induction t generalizing b with
  | nil => rfl
  | cons p t ih =>
    simp only [Tab.risingFrom, Bool.and_eq_true, decide_eq_true_eq] at h
    have : k ≠ p.1 := by omega
    simp only [Tab.find?, this, if_false]; exact ih h.2 (by omega)

theorem Tab.risingFrom_set {α : Type} {t : Tab α} {b k : Nat} {v : α} (h : Tab.risingFrom b t = true) (hb : b ≤ k) :
    Tab.risingFrom b (Tab.set t k v) = true := by
  induction t generalizing b with
  | nil => simp [Tab.set, Tab.risingFrom, hb]
  | cons p t ih =>
    simp only [Tab.risingFrom, Bool.and_eq_true, decide_eq_true_eq] at h
    simp only [Tab.set]
    split
    · simp only [Tab.risingFrom, Bool.and_eq_true, decide_eq_true_eq]; exact ⟨hb, by omega, h.2⟩
    · split
      · next hk => subst hk; simp only [Tab.risingFrom, Bool.and_eq_true, decide_eq_true_eq]; exact ⟨hb, h.2⟩
      · simp only [Tab.risingFrom, Bool.and_eq_true, decide_eq_true_eq]; exact ⟨h.1, ih h.2 (by omega)⟩

theorem Tab.risingFrom_erase {α : Type} {t : Tab α} {b : Nat} (k : Nat) (h : Tab.risingFrom b t = true) :
    Tab.risingFrom b (Tab.erase t k) = true := by
  induction t generalizing b with
  | nil => rfl
  | cons p t ih =>
    simp only [Tab.risingFrom, Bool.and_eq_true, decide_eq_true_eq] at h
    simp only [Tab.erase]
    split
    · exact Tab.risingFrom_mono h.2 (by omega)
    · simp only [Tab.risingFrom, Bool.and_eq_true, decide_eq_true_eq]; exact ⟨h.1, ih h.2⟩

theorem Tab.all_set {α : Type} {t : Tab α} {p : Nat × α → Bool} {k : Nat} {v : α} (h : t.all p = true)
    (hv : p (k, v) = true) : (Tab.set t k v).all p = true := by
  induction t with
  | nil => simp [Tab.set, hv]
  | cons q t ih =>
    simp only [List.all_cons, Bool.and_eq_true] at h
    simp only [Tab.set]
    split
    · simp [hv, h.1, h.2]
    · split <;> simp_all

theorem Tab.all_erase {α : Type} {t : Tab α} {p : Nat × α → Bool} (k : Nat) (h : t.all p = true) :
    (Tab.erase t k).all p = true := by
  induction t with
  | nil => rfl
  | cons q t ih =>
    simp only [List.all_cons, Bool.and_eq_true] at h
    simp only [Tab.erase]
    split
    · exact h.2
    · simp [h.1, ih h.2]

/-- Every write keeps the canonical form. -/
theorem Tab.canonical_put {α : Type} [DecidableEq α] {t : Tab α} {d : α} (k : Nat) (v : α)
    (h : Tab.canonical t d = true) : Tab.canonical (Tab.put t k v d) d = true := by
  simp only [Tab.canonical, Bool.and_eq_true] at *
  simp only [Tab.put]
  split
  · exact ⟨Tab.risingFrom_erase k h.1, Tab.all_erase k h.2⟩
  · next hv => exact ⟨Tab.risingFrom_set h.1 (Nat.zero_le _), Tab.all_set h.2 (by simpa using hv)⟩

theorem Tab.find?_erase {α : Type} {t : Tab α} {b : Nat} (k j : Nat) (h : Tab.risingFrom b t = true) :
    Tab.find? (Tab.erase t k) j = if j = k then none else Tab.find? t j := by
  induction t generalizing b with
  | nil => simp [Tab.erase, Tab.find?]
  | cons p t ih =>
    simp only [Tab.risingFrom, Bool.and_eq_true, decide_eq_true_eq] at h
    simp only [Tab.erase]
    split
    · next hk =>
      subst hk
      split
      · next hj => subst hj; exact Tab.find?_of_rising h.2 (by omega)
      · next hj => simp [Tab.find?, hj]
    · simp only [Tab.find?, ih h.2]; grind

/-- A read after a write of a canonical table. -/
theorem Tab.getD_put {α : Type} [DecidableEq α] {t : Tab α} {d : α} (k j : Nat) (v : α)
    (h : Tab.canonical t d = true) : Tab.getD (Tab.put t k v d) j d = if j = k then v else Tab.getD t j d := by
  simp only [Tab.canonical, Bool.and_eq_true] at h
  simp only [Tab.put]
  split
  · next hv => simp only [Tab.getD, Tab.find?_erase k j h.1]; split <;> simp [hv]
  · simp

theorem Tab.canonical_filter {α : Type} [DecidableEq α] {t : Tab α} {d : α} (p : Nat × α → Bool)
    (h : Tab.canonical t d = true) : Tab.canonical (t.filter p) d = true := by
  simp only [Tab.canonical, Bool.and_eq_true] at *
  have key : ∀ (t : Tab α) (b : Nat), Tab.risingFrom b t = true → Tab.risingFrom b (t.filter p) = true := by
    intro t
    induction t with
    | nil => intro b _; rfl
    | cons q t ih =>
      intro b hb
      simp only [Tab.risingFrom, Bool.and_eq_true, decide_eq_true_eq] at hb
      rw [List.filter_cons]
      split
      · simp only [Tab.risingFrom, Bool.and_eq_true, decide_eq_true_eq]; exact ⟨hb.1, ih _ hb.2⟩
      · exact Tab.risingFrom_mono (ih _ hb.2) (by omega)
  refine ⟨key t 0 h.1, ?_⟩
  simp only [List.all_eq_true] at *
  exact fun q hq => h.2 q (List.mem_filter.1 hq).1

end Sys2Proof.Machine
end

