-- ==== Sys2Proof/Laws/Lx.lean ====
section
/-!
SUPPORT. What an LX instruction can do, said once: one that retires, and one that traps.
-/
namespace Sys2Proof.Machine

theorem Tab.set_set {α : Type} (t : Tab α) (k : Nat) (v w : α) : Tab.set (Tab.set t k v) k w = Tab.set t k w := by
  induction t with
  | nil => simp [Tab.set]
  | cons p t ih =>
    obtain ⟨j, u⟩ := p
    simp only [Tab.set]
    split
    · simp [Tab.set]
    · split
      · next h => subst h; simp [Tab.set]
      · next h1 h2 => simp [Tab.set, h1, h2, ih]

@[simp] theorem State.core_setCore (s : State) (c d : Nat) (x : Core) :
    (s.setCore c x).core d = if d = c then x else s.core d := by simp [State.core, State.setCore]

@[simp] theorem State.setCore_setCore (s : State) (c : Nat) (x y : Core) : (s.setCore c x).setCore c y = s.setCore c y := by
  simp [State.setCore, Tab.set_set]

@[simp] theorem State.setCore_tile (s : State) (c t : Nat) (x : Core) : (s.setCore c x).tile t = s.tile t := rfl
@[simp] theorem State.setCore_reg (s : State) (c o : Nat) (x : Core) : (s.setCore c x).reg o = s.reg o := rfl
@[simp] theorem State.setCore_readByte (s : State) (c a : Nat) (x : Core) : (s.setCore c x).readByte a = s.readByte a := rfl

@[simp] theorem State.countCe_zero (s : State) (c : Nat) : s.countCe c 0 = s := by simp [State.countCe]

/-- Two updates of one core are one. -/
theorem State.modCore_modCore (s : State) (c : Nat) (f g : Core → Core) :
    (s.modCore c f).modCore c g = s.modCore c (fun x => g (f x)) := by simp [State.modCore]

/-- The fetch of a ready core finds its bytes and counts nothing (R150). -/
theorem LxReady.fetch {s : State} {c n : Nat} (h : LxReady s c n) (hn : 0 < n) :
    s.lxFetch c (s.core c).pc n = (s, none) := by
  obtain ⟨-, hpc, hw, -⟩ := h
  have h1 : ¬coreIm c ≤ (s.core c).pc := by omega
  have h2 : ¬coreIm c < (s.core c).pc + n := by omega
  have h3 : (eccWords (s.core c).pc n).find? (· ∈ (s.core c).imUe) = none := by
    simp only [List.find?_eq_none, decide_eq_true_eq]; exact fun w hm => (hw w hm).1
  have h4 : (eccWords (s.core c).pc n).filter (· ∈ (s.core c).imCe) = [] := by
    simp only [List.filter_eq_nil_iff, decide_eq_true_eq]; exact fun w hm => (hw w hm).2
  simp [State.lxFetch, h1, h2, h3, h4]

/-- Nothing is filled while the operands are in hardware (R153). -/
theorem State.lxNeed_in_hardware {s : State} {c n cost : Nat} {k : LxStack} (h : n ≤ ((s.core c).cells k).length) :
    State.lxNeed s c k n cost = .go s cost := by
  have hd : ¬(s.core c).depth k < n := by simp only [Core.depth]; omega
  cases n with
  | zero => simp [State.lxNeed, hd, State.lxFill]
  | succ n => simp [State.lxNeed, hd, State.lxFill, h]

/-- Nothing is spilled while the hardware has room (R153). -/
theorem Core.spillGroups_zero {x : Core} {k : LxStack} {n o : Nat} (h : (x.cells k).length + o - n ≤ k.hw) :
    x.spillGroups k n o = 0 := by
  unfold Core.spillGroups
  cases k <;> simp only [LxStack.hw, LxStack.group] at * <;> omega

/-- What a ready core does with an instruction whose checks pass: it retires with what its effect gives (R153, R171 to R176). -/
theorem State.lxIssue_retires {s : State} {c pc cost : Nat} {i : LxOp} {s' : State} (h : LxReady s c i.bytes.length)
    (hb : 0 < i.bytes.length) (he : i.emulate = false) (hu : i.undef = false) (hp : i.privOnly = true → (s.core c).priv = true)
    (hk : i.pick = false) (hnd : i.nd ≤ (s.core c).ds.length) (hnr : i.nr ≤ (s.core c).rs.length)
    (hod : (s.core c).ds.length + i.od - i.nd ≤ 32) (hor : (s.core c).rs.length + i.orr - i.nr ≤ 16)
    (hl : i.late c (s.core c) = none) (hrun : i.run s c = .done s' pc cost)
    (hf : (s'.core c).frozen = false) (hh : (s'.core c).halt = false) :
    s.lxIssue c i = s'.setCore c ((s'.core c).moved pc cost) := by
  have hc : s.lxCheck c i = .go s 0 := by
    simp only [State.lxCheck, h.fetch hb, he, hu, Bool.false_eq_true, if_false]
    cases hq : i.privOnly <;> simp_all
  have ho : s.lxOperands c i = (.go s 0, i.nd) := by
    simp [State.lxOperands, hk, State.lxNeed_in_hardware (k := .data) hnd, State.lxNeed_in_hardware (k := .ret) hnr]
  have hwe := h.2.2.2.1
  have g1 : (s.core c).spillGroups .data i.nd i.od = 0 := Core.spillGroups_zero hod
  have g2 : (s.core c).spillGroups .ret i.nr i.orr = 0 := Core.spillGroups_zero hor
  have hlate : lxLate c (s.core c) i = none := by
    simp only [lxLate, hl, hk, Core.noRoom, g1, g2, Core.watches, hwe]
    cases i.access (s.core c) <;> simp
  have hprep : s.lxPrepare c i = .go s 0 := by
    simp [State.lxPrepare, ho, hlate, hk, g1, g2, State.lxSpill]
  simp [State.lxIssue, h.1, State.lxExec, hc, hprep, hrun, State.unlessFrozen, hf, State.modCore, Core.retire, hh, Core.moved]

/-- The same for an instruction that only replaces data cells in one cycle (R160, R161). -/
theorem State.lxIssue_pure {s : State} {c n o : Nat} {bytes : List Byte} {f : List LxCell → List LxCell}
    (h : LxReady s c bytes.length) (hb : 0 < bytes.length) (hn : n ≤ (s.core c).ds.length)
    (ho : (s.core c).ds.length + o - n ≤ 32) :
    s.lxIssue c (lxPure bytes n o f) =
      s.retired c (f ((s.core c).ds.take n) ++ (s.core c).ds.drop n) (s.core c).rs ((s.core c).pc + bytes.length) 1 := by
  have hr := h.2.2.2.2.2.2
  have hfz : (s.core c).frozen = false := by
    have := h.1
    simp only [State.coreRuns, Bool.and_eq_true, Bool.not_eq_true'] at this
    exact this.1.1.2
  rw [State.lxIssue_retires (i := lxPure bytes n o f) h hb rfl rfl (by simp [lxPure]) rfl hn (Nat.zero_le _) ho (by simpa [lxPure] using hr) rfl rfl]
  · simp [State.retired, State.modCore, Core.moved]
  · simp [State.modCore, hfz]
  · simp [State.modCore, h.2.2.2.2.1]

end Sys2Proof.Machine
end

