-- ==== Sys2Proof/Laws/Memory.lean ====
section
/-!
SUPPORT. Memory: what one write does to every byte, and that every operation on memory keeps its canonical form.
-/
namespace Sys2Proof.Machine

theorem reset_mem_wf : Memory.wf State.reset.mem = true := rfl

theorem State.writeByte_wf {s : State} (a : Nat) (b : Byte) (h : Memory.wf s.mem = true) :
    Memory.wf (s.writeByte a b).mem = true := Tab.canonical_put a b h

theorem State.readByte_writeByte {s : State} (a j : Nat) (b : Byte) (h : Memory.wf s.mem = true) :
    (s.writeByte a b).readByte j = if j = a then b else s.readByte j := Tab.getD_put a j b h

theorem State.storeBytes_wf {bs : List Byte} {a : Nat} {s : State} (h : Memory.wf s.mem = true) :
    Memory.wf (State.storeBytes bs a s).mem = true := by
  induction bs generalizing a s with
  | nil => exact h
  | cons b bs ih => exact ih (State.writeByte_wf a b h)

/-- A stored byte reads back, and every other byte reads as before. -/
theorem State.readByte_storeBytes {bs : List Byte} {a : Nat} {s : State} (j : Nat) (h : Memory.wf s.mem = true) :
    (State.storeBytes bs a s).readByte j =
      if a ≤ j ∧ j < a + bs.length then bs.getD (j - a) 0 else s.readByte j := by
  induction bs generalizing a s with
  | nil =>
    have h0 : ¬(a ≤ j ∧ j < a + ([] : List Byte).length) := by simp only [List.length_nil]; omega
    rw [if_neg h0]; rfl
  | cons b bs ih =>
    simp only [State.storeBytes, ih (State.writeByte_wf a b h), State.readByte_writeByte a j b h, List.length_cons]
    by_cases h1 : j = a
    · subst h1
      have h2 : ¬(j + 1 ≤ j ∧ j < j + 1 + bs.length) := by omega
      have h3 : j ≤ j ∧ j < j + (bs.length + 1) := by omega
      rw [if_neg h2, if_pos h3, if_pos rfl, Nat.sub_self]; rfl
    · by_cases h2 : a + 1 ≤ j ∧ j < a + 1 + bs.length
      · have : j - a = (j - (a + 1)) + 1 := by omega
        have h3 : a ≤ j ∧ j < a + (bs.length + 1) := by omega
        rw [if_pos h2, if_pos h3, this]; rfl
      · have h3 : ¬(a ≤ j ∧ j < a + (bs.length + 1)) := by omega
        rw [if_neg h2, if_neg h3, if_neg h1]

theorem State.cures_mem (us : List Nat) (s : State) : (us.foldl State.cure s).mem = s.mem := by
  induction us generalizing s with
  | nil => rfl
  | cons u us ih => exact ih (s.cure u)

theorem State.rmwStore_mem (s : State) (a : Nat) (bs : List Byte) : (s.rmwStore a bs).mem = (State.storeBytes bs a s).mem :=
  State.cures_mem _ _

theorem State.rmwStore_wf {s : State} (a : Nat) (bs : List Byte) (h : Memory.wf s.mem = true) :
    Memory.wf (s.rmwStore a bs).mem = true := by
  rw [State.rmwStore_mem]; exact State.storeBytes_wf h

theorem State.zeroRange_wf {s : State} (a n : Nat) (h : Memory.wf s.mem = true) :
    Memory.wf (s.zeroRange a n).mem = true := Tab.canonical_filter _ h

end Sys2Proof.Machine
end

