-- ==== Sys2Proof/Laws/State.lean ====
section
/-!
SUPPORT. State: what each update leaves as it was, field by field, and what a register, a field and a unit read after it.
-/
namespace Sys2Proof.Machine

@[simp] theorem State.setReg_pending (s : State) (o : Nat) (v : Word) : (s.setReg o v).pending = s.pending := rfl
@[simp] theorem State.setReg_pairCap (s : State) (o : Nat) (v : Word) : (s.setReg o v).pairCap = s.pairCap := rfl
@[simp] theorem State.setReg_wolDone (s : State) (o : Nat) (v : Word) : (s.setReg o v).wolDone = s.wolDone := rfl
@[simp] theorem State.setReg_mem (s : State) (o : Nat) (v : Word) : (s.setReg o v).mem = s.mem := rfl
@[simp] theorem State.setReg_ue (s : State) (o : Nat) (v : Word) : (s.setReg o v).ue = s.ue := rfl
@[simp] theorem State.setReg_ce (s : State) (o : Nat) (v : Word) : (s.setReg o v).ce = s.ce := rfl
@[simp] theorem State.setReg_carrelInit (s : State) (o : Nat) (v : Word) : (s.setReg o v).carrelInit = s.carrelInit := rfl
@[simp] theorem State.setReg_scrubs (s : State) (o : Nat) (v : Word) : (s.setReg o v).scrubs = s.scrubs := rfl
@[simp] theorem State.setReg_ceEvent (s : State) (o : Nat) (v : Word) : (s.setReg o v).ceEvent = s.ceEvent := rfl
@[simp] theorem State.setReg_logFifo (s : State) (o : Nat) (v : Word) : (s.setReg o v).logFifo = s.logFifo := rfl
@[simp] theorem State.setReg_logRing (s : State) (o : Nat) (v : Word) : (s.setReg o v).logRing = s.logRing := rfl
@[simp] theorem State.setReg_journal (s : State) (o : Nat) (v : Word) : (s.setReg o v).journal = s.journal := rfl
@[simp] theorem State.setReg_time (s : State) (o : Nat) (v : Word) : (s.setReg o v).time = s.time := rfl
@[simp] theorem State.setReg_freeCtr (s : State) (o : Nat) (v : Word) : (s.setReg o v).freeCtr = s.freeCtr := rfl
@[simp] theorem State.setReg_out (s : State) (o : Nat) (v : Word) : (s.setReg o v).out = s.out := rfl
@[simp] theorem State.setReg_cores (s : State) (o : Nat) (v : Word) : (s.setReg o v).cores = s.cores := rfl
@[simp] theorem State.setReg_tiles (s : State) (o : Nat) (v : Word) : (s.setReg o v).tiles = s.tiles := rfl
@[simp] theorem State.setReg_host (s : State) (o : Nat) (v : Word) : (s.setReg o v).host = s.host := rfl
@[simp] theorem State.setReg_gma (s : State) (o : Nat) (v : Word) : (s.setReg o v).gma = s.gma := rfl
@[simp] theorem State.setReg_trust (s : State) (o : Nat) (v : Word) : (s.setReg o v).trust = s.trust := rfl
@[simp] theorem State.setReg_dict (s : State) (o : Nat) (v : Word) : (s.setReg o v).dict = s.dict := rfl
@[simp] theorem State.setReg_power (s : State) (o : Nat) (v : Word) : (s.setReg o v).power = s.power := rfl
@[simp] theorem State.setReg_links (s : State) (o : Nat) (v : Word) : (s.setReg o v).links = s.links := rfl
@[simp] theorem State.setReg_lastLink (s : State) (o : Nat) (v : Word) : (s.setReg o v).lastLink = s.lastLink := rfl
@[simp] theorem State.setReg_unreach (s : State) (o : Nat) (v : Word) : (s.setReg o v).unreach = s.unreach := rfl
@[simp] theorem State.setReg_jobs (s : State) (o : Nat) (v : Word) : (s.setReg o v).jobs = s.jobs := rfl
@[simp] theorem State.setReg_store (s : State) (o : Nat) (v : Word) : (s.setReg o v).store = s.store := rfl
@[simp] theorem State.setReg_ckpt (s : State) (o : Nat) (v : Word) : (s.setReg o v).ckpt = s.ckpt := rfl
@[simp] theorem State.setReg_epoch (s : State) (o : Nat) (v : Word) : (s.setReg o v).epoch = s.epoch := rfl
@[simp] theorem State.setReg_ports (s : State) (o : Nat) (v : Word) : (s.setReg o v).ports = s.ports := rfl
@[simp] theorem State.setReg_tel (s : State) (o : Nat) (v : Word) : (s.setReg o v).tel = s.tel := rfl
@[simp] theorem State.setReg_mgmt (s : State) (o : Nat) (v : Word) : (s.setReg o v).mgmt = s.mgmt := rfl

@[simp] theorem State.setCore_pending (s : State) (c : Nat) (x : Core) : (s.setCore c x).pending = s.pending := rfl
@[simp] theorem State.setCore_regs (s : State) (c : Nat) (x : Core) : (s.setCore c x).regs = s.regs := rfl
@[simp] theorem State.setCore_pairCap (s : State) (c : Nat) (x : Core) : (s.setCore c x).pairCap = s.pairCap := rfl
@[simp] theorem State.setCore_wolDone (s : State) (c : Nat) (x : Core) : (s.setCore c x).wolDone = s.wolDone := rfl
@[simp] theorem State.setCore_mem (s : State) (c : Nat) (x : Core) : (s.setCore c x).mem = s.mem := rfl
@[simp] theorem State.setCore_ue (s : State) (c : Nat) (x : Core) : (s.setCore c x).ue = s.ue := rfl
@[simp] theorem State.setCore_ce (s : State) (c : Nat) (x : Core) : (s.setCore c x).ce = s.ce := rfl
@[simp] theorem State.setCore_carrelInit (s : State) (c : Nat) (x : Core) : (s.setCore c x).carrelInit = s.carrelInit := rfl
@[simp] theorem State.setCore_scrubs (s : State) (c : Nat) (x : Core) : (s.setCore c x).scrubs = s.scrubs := rfl
@[simp] theorem State.setCore_ceEvent (s : State) (c : Nat) (x : Core) : (s.setCore c x).ceEvent = s.ceEvent := rfl
@[simp] theorem State.setCore_logFifo (s : State) (c : Nat) (x : Core) : (s.setCore c x).logFifo = s.logFifo := rfl
@[simp] theorem State.setCore_logRing (s : State) (c : Nat) (x : Core) : (s.setCore c x).logRing = s.logRing := rfl
@[simp] theorem State.setCore_journal (s : State) (c : Nat) (x : Core) : (s.setCore c x).journal = s.journal := rfl
@[simp] theorem State.setCore_time (s : State) (c : Nat) (x : Core) : (s.setCore c x).time = s.time := rfl
@[simp] theorem State.setCore_freeCtr (s : State) (c : Nat) (x : Core) : (s.setCore c x).freeCtr = s.freeCtr := rfl
@[simp] theorem State.setCore_out (s : State) (c : Nat) (x : Core) : (s.setCore c x).out = s.out := rfl
@[simp] theorem State.setCore_tiles (s : State) (c : Nat) (x : Core) : (s.setCore c x).tiles = s.tiles := rfl
@[simp] theorem State.setCore_host (s : State) (c : Nat) (x : Core) : (s.setCore c x).host = s.host := rfl
@[simp] theorem State.setCore_gma (s : State) (c : Nat) (x : Core) : (s.setCore c x).gma = s.gma := rfl
@[simp] theorem State.setCore_trust (s : State) (c : Nat) (x : Core) : (s.setCore c x).trust = s.trust := rfl
@[simp] theorem State.setCore_dict (s : State) (c : Nat) (x : Core) : (s.setCore c x).dict = s.dict := rfl
@[simp] theorem State.setCore_power (s : State) (c : Nat) (x : Core) : (s.setCore c x).power = s.power := rfl
@[simp] theorem State.setCore_links (s : State) (c : Nat) (x : Core) : (s.setCore c x).links = s.links := rfl
@[simp] theorem State.setCore_lastLink (s : State) (c : Nat) (x : Core) : (s.setCore c x).lastLink = s.lastLink := rfl
@[simp] theorem State.setCore_unreach (s : State) (c : Nat) (x : Core) : (s.setCore c x).unreach = s.unreach := rfl
@[simp] theorem State.setCore_jobs (s : State) (c : Nat) (x : Core) : (s.setCore c x).jobs = s.jobs := rfl
@[simp] theorem State.setCore_store (s : State) (c : Nat) (x : Core) : (s.setCore c x).store = s.store := rfl
@[simp] theorem State.setCore_ckpt (s : State) (c : Nat) (x : Core) : (s.setCore c x).ckpt = s.ckpt := rfl
@[simp] theorem State.setCore_epoch (s : State) (c : Nat) (x : Core) : (s.setCore c x).epoch = s.epoch := rfl
@[simp] theorem State.setCore_ports (s : State) (c : Nat) (x : Core) : (s.setCore c x).ports = s.ports := rfl
@[simp] theorem State.setCore_tel (s : State) (c : Nat) (x : Core) : (s.setCore c x).tel = s.tel := rfl
@[simp] theorem State.setCore_mgmt (s : State) (c : Nat) (x : Core) : (s.setCore c x).mgmt = s.mgmt := rfl

@[simp] theorem State.setTile_pending (s : State) (t : Nat) (x : Tile) : (s.setTile t x).pending = s.pending := rfl
@[simp] theorem State.setTile_regs (s : State) (t : Nat) (x : Tile) : (s.setTile t x).regs = s.regs := rfl
@[simp] theorem State.setTile_pairCap (s : State) (t : Nat) (x : Tile) : (s.setTile t x).pairCap = s.pairCap := rfl
@[simp] theorem State.setTile_wolDone (s : State) (t : Nat) (x : Tile) : (s.setTile t x).wolDone = s.wolDone := rfl
@[simp] theorem State.setTile_mem (s : State) (t : Nat) (x : Tile) : (s.setTile t x).mem = s.mem := rfl
@[simp] theorem State.setTile_ue (s : State) (t : Nat) (x : Tile) : (s.setTile t x).ue = s.ue := rfl
@[simp] theorem State.setTile_ce (s : State) (t : Nat) (x : Tile) : (s.setTile t x).ce = s.ce := rfl
@[simp] theorem State.setTile_carrelInit (s : State) (t : Nat) (x : Tile) : (s.setTile t x).carrelInit = s.carrelInit := rfl
@[simp] theorem State.setTile_scrubs (s : State) (t : Nat) (x : Tile) : (s.setTile t x).scrubs = s.scrubs := rfl
@[simp] theorem State.setTile_ceEvent (s : State) (t : Nat) (x : Tile) : (s.setTile t x).ceEvent = s.ceEvent := rfl
@[simp] theorem State.setTile_logFifo (s : State) (t : Nat) (x : Tile) : (s.setTile t x).logFifo = s.logFifo := rfl
@[simp] theorem State.setTile_logRing (s : State) (t : Nat) (x : Tile) : (s.setTile t x).logRing = s.logRing := rfl
@[simp] theorem State.setTile_journal (s : State) (t : Nat) (x : Tile) : (s.setTile t x).journal = s.journal := rfl
@[simp] theorem State.setTile_time (s : State) (t : Nat) (x : Tile) : (s.setTile t x).time = s.time := rfl
@[simp] theorem State.setTile_freeCtr (s : State) (t : Nat) (x : Tile) : (s.setTile t x).freeCtr = s.freeCtr := rfl
@[simp] theorem State.setTile_out (s : State) (t : Nat) (x : Tile) : (s.setTile t x).out = s.out := rfl
@[simp] theorem State.setTile_cores (s : State) (t : Nat) (x : Tile) : (s.setTile t x).cores = s.cores := rfl
@[simp] theorem State.setTile_host (s : State) (t : Nat) (x : Tile) : (s.setTile t x).host = s.host := rfl
@[simp] theorem State.setTile_gma (s : State) (t : Nat) (x : Tile) : (s.setTile t x).gma = s.gma := rfl
@[simp] theorem State.setTile_trust (s : State) (t : Nat) (x : Tile) : (s.setTile t x).trust = s.trust := rfl
@[simp] theorem State.setTile_dict (s : State) (t : Nat) (x : Tile) : (s.setTile t x).dict = s.dict := rfl
@[simp] theorem State.setTile_power (s : State) (t : Nat) (x : Tile) : (s.setTile t x).power = s.power := rfl
@[simp] theorem State.setTile_links (s : State) (t : Nat) (x : Tile) : (s.setTile t x).links = s.links := rfl
@[simp] theorem State.setTile_lastLink (s : State) (t : Nat) (x : Tile) : (s.setTile t x).lastLink = s.lastLink := rfl
@[simp] theorem State.setTile_unreach (s : State) (t : Nat) (x : Tile) : (s.setTile t x).unreach = s.unreach := rfl
@[simp] theorem State.setTile_jobs (s : State) (t : Nat) (x : Tile) : (s.setTile t x).jobs = s.jobs := rfl
@[simp] theorem State.setTile_store (s : State) (t : Nat) (x : Tile) : (s.setTile t x).store = s.store := rfl
@[simp] theorem State.setTile_ckpt (s : State) (t : Nat) (x : Tile) : (s.setTile t x).ckpt = s.ckpt := rfl
@[simp] theorem State.setTile_epoch (s : State) (t : Nat) (x : Tile) : (s.setTile t x).epoch = s.epoch := rfl
@[simp] theorem State.setTile_ports (s : State) (t : Nat) (x : Tile) : (s.setTile t x).ports = s.ports := rfl
@[simp] theorem State.setTile_tel (s : State) (t : Nat) (x : Tile) : (s.setTile t x).tel = s.tel := rfl
@[simp] theorem State.setTile_mgmt (s : State) (t : Nat) (x : Tile) : (s.setTile t x).mgmt = s.mgmt := rfl

@[simp] theorem State.setFn_pending (s : State) (n : Nat) (x : Fn) : (s.setFn n x).pending = s.pending := rfl
@[simp] theorem State.setFn_regs (s : State) (n : Nat) (x : Fn) : (s.setFn n x).regs = s.regs := rfl
@[simp] theorem State.setFn_pairCap (s : State) (n : Nat) (x : Fn) : (s.setFn n x).pairCap = s.pairCap := rfl
@[simp] theorem State.setFn_wolDone (s : State) (n : Nat) (x : Fn) : (s.setFn n x).wolDone = s.wolDone := rfl
@[simp] theorem State.setFn_mem (s : State) (n : Nat) (x : Fn) : (s.setFn n x).mem = s.mem := rfl
@[simp] theorem State.setFn_ue (s : State) (n : Nat) (x : Fn) : (s.setFn n x).ue = s.ue := rfl
@[simp] theorem State.setFn_ce (s : State) (n : Nat) (x : Fn) : (s.setFn n x).ce = s.ce := rfl
@[simp] theorem State.setFn_carrelInit (s : State) (n : Nat) (x : Fn) : (s.setFn n x).carrelInit = s.carrelInit := rfl
@[simp] theorem State.setFn_scrubs (s : State) (n : Nat) (x : Fn) : (s.setFn n x).scrubs = s.scrubs := rfl
@[simp] theorem State.setFn_ceEvent (s : State) (n : Nat) (x : Fn) : (s.setFn n x).ceEvent = s.ceEvent := rfl
@[simp] theorem State.setFn_logFifo (s : State) (n : Nat) (x : Fn) : (s.setFn n x).logFifo = s.logFifo := rfl
@[simp] theorem State.setFn_logRing (s : State) (n : Nat) (x : Fn) : (s.setFn n x).logRing = s.logRing := rfl
@[simp] theorem State.setFn_journal (s : State) (n : Nat) (x : Fn) : (s.setFn n x).journal = s.journal := rfl
@[simp] theorem State.setFn_time (s : State) (n : Nat) (x : Fn) : (s.setFn n x).time = s.time := rfl
@[simp] theorem State.setFn_freeCtr (s : State) (n : Nat) (x : Fn) : (s.setFn n x).freeCtr = s.freeCtr := rfl
@[simp] theorem State.setFn_out (s : State) (n : Nat) (x : Fn) : (s.setFn n x).out = s.out := rfl
@[simp] theorem State.setFn_cores (s : State) (n : Nat) (x : Fn) : (s.setFn n x).cores = s.cores := rfl
@[simp] theorem State.setFn_tiles (s : State) (n : Nat) (x : Fn) : (s.setFn n x).tiles = s.tiles := rfl
@[simp] theorem State.setFn_gma (s : State) (n : Nat) (x : Fn) : (s.setFn n x).gma = s.gma := rfl
@[simp] theorem State.setFn_trust (s : State) (n : Nat) (x : Fn) : (s.setFn n x).trust = s.trust := rfl
@[simp] theorem State.setFn_dict (s : State) (n : Nat) (x : Fn) : (s.setFn n x).dict = s.dict := rfl
@[simp] theorem State.setFn_power (s : State) (n : Nat) (x : Fn) : (s.setFn n x).power = s.power := rfl
@[simp] theorem State.setFn_links (s : State) (n : Nat) (x : Fn) : (s.setFn n x).links = s.links := rfl
@[simp] theorem State.setFn_lastLink (s : State) (n : Nat) (x : Fn) : (s.setFn n x).lastLink = s.lastLink := rfl
@[simp] theorem State.setFn_unreach (s : State) (n : Nat) (x : Fn) : (s.setFn n x).unreach = s.unreach := rfl
@[simp] theorem State.setFn_jobs (s : State) (n : Nat) (x : Fn) : (s.setFn n x).jobs = s.jobs := rfl
@[simp] theorem State.setFn_store (s : State) (n : Nat) (x : Fn) : (s.setFn n x).store = s.store := rfl
@[simp] theorem State.setFn_ckpt (s : State) (n : Nat) (x : Fn) : (s.setFn n x).ckpt = s.ckpt := rfl
@[simp] theorem State.setFn_epoch (s : State) (n : Nat) (x : Fn) : (s.setFn n x).epoch = s.epoch := rfl
@[simp] theorem State.setFn_ports (s : State) (n : Nat) (x : Fn) : (s.setFn n x).ports = s.ports := rfl
@[simp] theorem State.setFn_tel (s : State) (n : Nat) (x : Fn) : (s.setFn n x).tel = s.tel := rfl
@[simp] theorem State.setFn_mgmt (s : State) (n : Nat) (x : Fn) : (s.setFn n x).mgmt = s.mgmt := rfl

@[simp] theorem State.setCtx_pending (s : State) (c : Nat) (x : Ctx) : (s.setCtx c x).pending = s.pending := rfl
@[simp] theorem State.setCtx_regs (s : State) (c : Nat) (x : Ctx) : (s.setCtx c x).regs = s.regs := rfl
@[simp] theorem State.setCtx_pairCap (s : State) (c : Nat) (x : Ctx) : (s.setCtx c x).pairCap = s.pairCap := rfl
@[simp] theorem State.setCtx_wolDone (s : State) (c : Nat) (x : Ctx) : (s.setCtx c x).wolDone = s.wolDone := rfl
@[simp] theorem State.setCtx_mem (s : State) (c : Nat) (x : Ctx) : (s.setCtx c x).mem = s.mem := rfl
@[simp] theorem State.setCtx_ue (s : State) (c : Nat) (x : Ctx) : (s.setCtx c x).ue = s.ue := rfl
@[simp] theorem State.setCtx_ce (s : State) (c : Nat) (x : Ctx) : (s.setCtx c x).ce = s.ce := rfl
@[simp] theorem State.setCtx_carrelInit (s : State) (c : Nat) (x : Ctx) : (s.setCtx c x).carrelInit = s.carrelInit := rfl
@[simp] theorem State.setCtx_scrubs (s : State) (c : Nat) (x : Ctx) : (s.setCtx c x).scrubs = s.scrubs := rfl
@[simp] theorem State.setCtx_ceEvent (s : State) (c : Nat) (x : Ctx) : (s.setCtx c x).ceEvent = s.ceEvent := rfl
@[simp] theorem State.setCtx_logFifo (s : State) (c : Nat) (x : Ctx) : (s.setCtx c x).logFifo = s.logFifo := rfl
@[simp] theorem State.setCtx_logRing (s : State) (c : Nat) (x : Ctx) : (s.setCtx c x).logRing = s.logRing := rfl
@[simp] theorem State.setCtx_journal (s : State) (c : Nat) (x : Ctx) : (s.setCtx c x).journal = s.journal := rfl
@[simp] theorem State.setCtx_time (s : State) (c : Nat) (x : Ctx) : (s.setCtx c x).time = s.time := rfl
@[simp] theorem State.setCtx_freeCtr (s : State) (c : Nat) (x : Ctx) : (s.setCtx c x).freeCtr = s.freeCtr := rfl
@[simp] theorem State.setCtx_out (s : State) (c : Nat) (x : Ctx) : (s.setCtx c x).out = s.out := rfl
@[simp] theorem State.setCtx_cores (s : State) (c : Nat) (x : Ctx) : (s.setCtx c x).cores = s.cores := rfl
@[simp] theorem State.setCtx_tiles (s : State) (c : Nat) (x : Ctx) : (s.setCtx c x).tiles = s.tiles := rfl
@[simp] theorem State.setCtx_host (s : State) (c : Nat) (x : Ctx) : (s.setCtx c x).host = s.host := rfl
@[simp] theorem State.setCtx_trust (s : State) (c : Nat) (x : Ctx) : (s.setCtx c x).trust = s.trust := rfl
@[simp] theorem State.setCtx_dict (s : State) (c : Nat) (x : Ctx) : (s.setCtx c x).dict = s.dict := rfl
@[simp] theorem State.setCtx_power (s : State) (c : Nat) (x : Ctx) : (s.setCtx c x).power = s.power := rfl
@[simp] theorem State.setCtx_links (s : State) (c : Nat) (x : Ctx) : (s.setCtx c x).links = s.links := rfl
@[simp] theorem State.setCtx_lastLink (s : State) (c : Nat) (x : Ctx) : (s.setCtx c x).lastLink = s.lastLink := rfl
@[simp] theorem State.setCtx_unreach (s : State) (c : Nat) (x : Ctx) : (s.setCtx c x).unreach = s.unreach := rfl
@[simp] theorem State.setCtx_jobs (s : State) (c : Nat) (x : Ctx) : (s.setCtx c x).jobs = s.jobs := rfl
@[simp] theorem State.setCtx_store (s : State) (c : Nat) (x : Ctx) : (s.setCtx c x).store = s.store := rfl
@[simp] theorem State.setCtx_ckpt (s : State) (c : Nat) (x : Ctx) : (s.setCtx c x).ckpt = s.ckpt := rfl
@[simp] theorem State.setCtx_epoch (s : State) (c : Nat) (x : Ctx) : (s.setCtx c x).epoch = s.epoch := rfl
@[simp] theorem State.setCtx_ports (s : State) (c : Nat) (x : Ctx) : (s.setCtx c x).ports = s.ports := rfl
@[simp] theorem State.setCtx_tel (s : State) (c : Nat) (x : Ctx) : (s.setCtx c x).tel = s.tel := rfl
@[simp] theorem State.setCtx_mgmt (s : State) (c : Nat) (x : Ctx) : (s.setCtx c x).mgmt = s.mgmt := rfl

@[simp] theorem State.modLink_pending (s : State) (n : Nat) (f : Link → Link) : (s.modLink n f).pending = s.pending := rfl
@[simp] theorem State.modLink_regs (s : State) (n : Nat) (f : Link → Link) : (s.modLink n f).regs = s.regs := rfl
@[simp] theorem State.modLink_pairCap (s : State) (n : Nat) (f : Link → Link) : (s.modLink n f).pairCap = s.pairCap := rfl
@[simp] theorem State.modLink_wolDone (s : State) (n : Nat) (f : Link → Link) : (s.modLink n f).wolDone = s.wolDone := rfl
@[simp] theorem State.modLink_mem (s : State) (n : Nat) (f : Link → Link) : (s.modLink n f).mem = s.mem := rfl
@[simp] theorem State.modLink_ue (s : State) (n : Nat) (f : Link → Link) : (s.modLink n f).ue = s.ue := rfl
@[simp] theorem State.modLink_ce (s : State) (n : Nat) (f : Link → Link) : (s.modLink n f).ce = s.ce := rfl
@[simp] theorem State.modLink_carrelInit (s : State) (n : Nat) (f : Link → Link) : (s.modLink n f).carrelInit = s.carrelInit := rfl
@[simp] theorem State.modLink_scrubs (s : State) (n : Nat) (f : Link → Link) : (s.modLink n f).scrubs = s.scrubs := rfl
@[simp] theorem State.modLink_ceEvent (s : State) (n : Nat) (f : Link → Link) : (s.modLink n f).ceEvent = s.ceEvent := rfl
@[simp] theorem State.modLink_logFifo (s : State) (n : Nat) (f : Link → Link) : (s.modLink n f).logFifo = s.logFifo := rfl
@[simp] theorem State.modLink_logRing (s : State) (n : Nat) (f : Link → Link) : (s.modLink n f).logRing = s.logRing := rfl
@[simp] theorem State.modLink_journal (s : State) (n : Nat) (f : Link → Link) : (s.modLink n f).journal = s.journal := rfl
@[simp] theorem State.modLink_time (s : State) (n : Nat) (f : Link → Link) : (s.modLink n f).time = s.time := rfl
@[simp] theorem State.modLink_freeCtr (s : State) (n : Nat) (f : Link → Link) : (s.modLink n f).freeCtr = s.freeCtr := rfl
@[simp] theorem State.modLink_out (s : State) (n : Nat) (f : Link → Link) : (s.modLink n f).out = s.out := rfl
@[simp] theorem State.modLink_cores (s : State) (n : Nat) (f : Link → Link) : (s.modLink n f).cores = s.cores := rfl
@[simp] theorem State.modLink_tiles (s : State) (n : Nat) (f : Link → Link) : (s.modLink n f).tiles = s.tiles := rfl
@[simp] theorem State.modLink_host (s : State) (n : Nat) (f : Link → Link) : (s.modLink n f).host = s.host := rfl
@[simp] theorem State.modLink_gma (s : State) (n : Nat) (f : Link → Link) : (s.modLink n f).gma = s.gma := rfl
@[simp] theorem State.modLink_trust (s : State) (n : Nat) (f : Link → Link) : (s.modLink n f).trust = s.trust := rfl
@[simp] theorem State.modLink_dict (s : State) (n : Nat) (f : Link → Link) : (s.modLink n f).dict = s.dict := rfl
@[simp] theorem State.modLink_power (s : State) (n : Nat) (f : Link → Link) : (s.modLink n f).power = s.power := rfl
@[simp] theorem State.modLink_lastLink (s : State) (n : Nat) (f : Link → Link) : (s.modLink n f).lastLink = s.lastLink := rfl
@[simp] theorem State.modLink_unreach (s : State) (n : Nat) (f : Link → Link) : (s.modLink n f).unreach = s.unreach := rfl
@[simp] theorem State.modLink_jobs (s : State) (n : Nat) (f : Link → Link) : (s.modLink n f).jobs = s.jobs := rfl
@[simp] theorem State.modLink_store (s : State) (n : Nat) (f : Link → Link) : (s.modLink n f).store = s.store := rfl
@[simp] theorem State.modLink_ckpt (s : State) (n : Nat) (f : Link → Link) : (s.modLink n f).ckpt = s.ckpt := rfl
@[simp] theorem State.modLink_epoch (s : State) (n : Nat) (f : Link → Link) : (s.modLink n f).epoch = s.epoch := rfl
@[simp] theorem State.modLink_ports (s : State) (n : Nat) (f : Link → Link) : (s.modLink n f).ports = s.ports := rfl
@[simp] theorem State.modLink_tel (s : State) (n : Nat) (f : Link → Link) : (s.modLink n f).tel = s.tel := rfl
@[simp] theorem State.modLink_mgmt (s : State) (n : Nat) (f : Link → Link) : (s.modLink n f).mgmt = s.mgmt := rfl

@[simp] theorem State.modCk_pending (s : State) (j : Nat) (f : Ckpt → Ckpt) : (s.modCk j f).pending = s.pending := rfl
@[simp] theorem State.modCk_regs (s : State) (j : Nat) (f : Ckpt → Ckpt) : (s.modCk j f).regs = s.regs := rfl
@[simp] theorem State.modCk_pairCap (s : State) (j : Nat) (f : Ckpt → Ckpt) : (s.modCk j f).pairCap = s.pairCap := rfl
@[simp] theorem State.modCk_wolDone (s : State) (j : Nat) (f : Ckpt → Ckpt) : (s.modCk j f).wolDone = s.wolDone := rfl
@[simp] theorem State.modCk_mem (s : State) (j : Nat) (f : Ckpt → Ckpt) : (s.modCk j f).mem = s.mem := rfl
@[simp] theorem State.modCk_ue (s : State) (j : Nat) (f : Ckpt → Ckpt) : (s.modCk j f).ue = s.ue := rfl
@[simp] theorem State.modCk_ce (s : State) (j : Nat) (f : Ckpt → Ckpt) : (s.modCk j f).ce = s.ce := rfl
@[simp] theorem State.modCk_carrelInit (s : State) (j : Nat) (f : Ckpt → Ckpt) : (s.modCk j f).carrelInit = s.carrelInit := rfl
@[simp] theorem State.modCk_scrubs (s : State) (j : Nat) (f : Ckpt → Ckpt) : (s.modCk j f).scrubs = s.scrubs := rfl
@[simp] theorem State.modCk_ceEvent (s : State) (j : Nat) (f : Ckpt → Ckpt) : (s.modCk j f).ceEvent = s.ceEvent := rfl
@[simp] theorem State.modCk_logFifo (s : State) (j : Nat) (f : Ckpt → Ckpt) : (s.modCk j f).logFifo = s.logFifo := rfl
@[simp] theorem State.modCk_logRing (s : State) (j : Nat) (f : Ckpt → Ckpt) : (s.modCk j f).logRing = s.logRing := rfl
@[simp] theorem State.modCk_journal (s : State) (j : Nat) (f : Ckpt → Ckpt) : (s.modCk j f).journal = s.journal := rfl
@[simp] theorem State.modCk_time (s : State) (j : Nat) (f : Ckpt → Ckpt) : (s.modCk j f).time = s.time := rfl
@[simp] theorem State.modCk_freeCtr (s : State) (j : Nat) (f : Ckpt → Ckpt) : (s.modCk j f).freeCtr = s.freeCtr := rfl
@[simp] theorem State.modCk_out (s : State) (j : Nat) (f : Ckpt → Ckpt) : (s.modCk j f).out = s.out := rfl
@[simp] theorem State.modCk_cores (s : State) (j : Nat) (f : Ckpt → Ckpt) : (s.modCk j f).cores = s.cores := rfl
@[simp] theorem State.modCk_tiles (s : State) (j : Nat) (f : Ckpt → Ckpt) : (s.modCk j f).tiles = s.tiles := rfl
@[simp] theorem State.modCk_host (s : State) (j : Nat) (f : Ckpt → Ckpt) : (s.modCk j f).host = s.host := rfl
@[simp] theorem State.modCk_gma (s : State) (j : Nat) (f : Ckpt → Ckpt) : (s.modCk j f).gma = s.gma := rfl
@[simp] theorem State.modCk_trust (s : State) (j : Nat) (f : Ckpt → Ckpt) : (s.modCk j f).trust = s.trust := rfl
@[simp] theorem State.modCk_dict (s : State) (j : Nat) (f : Ckpt → Ckpt) : (s.modCk j f).dict = s.dict := rfl
@[simp] theorem State.modCk_power (s : State) (j : Nat) (f : Ckpt → Ckpt) : (s.modCk j f).power = s.power := rfl
@[simp] theorem State.modCk_links (s : State) (j : Nat) (f : Ckpt → Ckpt) : (s.modCk j f).links = s.links := rfl
@[simp] theorem State.modCk_lastLink (s : State) (j : Nat) (f : Ckpt → Ckpt) : (s.modCk j f).lastLink = s.lastLink := rfl
@[simp] theorem State.modCk_unreach (s : State) (j : Nat) (f : Ckpt → Ckpt) : (s.modCk j f).unreach = s.unreach := rfl
@[simp] theorem State.modCk_jobs (s : State) (j : Nat) (f : Ckpt → Ckpt) : (s.modCk j f).jobs = s.jobs := rfl
@[simp] theorem State.modCk_store (s : State) (j : Nat) (f : Ckpt → Ckpt) : (s.modCk j f).store = s.store := rfl
@[simp] theorem State.modCk_epoch (s : State) (j : Nat) (f : Ckpt → Ckpt) : (s.modCk j f).epoch = s.epoch := rfl
@[simp] theorem State.modCk_ports (s : State) (j : Nat) (f : Ckpt → Ckpt) : (s.modCk j f).ports = s.ports := rfl
@[simp] theorem State.modCk_tel (s : State) (j : Nat) (f : Ckpt → Ckpt) : (s.modCk j f).tel = s.tel := rfl
@[simp] theorem State.modCk_mgmt (s : State) (j : Nat) (f : Ckpt → Ckpt) : (s.modCk j f).mgmt = s.mgmt := rfl

@[simp] theorem State.modPort_pending (s : State) (p : Nat) (f : Port → Port) : (s.modPort p f).pending = s.pending := rfl
@[simp] theorem State.modPort_regs (s : State) (p : Nat) (f : Port → Port) : (s.modPort p f).regs = s.regs := rfl
@[simp] theorem State.modPort_pairCap (s : State) (p : Nat) (f : Port → Port) : (s.modPort p f).pairCap = s.pairCap := rfl
@[simp] theorem State.modPort_wolDone (s : State) (p : Nat) (f : Port → Port) : (s.modPort p f).wolDone = s.wolDone := rfl
@[simp] theorem State.modPort_mem (s : State) (p : Nat) (f : Port → Port) : (s.modPort p f).mem = s.mem := rfl
@[simp] theorem State.modPort_ue (s : State) (p : Nat) (f : Port → Port) : (s.modPort p f).ue = s.ue := rfl
@[simp] theorem State.modPort_ce (s : State) (p : Nat) (f : Port → Port) : (s.modPort p f).ce = s.ce := rfl
@[simp] theorem State.modPort_carrelInit (s : State) (p : Nat) (f : Port → Port) : (s.modPort p f).carrelInit = s.carrelInit := rfl
@[simp] theorem State.modPort_scrubs (s : State) (p : Nat) (f : Port → Port) : (s.modPort p f).scrubs = s.scrubs := rfl
@[simp] theorem State.modPort_ceEvent (s : State) (p : Nat) (f : Port → Port) : (s.modPort p f).ceEvent = s.ceEvent := rfl
@[simp] theorem State.modPort_logFifo (s : State) (p : Nat) (f : Port → Port) : (s.modPort p f).logFifo = s.logFifo := rfl
@[simp] theorem State.modPort_logRing (s : State) (p : Nat) (f : Port → Port) : (s.modPort p f).logRing = s.logRing := rfl
@[simp] theorem State.modPort_journal (s : State) (p : Nat) (f : Port → Port) : (s.modPort p f).journal = s.journal := rfl
@[simp] theorem State.modPort_time (s : State) (p : Nat) (f : Port → Port) : (s.modPort p f).time = s.time := rfl
@[simp] theorem State.modPort_freeCtr (s : State) (p : Nat) (f : Port → Port) : (s.modPort p f).freeCtr = s.freeCtr := rfl
@[simp] theorem State.modPort_out (s : State) (p : Nat) (f : Port → Port) : (s.modPort p f).out = s.out := rfl
@[simp] theorem State.modPort_cores (s : State) (p : Nat) (f : Port → Port) : (s.modPort p f).cores = s.cores := rfl
@[simp] theorem State.modPort_tiles (s : State) (p : Nat) (f : Port → Port) : (s.modPort p f).tiles = s.tiles := rfl
@[simp] theorem State.modPort_host (s : State) (p : Nat) (f : Port → Port) : (s.modPort p f).host = s.host := rfl
@[simp] theorem State.modPort_gma (s : State) (p : Nat) (f : Port → Port) : (s.modPort p f).gma = s.gma := rfl
@[simp] theorem State.modPort_trust (s : State) (p : Nat) (f : Port → Port) : (s.modPort p f).trust = s.trust := rfl
@[simp] theorem State.modPort_dict (s : State) (p : Nat) (f : Port → Port) : (s.modPort p f).dict = s.dict := rfl
@[simp] theorem State.modPort_power (s : State) (p : Nat) (f : Port → Port) : (s.modPort p f).power = s.power := rfl
@[simp] theorem State.modPort_links (s : State) (p : Nat) (f : Port → Port) : (s.modPort p f).links = s.links := rfl
@[simp] theorem State.modPort_lastLink (s : State) (p : Nat) (f : Port → Port) : (s.modPort p f).lastLink = s.lastLink := rfl
@[simp] theorem State.modPort_unreach (s : State) (p : Nat) (f : Port → Port) : (s.modPort p f).unreach = s.unreach := rfl
@[simp] theorem State.modPort_jobs (s : State) (p : Nat) (f : Port → Port) : (s.modPort p f).jobs = s.jobs := rfl
@[simp] theorem State.modPort_store (s : State) (p : Nat) (f : Port → Port) : (s.modPort p f).store = s.store := rfl
@[simp] theorem State.modPort_ckpt (s : State) (p : Nat) (f : Port → Port) : (s.modPort p f).ckpt = s.ckpt := rfl
@[simp] theorem State.modPort_epoch (s : State) (p : Nat) (f : Port → Port) : (s.modPort p f).epoch = s.epoch := rfl
@[simp] theorem State.modPort_tel (s : State) (p : Nat) (f : Port → Port) : (s.modPort p f).tel = s.tel := rfl
@[simp] theorem State.modPort_mgmt (s : State) (p : Nat) (f : Port → Port) : (s.modPort p f).mgmt = s.mgmt := rfl

@[simp] theorem State.modTrust_pending (s : State) (f : Trust → Trust) : (s.modTrust f).pending = s.pending := rfl
@[simp] theorem State.modTrust_regs (s : State) (f : Trust → Trust) : (s.modTrust f).regs = s.regs := rfl
@[simp] theorem State.modTrust_pairCap (s : State) (f : Trust → Trust) : (s.modTrust f).pairCap = s.pairCap := rfl
@[simp] theorem State.modTrust_wolDone (s : State) (f : Trust → Trust) : (s.modTrust f).wolDone = s.wolDone := rfl
@[simp] theorem State.modTrust_mem (s : State) (f : Trust → Trust) : (s.modTrust f).mem = s.mem := rfl
@[simp] theorem State.modTrust_ue (s : State) (f : Trust → Trust) : (s.modTrust f).ue = s.ue := rfl
@[simp] theorem State.modTrust_ce (s : State) (f : Trust → Trust) : (s.modTrust f).ce = s.ce := rfl
@[simp] theorem State.modTrust_carrelInit (s : State) (f : Trust → Trust) : (s.modTrust f).carrelInit = s.carrelInit := rfl
@[simp] theorem State.modTrust_scrubs (s : State) (f : Trust → Trust) : (s.modTrust f).scrubs = s.scrubs := rfl
@[simp] theorem State.modTrust_ceEvent (s : State) (f : Trust → Trust) : (s.modTrust f).ceEvent = s.ceEvent := rfl
@[simp] theorem State.modTrust_logFifo (s : State) (f : Trust → Trust) : (s.modTrust f).logFifo = s.logFifo := rfl
@[simp] theorem State.modTrust_logRing (s : State) (f : Trust → Trust) : (s.modTrust f).logRing = s.logRing := rfl
@[simp] theorem State.modTrust_journal (s : State) (f : Trust → Trust) : (s.modTrust f).journal = s.journal := rfl
@[simp] theorem State.modTrust_time (s : State) (f : Trust → Trust) : (s.modTrust f).time = s.time := rfl
@[simp] theorem State.modTrust_freeCtr (s : State) (f : Trust → Trust) : (s.modTrust f).freeCtr = s.freeCtr := rfl
@[simp] theorem State.modTrust_out (s : State) (f : Trust → Trust) : (s.modTrust f).out = s.out := rfl
@[simp] theorem State.modTrust_cores (s : State) (f : Trust → Trust) : (s.modTrust f).cores = s.cores := rfl
@[simp] theorem State.modTrust_tiles (s : State) (f : Trust → Trust) : (s.modTrust f).tiles = s.tiles := rfl
@[simp] theorem State.modTrust_host (s : State) (f : Trust → Trust) : (s.modTrust f).host = s.host := rfl
@[simp] theorem State.modTrust_gma (s : State) (f : Trust → Trust) : (s.modTrust f).gma = s.gma := rfl
@[simp] theorem State.modTrust_dict (s : State) (f : Trust → Trust) : (s.modTrust f).dict = s.dict := rfl
@[simp] theorem State.modTrust_power (s : State) (f : Trust → Trust) : (s.modTrust f).power = s.power := rfl
@[simp] theorem State.modTrust_links (s : State) (f : Trust → Trust) : (s.modTrust f).links = s.links := rfl
@[simp] theorem State.modTrust_lastLink (s : State) (f : Trust → Trust) : (s.modTrust f).lastLink = s.lastLink := rfl
@[simp] theorem State.modTrust_unreach (s : State) (f : Trust → Trust) : (s.modTrust f).unreach = s.unreach := rfl
@[simp] theorem State.modTrust_jobs (s : State) (f : Trust → Trust) : (s.modTrust f).jobs = s.jobs := rfl
@[simp] theorem State.modTrust_store (s : State) (f : Trust → Trust) : (s.modTrust f).store = s.store := rfl
@[simp] theorem State.modTrust_ckpt (s : State) (f : Trust → Trust) : (s.modTrust f).ckpt = s.ckpt := rfl
@[simp] theorem State.modTrust_epoch (s : State) (f : Trust → Trust) : (s.modTrust f).epoch = s.epoch := rfl
@[simp] theorem State.modTrust_ports (s : State) (f : Trust → Trust) : (s.modTrust f).ports = s.ports := rfl
@[simp] theorem State.modTrust_tel (s : State) (f : Trust → Trust) : (s.modTrust f).tel = s.tel := rfl
@[simp] theorem State.modTrust_mgmt (s : State) (f : Trust → Trust) : (s.modTrust f).mgmt = s.mgmt := rfl

@[simp] theorem State.modHost_pending (s : State) (f : Endpoint → Endpoint) : (s.modHost f).pending = s.pending := rfl
@[simp] theorem State.modHost_regs (s : State) (f : Endpoint → Endpoint) : (s.modHost f).regs = s.regs := rfl
@[simp] theorem State.modHost_pairCap (s : State) (f : Endpoint → Endpoint) : (s.modHost f).pairCap = s.pairCap := rfl
@[simp] theorem State.modHost_wolDone (s : State) (f : Endpoint → Endpoint) : (s.modHost f).wolDone = s.wolDone := rfl
@[simp] theorem State.modHost_mem (s : State) (f : Endpoint → Endpoint) : (s.modHost f).mem = s.mem := rfl
@[simp] theorem State.modHost_ue (s : State) (f : Endpoint → Endpoint) : (s.modHost f).ue = s.ue := rfl
@[simp] theorem State.modHost_ce (s : State) (f : Endpoint → Endpoint) : (s.modHost f).ce = s.ce := rfl
@[simp] theorem State.modHost_carrelInit (s : State) (f : Endpoint → Endpoint) : (s.modHost f).carrelInit = s.carrelInit := rfl
@[simp] theorem State.modHost_scrubs (s : State) (f : Endpoint → Endpoint) : (s.modHost f).scrubs = s.scrubs := rfl
@[simp] theorem State.modHost_ceEvent (s : State) (f : Endpoint → Endpoint) : (s.modHost f).ceEvent = s.ceEvent := rfl
@[simp] theorem State.modHost_logFifo (s : State) (f : Endpoint → Endpoint) : (s.modHost f).logFifo = s.logFifo := rfl
@[simp] theorem State.modHost_logRing (s : State) (f : Endpoint → Endpoint) : (s.modHost f).logRing = s.logRing := rfl
@[simp] theorem State.modHost_journal (s : State) (f : Endpoint → Endpoint) : (s.modHost f).journal = s.journal := rfl
@[simp] theorem State.modHost_time (s : State) (f : Endpoint → Endpoint) : (s.modHost f).time = s.time := rfl
@[simp] theorem State.modHost_freeCtr (s : State) (f : Endpoint → Endpoint) : (s.modHost f).freeCtr = s.freeCtr := rfl
@[simp] theorem State.modHost_out (s : State) (f : Endpoint → Endpoint) : (s.modHost f).out = s.out := rfl
@[simp] theorem State.modHost_cores (s : State) (f : Endpoint → Endpoint) : (s.modHost f).cores = s.cores := rfl
@[simp] theorem State.modHost_tiles (s : State) (f : Endpoint → Endpoint) : (s.modHost f).tiles = s.tiles := rfl
@[simp] theorem State.modHost_gma (s : State) (f : Endpoint → Endpoint) : (s.modHost f).gma = s.gma := rfl
@[simp] theorem State.modHost_trust (s : State) (f : Endpoint → Endpoint) : (s.modHost f).trust = s.trust := rfl
@[simp] theorem State.modHost_dict (s : State) (f : Endpoint → Endpoint) : (s.modHost f).dict = s.dict := rfl
@[simp] theorem State.modHost_power (s : State) (f : Endpoint → Endpoint) : (s.modHost f).power = s.power := rfl
@[simp] theorem State.modHost_links (s : State) (f : Endpoint → Endpoint) : (s.modHost f).links = s.links := rfl
@[simp] theorem State.modHost_lastLink (s : State) (f : Endpoint → Endpoint) : (s.modHost f).lastLink = s.lastLink := rfl
@[simp] theorem State.modHost_unreach (s : State) (f : Endpoint → Endpoint) : (s.modHost f).unreach = s.unreach := rfl
@[simp] theorem State.modHost_jobs (s : State) (f : Endpoint → Endpoint) : (s.modHost f).jobs = s.jobs := rfl
@[simp] theorem State.modHost_store (s : State) (f : Endpoint → Endpoint) : (s.modHost f).store = s.store := rfl
@[simp] theorem State.modHost_ckpt (s : State) (f : Endpoint → Endpoint) : (s.modHost f).ckpt = s.ckpt := rfl
@[simp] theorem State.modHost_epoch (s : State) (f : Endpoint → Endpoint) : (s.modHost f).epoch = s.epoch := rfl
@[simp] theorem State.modHost_ports (s : State) (f : Endpoint → Endpoint) : (s.modHost f).ports = s.ports := rfl
@[simp] theorem State.modHost_tel (s : State) (f : Endpoint → Endpoint) : (s.modHost f).tel = s.tel := rfl
@[simp] theorem State.modHost_mgmt (s : State) (f : Endpoint → Endpoint) : (s.modHost f).mgmt = s.mgmt := rfl

@[simp] theorem State.modMgmt_pending (s : State) (f : Mgmt → Mgmt) : (s.modMgmt f).pending = s.pending := rfl
@[simp] theorem State.modMgmt_regs (s : State) (f : Mgmt → Mgmt) : (s.modMgmt f).regs = s.regs := rfl
@[simp] theorem State.modMgmt_pairCap (s : State) (f : Mgmt → Mgmt) : (s.modMgmt f).pairCap = s.pairCap := rfl
@[simp] theorem State.modMgmt_wolDone (s : State) (f : Mgmt → Mgmt) : (s.modMgmt f).wolDone = s.wolDone := rfl
@[simp] theorem State.modMgmt_mem (s : State) (f : Mgmt → Mgmt) : (s.modMgmt f).mem = s.mem := rfl
@[simp] theorem State.modMgmt_ue (s : State) (f : Mgmt → Mgmt) : (s.modMgmt f).ue = s.ue := rfl
@[simp] theorem State.modMgmt_ce (s : State) (f : Mgmt → Mgmt) : (s.modMgmt f).ce = s.ce := rfl
@[simp] theorem State.modMgmt_carrelInit (s : State) (f : Mgmt → Mgmt) : (s.modMgmt f).carrelInit = s.carrelInit := rfl
@[simp] theorem State.modMgmt_scrubs (s : State) (f : Mgmt → Mgmt) : (s.modMgmt f).scrubs = s.scrubs := rfl
@[simp] theorem State.modMgmt_ceEvent (s : State) (f : Mgmt → Mgmt) : (s.modMgmt f).ceEvent = s.ceEvent := rfl
@[simp] theorem State.modMgmt_logFifo (s : State) (f : Mgmt → Mgmt) : (s.modMgmt f).logFifo = s.logFifo := rfl
@[simp] theorem State.modMgmt_logRing (s : State) (f : Mgmt → Mgmt) : (s.modMgmt f).logRing = s.logRing := rfl
@[simp] theorem State.modMgmt_journal (s : State) (f : Mgmt → Mgmt) : (s.modMgmt f).journal = s.journal := rfl
@[simp] theorem State.modMgmt_time (s : State) (f : Mgmt → Mgmt) : (s.modMgmt f).time = s.time := rfl
@[simp] theorem State.modMgmt_freeCtr (s : State) (f : Mgmt → Mgmt) : (s.modMgmt f).freeCtr = s.freeCtr := rfl
@[simp] theorem State.modMgmt_out (s : State) (f : Mgmt → Mgmt) : (s.modMgmt f).out = s.out := rfl
@[simp] theorem State.modMgmt_cores (s : State) (f : Mgmt → Mgmt) : (s.modMgmt f).cores = s.cores := rfl
@[simp] theorem State.modMgmt_tiles (s : State) (f : Mgmt → Mgmt) : (s.modMgmt f).tiles = s.tiles := rfl
@[simp] theorem State.modMgmt_host (s : State) (f : Mgmt → Mgmt) : (s.modMgmt f).host = s.host := rfl
@[simp] theorem State.modMgmt_gma (s : State) (f : Mgmt → Mgmt) : (s.modMgmt f).gma = s.gma := rfl
@[simp] theorem State.modMgmt_trust (s : State) (f : Mgmt → Mgmt) : (s.modMgmt f).trust = s.trust := rfl
@[simp] theorem State.modMgmt_dict (s : State) (f : Mgmt → Mgmt) : (s.modMgmt f).dict = s.dict := rfl
@[simp] theorem State.modMgmt_power (s : State) (f : Mgmt → Mgmt) : (s.modMgmt f).power = s.power := rfl
@[simp] theorem State.modMgmt_links (s : State) (f : Mgmt → Mgmt) : (s.modMgmt f).links = s.links := rfl
@[simp] theorem State.modMgmt_lastLink (s : State) (f : Mgmt → Mgmt) : (s.modMgmt f).lastLink = s.lastLink := rfl
@[simp] theorem State.modMgmt_unreach (s : State) (f : Mgmt → Mgmt) : (s.modMgmt f).unreach = s.unreach := rfl
@[simp] theorem State.modMgmt_jobs (s : State) (f : Mgmt → Mgmt) : (s.modMgmt f).jobs = s.jobs := rfl
@[simp] theorem State.modMgmt_store (s : State) (f : Mgmt → Mgmt) : (s.modMgmt f).store = s.store := rfl
@[simp] theorem State.modMgmt_ckpt (s : State) (f : Mgmt → Mgmt) : (s.modMgmt f).ckpt = s.ckpt := rfl
@[simp] theorem State.modMgmt_epoch (s : State) (f : Mgmt → Mgmt) : (s.modMgmt f).epoch = s.epoch := rfl
@[simp] theorem State.modMgmt_ports (s : State) (f : Mgmt → Mgmt) : (s.modMgmt f).ports = s.ports := rfl
@[simp] theorem State.modMgmt_tel (s : State) (f : Mgmt → Mgmt) : (s.modMgmt f).tel = s.tel := rfl

@[simp] theorem State.modJobs_pending (s : State) (f : Jobs → Jobs) : (s.modJobs f).pending = s.pending := rfl
@[simp] theorem State.modJobs_regs (s : State) (f : Jobs → Jobs) : (s.modJobs f).regs = s.regs := rfl
@[simp] theorem State.modJobs_pairCap (s : State) (f : Jobs → Jobs) : (s.modJobs f).pairCap = s.pairCap := rfl
@[simp] theorem State.modJobs_wolDone (s : State) (f : Jobs → Jobs) : (s.modJobs f).wolDone = s.wolDone := rfl
@[simp] theorem State.modJobs_mem (s : State) (f : Jobs → Jobs) : (s.modJobs f).mem = s.mem := rfl
@[simp] theorem State.modJobs_ue (s : State) (f : Jobs → Jobs) : (s.modJobs f).ue = s.ue := rfl
@[simp] theorem State.modJobs_ce (s : State) (f : Jobs → Jobs) : (s.modJobs f).ce = s.ce := rfl
@[simp] theorem State.modJobs_carrelInit (s : State) (f : Jobs → Jobs) : (s.modJobs f).carrelInit = s.carrelInit := rfl
@[simp] theorem State.modJobs_scrubs (s : State) (f : Jobs → Jobs) : (s.modJobs f).scrubs = s.scrubs := rfl
@[simp] theorem State.modJobs_ceEvent (s : State) (f : Jobs → Jobs) : (s.modJobs f).ceEvent = s.ceEvent := rfl
@[simp] theorem State.modJobs_logFifo (s : State) (f : Jobs → Jobs) : (s.modJobs f).logFifo = s.logFifo := rfl
@[simp] theorem State.modJobs_logRing (s : State) (f : Jobs → Jobs) : (s.modJobs f).logRing = s.logRing := rfl
@[simp] theorem State.modJobs_journal (s : State) (f : Jobs → Jobs) : (s.modJobs f).journal = s.journal := rfl
@[simp] theorem State.modJobs_time (s : State) (f : Jobs → Jobs) : (s.modJobs f).time = s.time := rfl
@[simp] theorem State.modJobs_freeCtr (s : State) (f : Jobs → Jobs) : (s.modJobs f).freeCtr = s.freeCtr := rfl
@[simp] theorem State.modJobs_out (s : State) (f : Jobs → Jobs) : (s.modJobs f).out = s.out := rfl
@[simp] theorem State.modJobs_cores (s : State) (f : Jobs → Jobs) : (s.modJobs f).cores = s.cores := rfl
@[simp] theorem State.modJobs_tiles (s : State) (f : Jobs → Jobs) : (s.modJobs f).tiles = s.tiles := rfl
@[simp] theorem State.modJobs_host (s : State) (f : Jobs → Jobs) : (s.modJobs f).host = s.host := rfl
@[simp] theorem State.modJobs_gma (s : State) (f : Jobs → Jobs) : (s.modJobs f).gma = s.gma := rfl
@[simp] theorem State.modJobs_trust (s : State) (f : Jobs → Jobs) : (s.modJobs f).trust = s.trust := rfl
@[simp] theorem State.modJobs_dict (s : State) (f : Jobs → Jobs) : (s.modJobs f).dict = s.dict := rfl
@[simp] theorem State.modJobs_power (s : State) (f : Jobs → Jobs) : (s.modJobs f).power = s.power := rfl
@[simp] theorem State.modJobs_links (s : State) (f : Jobs → Jobs) : (s.modJobs f).links = s.links := rfl
@[simp] theorem State.modJobs_lastLink (s : State) (f : Jobs → Jobs) : (s.modJobs f).lastLink = s.lastLink := rfl
@[simp] theorem State.modJobs_unreach (s : State) (f : Jobs → Jobs) : (s.modJobs f).unreach = s.unreach := rfl
@[simp] theorem State.modJobs_store (s : State) (f : Jobs → Jobs) : (s.modJobs f).store = s.store := rfl
@[simp] theorem State.modJobs_ckpt (s : State) (f : Jobs → Jobs) : (s.modJobs f).ckpt = s.ckpt := rfl
@[simp] theorem State.modJobs_epoch (s : State) (f : Jobs → Jobs) : (s.modJobs f).epoch = s.epoch := rfl
@[simp] theorem State.modJobs_ports (s : State) (f : Jobs → Jobs) : (s.modJobs f).ports = s.ports := rfl
@[simp] theorem State.modJobs_tel (s : State) (f : Jobs → Jobs) : (s.modJobs f).tel = s.tel := rfl
@[simp] theorem State.modJobs_mgmt (s : State) (f : Jobs → Jobs) : (s.modJobs f).mgmt = s.mgmt := rfl

@[simp] theorem State.modStore_pending (s : State) (f : Store → Store) : (s.modStore f).pending = s.pending := rfl
@[simp] theorem State.modStore_regs (s : State) (f : Store → Store) : (s.modStore f).regs = s.regs := rfl
@[simp] theorem State.modStore_pairCap (s : State) (f : Store → Store) : (s.modStore f).pairCap = s.pairCap := rfl
@[simp] theorem State.modStore_wolDone (s : State) (f : Store → Store) : (s.modStore f).wolDone = s.wolDone := rfl
@[simp] theorem State.modStore_mem (s : State) (f : Store → Store) : (s.modStore f).mem = s.mem := rfl
@[simp] theorem State.modStore_ue (s : State) (f : Store → Store) : (s.modStore f).ue = s.ue := rfl
@[simp] theorem State.modStore_ce (s : State) (f : Store → Store) : (s.modStore f).ce = s.ce := rfl
@[simp] theorem State.modStore_carrelInit (s : State) (f : Store → Store) : (s.modStore f).carrelInit = s.carrelInit := rfl
@[simp] theorem State.modStore_scrubs (s : State) (f : Store → Store) : (s.modStore f).scrubs = s.scrubs := rfl
@[simp] theorem State.modStore_ceEvent (s : State) (f : Store → Store) : (s.modStore f).ceEvent = s.ceEvent := rfl
@[simp] theorem State.modStore_logFifo (s : State) (f : Store → Store) : (s.modStore f).logFifo = s.logFifo := rfl
@[simp] theorem State.modStore_logRing (s : State) (f : Store → Store) : (s.modStore f).logRing = s.logRing := rfl
@[simp] theorem State.modStore_journal (s : State) (f : Store → Store) : (s.modStore f).journal = s.journal := rfl
@[simp] theorem State.modStore_time (s : State) (f : Store → Store) : (s.modStore f).time = s.time := rfl
@[simp] theorem State.modStore_freeCtr (s : State) (f : Store → Store) : (s.modStore f).freeCtr = s.freeCtr := rfl
@[simp] theorem State.modStore_out (s : State) (f : Store → Store) : (s.modStore f).out = s.out := rfl
@[simp] theorem State.modStore_cores (s : State) (f : Store → Store) : (s.modStore f).cores = s.cores := rfl
@[simp] theorem State.modStore_tiles (s : State) (f : Store → Store) : (s.modStore f).tiles = s.tiles := rfl
@[simp] theorem State.modStore_host (s : State) (f : Store → Store) : (s.modStore f).host = s.host := rfl
@[simp] theorem State.modStore_gma (s : State) (f : Store → Store) : (s.modStore f).gma = s.gma := rfl
@[simp] theorem State.modStore_trust (s : State) (f : Store → Store) : (s.modStore f).trust = s.trust := rfl
@[simp] theorem State.modStore_dict (s : State) (f : Store → Store) : (s.modStore f).dict = s.dict := rfl
@[simp] theorem State.modStore_power (s : State) (f : Store → Store) : (s.modStore f).power = s.power := rfl
@[simp] theorem State.modStore_links (s : State) (f : Store → Store) : (s.modStore f).links = s.links := rfl
@[simp] theorem State.modStore_lastLink (s : State) (f : Store → Store) : (s.modStore f).lastLink = s.lastLink := rfl
@[simp] theorem State.modStore_unreach (s : State) (f : Store → Store) : (s.modStore f).unreach = s.unreach := rfl
@[simp] theorem State.modStore_jobs (s : State) (f : Store → Store) : (s.modStore f).jobs = s.jobs := rfl
@[simp] theorem State.modStore_ckpt (s : State) (f : Store → Store) : (s.modStore f).ckpt = s.ckpt := rfl
@[simp] theorem State.modStore_epoch (s : State) (f : Store → Store) : (s.modStore f).epoch = s.epoch := rfl
@[simp] theorem State.modStore_ports (s : State) (f : Store → Store) : (s.modStore f).ports = s.ports := rfl
@[simp] theorem State.modStore_tel (s : State) (f : Store → Store) : (s.modStore f).tel = s.tel := rfl
@[simp] theorem State.modStore_mgmt (s : State) (f : Store → Store) : (s.modStore f).mgmt = s.mgmt := rfl

@[simp] theorem State.modPower_pending (s : State) (f : Power → Power) : (s.modPower f).pending = s.pending := rfl
@[simp] theorem State.modPower_regs (s : State) (f : Power → Power) : (s.modPower f).regs = s.regs := rfl
@[simp] theorem State.modPower_pairCap (s : State) (f : Power → Power) : (s.modPower f).pairCap = s.pairCap := rfl
@[simp] theorem State.modPower_wolDone (s : State) (f : Power → Power) : (s.modPower f).wolDone = s.wolDone := rfl
@[simp] theorem State.modPower_mem (s : State) (f : Power → Power) : (s.modPower f).mem = s.mem := rfl
@[simp] theorem State.modPower_ue (s : State) (f : Power → Power) : (s.modPower f).ue = s.ue := rfl
@[simp] theorem State.modPower_ce (s : State) (f : Power → Power) : (s.modPower f).ce = s.ce := rfl
@[simp] theorem State.modPower_carrelInit (s : State) (f : Power → Power) : (s.modPower f).carrelInit = s.carrelInit := rfl
@[simp] theorem State.modPower_scrubs (s : State) (f : Power → Power) : (s.modPower f).scrubs = s.scrubs := rfl
@[simp] theorem State.modPower_ceEvent (s : State) (f : Power → Power) : (s.modPower f).ceEvent = s.ceEvent := rfl
@[simp] theorem State.modPower_logFifo (s : State) (f : Power → Power) : (s.modPower f).logFifo = s.logFifo := rfl
@[simp] theorem State.modPower_logRing (s : State) (f : Power → Power) : (s.modPower f).logRing = s.logRing := rfl
@[simp] theorem State.modPower_journal (s : State) (f : Power → Power) : (s.modPower f).journal = s.journal := rfl
@[simp] theorem State.modPower_time (s : State) (f : Power → Power) : (s.modPower f).time = s.time := rfl
@[simp] theorem State.modPower_freeCtr (s : State) (f : Power → Power) : (s.modPower f).freeCtr = s.freeCtr := rfl
@[simp] theorem State.modPower_out (s : State) (f : Power → Power) : (s.modPower f).out = s.out := rfl
@[simp] theorem State.modPower_cores (s : State) (f : Power → Power) : (s.modPower f).cores = s.cores := rfl
@[simp] theorem State.modPower_tiles (s : State) (f : Power → Power) : (s.modPower f).tiles = s.tiles := rfl
@[simp] theorem State.modPower_host (s : State) (f : Power → Power) : (s.modPower f).host = s.host := rfl
@[simp] theorem State.modPower_gma (s : State) (f : Power → Power) : (s.modPower f).gma = s.gma := rfl
@[simp] theorem State.modPower_trust (s : State) (f : Power → Power) : (s.modPower f).trust = s.trust := rfl
@[simp] theorem State.modPower_dict (s : State) (f : Power → Power) : (s.modPower f).dict = s.dict := rfl
@[simp] theorem State.modPower_links (s : State) (f : Power → Power) : (s.modPower f).links = s.links := rfl
@[simp] theorem State.modPower_lastLink (s : State) (f : Power → Power) : (s.modPower f).lastLink = s.lastLink := rfl
@[simp] theorem State.modPower_unreach (s : State) (f : Power → Power) : (s.modPower f).unreach = s.unreach := rfl
@[simp] theorem State.modPower_jobs (s : State) (f : Power → Power) : (s.modPower f).jobs = s.jobs := rfl
@[simp] theorem State.modPower_store (s : State) (f : Power → Power) : (s.modPower f).store = s.store := rfl
@[simp] theorem State.modPower_ckpt (s : State) (f : Power → Power) : (s.modPower f).ckpt = s.ckpt := rfl
@[simp] theorem State.modPower_epoch (s : State) (f : Power → Power) : (s.modPower f).epoch = s.epoch := rfl
@[simp] theorem State.modPower_ports (s : State) (f : Power → Power) : (s.modPower f).ports = s.ports := rfl
@[simp] theorem State.modPower_tel (s : State) (f : Power → Power) : (s.modPower f).tel = s.tel := rfl
@[simp] theorem State.modPower_mgmt (s : State) (f : Power → Power) : (s.modPower f).mgmt = s.mgmt := rfl

@[simp] theorem State.modTel_pending (s : State) (f : Tel → Tel) : (s.modTel f).pending = s.pending := rfl
@[simp] theorem State.modTel_regs (s : State) (f : Tel → Tel) : (s.modTel f).regs = s.regs := rfl
@[simp] theorem State.modTel_pairCap (s : State) (f : Tel → Tel) : (s.modTel f).pairCap = s.pairCap := rfl
@[simp] theorem State.modTel_wolDone (s : State) (f : Tel → Tel) : (s.modTel f).wolDone = s.wolDone := rfl
@[simp] theorem State.modTel_mem (s : State) (f : Tel → Tel) : (s.modTel f).mem = s.mem := rfl
@[simp] theorem State.modTel_ue (s : State) (f : Tel → Tel) : (s.modTel f).ue = s.ue := rfl
@[simp] theorem State.modTel_ce (s : State) (f : Tel → Tel) : (s.modTel f).ce = s.ce := rfl
@[simp] theorem State.modTel_carrelInit (s : State) (f : Tel → Tel) : (s.modTel f).carrelInit = s.carrelInit := rfl
@[simp] theorem State.modTel_scrubs (s : State) (f : Tel → Tel) : (s.modTel f).scrubs = s.scrubs := rfl
@[simp] theorem State.modTel_ceEvent (s : State) (f : Tel → Tel) : (s.modTel f).ceEvent = s.ceEvent := rfl
@[simp] theorem State.modTel_logFifo (s : State) (f : Tel → Tel) : (s.modTel f).logFifo = s.logFifo := rfl
@[simp] theorem State.modTel_logRing (s : State) (f : Tel → Tel) : (s.modTel f).logRing = s.logRing := rfl
@[simp] theorem State.modTel_journal (s : State) (f : Tel → Tel) : (s.modTel f).journal = s.journal := rfl
@[simp] theorem State.modTel_time (s : State) (f : Tel → Tel) : (s.modTel f).time = s.time := rfl
@[simp] theorem State.modTel_freeCtr (s : State) (f : Tel → Tel) : (s.modTel f).freeCtr = s.freeCtr := rfl
@[simp] theorem State.modTel_out (s : State) (f : Tel → Tel) : (s.modTel f).out = s.out := rfl
@[simp] theorem State.modTel_cores (s : State) (f : Tel → Tel) : (s.modTel f).cores = s.cores := rfl
@[simp] theorem State.modTel_tiles (s : State) (f : Tel → Tel) : (s.modTel f).tiles = s.tiles := rfl
@[simp] theorem State.modTel_host (s : State) (f : Tel → Tel) : (s.modTel f).host = s.host := rfl
@[simp] theorem State.modTel_gma (s : State) (f : Tel → Tel) : (s.modTel f).gma = s.gma := rfl
@[simp] theorem State.modTel_trust (s : State) (f : Tel → Tel) : (s.modTel f).trust = s.trust := rfl
@[simp] theorem State.modTel_dict (s : State) (f : Tel → Tel) : (s.modTel f).dict = s.dict := rfl
@[simp] theorem State.modTel_power (s : State) (f : Tel → Tel) : (s.modTel f).power = s.power := rfl
@[simp] theorem State.modTel_links (s : State) (f : Tel → Tel) : (s.modTel f).links = s.links := rfl
@[simp] theorem State.modTel_lastLink (s : State) (f : Tel → Tel) : (s.modTel f).lastLink = s.lastLink := rfl
@[simp] theorem State.modTel_unreach (s : State) (f : Tel → Tel) : (s.modTel f).unreach = s.unreach := rfl
@[simp] theorem State.modTel_jobs (s : State) (f : Tel → Tel) : (s.modTel f).jobs = s.jobs := rfl
@[simp] theorem State.modTel_store (s : State) (f : Tel → Tel) : (s.modTel f).store = s.store := rfl
@[simp] theorem State.modTel_ckpt (s : State) (f : Tel → Tel) : (s.modTel f).ckpt = s.ckpt := rfl
@[simp] theorem State.modTel_epoch (s : State) (f : Tel → Tel) : (s.modTel f).epoch = s.epoch := rfl
@[simp] theorem State.modTel_ports (s : State) (f : Tel → Tel) : (s.modTel f).ports = s.ports := rfl
@[simp] theorem State.modTel_mgmt (s : State) (f : Tel → Tel) : (s.modTel f).mgmt = s.mgmt := rfl

@[simp] theorem State.emit_pending (s : State) (x : Out) : (s.emit x).pending = s.pending := rfl
@[simp] theorem State.emit_regs (s : State) (x : Out) : (s.emit x).regs = s.regs := rfl
@[simp] theorem State.emit_pairCap (s : State) (x : Out) : (s.emit x).pairCap = s.pairCap := rfl
@[simp] theorem State.emit_wolDone (s : State) (x : Out) : (s.emit x).wolDone = s.wolDone := rfl
@[simp] theorem State.emit_mem (s : State) (x : Out) : (s.emit x).mem = s.mem := rfl
@[simp] theorem State.emit_ue (s : State) (x : Out) : (s.emit x).ue = s.ue := rfl
@[simp] theorem State.emit_ce (s : State) (x : Out) : (s.emit x).ce = s.ce := rfl
@[simp] theorem State.emit_carrelInit (s : State) (x : Out) : (s.emit x).carrelInit = s.carrelInit := rfl
@[simp] theorem State.emit_scrubs (s : State) (x : Out) : (s.emit x).scrubs = s.scrubs := rfl
@[simp] theorem State.emit_ceEvent (s : State) (x : Out) : (s.emit x).ceEvent = s.ceEvent := rfl
@[simp] theorem State.emit_logFifo (s : State) (x : Out) : (s.emit x).logFifo = s.logFifo := rfl
@[simp] theorem State.emit_logRing (s : State) (x : Out) : (s.emit x).logRing = s.logRing := rfl
@[simp] theorem State.emit_journal (s : State) (x : Out) : (s.emit x).journal = s.journal := rfl
@[simp] theorem State.emit_time (s : State) (x : Out) : (s.emit x).time = s.time := rfl
@[simp] theorem State.emit_freeCtr (s : State) (x : Out) : (s.emit x).freeCtr = s.freeCtr := rfl
@[simp] theorem State.emit_cores (s : State) (x : Out) : (s.emit x).cores = s.cores := rfl
@[simp] theorem State.emit_tiles (s : State) (x : Out) : (s.emit x).tiles = s.tiles := rfl
@[simp] theorem State.emit_host (s : State) (x : Out) : (s.emit x).host = s.host := rfl
@[simp] theorem State.emit_gma (s : State) (x : Out) : (s.emit x).gma = s.gma := rfl
@[simp] theorem State.emit_trust (s : State) (x : Out) : (s.emit x).trust = s.trust := rfl
@[simp] theorem State.emit_dict (s : State) (x : Out) : (s.emit x).dict = s.dict := rfl
@[simp] theorem State.emit_power (s : State) (x : Out) : (s.emit x).power = s.power := rfl
@[simp] theorem State.emit_links (s : State) (x : Out) : (s.emit x).links = s.links := rfl
@[simp] theorem State.emit_lastLink (s : State) (x : Out) : (s.emit x).lastLink = s.lastLink := rfl
@[simp] theorem State.emit_unreach (s : State) (x : Out) : (s.emit x).unreach = s.unreach := rfl
@[simp] theorem State.emit_jobs (s : State) (x : Out) : (s.emit x).jobs = s.jobs := rfl
@[simp] theorem State.emit_store (s : State) (x : Out) : (s.emit x).store = s.store := rfl
@[simp] theorem State.emit_ckpt (s : State) (x : Out) : (s.emit x).ckpt = s.ckpt := rfl
@[simp] theorem State.emit_epoch (s : State) (x : Out) : (s.emit x).epoch = s.epoch := rfl
@[simp] theorem State.emit_ports (s : State) (x : Out) : (s.emit x).ports = s.ports := rfl
@[simp] theorem State.emit_tel (s : State) (x : Out) : (s.emit x).tel = s.tel := rfl
@[simp] theorem State.emit_mgmt (s : State) (x : Out) : (s.emit x).mgmt = s.mgmt := rfl

@[simp] theorem State.drew_pending (s : State) : (s.drew).pending = s.pending := rfl
@[simp] theorem State.drew_regs (s : State) : (s.drew).regs = s.regs := rfl
@[simp] theorem State.drew_pairCap (s : State) : (s.drew).pairCap = s.pairCap := rfl
@[simp] theorem State.drew_wolDone (s : State) : (s.drew).wolDone = s.wolDone := rfl
@[simp] theorem State.drew_mem (s : State) : (s.drew).mem = s.mem := rfl
@[simp] theorem State.drew_ue (s : State) : (s.drew).ue = s.ue := rfl
@[simp] theorem State.drew_ce (s : State) : (s.drew).ce = s.ce := rfl
@[simp] theorem State.drew_carrelInit (s : State) : (s.drew).carrelInit = s.carrelInit := rfl
@[simp] theorem State.drew_scrubs (s : State) : (s.drew).scrubs = s.scrubs := rfl
@[simp] theorem State.drew_ceEvent (s : State) : (s.drew).ceEvent = s.ceEvent := rfl
@[simp] theorem State.drew_logFifo (s : State) : (s.drew).logFifo = s.logFifo := rfl
@[simp] theorem State.drew_logRing (s : State) : (s.drew).logRing = s.logRing := rfl
@[simp] theorem State.drew_journal (s : State) : (s.drew).journal = s.journal := rfl
@[simp] theorem State.drew_time (s : State) : (s.drew).time = s.time := rfl
@[simp] theorem State.drew_out (s : State) : (s.drew).out = s.out := rfl
@[simp] theorem State.drew_cores (s : State) : (s.drew).cores = s.cores := rfl
@[simp] theorem State.drew_tiles (s : State) : (s.drew).tiles = s.tiles := rfl
@[simp] theorem State.drew_host (s : State) : (s.drew).host = s.host := rfl
@[simp] theorem State.drew_gma (s : State) : (s.drew).gma = s.gma := rfl
@[simp] theorem State.drew_trust (s : State) : (s.drew).trust = s.trust := rfl
@[simp] theorem State.drew_dict (s : State) : (s.drew).dict = s.dict := rfl
@[simp] theorem State.drew_power (s : State) : (s.drew).power = s.power := rfl
@[simp] theorem State.drew_links (s : State) : (s.drew).links = s.links := rfl
@[simp] theorem State.drew_lastLink (s : State) : (s.drew).lastLink = s.lastLink := rfl
@[simp] theorem State.drew_unreach (s : State) : (s.drew).unreach = s.unreach := rfl
@[simp] theorem State.drew_jobs (s : State) : (s.drew).jobs = s.jobs := rfl
@[simp] theorem State.drew_store (s : State) : (s.drew).store = s.store := rfl
@[simp] theorem State.drew_ckpt (s : State) : (s.drew).ckpt = s.ckpt := rfl
@[simp] theorem State.drew_epoch (s : State) : (s.drew).epoch = s.epoch := rfl
@[simp] theorem State.drew_ports (s : State) : (s.drew).ports = s.ports := rfl
@[simp] theorem State.drew_tel (s : State) : (s.drew).tel = s.tel := rfl
@[simp] theorem State.drew_mgmt (s : State) : (s.drew).mgmt = s.mgmt := rfl

@[simp] theorem State.writeByte_pending (s : State) (a : Nat) (b : Byte) : (s.writeByte a b).pending = s.pending := rfl
@[simp] theorem State.writeByte_regs (s : State) (a : Nat) (b : Byte) : (s.writeByte a b).regs = s.regs := rfl
@[simp] theorem State.writeByte_pairCap (s : State) (a : Nat) (b : Byte) : (s.writeByte a b).pairCap = s.pairCap := rfl
@[simp] theorem State.writeByte_wolDone (s : State) (a : Nat) (b : Byte) : (s.writeByte a b).wolDone = s.wolDone := rfl
@[simp] theorem State.writeByte_ue (s : State) (a : Nat) (b : Byte) : (s.writeByte a b).ue = s.ue := rfl
@[simp] theorem State.writeByte_ce (s : State) (a : Nat) (b : Byte) : (s.writeByte a b).ce = s.ce := rfl
@[simp] theorem State.writeByte_carrelInit (s : State) (a : Nat) (b : Byte) : (s.writeByte a b).carrelInit = s.carrelInit := rfl
@[simp] theorem State.writeByte_scrubs (s : State) (a : Nat) (b : Byte) : (s.writeByte a b).scrubs = s.scrubs := rfl
@[simp] theorem State.writeByte_ceEvent (s : State) (a : Nat) (b : Byte) : (s.writeByte a b).ceEvent = s.ceEvent := rfl
@[simp] theorem State.writeByte_logFifo (s : State) (a : Nat) (b : Byte) : (s.writeByte a b).logFifo = s.logFifo := rfl
@[simp] theorem State.writeByte_logRing (s : State) (a : Nat) (b : Byte) : (s.writeByte a b).logRing = s.logRing := rfl
@[simp] theorem State.writeByte_journal (s : State) (a : Nat) (b : Byte) : (s.writeByte a b).journal = s.journal := rfl
@[simp] theorem State.writeByte_time (s : State) (a : Nat) (b : Byte) : (s.writeByte a b).time = s.time := rfl
@[simp] theorem State.writeByte_freeCtr (s : State) (a : Nat) (b : Byte) : (s.writeByte a b).freeCtr = s.freeCtr := rfl
@[simp] theorem State.writeByte_out (s : State) (a : Nat) (b : Byte) : (s.writeByte a b).out = s.out := rfl
@[simp] theorem State.writeByte_cores (s : State) (a : Nat) (b : Byte) : (s.writeByte a b).cores = s.cores := rfl
@[simp] theorem State.writeByte_tiles (s : State) (a : Nat) (b : Byte) : (s.writeByte a b).tiles = s.tiles := rfl
@[simp] theorem State.writeByte_host (s : State) (a : Nat) (b : Byte) : (s.writeByte a b).host = s.host := rfl
@[simp] theorem State.writeByte_gma (s : State) (a : Nat) (b : Byte) : (s.writeByte a b).gma = s.gma := rfl
@[simp] theorem State.writeByte_trust (s : State) (a : Nat) (b : Byte) : (s.writeByte a b).trust = s.trust := rfl
@[simp] theorem State.writeByte_dict (s : State) (a : Nat) (b : Byte) : (s.writeByte a b).dict = s.dict := rfl
@[simp] theorem State.writeByte_power (s : State) (a : Nat) (b : Byte) : (s.writeByte a b).power = s.power := rfl
@[simp] theorem State.writeByte_links (s : State) (a : Nat) (b : Byte) : (s.writeByte a b).links = s.links := rfl
@[simp] theorem State.writeByte_lastLink (s : State) (a : Nat) (b : Byte) : (s.writeByte a b).lastLink = s.lastLink := rfl
@[simp] theorem State.writeByte_unreach (s : State) (a : Nat) (b : Byte) : (s.writeByte a b).unreach = s.unreach := rfl
@[simp] theorem State.writeByte_jobs (s : State) (a : Nat) (b : Byte) : (s.writeByte a b).jobs = s.jobs := rfl
@[simp] theorem State.writeByte_store (s : State) (a : Nat) (b : Byte) : (s.writeByte a b).store = s.store := rfl
@[simp] theorem State.writeByte_ckpt (s : State) (a : Nat) (b : Byte) : (s.writeByte a b).ckpt = s.ckpt := rfl
@[simp] theorem State.writeByte_epoch (s : State) (a : Nat) (b : Byte) : (s.writeByte a b).epoch = s.epoch := rfl
@[simp] theorem State.writeByte_ports (s : State) (a : Nat) (b : Byte) : (s.writeByte a b).ports = s.ports := rfl
@[simp] theorem State.writeByte_tel (s : State) (a : Nat) (b : Byte) : (s.writeByte a b).tel = s.tel := rfl
@[simp] theorem State.writeByte_mgmt (s : State) (a : Nat) (b : Byte) : (s.writeByte a b).mgmt = s.mgmt := rfl

/-! ### Reading back -/

@[simp] theorem State.reg_setReg (s : State) (o k : Nat) (v : Word) :
    (s.setReg o v).reg k = if k = o then v else s.reg k := by
  simp only [State.reg, State.setReg, Tab.find?_set]
  split <;> rfl

theorem State.reg_setFld {s : State} {f : Fld} {v k : Nat} (h : k ≠ f.off) : (s.setFld f v).reg k = s.reg k := by
  simp [State.setFld, h]

theorem State.fld_setFld_of_ne {s : State} {f g : Fld} {v : Nat} (h : g.off ≠ f.off) : (s.setFld f v).fld g = s.fld g := by
  simp [State.fld, State.reg_setFld h]

theorem State.flag_setFlag_of_ne {s : State} {f g : Fld} {b : Bool} (h : g.off ≠ f.off) :
    (s.setFlag f b).flag g = s.flag g := by
  simp [State.flag, State.setFlag, State.fld_setFld_of_ne h]

@[simp] theorem State.tile_setTile (s : State) (t k : Nat) (x : Tile) :
    (s.setTile t x).tile k = if k = t then x else s.tile k := by simp [State.tile, State.setTile]

@[simp] theorem State.fn_setFn (s : State) (n k : Nat) (x : Fn) :
    (s.setFn n x).fn k = if k = n then x else s.fn k := by simp [State.fn, State.setFn]

@[simp] theorem State.ctx_setCtx (s : State) (c k : Nat) (x : Ctx) :
    (s.setCtx c x).ctx k = if k = c then x else s.ctx k := by simp [State.ctx, State.setCtx]

@[simp] theorem State.lnk_modLink (s : State) (n k : Nat) (f : Link → Link) :
    (s.modLink n f).lnk k = if k = n then f (s.lnk n) else s.lnk k := by simp [State.lnk, State.modLink]

@[simp] theorem State.ck_modCk (s : State) (j k : Nat) (f : Ckpt → Ckpt) :
    (s.modCk j f).ck k = if k = j then f (s.ck j) else s.ck k := by simp [State.ck, State.modCk]

/-! ### Fields -/

/-- A field reads what was set, cut to its width. -/
theorem bits_setBits (w hi lo x : Nat) (h : lo ≤ hi) : bits (setBits w hi lo x) hi lo = x % 2 ^ (hi + 1 - lo) := by
  have e : 2 ^ (hi + 1) = 2 ^ (hi + 1 - lo) * 2 ^ lo := by rw [← Nat.pow_add]; congr 1; omega
  have hlo : w % 2 ^ lo < 2 ^ lo := Nat.mod_lt _ (Nat.two_pow_pos lo)
  simp only [bits, setBits, Nat.shiftRight_eq_div_pow]
  rw [e, show w / (2 ^ (hi + 1 - lo) * 2 ^ lo) * (2 ^ (hi + 1 - lo) * 2 ^ lo) + x % 2 ^ (hi + 1 - lo) * 2 ^ lo + w % 2 ^ lo =
    w % 2 ^ lo + (w / (2 ^ (hi + 1 - lo) * 2 ^ lo) * 2 ^ (hi + 1 - lo) + x % 2 ^ (hi + 1 - lo)) * 2 ^ lo by
      rw [Nat.add_mul, Nat.mul_assoc]; omega]
  rw [Nat.add_mul_div_right _ _ (Nat.two_pow_pos lo), Nat.div_eq_of_lt hlo, Nat.zero_add, Nat.mul_comm (w / _),
    Nat.mul_add_mod, Nat.mod_mod]

/-- A value that was set stays within the word where the word and the field do. -/
theorem setBits_lt (w hi lo x : Nat) (h : lo ≤ hi) (hi32 : hi < 32) (hw : w < 2 ^ 32) : setBits w hi lo x < 2 ^ 32 := by
  have e : 2 ^ (hi + 1) = 2 ^ (hi + 1 - lo) * 2 ^ lo := by rw [← Nat.pow_add]; congr 1; omega
  have e2 : 2 ^ 32 = 2 ^ (32 - (hi + 1)) * 2 ^ (hi + 1) := by rw [← Nat.pow_add]; congr 1; omega
  have h1 : w % 2 ^ lo < 2 ^ lo := Nat.mod_lt _ (Nat.two_pow_pos lo)
  have h2 : x % 2 ^ (hi + 1 - lo) < 2 ^ (hi + 1 - lo) := Nat.mod_lt _ (Nat.two_pow_pos _)
  have h3 : x % 2 ^ (hi + 1 - lo) * 2 ^ lo + w % 2 ^ lo < 2 ^ (hi + 1) := by
    rw [e]
    calc x % 2 ^ (hi + 1 - lo) * 2 ^ lo + w % 2 ^ lo < x % 2 ^ (hi + 1 - lo) * 2 ^ lo + 2 ^ lo := by omega
      _ = (x % 2 ^ (hi + 1 - lo) + 1) * 2 ^ lo := by rw [Nat.add_mul, Nat.one_mul]
      _ ≤ 2 ^ (hi + 1 - lo) * 2 ^ lo := Nat.mul_le_mul_right _ h2
  have h4 : w / 2 ^ (hi + 1) < 2 ^ (32 - (hi + 1)) := by
    rw [Nat.div_lt_iff_lt_mul (Nat.two_pow_pos _), ← e2]; exact hw
  simp only [setBits, Nat.shiftRight_eq_div_pow]
  calc _ < w / 2 ^ (hi + 1) * 2 ^ (hi + 1) + 2 ^ (hi + 1) := by omega
    _ = (w / 2 ^ (hi + 1) + 1) * 2 ^ (hi + 1) := by rw [Nat.add_mul, Nat.one_mul]
    _ ≤ 2 ^ (32 - (hi + 1)) * 2 ^ (hi + 1) := Nat.mul_le_mul_right _ h4
    _ = 2 ^ 32 := e2.symm

/-- A field of a register reads the value it was set to. -/
theorem State.fld_setFld {s : State} {f : Fld} {v : Nat} (h : f.lo ≤ f.hi) (h32 : f.hi < 32) (hv : v < 2 ^ (f.hi + 1 - f.lo)) :
    (s.setFld f v).fld f = v := by
  simp only [State.fld, State.setFld, State.reg_setReg, if_true, BitVec.toNat_ofNat]
  rw [Nat.mod_eq_of_lt (setBits_lt _ _ _ _ h h32 (s.reg f.off).isLt), bits_setBits _ _ _ _ h, Nat.mod_eq_of_lt hv]

theorem State.flag_setFlag {s : State} {f : Fld} {b : Bool} (h : f.lo ≤ f.hi) (h32 : f.hi < 32) : (s.setFlag f b).flag f = b := by
  have hp : 2 ^ 1 ≤ 2 ^ (f.hi + 1 - f.lo) := Nat.pow_le_pow_right (by decide) (by omega)
  have hv : ofBool b < 2 ^ (f.hi + 1 - f.lo) := by cases b <;> simp [ofBool] <;> omega
  rw [State.flag, State.setFlag, State.fld_setFld h h32 hv]
  cases b <;> rfl

end Sys2Proof.Machine
end

