-- ==== Sys2Proof/Laws/Ops.lean ====
section
/-!
SUPPORT. What the shared operations on registers and the log can do, said once.
-/
namespace Sys2Proof.Machine

/-- A field that hardware sets changes its register alone. -/
theorem State.setFld_eq (s : State) (f : Fld) (v : Nat) :
    s.setFld f v = s.setReg f.off (BitVec.ofNat 32 (setBits (s.reg f.off).toNat f.hi f.lo v)) := rfl

/-- An entry for the log joins the FIFO, or is counted as dropped: registers and FIFO change, and nothing else; the FIFO holds no
more than 64 entries (R606). -/
theorem State.postLog_cases (s : State) (e : LogEntry) :
    ∃ r q, s.postLog e = { s with regs := r, logFifo := q } ∧ (s.logFifo.length ≤ 64 → q.length ≤ 64) ∧
      (q = s.logFifo ∨ (q = s.logFifo ++ [e] ∧ r = s.regs)) := by
  unfold State.postLog
  split
  · split
    · exact ⟨_, s.logFifo, rfl, id, .inl rfl⟩
    · exact ⟨s.regs, _, rfl, fun _ => by simp; omega, .inr ⟨rfl, rfl⟩⟩
  · split
    · exact ⟨_, s.logFifo, rfl, id, .inl rfl⟩
    · exact ⟨s.regs, _, rfl, fun _ => by simp; omega, .inr ⟨rfl, rfl⟩⟩

/-- An error bit that sets changes registers and the log's FIFO, and nothing else (R51, R606). -/
theorem State.raise_cases (s : State) (b : Blk) (bit : Nat) (m : Master) (off data : Nat) :
    ∃ r q, s.raise b bit m off data = { s with regs := r, logFifo := q } ∧ (s.logFifo.length ≤ 64 → q.length ≤ 64) := by
  obtain ⟨r, q, h, hq, -⟩ := State.postLog_cases (s.setFlag (b.err bit) true) ⟨m.word, (s.setFlag (b.err bit) true).modTime,
    blockCode b.kind, b.inst, Config.eventSeverity (blockCode b.kind) bit, 0, bit, off, data⟩
  exact ⟨r, q, h, hq⟩

/-- An access error changes registers and the log's FIFO, and nothing else (R52, R64). -/
theorem State.raiseAccess_cases (s : State) (b : Blk) (bit : Nat) (m : Master) (off data : Nat) (silent : Bool) :
    ∃ r q, s.raiseAccess b bit m off data silent = { s with regs := r, logFifo := q } ∧ (s.logFifo.length ≤ 64 → q.length ≤ 64) := by
  unfold State.raiseAccess State.postErr
  cases silent
  · simp only [Bool.false_eq_true, if_false]
    split
    · obtain ⟨r, q, h, hq, -⟩ := State.postLog_cases (((s.setReg b.errMasterOff m.word).setReg b.errAddrOff
        (BitVec.ofNat 32 (off % 2 ^ 26))).setFlag (b.err bit) true) _
      exact ⟨r, q, h, hq⟩
    · obtain ⟨r, q, h, hq, -⟩ := State.postLog_cases (s.setFlag (b.err bit) true) _
      exact ⟨r, q, h, hq⟩
  · simp only [if_true]
    split <;> exact ⟨_, s.logFifo, rfl, id⟩

/-- The response of the dictionary to a session leaves everything but what left the module (R629). -/
theorem State.dictAnswer_session (s : State) {n : Nat} (h : n ≠ 0) (svc seq off abort total : Nat) (bs : List Byte) :
    s.dictAnswer svc n seq off abort total bs = s.emit (.dict n abort (dictFrame svc seq off abort total bs)) := by
  simp [State.dictAnswer, h]

/-! ### Barrier groups at reset -/

theorem inPlace_gma (o : Nat) (h : 0x1200000 ≤ o) (h2 : o < 0x1220000) (k : BlockKind) :
    ((blockPlace k).1 ≤ o ∧ o < (blockPlace k).1 + (blockPlace k).2.1 * (blockPlace k).2.2) ↔ k = .gma := by
  cases k <;> simp only [blockPlace, reduceCtorEq, iff_false, iff_true] <;> omega

theorem blockAt_gma (o : Nat) (h : 0x1200000 ≤ o) (h2 : o < 0x1220000) : ∃ rel, 0x200000 ≤ rel ∧ blockAt o = some (blkGma, rel) := by
  have hf : (fun k =>
    let (o', c, n) := blockPlace k
    if o' ≤ o ∧ o < o' + c * n then some (Blk.mk k ((o - o') / n), (o - o') % n) else none) =
    (fun k => if k = .gma then some (Blk.mk .gma 0, o - 0x1000000) else none) := by
    funext k
    have := inPlace_gma o h h2 k
    simp only [this]
    split
    · next hk => subst hk; simp only [blockPlace, Option.some.injEq, Prod.mk.injEq, Blk.mk.injEq, true_and]; constructor <;> omega
    · rfl
  refine ⟨o - 0x1000000, by omega, ?_⟩
  unfold blockAt
  rw [hf]
  simp only [blockKinds, List.findSome?, reduceCtorEq, if_false, if_true]
  rfl

theorem covers_far : ∀ r ∈ blockRows .gma, bits (BitVec.ofNat 32 r.resetValue).toNat 31 31 = 0 ∨ (r.stride = 0 ∧ r.off < 0x200000) := by decide +kernel

theorem resetAt_gma (o : Nat) (h : 0x1200000 ≤ o) (h2 : o < 0x1220000) : bits (resetAt o).toNat 31 31 = 0 := by
  obtain ⟨rel, hr, hb⟩ := blockAt_gma o h h2
  unfold resetAt regAt
  rw [hb]
  cases hf : (blockRows blkGma.kind).find? (fun r => r.covers rel) with
  | none => simp only [hf]; rfl
  | some r =>
    have hm := List.mem_of_find?_eq_some hf
    have hc := List.find?_some hf
    simp only [hf]
    rcases covers_far r hm with hk | ⟨h0, h1⟩
    · exact hk
    · exfalso
      simp only [RegRow.covers, h0, Bool.and_eq_true, decide_eq_true_eq, if_true] at hc
      omega

/-- A state whose listed registers lie outside the barrier groups has no enabled group. -/
theorem no_groups (s : State)
    (h : s.regs.all (fun r => decide (r.1 < 0x1200000 ∨ 0x1220000 ≤ r.1)) = true) (g : Nat) (hg : g < 4096) :
    s.flag (F.GMA_BAR_CFG_ENABLE g) = false := by
  have hn : ∀ (l : Tab Word) k, l.all (fun r => decide (r.1 < 0x1200000 ∨ 0x1220000 ≤ r.1)) = true → 0x1200000 ≤ k → k < 0x1220000 → Tab.find? l k = none := by
    intro l
    induction l with
    | nil => intros; rfl
    | cons e t ih =>
      intro k ha h1 h2
      simp only [List.all_cons, Bool.and_eq_true, decide_eq_true_eq] at ha
      obtain ⟨a, b⟩ := e
      simp only [Tab.find?]
      rw [if_neg (by simp at ha; omega)]
      exact ih k ha.2 h1 h2
  have := hn s.regs (0x1200000 + 0x20 * g) h (by omega) (by omega)
  simp only [State.flag, State.fld, State.reg, F.GMA_BAR_CFG_ENABLE, this, Option.getD_none,
    resetAt_gma (0x1200000 + 0x20 * g) (by omega) (by omega)]
  rfl

end Sys2Proof.Machine
end

