-- ==== Sys2Proof/Tests/Slice0.lean ====
section
/-!
SUPPORT. Tests: what WellFormed refuses, a witness for the hypotheses of each statement, and single steps with results worked
out from the chapters.
-/
namespace Sys2Proof.Tests
open Sys2Proof Sys2Proof.Machine
set_option Elab.async false

/-! ### WellFormed: one ill-formed term for each check -/

def lib : Master := ⟨.librarian, 0, true⟩
def pf0 : Master := ⟨.hostPf, 0, false⟩
def hdr : NvHdr := ⟨1, 0, 0, 0, false⟩
def zeros (n : Nat) : List Byte := List.replicate n 0
def pkt : Packet := ⟨0, 0, 0, 0, 0, 0, 0, 0, 0, true, true, false, false, 0, false, 0, 0, 0, 0, 0, []⟩
def ctxReq : CtxReq :=
  ⟨none, 0, false, false, 1, 0, 0, 0, 0, false, false, 0, 6, 0, 0, 0, 0, 0, 0, 0, 0, 0, 0, 0, 0, 0, 0, 0, 0, 0, false, false, 0, 0, 0, 0⟩
def partReq : PartReq := ⟨0, 0, 1, none, false, [], []⟩
def report : StartReport := ⟨0, [true, true], [true, true], [], [], [], 100, [], (0, 0), [], 3200⟩
def dh (sess idx sub total : Nat) : DHdr := ⟨sess, 1, idx, sub, 0, total⟩
def nsRec : NsRec := ⟨false, 0, 0, 0, [0], [[0]], 1, 0, none, [], false, false⟩
def drvInfo : DriveInfo := ⟨true, 1, [], [], 5, 4⟩

theorem test_wf_masters_and_registers :
    ([.registerWrite ⟨.none, 0, false⟩ 0 4 0, .registerWrite ⟨.librarian, 1, true⟩ 0 4 0, .registerWrite ⟨.librarian, 0, false⟩ 0 4 0,
      .registerWrite ⟨.circulation, 8, true⟩ 0 4 0, .registerWrite ⟨.lectern, 16, true⟩ 0 4 0, .registerWrite ⟨.tileDma, 16, true⟩ 0 4 0,
      .registerWrite ⟨.hostPf, 2, false⟩ 0 4 0, .registerWrite ⟨.hostPf, 0, true⟩ 0 4 0, .registerWrite ⟨.hostVf, 64, false⟩ 0 4 0,
      .registerWrite ⟨.remoteQueue, 262144, false⟩ 0 4 0, .registerWrite ⟨.debug, 0, false⟩ 0 4 0, .registerWrite lib (2 ^ 32) 4 0,
      .registerWrite lib 0 3 0, .bitAliasWrite lib (2 ^ 31) 0, .blockEnable lib ⟨.rtp, 4⟩, .blockLock lib ⟨.gma, 1⟩] :
      List Instr).all (fun i => !i.wellFormed) = true := by decide +kernel

theorem test_wf_cores_tiles_links :
    ([.nop 25, .tpush 16, .reservedOpcode 24 0x19, .reservedOpcode 0 0x80, .beq 0 false 0x10000, .load 16 none, .cmdComplete 0 64 none,
      .hbcScrubGo lib false 16, .hbcScrubGo lib true 8, .hbmRowClose 0 64, .detectProbe 48, .equalisationResult 0 true 16,
      .keyxComplete 0 true 0 [], .dataFlit 0 [] true, .packetRoute { pkt with dst := 2 ^ 20 } none false,
      .packetRoute { pkt with payload := [], length := 2 ^ 13 } none false, .packetRoute pkt (some 48) false] :
      List Instr).all (fun i => !i.wellFormed) = true := by decide +kernel

theorem test_wf_contexts_jobs_checkpoint :
    ([.put 262144, .ctxDoorbell lib 0 (2 ^ 32), .putReceive pkt 2, .msgTimeout 0 (2 ^ 24), .winEnable lib 4096, .barGroupEnable lib 4096 true,
      .partitionEnable lib 16, .joinReceive (2 ^ 20) 0 0 0, .joinReceive 0 (2 ^ 32) 0 0, .joinReceive 0 0 0 (2 ^ 128), .stragglerExpiry 0 (2 ^ 20),
      .streamFrameDone lib 0 (2 ^ 32), .ckQuiesce (2 ^ 32) 0 0 0 2 none, .ckQuiesce 0 0 0 0 1 none, .ckQuiesce 0 0 0 3 2 none,
      .ckQuiesce 0 0 0 0 2 (some 48), .ckWritten 0 0 0 [[]], .ckFailed 0 0 0 256, .rsBegin 0 0 (2 ^ 384) [] none, .rsBegin 0 0 0 [[]] none,
      .shardPartRequest 0 0 0 0 0 0 0 0 [] none, .inputSample 65536 0, .inputSample 0 655360, .budgetTick 0 0 [] [], .capWrite lib 65536,
      .squallDutyStep 257, .sensorRead [] [], .thermalTrip 56] : List Instr).all (fun i => !i.wellFormed) = true := by decide +kernel

theorem test_wf_trust_and_host :
    ([.getVersion 130, .negotiateAlgorithms 0 (2 ^ 32) 0 0 0 0 0, .getCertificate 0 8 0 0, .challenge 0 0 [], .keyExchange 0 0 [],
      .finish (2 ^ 32) none true, .finish 0 (some []) true, .chunkSend 0 0 true (zeros 4097), .bind 0 (2 ^ 16), .keyImport 0 0 4096 1 0 false [],
      .keyImport 0 0 0 8 0 false [], .keyImport 0 0 0 1 16 false [], .keyDerive 0 0 0 1 1 1 [], .cipherDoorbell lib 1024 0,
      .gcmEnc 0 (some (32, 0)), .engineSelfTestDone 32 true, .ideKmRequest 0 (.go 9 0), .ideKmRequest 0 (.stop 0 2),
      .ideKmRequest 0 (.prog 0 0 [] [128]), .ideStreamInsecure 9, .configRequest 128 0 (.mse true), .configRequest 0 (2 ^ 14) (.mse true),
      .bar2Read 0 0 0 0, .bar2Write 0 0 [], .bar2Atomic 0 0 0 2 (.swap 0), .readCompletion 0 0 0 (zeros 4097) true, .atsInvalidate 0 none 0 0,
      .msixUnmask 0 2048 0 0, .powerStateChange 2 0, .powerStateChange 0 3, .endpointLinkChange 7 1 1 true, .endpointLinkChange 0 7 1 true] :
      List Instr).all (fun i => !i.wellFormed) = true := by decide +kernel

theorem test_wf_mailbox_and_vfs :
    ([.mailboxGo 128, .partCreate 0 { partReq with p := 16 }, .partCreate 0 { partReq with role := 8 }, .partCreate 0 { partReq with tiles := 65536 },
      .partCreate 0 { partReq with job := some 16 }, .partCreate 0 { partReq with granules := [768] }, .ctxCreate 0 0 { ctxReq with typ := 2 },
      .ctxCreate 0 0 { ctxReq with maxOut := 128 }, .ctxCreate 0 0 { ctxReq with ringBase := 1 }, .winWrite 0 0 (2 ^ 32) 0 0 0 0 0,
      .barrierWrite 0 0 (2 ^ 32) 0 0, .ringCreate 0 0 (some 16) 0 0 0 0, .slotMap 0 1024 0, .slotMap 0 0 768, .eventRingSet 0 (2 ^ 64) 0 0 0,
      .vfCreate 0 [], .vfDestroy 0 1, .vfSetQos 0 2 256 0, .vfEnableChange 2 true 0, .vfEnableChange 0 true 64, .movePrepare 0 2 (2 ^ 20) 2 true,
      .movePrepare 0 2 0 0 true, .moveRestore 0 2 0 2 []] : List Instr).all (fun i => !i.wellFormed) = true := by decide +kernel

theorem test_wf_storage_and_ports :
    ([.nvmeSqDoorbell 0 0 0, .nvmeSqDoorbell 65 0 0, .nvmeSqDoorbell 1 1536 0, .nvmeFlush { hdr with sq := 65536 }, .nvmeFlush { hdr with nsid := 2 ^ 32 },
      .createIoSq hdr 1 2 1 4 true, .nvmeWrite hdr 0 0 false none none, .nvmeWrite hdr 0 1 false (some []) none, .nvmeRead hdr 0 1 true (some 32),
      .controllerEnable 1 8 2 2, .controllerEnable 1 0 1 2, .firmwareCommit hdr 8 0, .destageBlock 0 0, .destageBlock 1025 0, .wbModeChange 101 0,
      .driveFailure 8, .driveJoin 0 { drvInfo with extents := 0 }, .driveJoin 0 { drvInfo with labels := [⟨0, [(0, nsRec)]⟩] },
      .feedDoorbell lib 16 0, .frontPortLinkChange 2 true false 0 0, .frontPortLinkChange 0 true false 8 0, .frameReceive 0 [] true 1000 none,
      .pfcFrameReceive 0 0 [], .pfcPauseExpiry 0 8, .ruleValidate lib 0 4096 0, .policerWrite lib 0 1024 0 0, .policerWrite lib 0 0 4 0,
      .rxConsumerDoorbell lib 0 512 0, .txFrame 0 512 none, .rocePacketReceive 0 (2 ^ 24) [], .telSample 512 0] :
      List Instr).all (fun i => !i.wellFormed) = true := by decide +kernel

theorem test_wf_start_and_dictionary :
    ([.startSequence { report with slotId := 64 }, .startSequence { report with slotOk := [] }, .startSequence { report with fails := [(3, .tile 0, 1)] },
      .startSequence { report with fails := [(4, .tile 16, 1)] }, .startSequence { report with floorW := 5 }, .startSequence { report with stop := (10, 0) },
      .startSequence { report with stalls := [(9, [])] }, .startSequence { report with ms := 65536 }, .circWatchdogExpiry 8, .tracePoint 9 0,
      .dictRead (dh 11 0 0 0), .dictWrite (dh 1 0x9001 1 0) [], .sessionOpen 0, .sessionIdleTimeout 11, .loginBarExpiry 3, .scrubGo (dh 1 0xA111 3 1) [1],
      .dictEddy (dh 1 0xA201 49 1) [0], .routeTables (dh 1 0x3013 1 0) [] [(true, 16384, 0)], .nsCreate (dh 1 0x4010 1 0) [] ⟨false, 0, 0, [8], 1⟩,
      .nsKeyBind (dh 1 0x4012 1 0) [] 1 4096, .jobGroup (dh 1 0x9001 1 0) [] 0 4096 false [], .partition (dh 1 0x9002 2 0) [] 1 partReq,
      .restore (dh 1 0x9013 1 0) [] 16 0 0 0 0 0 0 [], .commit (dh 1 0x7001 4 1) [1], .i3cAddressAssign 128, .jtagAccess true 2 0,
      .jtagAccess true (2 ^ 40) 0] : List Instr).all (fun i => !i.wellFormed) = true := by decide +kernel

theorem test_wf_accepts :
    ([.registerWrite lib 0 4 0, .nop 24, .tpush 15, .reservedOpcode 24 0x80, .load 15 none, .packetRoute pkt none false, .ctxCreate 0 0 ctxReq,
      .partCreate 0 partReq, .nvmeFlush hdr, .driveJoin 7 drvInfo, .startSequence report, .dictWrite (dh 1 0x2003 1 1) [90], .restart (dh 1 0xA300 4 1) [1]] :
      List Instr).all Instr.wellFormed = true := by decide +kernel

/-- The table gives no row bits, so no word spells a command. -/
theorem test_no_words (n w : Nat) : decodeTableWord n w = none := rfl

/-! ### Hypotheses: registers -/

def s0 : State := State.reset
/-- Master `m` may write the register at `off`, no field of which starts a command, and one of its fields meets `p`. -/
def writable (s : State) (m : Master) (off : Nat) (p : Blk → Nat → RegRow → FieldRow → Bool) : Bool :=
  match regAt off with
  | some (b, rel, r) => decide (off % 4 = 0) && !s.regAbsent off && (!r.guarded || s.isSecure m) && r.fields.all (fun f => !f.trig) &&
      r.fields.any (p b rel r)
  | none => false

theorem test_hyp_register_write :
    writable s0 pf0 0xFF00 (fun _ _ _ f => f.acc = .ro) = true ∧ writable s0 pf0 0x3024 (fun _ _ _ f => f.acc = .rw) = true ∧
    writable s0 pf0 0xFF08 (fun _ _ _ f => f.acc = .w1c) = true ∧
    writable s0 lib 0x2000 (fun b rel r f => f.acc = .rwg && !s0.flag b.lock && !s0.gateClosed b rel r && f.least = 1) = true ∧
    writable (s0.setFlag blkMod.lock true) lib 0x2000 (fun b _ _ f => f.acc = .rwg && (s0.setFlag blkMod.lock true).flag b.lock) = true ∧
    writable (s0.setFlag blkMod.active true) lib 0xFF14 (fun b rel r f => f.acc = .rwg &&
      (s0.setFlag blkMod.active true).gateClosed b rel r) = true := by decide +kernel

def lec : Master := ⟨.lectern, 3, false⟩
theorem test_hyp_register_refusals :
    (regAt 0x2000).any (fun x => x.2.2.guarded && decide (x.2.1 < 0xFF00)) = true ∧ s0.isSecure pf0 = false ∧ s0.isFrozen pf0 = false ∧
    s0.isSecure lec = false ∧ s0.isFrozen lec = false ∧ s0.regAbsent 0x2000 = false ∧ s0.logFifo.length < 64 ∧
    (regAt 0x3024).any (fun x => !x.2.2.guarded && decide (x.2.1 < 0xFF00)) = true ∧ regAt 0x9000 = none ∧ inDoors 0x9002 = false := by
  decide +kernel

theorem test_hyp_alias_and_pairs :
    writable s0 pf0 0xFF08 (fun _ _ _ f => f.lo = 18 && f.hi = 18 && f.acc = .w1c && f.least = 0 && f.greatest = 1) = true ∧
    (regAt F.THM_STS_LEAK.off).any (fun x => x.2.2.fields.any (fun f => f.acc = .ro && f.lo = f.hi && !f.trig)) = true ∧
    (regAt 0xFF00).any (fun x => x.2.2.fields.any (fun f => decide (f.lo < f.hi) && !f.trig)) = true ∧
    (regAt 0x3024).any (fun x => x.2.2.fields.any (fun f => decide (f.lo < f.hi) && !f.trig) && decide (x.2.1 < 0xFF00)) = true := by
  decide +kernel

theorem test_hyp_blocks :
    (let s := s0
     s.flag blkGma.enable = false ∧ s.flag blkGma.active = false ∧ s.flag blkGma.crcCheck = false ∧ s.isSecure lib = true) ∧
    (let s := s0.setFlag blkGma.crcCheck true
     s.flag blkGma.enable = false ∧ s.flag blkGma.active = false ∧ s.flag blkGma.crcCheck = true) ∧
    (let s := s0.setFlag blkGma.active true
     s.flag blkGma.enable = false ∧ s.flag blkGma.active = true ∧ s.blockBusy blkGma = false) ∧
    (let s := (s0.setFlag blkGma.crcCheck true).setFlag blkGma.enable true
     s.flag blkGma.enable = true ∧ s.flag blkGma.active = false ∧ s.flag blkGma.crcCheck = true) ∧
    (let s := (s0.setFlag blkGma.crcCheck true).setFlag blkGma.active true
     s.flag blkGma.active = true ∧ s.flag blkGma.crcCheck = true) ∧
    s0.flag F.MYR_FABRIC_ID_VALID = false := by decide +kernel

/-- R52, R55: a W1C bit of BLK_ERR that is written 1 clears; the other bits stay. -/
theorem test_w1c : (match exec (.registerWrite pf0 0xFF08 4 (1 <<< 18)) (s0.setReg 0xFF08 (3 <<< 18)) with
    | .next t => t.reg 0xFF08 = (2 <<< 18 : Word) | _ => false) = true := by decide +kernel

/-- R37, R39: a write where no register lies is a hole: ADDR_HOLE of the MOD block. -/
theorem test_reserved_offset : (match exec (.registerWrite pf0 0x9000 4 1) s0 with
    | .next t => t.flag (blkMod.err 18) && t.reg 0x9000 = 0 | _ => false) = true := by decide +kernel


theorem test_hyp_alias_rw_and_pair :
    (regAt 327680).any (fun x => x.2.2.fields.any (fun f => f.acc = .rw && f.lo = 31 && f.hi = 31 && !f.trig && f.greatest = 1)) = true ∧
    (let o := (Blk.mk .fpp 0).base + 0xB0000
     (regAt o).any (fun x => x.1.kind = .fpp && x.2.1 = 0xB0000 && !x.2.2.guarded && x.2.2.maskOf .wo = 0) = true ∧
     (regAt (o + 4)).any (fun x => x.2.1 = 0xB0004 && !x.2.2.guarded && x.2.2.maskOf .wo = 0) = true ∧
     isPairLo ⟨.fpp, 0⟩ 0xB0000 = true ∧ isPairLo ⟨.fpp, 0⟩ 0xB0004 = false ∧ s0.regAbsent o = false) := by decide +kernel

/-! ### Hypotheses: LX cores -/

def lx (c : Nat) (x : Core) : State := s0.setCore c x
def run1 : Core := { Core.init with st := .running }
def cells (n : Nat) : List LxCell := List.replicate n 1

/-- LxReady as a check. -/
def ready (s : State) (c n : Nat) : Bool :=
  s.coreRuns c false && decide ((s.core c).pc + n ≤ coreIm c) &&
    (eccWords (s.core c).pc n).all (fun w => decide (w ∉ (s.core c).imUe) && decide (w ∉ (s.core c).imCe)) &&
    !(s.core c).we && !(s.core c).halt && decide ((s.core c).ds.length ≤ 32) && decide ((s.core c).rs.length ≤ 16)

theorem ready_iff (s : State) (c n : Nat) : ready s c n = true ↔ LxReady s c n := by
  simp [ready, LxReady, and_assoc]

theorem test_hyp_lx_ready :
    ready (lx 24 run1) 24 1 ∧ ready (lx 24 run1) 24 2 ∧ ready (lx 24 run1) 24 3 ∧ ready (lx 24 run1) 24 5 ∧
    ready (lx 24 { run1 with pc := 0x100000 - 9 }) 24 9 ∧ ready (lx 0 run1) 0 1 := by
  decide +kernel

/-- Deep stacks: the greatest depths that the statements allow, and one index at its bound. -/
theorem test_hyp_lx_depths :
    ready (lx 24 { run1 with ds := cells 31, rs := cells 15 }) 24 1 ∧ ready (lx 24 { run1 with ds := cells 32, rs := cells 16 }) 24 2 ∧
    ready (lx 24 { run1 with ds := 23 :: cells 24 }) 24 1 ∧ (23 : LxCell).toNat ≤ 23 ∧ (23 : LxCell).toNat < (cells 24).length ∧
    ready (lx 24 { run1 with ds := [1], rs := [] }) 24 1 ∧ (lx 24 { run1 with priv := true }).core 24 = { run1 with priv := true } ∧
    ready (lx 24 { run1 with priv := true }) 24 1 := by
  decide +kernel

theorem test_hyp_lx_interrupts :
    (let x := { run1 with irqEn := 1, ie := true }
     (irqReady 24 x).testBit 0 = true) ∧
    (let x := { run1 with irqEn := 8, ie := true, irqLatch := 8, timerCmp := 5 }
     (irqReady 24 x).testBit 3 = true ∧ (∀ k, k < 3 → (irqReady 24 x).testBit k = false)) ∧
    (let x := { run1 with st := .waiting, wait := .wfe, irqEn := 1, ie := true }
     (irqReady 24 x).testBit 0 = true) ∧
    irqReady 24 { run1 with timerCmp := 1 } = 0 ∧ ((lx 24 run1).tile 0).calm = false := by decide +kernel

def dmAt (o : Nat) : LxCell := BitVec.ofNat 64 (dmWindow + o)
def mem0 : State := { s0 with carrelInit := true }
def carrel0 : Nat := carrelAddr 0 0

/-- Loads: own DM at its end, a carrel byte that is present, a reserved address, a buffered store, a misaligned address. -/
theorem test_hyp_lx_loads :
    (let s := { lx 24 { run1 with ds := [dmAt 0xFFFF8] } with carrelInit := true }
     ready s 24 1 ∧ (dmAt 0xFFFF8).toNat % 8 = 0 ∧ (dmAt 0xFFFF8).toNat = dmWindow + 0xFFFF8 ∧ 0xFFFF8 + 8 ≤ coreDm 24 ∧
     (∀ w ∈ eccWords 0xFFFF8 8, w ∉ (s.core 24).dmUe)) ∧
    (let s := { lx 24 { run1 with ds := [BitVec.ofNat 64 carrel0] } with carrelInit := true }
     ready s 24 1 ∧ carrel0 % 8 = 0 ∧ carrel0 < 2 ^ 40 ∧ s.memPresent (s.coreMaster 24) carrel0 = true ∧
     (∀ u ∈ unitsOf carrel0 8, u ∉ s.ue ∧ u ∉ s.ce)) ∧
    regionOf 0xFF00000000 = .reserved ∧ 0xFF00000000 % 8 = 0 ∧
    (let s := { lx 24 { run1 with ds := [BitVec.ofNat 64 carrel0], sbuf := [⟨carrel0, 8, 7⟩] } with carrelInit := true }
     ready s 24 3 ∧ s.memPresent (s.coreMaster 24) carrel0 = true) ∧
    (carrel0 + 1) % 2 ≠ 0 ∧ (carrel0 + 1) / 2 ^ 32 ≠ 0xFFFFFE00 := by
  decide +kernel

theorem test_hyp_lx_stores :
    (let s := { lx 24 { run1 with ds := [BitVec.ofNat 64 carrel0, 9] } with carrelInit := true }
     ready s 24 1 ∧ regionOf carrel0 ≠ .reserved ∧ (s.core 24).sbuf.length < 8) ∧
    (let s := lx 24 { run1 with ds := [BitVec.ofNat 64 carrel0, 9], sbuf := List.replicate 8 ⟨carrel0, 8, 7⟩ }
     ready s 24 3 ∧ 8 ≤ (s.core 24).sbuf.length) ∧
    (let s := { lx 24 { run1 with sbuf := [⟨carrel0, 4, 7⟩] } with carrelInit := true }
     Memory.wf s.mem = true ∧ carrel0 % 4 = 0 ∧ s.memPresent (s.coreMaster 24) carrel0 = true ∧
     (∀ u ∈ unitsOf carrel0 4, u ∉ s.ue ∧ u ∉ s.ce)) ∧
    (∃ off, regionOf regBase = .regs off) := by
  exact ⟨by decide +kernel, by decide +kernel, by decide +kernel, ⟨0, by decide +kernel⟩⟩

theorem test_hyp_lx_atomics :
    (let s := { lx 24 { run1 with ds := [3, 2, BitVec.ofNat 64 carrel0] } with carrelInit := true }
     ready s 24 1 ∧ Memory.wf s.mem = true ∧ carrel0 % 8 = 0 ∧ s.memPresent (s.coreMaster 24) carrel0 = true) ∧
    (let e : SbEntry := ⟨carrel0 + 4, 4, 7⟩
     let s := { lx 24 { run1 with ds := [2, BitVec.ofNat 64 carrel0], sbuf := [e] } with carrelInit := true }
     ready s 24 1 ∧ e ∈ (s.core 24).sbuf ∧ e.addr < carrel0 + 8 ∧ carrel0 < e.addr + e.width ∧
     ready s 24 2 ∧ (∀ n, n ≤ 2 → inFence 24 n e = true) ∧ e.width ∈ [1, 2, 4, 8] ∧ e.addr % e.width = 0 ∧
     s.memPresent (s.coreMaster 24) e.addr = true ∧ (∀ u ∈ unitsOf e.addr e.width, u ∉ s.ue ∧ u ∉ s.ce)) := by
  decide +kernel

theorem test_hyp_lx_fills_and_spills :
    (let x := { run1 with dsBase := dmWindow, dsMem := dmWindow + 64, dsLimit := dmWindow + 128 }
     ready (lx 24 x) 24 1 ∧ x.ds = [] ∧ x.dsMem = dmWindow + 0 + 64 ∧ x.dsBase ≤ dmWindow + 0) ∧
    (let x := { run1 with ds := cells 32, dsBase := dmWindow, dsMem := dmWindow, dsLimit := dmWindow + 64 }
     ready (lx 24 x) 24 2 ∧ x.dsMem + 64 ≤ x.dsLimit) ∧
    (let x := { run1 with ds := cells 32, dsBase := dmWindow, dsMem := dmWindow + 64, dsLimit := dmWindow + 64 }
     ready (lx 24 x) 24 2 ∧ x.dsLimit < x.dsMem + 64) ∧
    (let x := { run1 with ds := cells 8, rs := cells 4, dsMem := dmWindow, dsLimit := dmWindow + 64, rsMem := dmWindow + 64,
                          rsLimit := dmWindow + 96 }
     ready (lx 24 x) 24 1 ∧ x.dsMem + 64 ≤ x.dsLimit ∧ x.rsMem + 32 ≤ x.rsLimit ∧ 0 + 64 ≤ 64) := by
  decide +kernel

def img0 : LoadedImage := ⟨false, 8, dmWindow, dmWindow + 64, dmWindow, dmWindow⟩
theorem test_hyp_lx_control :
    ready (lx 24 { run1 with irqEn := 1 }) 24 1 ∧ irqReady 24 { run1 with irqEn := 1 } ≠ 0 ∧
    ((lx 0 { Core.init with image := some img0 }).core 0).image = some img0 ∧ s0.isSecure lib = true ∧
    ready ((lx 0 { run1 with st := .debug }).setCore 0 { run1 with st := .running }) 0 1 ∧ Tab.getD run1.im run1.pc 0 = 0 := by
  decide +kernel

def openTile (t : Nat) (s : State) : State := s.setFlag (blkTil t).enable true
theorem test_hyp_lx_tensor :
    (let s := openTile 0 (lx 0 { run1 with ds := [dmAt 0xFFC0] })
     ready s 0 1 ∧ s.flag (blkTil 0).enable = true ∧ (s.tile 0).queue.length + ofBool (s.tile 0).failed.isSome < 64 ∧
     (dmAt 0xFFC0).toNat = dmWindow + 0xFFC0 ∧ 0xFFC0 + 64 ≤ coreDm 0) ∧
    (let s := openTile 0 (s0.setTile 0 { Tile.init with queue := List.replicate 64 ⟨0, false, none⟩ }) |>.setCore 0 run1
     ready s 0 1 ∧ ¬(s.tile 0).queue.length + ofBool (s.tile 0).failed.isSome < 64) ∧
    (s0.flag (blkTil 0).enable = false) ∧
    (let s := lx 0 { run1 with ds := [3, 0] }
     ready s 0 1 ∧ (3 : LxCell).toNat ≤ 3) ∧
    (let x := { run1 with st := .waiting, wait := .push true }
     ready ((lx 0 x).setCore 0 { x with st := .running, wait := .none }) 0 1) ∧
    (let x := { run1 with st := .waiting, wait := .twait, ds := [0, 3] }
     ready ((lx 0 x).setCore 0 { x with st := .running, wait := .none }) 0 1 ∧
     (((lx 0 x).fld (F.TIL_SIG_CNT 0 3) + 2 ^ 32 - 0) % 2 ^ 32 < 2 ^ 31)) := by
  decide +kernel

theorem test_hyp_compat :
    (let s := lx 24 { run1 with compat := true, rs := cells 15 }
     s.coreRuns 24 true = true ∧ 4 * (s.core 24).pc + 4 ≤ coreIm 24 ∧
     (∀ n ∈ eccWords (4 * (s.core 24).pc) 4, n ∉ (s.core 24).imUe ∧ n ∉ (s.core 24).imCe) ∧
     (s.core 24).cmp.brTarget = none ∧ (s.core 24).cmp.mulQ = [] ∧ Tab.getD (s.core 24).cmp.g 0x1F 0 = 0 ∧
     ((s.core 24).cmp.lsuAddr + 0x3C) % 2 ^ 32 % 4 = 0 ∧ (0x3C : Nat) + 4 ≤ coreDm 24) := by decide +kernel

/-- R161: the product of additions wraps modulo 2^64. -/
theorem test_add_wraps : (match exec (.add 24) (lx 24 { run1 with ds := [1, BitVec.allOnes 64] }) with
    | .next t => decide ((t.core 24).ds = [0] ∧ (t.core 24).pc = 1) | _ => false) = true := by decide +kernel

/-- R165: -2^63 divided by -1 gives QUO -2^63 and REM 0. -/
theorem test_div_corner : (match exec (.div 24) (lx 24 { run1 with ds := [BitVec.allOnes 64, BitVec.intMin 64] }) with
    | .next t => decide ((t.core 24).divQ.map (fun d => (d.1, d.2.1)) = some (BitVec.intMin 64, 0)) | _ => false) = true := by decide +kernel

/-- R160: SWAP of [2, 1], top first, leaves [1, 2]. -/
theorem test_swap : (match exec (.swap 24) (lx 24 { run1 with ds := [2, 1] }) with
    | .next t => decide ((t.core 24).ds = [1, 2]) | _ => false) = true := by decide +kernel

/-- R162: BLTU pops both cells, and branches from its own address. -/
theorem test_bltu_taken : (match exec (.bltu 24 false 0xFFF0) (lx 24 { run1 with pc := 0x20, ds := [5, 4] }) with
    | .next t => decide ((t.core 24).ds = [] ∧ (t.core 24).pc = 0x10) | _ => false) = true := by decide +kernel

/-- R168: a load of a byte with bit 7 set extends its sign. -/
theorem test_ld8s : (match exec (.ld8s 24) (lx 24 { run1 with ds := [dmAt 4], dm := [(4, 0x80)] }) with
    | .next t => decide ((t.core 24).ds = [0xFFFFFFFFFFFFFF80]) | _ => false) = true := by decide +kernel

/-- R171, R173: SVC at the user level enters the vector of EMULATE with TVAL 0. -/
theorem test_svc : (match exec (.svc 24 7) (lx 24 { run1 with pc := 6, vbase := 0x1000 }) with
    | .next t => decide ((t.core 24).pc = 0x1000 + 64 * 8 ∧ (t.core 24).epc = 6 ∧ (t.core 24).tval = 0 ∧ (t.core 24).priv = true)
    | _ => false) = true := by decide +kernel

/-! ### Hypotheses: tiles and memory controllers -/

/-- A descriptor from its fields, each with its lowest bit. -/
def descOf (fs : List (Nat × Nat)) : BitVec 512 := BitVec.ofNat 512 (fs.foldl (fun a f => a + f.2 * 2 ^ f.1) 0)
def cmdOf (fs : List (Nat × Nat)) : TCmd := ⟨descOf fs, false, none⟩
/-- Tile 0 in service, with a queue, in a module whose carrels are initialised. -/
def tileAt (x : Tile) : State :=
  (({ s0 with carrelInit := true }.setFlag (blkTil 0).enable true).setFlag (blkTil 0).active true).setTile 0 x
def tileWith (c : TCmd) : State := tileAt { Tile.init with queue := [c] }

/-- TileIssues as a check. -/
def issuesIt (s : State) (t op : Nat) (c : TCmd) (rest : List TCmd) : Bool :=
  (s.tile t).queue = c :: rest && opcodeOf c.desc = op && c.slot = none && s.issues t &&
    decide (firstBroken (s.checkDesc t c.desc) = none) && !s.blocked t c.desc &&
    decide (firstBroken (s.checkList t c.desc ++ s.checkBank t c.desc ++ s.checkAddr t c.desc) = none)

theorem issuesIt_iff (s : State) (t op : Nat) (c : TCmd) (rest : List TCmd) :
    issuesIt s t op c rest = true ↔ TileIssues s t op c rest := by
  simp [issuesIt, TileIssues, and_assoc]

/-- Reachable as a check, for short ranges. -/
def reaches (s : State) (m : Master) (a n : Nat) : Bool :=
  decide (s.firstHole m a n = none) && (unitsOf a n).all (fun u => decide (u ∉ s.ue ∧ u ∉ s.ce))

def cLoad : TCmd := cmdOf [(0, 1), (32, 3), (37, 3), (64, carrelAddr 1 64), (192, 64), (256, 1), (272, 8)]
def cStore : TCmd := cmdOf [(0, 5), (64, 64), (128, carrelAddr 1 0), (192, 1), (224, 8)]
def cScrub : TCmd := cmdOf [(0, 8), (32, 1), (64, 128), (96, 64)]
def cDrain : TCmd := cmdOf [(0, 3), (33, 15), (64, 0), (208, 1), (218, 2)]
def cPost : TCmd := cmdOf [(0, 4), (32, 3), (37, 0), (46, 1), (64, 0), (96, 64), (128, 128), (192, 1), (208, 4)]
def cMma : TCmd := cmdOf [(0, 2), (32, 3), (37, 3), (43, 1), (80, 1), (90, 1), (128, 0), (160, 64), (352, 2)]
def cSync : TCmd := cmdOf [(0, 6), (64, 0), (192, 5)]
def cSync1 : TCmd := cmdOf [(0, 6), (64, 1), (192, 5)]
def cPhase : TCmd := cmdOf [(0, 7), (32, 5)]
def drainTile : State := tileAt { Tile.init with queue := [cDrain], bank0 := { Bank.init with st := .opened, anchor := -10 } }

theorem test_hyp_tile_issue :
    issuesIt (tileWith cLoad) 0 1 cLoad [] ∧ issuesIt (tileWith cStore) 0 5 cStore [] ∧ issuesIt (tileWith cScrub) 0 8 cScrub [] ∧
    issuesIt drainTile 0 3 cDrain [] ∧ issuesIt (tileWith cPost) 0 4 cPost [] ∧ issuesIt (tileWith cMma) 0 2 cMma [] := by
  decide +kernel

theorem test_hyp_tile_data :
    (let s := tileWith cLoad
     reaches s (tileMaster 0 false) (carrelAddr 1 64) 8 ∧ reaches s (tileMaster 0 false) (carrelAddr 0 64) 8 ∧
     packedBytes .e4m3 8 = 8 ∧ Memory.wf s.mem = true) ∧
    (let s := tileWith cStore
     reaches s (tileMaster 0 false) (carrelAddr 0 64) 8 ∧ reaches s (tileMaster 0 false) (carrelAddr 1 0) 8) ∧
    reaches drainTile (tileMaster 0 false) (carrelAddr 0 0) 64 ∧
    (let s := tileWith cPost
     let p := s.postP 0 0 cPost.desc
     p.cols = 4 ∧ p.ops.length = 1 ∧ (∀ e ∈ p.ops, e.opnd ≠ 2 ∧ e.opnd ≠ 3 ∧ e.op ∉ [0x10, 0x11, 0x12]) ∧ p.df.isMx = false ∧
     reaches s (tileMaster 0 false) (carrelAddr 0 128) 8 ∧ reaches s (tileMaster 0 false) (carrelAddr 0 p.dst) 16) ∧
    dfld cMma.desc 89 80 ≤ 512 ∧ dfld cMma.desc 99 90 ≤ 512 := by
  decide +kernel

/-- The head is new, the tile issues, its checks pass, nothing blocks it. -/
def headReady (s : State) (c : TCmd) : Bool :=
  (s.tile 0).queue = [c] && c.slot = none && s.issues 0 && decide (firstBroken (s.checkDesc 0 c.desc) = none) && !s.blocked 0 c.desc

def cBad : TCmd := cmdOf [(0, 5), (64, 64), (128, carrelAddr 1 0), (192, 0), (224, 8)]
def issuedOf (c : TCmd) (slot : Nat) : Issued := ⟨c, slot, false, 0, 0, 0, none, []⟩
def cLoadSig : TCmd := cmdOf [(0, 1), (9, 1), (10, 1), (11, 2), (32, 3), (37, 3), (64, carrelAddr 1 64), (192, 64), (256, 1), (272, 8)]
def aFault : TileFault := ⟨0x0A, 0, 0⟩

theorem test_hyp_tile_sync_and_halts :
    headReady (tileWith cSync) cSync ∧ opcodeOf cSync.desc = 6 ∧ (tileWith cSync).fld (F.TIL_SIG_CNT 0 0) = 0 ∧
    dfld cSync.desc 95 64 = 0 ∧ dfld cSync.desc 34 32 = 0 ∧ dfld cSync.desc 223 192 ≠ 0 ∧
    headReady (tileWith cSync1) cSync1 ∧ ¬(0 + 2 ^ 32 - dfld cSync1.desc 95 64) % 2 ^ 32 < 2 ^ 31 ∧
    (let s := tileAt { Tile.init with queue := [cSync], syncHeld := true }
     headReady s cSync ∧ (s.tile 0).syncHeld = true) ∧
    headReady (tileWith cPhase) cPhase ∧ opcodeOf cPhase.desc = 7 ∧
    (let s := tileWith cBad
     (s.tile 0).queue = [cBad] ∧ s.issues 0 = true ∧ opcodeOf cBad.desc = 5 ∧ (firstBroken (s.checkDesc 0 cBad.desc)).isSome) ∧
    (let i := issuedOf cLoadSig 63
     let s := tileAt { Tile.init with issued := [i] }
     (s.tile 0).issued.find? (fun i => i.slot = 63) = some i ∧ i.remote = none ∧ dfld i.cmd.desc 10 10 = 1 ∧ dfld i.cmd.desc 9 9 = 1 ∧
     (s.tile 0).failed = none ∧ s.flag (blkTil 0).enable = true ∧ aFault.code < 256) ∧
    (let i := issuedOf cDrain 0
     (tileAt { Tile.init with issued := [i] } |>.tile 0).issued.find? (fun i => opcodeOf i.cmd.desc = 3 && !i.bankRead) = some i) := by
  decide +kernel

theorem test_hyp_tile_actions :
    (let s := tileAt { Tile.init with failed := some ⟨cLoad, 3, true⟩ }
     s.tileState 0 = 4 ∧ (s.tile 0).failed = some ⟨cLoad, 3, true⟩) ∧
    (let s := tileWith cLoad
     1 ≤ s.tileState 0 ∧ s.tileState 0 ≤ 5) ∧
    (tileAt { Tile.init with calmReq := true } |>.tile 0).calmReq = true ∧
    lib.cls = .librarian ∧ s0.flag (blkTil 15).active = false ∧ (s0.coreStCode 15 = 0 ∨ s0.coreStCode 15 = 4) ∧ pf0.cls = .hostPf ∧
    (tileAt { Tile.init with resetting := true } |>.tile 0).resetting = true := by
  decide +kernel

theorem test_hyp_scrub :
    (let b := memBlk false 15
     let s := s0.setFlag ⟨b.base + 0x11C, 0, 0⟩ true
     s0.isSecure lib = true ∧ s.flag ⟨b.base + 0x11C, 0, 0⟩ = true) ∧
    (let s := s0.setFlag (F.HBC_STS_INIT_DONE 0) true
     s0.flag ⟨(memBlk false 0).base + 0x11C, 0, 0⟩ = false ∧ s.scrubAllowed false 0 0x40000000 64 0x40000040 = true ∧
     s0.scrubAllowed false 0 0x40000000 64 0x40000040 = false) ∧
    (let b := memBlk true 7
     let s := { s0 with scrubs := [(b.base, (true, 4096, 64, 3904))] }
     Tab.find? s.scrubs b.base = some (true, 4096, 64, 3904) ∧ 3904 + 192 ≤ 4096 ∧ ∀ u ∈ unitsOf 3904 192, u ∉ s.ue) ∧
    (let b := memBlk true 0
     Tab.find? { s0 with scrubs := [(b.base, (false, 0, 64, 64))] }.scrubs b.base = some (false, 0, 64, 64)) := by
  decide +kernel

/-- R124: STORE of 8 bytes moves them, and the byte after them stays. -/
theorem test_store : (match exec (.store 0) { tileWith cStore with mem := [(carrelAddr 0 64, 7), (carrelAddr 0 71, 9), (carrelAddr 0 72, 5)] } with
    | .next u => decide (u.readByte (carrelAddr 1 0) = 7 ∧ u.readByte (carrelAddr 1 7) = 9 ∧ u.readByte (carrelAddr 1 8) = 0)
    | _ => false) = true := by decide +kernel

/-- R115: two products of E4M3 ones add up to 2, which the ledger word holds at its anchor. -/
theorem test_mma : (match exec (.mma 0 0) { tileWith cMma with mem :=
      [(carrelAddr 0 0, 0x38), (carrelAddr 0 1, 0x38), (carrelAddr 0 64, 0x38), (carrelAddr 0 65, 0x38)] } with
    | .next u => decide ((Tab.getD (u.tile 0).bank0.cells 0 (u.tile 0).bank0.base).n.toInt * 2 ^ ((u.tile 0).bank0.anchor + 200).toNat
        = 2 * 2 ^ 200)
    | _ => false) = true := by decide +kernel

/-! ### Hypotheses: links and the router -/

/-- Link `n` in a state, with its fields. -/
def linkAt (n st : Nat) (x : Link) : State := (s0.setFld (F.MYL_STS_STATE n) st).modLink n (fun _ => x)
def offer0 : Offer := ⟨0xFF, 0xF, 3, 0, 0xFFFFF, 63, 1, 3, true⟩
/-- Its register CFG allows every mode. -/
def allowAll (n : Nat) (s : State) : State :=
  ((s.setFld (F.MYL_CFG_RATE_ALLOW n) 3).setFld (F.MYL_CFG_WIDTH_ALLOW n) 3).setFld (F.MYL_CFG_FEC_ALLOW n) 2

theorem test_hyp_link_training :
    (linkAt 47 linkDetect Link.init).linkSt 47 = linkDetect ∧
    ((linkAt 47 linkDetect Link.init).setFlag (F.MYL_CFG_ALLOW_FAR_EDDY 47) true).flag (F.MYL_CFG_ALLOW_FAR_EDDY 47) = true ∧
    (let s := (linkAt 0 linkEddy Link.init).setFld (F.MYL_EDDY_MODE 0) 2
     s.linkSt 0 = linkEddy ∧ s.fld (F.MYL_EDDY_MODE 0) = 2) ∧
    (let s := linkAt 0 linkNegotiate { Link.init with partner := some offer0 }
     s.linkSt 0 = linkNegotiate ∧ offer0.module < 2 ^ 20 ∧ offer0.link < 64 ∧ (s.lnk 0).attempts = 0 ∧
     (allowAll 0 s).candidates 0 offer0 ≠ [] ∧ (allowAll 0 s).commonFec 0 offer0 = some 1 ∧ s.candidates 0 { offer0 with rates := 0 } = [] ∧
     s.flag (F.MYL_EXPECT_CHECK 0) = false ∧
     (let u := (allowAll 0 s).setFlag (F.MYL_EXPECT_CHECK 0) true
      u.flag (F.MYL_EXPECT_CHECK 0) = true ∧ u.fld (F.MYL_EXPECT_PARTNER_MODULE 0) ≠ offer0.module)) ∧
    (let s := linkAt 0 linkTrain { Link.init with cands := [(7, 3), (1, 1)], fec := 1 }
     s.linkSt 0 = linkTrain ∧ (s.lnk 0).cands = [(7, 3), (1, 1)] ∧ (s.lnk 0).fec < 2 ∧ (s.lnk 0).attempts = 0) ∧
    ((linkAt 0 linkTrain { Link.init with cands := [(7, 3)] }).lnk 0).cands = [(7, 3)] ∧
    (let s := (linkAt 0 linkKeyx Link.init).setFlag (blkMyl 0).enable true
     s.linkSt 0 = linkKeyx ∧ s.mgmt.libDown = false ∧ s.unreach = [] ∧ s.flag (blkMyl 0).enable = true ∧ s.partnerAllowed 0 0xFFFFFFFF = true) ∧
    (linkAt 0 linkRetrain { Link.init with attempts := 9 }).linkSt 0 = linkRetrain ∧ s0.coreUp 2 = true ∧ s0.coreUp 5 = true := by
  decide +kernel

/-- A link that is ACTIVE in a quiet module. -/
theorem test_hyp_link_quiet :
    let s := linkAt 0 linkActive Link.init
    s.linkSt 0 = linkActive ∧ s.flag (blkMyl 0).enable = false ∧ LinkQuiet s 0 := by
  exact ⟨by decide +kernel, by decide +kernel, by decide +kernel, by decide +kernel, by decide +kernel, rfl,
    fun g hg => no_groups _ (by decide +kernel) g hg⟩

/-- A flit with a body. -/
def dataCtrl : Nat := 2 ^ 26 + 2 ^ 25 + 5 * 4096
def flit0 : List Byte := flitBytes dataCtrl (List.replicate 56 0)
def control (seq sub : Nat) : List Byte := flitBytes (2 ^ 30 + seq * 4096) [sub]
/-- A link that expects SEQ 5. -/
def rx5 : State := linkAt 1 linkActive { Link.init with rxSeq := 5, rxFirst := 5 }
def openFrame : FrameFlit := ⟨dataCtrl, List.replicate 56 0, true⟩
def rx6 : State := linkAt 1 linkActive { Link.init with rxSeq := 6, rxFirst := 5, rxFrame := [openFrame], txFrame := [openFrame] }
/-- The TAG flit that fits the open frame of `rx6`. -/
def tagFor : List Nat :=
  let ki := rx6.rxKeyIv 1
  let tag : FrameFlit := ⟨2 ^ 30 + 6 * 4096, padTo 56 (1 :: List.replicate 11 0), false⟩
  gcmTag ki.1 ki.2 (frameAad [openFrame] tag) (dataOf [openFrame])

theorem test_hyp_link_flits :
    FlitGood flit0 ∧ bits (rxCtrl flit0) 31 30 = 0 ∧ bits (rxCtrl flit0) 23 12 = (rx5.lnk 1).rxSeq ∧ rx5.linkSt 1 = linkActive ∧
    (∀ r ∈ (rx5.lnk 1).replay, r.1 ≠ rxCtrl flit0 % 4096) ∧ (rx5.lnk 1).retry = none ∧
    FlitGood (control 5 2) ∧ bits (rxCtrl (control 5 2)) 31 30 = 1 ∧ leAt (control 5 2) 4 1 = 2 ∧ leAt (control 5 3) 4 1 = 3 ∧
    FlitGood (control 5 3) ∧ ¬FlitGood (List.replicate 64 0) ∧
    (let s := linkAt 1 linkActive { Link.init with replay := [(0, []), (1, [])] }
     FlitGood (control 0 0) ∧ isControl (control 0 0) 0 = true ∧ ∃ r ∈ (s.lnk 1).replay, r.1 = rxCtrl (control 0 0) % 4096) ∧
    FlitGood (control 6 1) ∧ isControl (control 6 1) 1 = true ∧ bits (rxCtrl (control 6 1)) 23 12 = (rx6.lnk 1).rxSeq ∧
    (rx6.lnk 1).txFrame ≠ [] ∧ (rx6.lnk 1).rxFrame ≠ [] ∧ (rx6.lnk 1).tagFailed = none ∧
    (let bs := flitBytes (2 ^ 31 + 7 * 4096) [0]
     FlitGood bs ∧ bits (rxCtrl bs) 31 30 = 2) := by
  simp only [FlitGood]; decide +kernel

theorem test_hyp_link_tags :
    (openFrame.isData = true ∧ openFrame.ctrl.testBit 26 = true ∧ openFrame.ctrl.testBit 25 = true ∧ openFrame.ctrl.testBit 24 = false) ∧
    tagFor ≠ List.replicate 16 0 := by decide +kernel

theorem test_hyp_link_transmitter :
    (let s := linkAt 1 linkActive { Link.init with txFrame := [openFrame], txCount := 2 ^ 48 - 2 }
     s.linkSt 1 = linkActive ∧ (s.lnk 1).txFrame ≠ [] ∧ (s.lnk 1).txCount + 1 < 2 ^ 48) ∧
    (let s := linkAt 1 linkActive { Link.init with owed := [0, 0, 0, 0, 0, 0, 0, 1], txCount := 2 ^ 40 }
     (s.lnk 1).txFrame = [] ∧ (∃ v ∈ (s.lnk 1).owed, v ≠ 0) ∧ (s.lnk 1).switchSeq = none ∧
     2 ^ s.fld (F.MYL_REKEY_INTERVAL 1) ≤ (s.lnk 1).txCount ∧ s.mgmt.libDown = false) ∧
    ((linkAt 1 linkActive { Link.init with switchSeq := some 4095 }).lnk 1).switchSeq = some 4095 ∧
    ((linkAt 1 linkActive { Link.init with retry := some (0, 7) }).lnk 1).retry = some (0, 7) ∧
    ((linkAt 1 linkActive { Link.init with retry := some (0, 8) }).lnk 1).retry = some (0, 8) ∧
    ((linkAt 1 linkActive { Link.init with asked := some (7, 7), replay := [(7, [])] }).lnk 1).asked = some (7, 7) ∧
    ((linkAt 1 linkActive { Link.init with finHeld := some ⟨pkt, none⟩ }).lnk 1).finHeld = some ⟨pkt, none⟩ := by
  decide +kernel

def r0 : State := s0.setFlag blkMyr.active true
def pkt1 : Packet := { pkt with dst := 1, opcode := 1, hops := 7 }
/-- A router with one route: link 0 for module 1, up. -/
theorem test_hyp_router :
    r0.flag blkMyr.active = true ∧ r0.badHeader pkt1 (some 3) = false ∧ r0.badHeader { pkt1 with opcode := 0 } (some 3) = true ∧
    r0.badHeader { pkt1 with dst := 0 } none = false ∧ { pkt1 with dst := 0 }.dst = r0.ownModule ∧ pkt1.dst ≠ r0.ownModule ∧ pkt1.hops = 7 ∧
    { s0 with unreach := [(pkt1, some 0)] }.unreach = [(pkt1, some 0)] ∧
    (s0.setFlag F.MYR_ROUTE_CTRL_SWAP true).flag F.MYR_ROUTE_CTRL_SWAP = true ∧ wfPacket { pkt1 with length := 4096, payload := zeros 4096 } := by
  decide +kernel

/-! ### Hypotheses: queue contexts, windows and barrier groups -/

/-- A context of PF0's, connected to context 2 of module 1. -/
def ctx0 : Ctx := { Ctx.init with st := .ready, maxOut := 4, peerModule := 1, peerCtx := 2, ringBase := carrelAddr 0 0, ringLog2 := 2 }
/-- Context 5 of a module with an identity. -/
def gm (x : Ctx) : State :=
  (({ s0 with carrelInit := true, gma := { s0.gma with cache := [5] } }.setFlag F.MYR_FABRIC_ID_VALID true).setFlag blkGma.enable true).setCtx 5 x
/-- The number of a descriptor from its fields. -/
def dnum (fs : List (Nat × Nat)) : Nat := fs.foldl (fun a f => a + f.2 * 2 ^ f.1) 0
/-- Context 5 with one fetched descriptor. -/
def withDesc (fs : List (Nat × Nat)) : State := gm { ctx0 with fetched := [(0, dnum fs)] }
def dPut (op n : Nat) : List (Nat × Nat) :=
  [(0, op), (32, n), (64, carrelAddr 0 64), (128, mkGlobal (if op = 5 then 3 else 1) 1 64), (192, 1), (200, 7)]

/-- MayStart as a check. -/
def starts (s : State) (c op i d : Nat) : Bool :=
  decide (s.headDesc c op = some (i, d)) && s.flag F.MYR_FABRIC_ID_VALID && decide ((s.ctx c).ops = []) && decide ((s.ctx c).msgs = []) &&
    decide (0 < (s.ctx c).maxOut) && decide (s.sendRecords < 131072) && decide (s.trackersUsed < 65536) && !d.testBit 9 && !d.testBit 10

theorem starts_iff (s : State) (c op i d : Nat) : starts s c op i d = true ↔ MayStart s c op i d := by
  simp [starts, MayStart, and_assoc]

theorem test_hyp_ctx_doorbell_and_fetch :
    s0.ownsOrFw pf0 ctx0.owner = true ∧ (gm ctx0).ctx 5 = ctx0 ∧ (4 + 2 ^ 32 - ctx0.consumer) % 2 ^ 32 ≤ 2 ^ ctx0.ringLog2 ∧
    2 ^ ctx0.ringLog2 < (5 + 2 ^ 32 - ctx0.consumer) % 2 ^ 32 ∧ s0.ownsOrFw lec ctx0.owner = false ∧
    (let s := gm { ctx0 with producer := 1 }
     let x := s.ctx 5
     s.fetches 5 = true ∧ x.typ ≠ 1 ∧ x.ringHost = false ∧ reaches s (s.ctxMaster 5) (carrelAddr 0 0) 64 ∧
     s.descOk x (ofLe (s.readBytes (carrelAddr 0 0) 64)) = false ∧ s.descOk x (dnum [(0, 7)]) = true ∧
     (let u := { s with mem := [(carrelAddr 0 0, 7)] }
      u.descOk x (ofLe (u.readBytes (carrelAddr 0 0) 64)) = true)) := by
  decide +kernel

theorem test_hyp_ctx_starts :
    (∀ op ∈ [1, 2, 3, 4, 5],
      let s := withDesc (dPut op 32)
      starts s 5 op 0 (dnum (dPut op 32)) = true ∧ reaches s (s.ctxMaster 5) (carrelAddr 0 64) 32 = true) ∧
    starts (withDesc (dPut 1 262144)) 5 1 0 (dnum (dPut 1 262144)) = true ∧ starts (withDesc (dPut 3 1)) 5 3 0 (dnum (dPut 3 1)) = true ∧
    (withDesc [(0, 7)]).headDesc 5 7 = some (0, 7) ∧
    (let s := withDesc [(0, 6), (230, 5), (256, 0)]
     s.headDesc 5 6 = some (0, dnum [(0, 6), (230, 5)]) ∧ s.waitMet ⟨5, false, 0, 0⟩ = true ∧ s.waitMet ⟨5, false, 1, 0⟩ = false) ∧
    (let s := withDesc [(0, 8), (32, 32), (64, carrelAddr 0 64), (200, 4095)]
     s.headDesc 5 8 = some (0, dnum [(0, 8), (32, 32), (64, carrelAddr 0 64), (200, 4095)]) ∧ s.flag (F.GMA_BAR_CFG_ENABLE 4095) = false) := by
  decide +kernel

def group (n : Nat) (s : State) : State :=
  (s.setFlag (F.GMA_BAR_CFG_ENABLE 4095) true).setFld (F.GMA_BAR_CFG_LOCAL_EXPECT 4095) n
def waitOp : COp := ⟨6, 0, 0, false, none, [], 0, 0, 0, false, true, false, []⟩

theorem test_hyp_ctx_groups_and_waits :
    (let s := group 2 (withDesc [(0, 8), (32, 32), (64, carrelAddr 0 64), (200, 4095)])
     s.flag (F.GMA_BAR_CFG_ENABLE 4095) = true ∧ s.fld (F.GMA_BAR_STS_STATE 4095) ≠ barBroken ∧ (s.bar 4095).reduces = [] ∧
     (s.bar 4095).red = none ∧ (s.bar 4095).given = [] ∧ s.fld (F.GMA_BAR_STS_ARRIVED 4095) + 1 < s.fld (F.GMA_BAR_CFG_LOCAL_EXPECT 4095) ∧
     reaches s (s.ctxMaster 5) (carrelAddr 0 64) 32) ∧
    (let x := { ctx0 with st := .waiting, wait := some ⟨5, false, 0, 9⟩, ops := [(3, waitOp)] }
     (gm x).ctx 5 = x ∧ (gm x).waitMet ⟨5, false, 0, 9⟩ = true ∧ (gm x).waitMet ⟨5, false, 2 ^ 47 - 1, 9⟩ = false) := by
  decide +kernel

/-- A request packet for 64 bytes in, of context 5's peer. -/
def rq (op : Nat) (off n : Nat) (data : List Byte) : Packet :=
  { pkt with src := 1, srcCtx := 2, endpoint := 5, opcode := op, space := if op = 5 then 3 else 1, addr := carrelAddr 0 64, offset := off,
             length := n, payload := data }
/-- One window admits every request of module 1 to context 5's owner. -/
def admitted (x : Ctx) : State :=
  let c := F.GMA_WIN_CTRL_ENABLE 0
  let s := (gm x).setReg c.off 0xFFFF0000
  let s := s.setFld (F.GMA_WIN_HI 0) 0xFFFFFFF
  s

/-- RequestClean as a check. -/
def clean (s : State) (p : Packet) (op : Nat) : Bool :=
  p.opcode = op && decide (p.endpoint ∈ s.gma.cache) && s.connected p && decide ((s.ctx p.endpoint).st = .ready) && reqFormed p &&
    !p.encrypted && p.space ≠ 2 && p.payload.length = p.length && !(s.ctx p.endpoint).isDup p.msgId && !s.noTracker p &&
    decide (s.admitAt p (reqFirst p) (reqBytes p) = none)

theorem clean_iff (s : State) (p : Packet) (op : Nat) : clean s p op = true ↔ RequestClean s p op := by
  simp [clean, RequestClean, and_assoc]

theorem test_hyp_requests :
    (let s := admitted { ctx0 with done := 2 }
     clean s (rq opPut 0 8 (zeros 8)) opPut ∧ reaches s (s.ctxMaster 5) (carrelAddr 0 64) 8 ∧
     clean s (rq opPutFlag 0 8 (zeros 8)) opPutFlag ∧ (s.ctx 5).flagBlock = false ∧ (s.ctx 5).expMsg = 0 ∧ (s.ctx 5).parked = none ∧
     clean s { rq opPutFlag 0 64 (zeros 64) with msgId := 2 } opPutFlag ∧
     clean s (rq opGetReq 262144 0 []) opGetReq ∧ clean s (rq opAtomicReq 0 24 (zeros 24)) opAtomicReq ∧
     clean s (rq opLedgerAdd 0 32 (zeros 32)) opLedgerAdd ∧ s.trackerOf 5 0 = none ∧ reaches s (s.ctxMaster 5) (carrelAddr 0 64) 32 ∧
     (s.ctx 5).isDup 1 = true ∧ s.connected (rq opPut 0 8 (zeros 8))) ∧
    clean (admitted { ctx0 with flagBlock := true }) (rq opPutFlag 0 8 (zeros 8)) opPutFlag ∧
    (let p := rq opPutFlag 0 8 (zeros 8)
     let s := admitted { ctx0 with parked := some p }
     (s.ctx 5).parked = some p ∧ s.admitAt p p.addr p.length = none ∧ p.payload.length = p.length) ∧
    (let s := gm ctx0
     let p := rq opPut 0 8 (zeros 8)
     s.admitAt p (reqFirst p) (reqBytes p) = some ceWindow ∧ reqFormed p = true) := by
  decide +kernel

theorem test_hyp_put_of_many_packets :
    (let s := admitted ctx0
     let p := { rq opPut 4096 4096 (zeros 4096) with first := false, last := false }
     clean s p opPut ∧ ((s.trackerOf 5 0).getD (newTracker p)).bitmap.testBit 1 = false) := by
  decide +kernel

def op0 (op n : Nat) : COp := ⟨op, 0, 0, false, none, [], n, n, 0, false, false, false, []⟩
def msg0 (op n : Nat) (wire : List Byte) : Msg := ⟨9, 3, op, 0, carrelAddr 0 64, mkGlobal 1 1 64, n, 1, 0, 0, 0, wire, []⟩
def sending (op n : Nat) (wire : List Byte) : State := gm { ctx0 with ops := [(3, op0 op n)], msgs := [msg0 op n wire] }

/-- OnlyMessage as a check. -/
def alone (s : State) (c : Nat) (m : Msg) : Bool :=
  decide ((s.ctx c).msgs = [m]) && s.acceptsRsp c && match (s.ctx c).ops with
  | [(n, o)] => n = m.opNo && o.sent = o.length && !o.failed && !o.waiting && !o.notify && decide (o.tile = none)
  | _ => false

theorem test_hyp_only_message (op n : Nat) (wire : List Byte) : OnlyMessage (sending op n wire) 5 (msg0 op n wire) :=
  ⟨rfl, rfl, op0 op n, rfl, rfl, rfl, rfl, rfl, rfl⟩

theorem test_hyp_responses :
    (let s := sending opGetReq 5000 []
     let p := { rq opGetRsp 4096 904 (zeros 904) with msgId := 9 }
     getRspOk p 5000 = true ∧ (msg0 opGetReq 5000 []).bitmap.testBit 1 = false ∧ p.endpoint = 5 ∧
     reaches s (s.ctxMaster 5) (carrelAddr 0 64 + 4096) 904) ∧
    (let s := sending opAtomicReq 8 (zeros 24)
     reaches s (s.ctxMaster 5) (carrelAddr 0 64) 8 ∧ (rq opAtomicRsp 0 8 (zeros 8)).payload.length = 8) ∧
    (rq opCompletion 0 0 []).opcode = opCompletion ∧ isViolation ceWindow = true ∧ isViolation ceMemError = false ∧ ceMemError ≠ ceBusy ∧
    (let s := sending opPut 8 (zeros 8)
     (s.ctx 5).st = .ready ∧ (msg0 opPut 8 (zeros 8)).wire ≠ [] ∧ (msg0 opPut 8 (zeros 8)).repeats < 3 ∧
     s.msgOf 5 9 = some (msg0 opPut 8 (zeros 8)) ∧ Tab.find? (s.ctx 5).ops 3 = some (op0 opPut 8) ∧
     (leAt (zeros 16) 8 1).testBit 1 = false) := by
  decide +kernel

theorem test_hyp_trackers_and_fetches :
    (let tr : Tracker := { newTracker (rq opPut 0 4096 (zeros 4096)) with resends := 3 }
     let s := { gm ctx0 with gma := { (gm ctx0).gma with trackers := [tr] } }
     s.trackerOf 5 0 = some tr ∧ tr.resends < 4) ∧
    (let tr : Tracker := { newTracker (rq opLedgerAdd 0 4096 (zeros 4096)) with resends := 4 }
     let s := { gm ctx0 with gma := { (gm ctx0).gma with trackers := [tr] } }
     s.trackerOf 5 0 = some tr ∧ 4 ≤ tr.resends ∧ tr.opcode = opLedgerAdd) ∧
    (let s := { gm ctx0 with gma := { (gm ctx0).gma with cache := [], fetches := [5] } }
     s.coreUp 5 = true ∧ 5 ∈ s.gma.fetches ∧ s.flag F.GMA_CTX_LOC_HOST = false ∧ (s.ctx 5).holding = [] ∧ (s.ctx 5).roceHold = [] ∧
     s.cacheRoom 5 = some [] ∧ (∀ u ∈ unitsOf (s.backingAddr 5) 256, u ∉ s.ue ∧ u ∉ s.ce) ∧
     (∃ u ∈ unitsOf (s.backingAddr 5) 256, u ∈ { s with ue := unitsOf (s.backingAddr 5) 1 }.ue) ∧ (s.ctx 5).st ≠ .free) := by
  decide +kernel

theorem test_hyp_windows_and_groups :
    (let s := s0.setFlag blkGma.crcCheck true
     s.isSecure lib = true ∧ s.flag (F.GMA_WIN_CTRL_ENABLE 4095) = false ∧ s.winMatches 4095 = false ∧
     (s.setFlag (F.GMA_WIN_CTRL_ENABLE 4095) true).flag (F.GMA_WIN_CTRL_ENABLE 4095) = true) ∧
    s0.flag blkGma.crcCheck = false ∧ s0.flag (F.GMA_BAR_CFG_ENABLE 4095) = false ∧
    s0.masterOwner lec ≠ some (s0.fld (F.GMA_BAR_CHILD_HI_OWNER 4095)) ∧ s0.masterOwner pf0 = some (s0.fld (F.GMA_BAR_CHILD_HI_OWNER 4095)) ∧
    (let s := (group 1 s0).setFlag (F.GMA_BAR_CFG_ROOT 4095) true
     s.fld (F.GMA_BAR_STS_ARRIVED 4095) + 1 = s.fld (F.GMA_BAR_CFG_LOCAL_EXPECT 4095) ∧ s.flag (F.GMA_BAR_CFG_ROOT 4095) = true ∧
     s.barChildren 4095 = [] ∧ (s.bar 4095).heldArr = 0 ∧ (s.bar 4095).reduces = [] ∧ (s.bar 4095).red = none ∧
     s.fld (F.GMA_BAR_STS_STATE 4095) ≠ barBroken) ∧
    (let s := ((group 1 s0).setFld (F.GMA_BAR_CHILD_LO_CHILD 4095) 8).setFlag (F.GMA_BAR_CFG_REDUCE_EN 4095) true
     3 ∈ s.barChildren 4095 ∧ 3 ∉ (s.bar 4095).children ∧ s.flag (F.GMA_BAR_CFG_ROOT 4095) = false ∧
     (s.flag (F.GMA_BAR_CFG_REDUCE_EN 4095) = true) ∧ 4095 / 4096 % 256 = s.fld (F.GMA_BAR_STS_GEN 4095)) ∧
    (let r : Reduction := { Reduction.init with localGiven := true, resultAddr := carrelAddr 0 0 }
     let s := (group 1 { s0 with carrelInit := true }).modBar 4095 (fun b => { b with red := some r })
     (s.bar 4095).red = some r ∧ s.barChildren 4095 = [] ∧ s.fld (F.GMA_BAR_CFG_PARENT 4095) = 0 ∧
     reaches s Master.firmware (carrelAddr 0 0) 32) := by
  decide +kernel

def word (v : BitVec 160) : LWord := ⟨v, -10, 0, 1⟩
theorem test_hyp_ledger_words :
    (∀ w ∈ [word 1, word (-1)], w.terms < 2 ^ 32 ∧ (w.isEmpty = true ∨ (w.anchor = -10 ∧ w.flags.testBit 8 = false))) ∧
    ([word 1, word (-1)].filter (fun w => !w.isEmpty)) ≠ [] := by decide +kernel

/-! ### Hypotheses: partitions, jobs and checkpoints -/

def partOn (p : Nat) : State := s0.setFlag (F.MOD_PART_CFG_ENABLE p) true
def coreOf (t : Nat) : Master := ⟨.lectern, t, false⟩

theorem test_hyp_partitions_and_streams :
    s0.isSecure lib = true ∧ s0.flag (F.MOD_PART_CFG_ENABLE 15) = false ∧ (partOn 15).flag (F.MOD_PART_CFG_ENABLE 15) = true ∧
    s0.flag (F.MOD_STREAM_CTRL_ENABLE 15) = false ∧
    (let s := ((partOn 15).setFlag (F.MOD_PART_CFG_ACTIVE 15) true).setFld (F.MOD_PART_CFG_ROLE 15) 4
     s.fld (F.MOD_PART_CFG_ROLE 15) = 4 ∧ s.flag (F.MOD_STREAM_CTRL_INPUT_EN 15) = false ∧ s.flag (F.MOD_PART_CFG_ACTIVE 15) = true) ∧
    (let s := (partOn 15).setFlag (F.MOD_STREAM_CTRL_ENABLE 15) true
     let w := s.modStream 15 (fun x => { x with t0 := 1 })
     let late := (({ s with time := 1 }.setFld (F.MOD_STREAM_PERIOD 15) 9).setFlag (F.MOD_STREAM_STS_FRAME_ACTIVE 15) true)
     w.time < w.frameStart 15 (w.stream 15).next ∧
     s.frameStart 15 (s.stream 15).next ≤ s.time ∧ s.time ≤ s.latest 15 (s.stream 15).next ∧ s.inputHere 15 (s.stream 15).next = true ∧
     s.flag (F.MOD_STREAM_STS_FRAME_ACTIVE 15) = false ∧ late.latest 15 (late.stream 15).next < late.time) ∧
    (let s := ((partOn 15).setFld (F.MOD_PART_TILES_TILES 15) 8).setFlag (F.MOD_STREAM_STS_FRAME_ACTIVE 15) true
     s.coreOfPart (coreOf 3) 15 = true ∧ s.coreOfPart (coreOf 2) 15 = false ∧ s.flag (F.MOD_STREAM_STS_FRAME_ACTIVE 15) = true ∧
     s.fld (F.MOD_STREAM_FRAME 15) = 0 ∧ (coreOf 2).cls ≠ .librarian) := by
  decide +kernel

/-- Slot 0, enabled for job 7, in a state, with its members. -/
def slotIn (st : Nat) (ms : List Nat) : State :=
  (((s0.setFlag (F.MOD_JOB_CFG_ENABLE 0) true).setFld (F.MOD_JOB_ID_JOB_ID 0) 7).setFld (F.MOD_JOB_STS_STATE 0) st).modSlot 0
    (fun x => { x with members := ms })
/-- Partition 0 of the slot, TRAIN on tile 0. -/
def withPart (s : State) : State :=
  ((s.setFlag (F.MOD_PART_CFG_ENABLE 0) true).setFlag (F.MOD_PART_CFG_JOB_VALID 0) true).setFld (F.MOD_PART_TILES_TILES 0) 1

theorem test_hyp_job_slots :
    (let s := s0.modSlot 15 (fun x => { x with members := [0, 1] })
     s.flag (F.MOD_JOB_CFG_ENABLE 15) = false ∧ s.ownModule ∈ (s.slot 15).members ∧ (s.slot 15).members.headD 0 < 2 ^ 20) ∧
    s0.ownModule ∉ (s0.slot 15).members ∧
    (let s := slotIn slotForming [0, 1]
     s.flag (F.MOD_JOB_CFG_ENABLE 0) = true ∧ s.ckPhase 0 = 0 ∧ s.slotOfJob 8 = none ∧ s.slotOfJob 7 = some 0 ∧
     s.fld (F.MOD_JOB_COORD 0) = s.ownModule ∧ s.fld (F.MOD_JOB_STS_STATE 0) = slotForming) ∧
    (let s := slotIn slotActive [0]
     let p : Packet := { pkt with opcode := opPace, payload := leBytes 4 7 ++ leBytes 4 (5 + 2 ^ 24) ++ leBytes 8 0 }
     p.opcode = opPace ∧ s.treeLinks (p.msgId % 4096) = [] ∧ s.slotOfJob (leAt p.payload 0 4) = some 0 ∧ (s.slot 0).strag.length < 64) ∧
    (let s := (withPart (slotIn slotActive [0])).setFld (F.PWR_TILE_OP_LIMIT_BY 0) 3
     s.coreUp 7 = true ∧ (s.throttleNow 0).isSome) ∧
    ((slotIn slotActive [0]).modSlot 0 (fun x => { x with throttle := some 3 })).slot 0 = ⟨[0], [], 0, some 3⟩ := by
  decide +kernel

/-- JOINs that agree with a slot of members 0 and 1, of which one is missing, and one that does not agree. -/
theorem test_hyp_joins (d : Nat) (h : memberDigest [0, 1] = d) :
    let s := slotIn slotForming [0, 1]
    let js := s.jobs.joins.filter (fun r => !(r.job = 7 && r.src = 1)) ++ [⟨7, 1, 2, d⟩]
    (∀ r ∈ js.filter (fun r => r.job = 7), r.count = (s.slot 0).members.length ∧ r.digest = memberDigest (s.slot 0).members) ∧
      (∃ k ∈ (s.slot 0).members, ∀ r ∈ js.filter (fun r => r.job = 7), r.src ≠ k) ∧
      ∃ r ∈ [(⟨7, 1, 3, d⟩ : JoinRec)], r.count ≠ (s.slot 0).members.length := by
  have hm : (slotIn slotForming [0, 1]).slot 0 = ⟨[0, 1], [], 0, none⟩ := by decide +kernel
  have hj : (slotIn slotForming [0, 1]).jobs.joins = [] := by decide +kernel
  simp only [hm, hj]
  simp [h]

/-- A slot with checkpointing, in a phase. -/
def ckAt (ph : Nat) : State := ((slotIn slotActive [0]).setFlag (F.MOD_CKPT_CFG_ENABLE 0) true).setFld (F.MOD_CKPT_STS_PHASE 0) ph
/-- A map entry of one byte-wide dimension of 64 elements in HBM stack 0. -/
def mapEntry : List Byte := leBytes 4 1 ++ [3, 1] ++ leBytes 2 0 ++ zeros 8 ++ leBytes 8 64 ++ zeros 8 ++ leBytes 32 64 ++ zeros 32 ++ leBytes 32 64

theorem test_hyp_ckpt_member :
    (let s := ckAt 0
     s.slotOfJob 7 = some 0 ∧ s.ckOn 0 = true ∧ s.ckPhase 0 = 0 ∧ (0 : Nat) < s.memberStep 0 + 1) ∧
    (ckAt 0).flag F.MOD_STS_MOVING = false ∧
    (ckAt 1).isQuiesced 0 = true ∧
    (let s := ckAt 2
     s.ckPhase 0 = 2 ∧ s.fld (F.MOD_CKPT_ATTEMPT 0) = 0 ∧ ((s.setFld (F.MOD_CKPT_STS_PHASE 0) 3).mapEntries 0).2 = some []) ∧
    (let s := ckAt 3
     s.ckPhase 0 = 3 ∧ (s.ck 0).ops = 0 ∧ (s.ck 0).failed = 0 ∧ ((s.modCk 0 (fun c => { c with failed := 5 })).ck 0).failed ≠ 0) := by
  decide +kernel

/-- The coordinator of a slot of one member, with a round in a stage. -/
def roundAt (stage : Nat) : State :=
  (ckAt 4).modRound 0 (fun r => { r with active := true, stage := stage, gen := 3, target := 8 })

theorem test_hyp_ckpt_coordinator :
    s0.roundAllowed 15 = false ∧
    (let s := withPart (((ckAt 0).setFld (F.MOD_CKPT_CFG_LEAD 0) 2).setFld (F.MOD_CKPT_INTERVAL 0) 2)
     s.roundAllowed 0 = true ∧ (s.ck 0).round.active = false ∧ s.fld (F.MOD_CKPT_INTERVAL 0) ≠ 0 ∧
     s.memberStep 0 + s.fld (F.MOD_CKPT_CFG_LEAD 0) ≠ 0 ∧ (s.memberStep 0 + s.fld (F.MOD_CKPT_CFG_LEAD 0)) % s.fld (F.MOD_CKPT_INTERVAL 0) = 0) ∧
    (let s := (roundAt 0).setFld (F.MOD_CKPT_TIMER 0) 5
     s.roundAllowed 0 = true ∧ (s.ck 0).round.active = true ∧ s.fld (F.MOD_CKPT_TIMER 0) ≠ 0 ∧ s.roundOf (s.jobId 0) 3 = some 0 ∧
     (s.ck 0).round.repeats < 3) ∧
    (let s := roundAt 1
     let u := s.modRound 0 (fun r => { r with entries := Tab.set r.entries 0 [] })
     s.roundOf 7 3 = some 0 ∧ (s.ck 0).round.stage = 1 ∧ ∀ k ∈ (s.slot 0).members, ∃ e ∈ (u.ck 0).round.entries, e.1 = k) ∧
    (let s := roundAt 2
     (s.ck 0).round.active = true ∧ (s.ck 0).round.stage = 2 ∧ (s.ck 0).round.ops = 0 ∧ (s.ck 0).round.bad = false ∧
     (s.slot 0).members[1]? = none) ∧
    (((slotIn slotActive [0, 1]).slot 0).members[1]? = some 1) ∧ ((roundAt 3).ck 0).round.stage = 3 := by
  decide +kernel

/-- The bytes of a shelfmark up to its digest. -/
def markHead (job gen step writer len : Nat) : List Byte :=
  markMagic ++ leBytes 2 1 ++ (mapEntry.drop 4).take 2 ++ (mapEntry.drop 6).take 2 ++ leBytes 2 0 ++ leBytes 4 job ++ leBytes 4 gen ++
    leBytes 8 step ++ mapEntry.take 4 ++ leBytes 4 writer ++ leBytes 8 len ++ (mapEntry.drop 32).take 96
def cand : RsCand := ⟨3, 8, []⟩
def rest0 : Restore := ⟨7, 0, 0, 3, 0, 0, [], some cand, [], [], [(1, 5, 0, 64)]⟩
theorem test_hyp_restore_held :
    ∃ c ∈ rest0.cands ++ rest0.cur.toList, c.gen = 3 ∧ ofLeNats (sha384 (natsOf c.bytes)) = ofLeNats (sha384 (natsOf cand.bytes)) :=
  ⟨cand, by simp [rest0], rfl, rfl⟩
def restoring (r : Restore) : State := (ckAt 5).modCk 0 (fun c => { c with restore := some r })

theorem test_hyp_restore :
    (restoring rest0).restoreOf 7 = some (0, rest0) ∧ (∀ c ∈ rest0.cands ++ rest0.cur.toList, ¬c.gen = 4) ∧
    (restoring rest0).fld (F.MOD_CKPT_MAP_CNT 0) = 0 ∧ s0.ns? 9 = none ∧ rest0.job = 7 ∧ rest0.cur = some cand ∧
    (restoring rest0).coordOf 0 = (restoring rest0).ownModule ∧ rest0.parts ≠ [] ∧ (∀ k, k < 0 → (restoring rest0).ckPhase k ≠ 5) := by
  decide +kernel

/-- A shard of no bytes of job 8, generation 3, step 8, in namespace 9 under a bound key. The block that holds it is the mark under
AES-256-XTS, whose inverse is not evaluated here. -/
def shardKey : List Nat := List.replicate 64 5
def shardMark : List Byte := shelfmark mapEntry 8 3 8 1 0 []
def nsShard : Ns := ⟨{ nsRec with keySource := 1, stripe := [0] }, 0, some 2, false, []⟩
def holder : State :=
  let s := (s0.setFld (F.KEY_PAGE_STS_STATE 2) pageLoaded).setFlag (F.NVC_DRIVE_STS_UP 0) true
  { s with trust := { s.trust with pages := [(2, ⟨shardKey, [], 0⟩)] }, store := { s.store with ns := [(9, nsShard)] } }

theorem test_hyp_shard_part :
    holder.ns? 9 = some nsShard ∧ holder.nsServes nsShard = true ∧ holder.nsKeyPair 9 nsShard = some shardKey ∧
    shardMark.take 8 = markMagic ∧ leAt shardMark 16 4 = 8 ∧ leAt shardMark 20 4 = 3 ∧ leAt shardMark 24 8 = 8 ∧
    holder.slotOfJob 8 = none := by
  decide +kernel

/-- One piece of 64 bytes asked for from module 1, which the member's map stores in stack 0's memory at 64. -/
theorem test_hyp_shard_receive :
    (let q := mapPiece mapEntry
     let m : Nat × Nat × List Byte := (1, 5, markHead 7 3 8 1 64 ++ zeros 112)
     let p := markPiece m.2.2
     let r := { rest0 with marks := [m] }
     (1, 5, 0, 64) ∈ r.parts ∧ r.marks = [m] ∧ p.tensor = q.tensor ∧ p.dtype = q.dtype ∧ Fmt.ofCode q.dtype = some .e4m3 ∧
     Fmt.width .e4m3 = 8 ∧ Fmt.isMx .e4m3 = false ∧ p.layout = 0 ∧ q.layout = 0 ∧ p.offset = [0] ∧ q.offset = [0] ∧ p.extent = [64] ∧
     q.extent = [64] ∧
     reaches ({ s0 with carrelInit := true }.setFlag (F.HBC_STS_INIT_DONE 0) true) Master.firmware q.addr 64) := by
  decide +kernel

/-! ### Hypotheses: power and thermal control -/

theorem test_hyp_power :
    (let s := { s0 with power := { s0.power with acc := 65535999000, samples := 1, stretch := 257 :: List.replicate 7 0 } }
     s.power.samples ≠ 0 ∧ s.power.acc / (1000 * s.power.samples) = 65535999 ∧ s.power.droop.length = 8 ∧
     s.power.droop.getD 0 15 = 15 ∧ 256 < s.power.stretch.getD 0 0) ∧
    s0.coreUp 7 = true ∧ s0.fld F.PWR_CAP_CAP_W = 0 ∧ s0.power.forced = false ∧ s0.fld F.PWR_STS_CAP_STAGE = 0 ∧
    drawAt [] ((List.range 16).map s0.otherTerms) ≤ 98 * 1000 / 100 - 0 ∧ s0.isSecure lib = true ∧
    s0.mayFill = true ∧ (s0.setFlag F.THM_STS_EMERGENCY true).mayFill = false ∧
    { s0 with power := { s0.power with paced := [15], lull := some ⟨3, 0, 5, true⟩ } }.power.paced ≠ [] ∧
    s0.fld F.PWR_LIMITS_SLEW * 10 ^ 12 < (s0.setFld F.PWR_INPUT0_VIN 60000).fld F.PWR_INPUT0_VIN * (10 ^ 9) ^ 2 ∧
    (s0.setFld (F.PWR_TILE_OP_CEIL 15) 15).fld (F.PWR_TILE_OP_CEIL 15) ≠ 0 := by
  decide +kernel

theorem test_hyp_thermal :
    s0.power.failing = false ∧ s0.fld F.PWR_STS_BROWNOUT = 0 ∧ (s0.setFld F.PWR_STS_BROWNOUT 1).fld F.PWR_STS_BROWNOUT = 1 ∧
    (let s := s0.setFld F.MOD_STS_STATE 5
     5 ≤ s.fld F.MOD_STS_STATE ∧ s.mgmt.leakLow = false ∧ s.fld F.THM_CFG_LEAK_ACTION = 2 ∧ (s.setFld F.THM_CFG_LEAK_ACTION 1).fld F.THM_CFG_LEAK_ACTION = 1) ∧
    (let s := s0.setFld F.MOD_STS_STATE 4
     0 < s.fld F.MOD_STS_STATE ∧ s.fld F.MOD_STS_STATE < 5) ∧
    { s0 with power := { s0.power with failing := true } }.power.failing = true ∧ s0.store.wb = [] ∧
    (let temps : List (Option Int) := some 1760 :: List.replicate 63 (some 100)
     temps.length = 64 ∧ temps.getD 0 none = some 1760 ∧ s0.power.thermal.length = 8) ∧
    (let s := s0.setFld F.THM_CFG_THROTTLE_C 95
     let temps : List (Option Int) := List.replicate 64 (some 100)
     s.power.sensorBad = [] ∧ (100 : Int) < 16 * s.fld F.THM_CFG_THROTTLE_C ∧ temps.length = 64 ∧ ∀ c ∈ List.replicate 16 94, c < 95) ∧
    (let s := (s0.setFlag (F.THM_SENSOR_VALID 55) true).setFld (F.THM_SENSOR_TEMP 55) 1760
     s.atLeast 110 55 = true ∧ (s.setFlag F.THM_STS_EMERGENCY true).flag F.THM_STS_EMERGENCY = true) ∧
    (∀ i, i < 56 → s0.atLeast 110 i = false) ∧
    (let s := (((s0.setFlag (F.THM_SENSOR_VALID 56) true).setFlag (F.THM_SENSOR_VALID 57) true).setFld (F.THM_SENSOR_TEMP 57) 160).setFld
        F.PWR_INPUT1_P1S 500
     s.temp 56 = some 0 ∧ s.temp 57 = some 160 ∧ 500 ≤ s.fld F.PWR_INPUT1_P1S) ∧
    { s0 with mgmt := { s0.mgmt with leakLow := true } }.mgmt.leakLow = true ∧ (s0.setFlag F.THM_STS_LEAK true).flag F.THM_STS_LEAK = true := by
  decide +kernel

/-! ### Hypotheses: attestation, keys and ciphers -/

def conn3 : State := { s0 with trust := { s0.trust with conns := [(2, 3)] } }
def keyA : List Byte := zeros 4
def sess0 : Session := ⟨2, some keyA, true, List.replicate 48 1⟩
def half : Session := ⟨2, none, false, List.replicate 48 1⟩
/-- A finished session 5 of PF0's requester, bound to owner 0. -/
def bound : State := { s0 with trust := { s0.trust with conns := [(2, 3)], sessions := [(5, sess0)], binds := [(0, keyA)] } }

theorem test_hyp_spdm :
    { s0 with mgmt := { s0.mgmt with libDown := true } }.mgmt.libDown = true ∧ s0.mgmt.libDown = false ∧ s0.conn 2 = 0 ∧ s0.conn 2 < 2 ∧
    conn3.conn 2 = 3 ∧ conn3.trust.sessions.length < 64 ∧
    64 ≤ { s0 with trust := { s0.trust with sessions := (List.range 64).map (fun i => (i + 1, half)) } }.trust.sessions.length ∧
    (let u := { s0 with trust := { s0.trust with chunks := [(5, zeros 4097)] } }
     1 * 4096 < (Tab.getD u.trust.chunks (2 * 2 + 1) []).length) ∧
    bound.session 5 = some sess0 ∧ sess0.req = 2 ∧ sess0.finished = true ∧ half.finished = false ∧ 4 ∈ measureIndices := by
  decide +kernel

theorem test_hyp_keys :
    bound.session 5 = some sess0 ∧ sess0.key = some keyA ∧ Tab.find? bound.trust.binds 1 = none ∧
    Tab.find? { bound with trust := { bound.trust with binds := [(0, zeros 5)] } }.trust.binds 0 = some (zeros 5) ∧ zeros 5 ≠ keyA ∧
    bound.boundTo 1 keyA = false ∧ bound.boundTo 0 keyA = true ∧ typeOk 0 useEnc = true ∧
    (let s := { bound with host := { bound.host with pools := { bound.host.pools with keys := [(4095, .pf0), (7, .pf0)] } } }
     s.pageFreeFor 0 4095 = true ∧
     (let u := ((s.setFld (F.KEY_PAGE_STS_STATE 7) pageLoaded).setFld (F.KEY_PAGE_STS_TYPE 7) 3).setFlag (F.KEY_PAGE_STS_KDF 7) true
      u.pageSt 7 = pageLoaded ∧ u.fld (F.KEY_PAGE_STS_TYPE 7) = 3 ∧ u.fld (F.KEY_PAGE_STS_OWNER 7) = 0 ∧ u.pageUse 7 useKdf = true ∧
      u.pageFreeFor 0 4095 = true)) ∧
    (let s := bound.setFld (F.KEY_PAGE_STS_STATE 4095) pageZeroising
     s.pageSt 4095 = pageZeroising ∧ s.pageBusy 4095 = false ∧
     s.boundTo ((bound.setFld (F.KEY_PAGE_STS_STATE 9) pageLoaded).fld (F.KEY_PAGE_STS_OWNER 9)) keyA = true) ∧
    (let s := bound.setFld (F.MOD_PART_TILES_TILES 15) 1
     s.boundTo (s.sealOwner 15) keyA = true ∧ s.fld (F.MOD_PART_TILES_TILES 15) ≠ 0 ∧ s.flag (F.MOD_PART_CFG_SEALED 15) = false ∧
     (s.setFlag (F.MOD_PART_CFG_SEALED 15) true).flag (F.MOD_PART_CFG_SEALED 15) = true) := by
  decide +kernel

/-- A ring of firmware's with one descriptor that waits, in the carrel of tile 0. -/
def ring0 : CipRing := ⟨fwOwner, carrelAddr 0 0, 4, carrelAddr 0 4096, 1, 0, 0, [], 0⟩
def cipIn (mem : List Host.Cell) (x : CipRing) : State :=
  { s0 with carrelInit := true, mem := mem, trust := { s0.trust with rings := [(3, x)] } }
/-- SHA-384 of 64 bytes at 8 KiB to 12 KiB, as listed bytes. -/
def shaDesc : List Host.Cell :=
  (leBytes 64 (dnum [(0, 5), (64, carrelAddr 0 8192), (128, carrelAddr 0 12288), (256, 64)])).zipIdx.filterMap
    (fun b => if b.1 = 0 then none else some (carrelAddr 0 0 + b.2, b.1))

theorem test_hyp_cipher_rings :
    (let s := cipIn shaDesc ring0
     s.cipRing 3 = some ring0 ∧ s.ownsOrFw lib ring0.owner = true ∧ s.ownsOrFw pf0 ring0.owner = false ∧
     (16 + 2 ^ 32 - ring0.consumer) % 2 ^ 32 ≤ 2 ^ ring0.log2 ∧ 2 ^ ring0.log2 < (17 + 2 ^ 32 - ring0.consumer) % 2 ^ 32 ∧
     s.cipReady ring0 = true ∧ reaches s Master.firmware (carrelAddr 0 0) 64 ∧ Memory.wf s.mem = true ∧
     (let d := cipDesc (ofLe (s.readBytes (carrelAddr 0 0) 64))
      d.op = 5 ∧ s.cipCheck ring0.owner d = cjOk ∧ d.overlaps = false ∧ reaches s Master.firmware d.src d.len)) ∧
    (let d := cipDesc 0
     (cipIn [] ring0).cipCheck fwOwner d = cjBadDesc) ∧
    (let j : CipJob := ⟨0, dnum [(0, 5), (128, carrelAddr 0 12288)], zeros 48, none, cjOk⟩
     let x := { ring0 with jobs := [j], consumer := 1 }
     let s := cipIn [] x
     s.cipRing 3 = some x ∧ x.jobs = [j] ∧ reaches s Master.firmware (x.cpl + 8 * (x.written % 2 ^ x.log2)) 8 ∧
     (cipDesc j.desc).notify = false ∧ j.tail ≠ [] ∧ reaches s Master.firmware (cipDesc j.desc).dst 48) ∧
    (let j : CipJob := ⟨0, dnum [(0, 2), (128, carrelAddr 0 12288), (256, 16)], [], some 7, cjTag⟩
     (cipDesc j.desc).isDec = true ∧ j.status = cjTag ∧ 0 < (cipDesc j.desc).len) := by
  decide +kernel

theorem test_hyp_engines_and_ide :
    (31 ∉ s0.trust.selfTest) ∧ 31 ∈ { s0 with trust := { s0.trust with selfTest := [31] } }.trust.selfTest ∧
    ({ sess0 with req := reqPf0Doe }).req = reqPf0Doe ∧ sess0.req ≠ reqPf0Doe + 1 ∧
    (let x : IdeStream := ⟨[(1, zeros 44)], 1, true, []⟩
     let s := { s0 with trust := { s0.trust with ide := [(8, x)] } }
     (Tab.find? (s.ideStream 8).keys 1).isSome = true ∧ (s.ideStream 8).keySet = 1 ∧ (s.ideStream 8).secure = true ∧
     (s.ideStream 0).secure = false) := by
  decide +kernel

/-! ### Hypotheses: PCIe, the mailbox and virtual functions -/

def fnAt (f : Nat) (x : Fn) : State :=
  { s0 with carrelInit := true, host := { s0.host with perstHigh := true, ready := true, fns := [(f, x)] },
            trust := { s0.trust with ide := [(0, ⟨[], 0, true, []⟩)] } }
def fn0 : Fn := { Fn.init with mse := true, bme := true, slots := [(0, 0)] }
def stack0 (s : State) : State := s.setFlag (F.HBC_STS_INIT_DONE 0) true
def rd0 : RdReq := ⟨7, .ctxRing 5, 0, 0, 64, [], false⟩

theorem test_hyp_endpoint :
    (fnAt 0 fn0).host.perstHigh = true ∧ (fnAt 0 fn0).fnPresent 2 = false ∧ (fnAt 0 fn0).fnPresent 0 = true ∧
    (fnAt 1 { Fn.init with flr := true }).fn 1 = { Fn.init with flr := true } ∧
    (let s := stack0 (fnAt 0 fn0)
     hasBar2 0 = true ∧ s.decodes 0 = true ∧ s.shutOut 0 = false ∧ s.aperture 0 (2 ^ 30 - 64) = some (2 ^ 30 - 64) ∧
     s.aperture 0 (2 ^ 30) = none ∧ reaches s (fnMaster 0) (2 ^ 30 - 64) 64 ∧ (2 ^ 30 - 64) % 8 = 0 ∧
     reaches s (fnMaster 0) (2 ^ 30 - 64) 8) ∧
    (let s := (fnAt 2 fn0).setFlag (F.VFN_STS_FROZEN 2) true
     hasBar2 2 = true ∧ s.decodes 2 = true ∧ s.shutOut 2 = true) ∧ s0.decodes 0 = false := by
  decide +kernel

theorem test_hyp_reads_and_events :
    (let s := (fnAt 0 { fn0 with reads := [rd0] }).setCtx 5 ctx0
     (s.fn 0).reads.find? (fun q => decide (q.tag = 7)) = some rd0 ∧ rd0.use = .ctxRing 5 ∧ rd0.dropped = false ∧ rd0.got = [] ∧
     rd0.len = 64 ∧ (zeros 64).length = 64 ∧ (s.ctx 5).typ ≠ 1 ∧ s.descOk (s.ctx 5) 7 = true ∧ (s.ctx 5).st = .ready ∧ (s.fn 0).flr = false) ∧
    (let i : AtsInv := ⟨0, none, 4, 1, [7]⟩
     let s := { fnAt 0 { fn0 with reads := [rd0] } with host := { (fnAt 0 { fn0 with reads := [rd0] }).host with atsInv := [i] } }
     s.host.atsInv = [i] ∧ i.f = 0 ∧ (∃ k ∈ i.tags, ∃ r ∈ (s.fn 0).reads, r.tag = k)) ∧
    (let x := { fn0 with ring := some ⟨0, 0, 6, 3, 0⟩, pba := [9], modPend := [9], msix := [(9, ⟨4096, 1, false⟩)] }
     let s := fnAt 0 x
     (s.fn 0).ring = some ⟨0, 0, 6, 3, 0⟩ ∧ (s.fn 0).lost = 0 ∧ isFirmware lec = false ∧ lec ≠ fnMaster 0 ∧ s.busMaster 0 = true ∧
     (s.fn 0).fnMask = false ∧ 9 ∈ (s.fn 0).pba ∧ (s.fn 0).modPend = [9] ∧ Tab.find? (s.fn 0).msix 9 = some ⟨4096, 1, false⟩) ∧
    (let x := { fn0 with bme := false }
     x.held = [] ∧ x.pba = []) ∧ fn0.bme = true ∧ fn0.reads = [] ∧ fnCtrl 0 = none := by
  decide +kernel

/-- VF 1 of PF0, enabled. -/
def vf1 (x : Fn) : State := { fnAt 2 x with host := { (fnAt 2 x).host with vfEnable0 := true, numVfs0 := 63 } }
theorem test_hyp_resets :
    (vf1 fn0).fnPresent 2 = true ∧ (vf1 fn0).fnPresent 64 = true ∧ ((vf1 fn0).fn 2).flr = false ∧ ((vf1 fn0).fn 2).reads = [] ∧
    fnCtrl 2 = none ∧ ((vf1 { fn0 with flr := true, reads := [rd0] }).fn 2).reads ≠ [] ∧
    Tab.find? (vf1 { fn0 with flr := true }).host.moves 2 = none ∧
    (let s := { s0 with host := { s0.host with flrCtx := [5] } }
     5 ∈ s.host.flrCtx ∧ (s.ctx 5).msgs = []) ∧ s0.host.perstHigh = false ∧ s0.host.moves = [] ∧
    (let s := { s0 with host := { s0.host with perstHigh := true } }.setFld F.MOD_STS_STATE 7
     s.host.perstHigh = true ∧ s.host.ready = false ∧ 5 ≤ s.fld F.MOD_STS_STATE ∧ s.fld F.MOD_STS_STATE ≤ 7 ∧ (s.fn 0).flr = false) ∧
    (15 < 16 ∧ 31 < 32) := by
  decide +kernel

/-- PF0's mailbox works on a request. -/
def busy (code : Nat) : State := fnAt 0 { fn0 with mbBusy := some (code, 77) }
/-- An image of four bytes of code for a lectern core. -/
def image4 : List Byte := leBytes 64 (dnum [(0, 0x4D49584C), (32, 1), (48, 1), (96, 4)]) ++ zeros 4
def partReq1 : PartReq := ⟨15, 4, 1, none, false, [766], [image4]⟩

theorem test_hyp_mailbox :
    ((busy 0x10).fn 0).mbBusy = some (0x10, 77) ∧ (busy 0x10).coreUp 0 = true ∧ (fn0.mbBusy = none) ∧ hasPage 0 = true ∧ hasPage 127 = true ∧
    leAt ((fnAt 0 { fn0 with mbReq := [(0, 1)] }).mbReqBytes 0) 0 2 ∈ mailboxCodes ∧ leAt ((fnAt 0 fn0).mbReqBytes 0) 0 2 ∉ mailboxCodes ∧
    onPf0 0 = true ∧ onPf0 64 = true ∧ onPf0 127 = false ∧
    (let s := (busy 0x10).setFld F.MOD_STS_STATE 6
     s.partCheck 0 partReq1 = 0 ∧ partReq1.sealIt = false ∧ s.flag (F.MOD_PART_CFG_ENABLE 15) = false ∧ s.partCheck 0 partReq ≠ 0) ∧
    (let s := (busy 0x11).setFld (F.MOD_PART_TILES_TILES 15) 1
     15 ∈ s.partsOwned 0 ∧ 14 ∉ s.partsOwned 0 ∧ s.flag (F.MOD_PART_CFG_ACTIVE 15) = false ∧ s.flag (F.MOD_PART_CFG_SEALED 15) = false) ∧
    (busy 0x20).reqOwner 0 none = some 0 ∧ (busy 0x20).ctxCheck 0 262143 ctxReq 0 = 0 ∧
    (busy 0x20).ctxCheck 0 5 { ctxReq with maxOut := 65 } 0 ≠ 0 := by
  decide +kernel

theorem test_hyp_mailbox_objects :
    (let s := (busy 0x21).setCtx 5 { ctx0 with st := .error }
     (s.ctx 5).st = .error ∧ (s.ctx 5).owner ∈ s.ownersOf 0 ∧ (s.ctx 5).msgs = [] ∧ 5 ∉ s.host.flrCtx ∧ s.pinnedIn 5 < 8 ∧
     Tab.risingFrom 0 s.gma.ctxs = true) ∧
    (let s := busy 0x30
     s.flag (F.GMA_WIN_CTRL_ENABLE 4095) = false ∧ s.flag blkGma.crcCheck = false ∧
     (let u := { s with host := { s.host with pools := { s.host.pools with hbm := [(0, .pf0), (767, .firmware)] } } }
      u.rangeAllocated 0 (ownerPart 0) (winRange 0 3).1 (winRange 0 3).2 = true ∧
      u.rangeAllocated 0 (ownerPart 0) 0 (64 * 2 ^ 12) = true ∧ u.rangeAllocated 0 (ownerPart 0) 0x100000 (8 * 2 ^ 12) = true ∧
      u.cipRing 1023 = none ∧ placeCode 0 (Tab.getD u.host.pools.rings 1023 .pool) = 0 ∧
      placeCode 0 (Tab.getD u.host.pools.hbm 0 .pool) = 0)) ∧
    placeCode 0 (Tab.getD s0.host.pools.bars 4095 .pool) = 0 ∧ bits 0 31 16 ∈ s0.ownersOf 0 ∧ (2 ^ 31).testBit 31 = true ∧
    (let s := { busy 0x33 with trust := { s0.trust with rings := [(3, { ring0 with owner := 0 })] } }
     s.cipRing 3 = some { ring0 with owner := 0 } ∧ ({ ring0 with owner := 0 } : CipRing).owner ∈ s.ownersOf 0) ∧
    0 < slotLimit 0 ∧ Tab.find? s0.trust.sealed 0 = none ∧ (Tab.find? { s0.trust with sealed := [(0, 1)] }.sealed 0).isSome = true := by
  decide +kernel

/-- A resource set of granule 1 and nothing else. -/
def set1 : List Byte := leBytes 2 0 ++ leBytes 96 2 ++ zeros 66
/-- VF_CREATE of VF 63 of PF0 with granule 1, a link share of 99 and the least weights. -/
def vfBody : List Byte := [63, 0] ++ set1 ++ [99, 1, 1] ++ zeros 7
def vfBusy (code : Nat) : State :=
  let s := busy code
  { s with host := { s.host with vfEnable0 := true, numVfs0 := 63, pools := { s.host.pools with sets := [(2, set1)] } } }.setFld
    (F.VFN_STS_STATE 2) vfReady

theorem test_hyp_vfs :
    (busy 0x100).vfCreateCode vfBody = 0 ∧ (busy 0x100).vfCreateCode (zeros 176) ≠ 0 ∧ s0.vfSet 127 = none ∧
    ((vfBusy 0x101).vfSet 2 = some (resSet set1)) ∧ (vfBusy 0x101).vfSt 2 ≠ vfMoving ∧
    (∀ p ∈ (vfBusy 0x101).partsOwned 2, (vfBusy 0x101).flag (F.MOD_PART_CFG_ACTIVE p) = false) ∧
    ((vfBusy 0x101).setFld (F.VFN_STS_STATE 2) vfMoving).vfSt 2 = vfMoving ∧ ((vfBusy 0x102).vfSet 2).isSome = true ∧
    (vfBusy 0x102).partsOwned 2 = [] ∧ ((fnAt 3 { fn0 with mbBusy := some (0x100, 7) }).fn 3).mbBusy = some (0x100, 7) ∧
    (vfBusy 0x103).fnPresent 64 = true ∧ s0.fnPresent 64 = false := by
  decide +kernel

def mig0 (source : Bool) : Mig := ⟨source, 1, 2, 9, 0, [], [], [], [], true, 0, 0⟩
def moving (source : Bool) (phase code : Nat) : State :=
  let s := vfBusy code
  ({ s with host := { s.host with moves := [(2, mig0 source)] } }.setFld (F.VFN_STS_STATE 2) vfMoving).setFld (F.VFN_STS_MOVE_PHASE 2) phase

theorem test_hyp_migration :
    (vfBusy 0x110).vfSt 2 = vfReady ∧ (vfBusy 0x113).partsOwned 2 = [] ∧ (vfBusy 0x113).ctxsOwned 2 = [] ∧
    ((vfBusy 0x113).fn 2).slots = [] ∧ (∀ r ∈ (vfBusy 0x113).trust.rings, r.2.owner ∉ (vfBusy 0x113).ownersOf 2) ∧
    ((vfBusy 0x113).setCtx 5 { ctx0 with owner := fnOwner 2 }).ctxsOwned 2 ≠ [] ∧
    Tab.find? (moving true 0 0x111).host.moves 2 = some (mig0 true) ∧ (moving true 0 0x111).phase 2 = 0 ∧ (moving true 2 0x112).phase 2 = 2 ∧
    (moving true 2 0x112).vfSet 2 = some (resSet set1) ∧ (moving true 4 0x114).phase 2 = 4 ∧ (moving true 1 0).quiet 2 = true ∧
    (∀ p ∈ (moving true 1 0).partsOwned 2, ∀ c ∈ (moving true 1 0).partTiles p, ((moving true 1 0).core c).sbuf = []) ∧
    (moving false 5 0).phase 2 = 5 ∧ (mig0 false).source = false ∧ (resSet set1).hbm = [1] ∧ (resSet set1).tiles = [] ∧
    (7 : Nat) ∈ { mig0 false with counters := [7] }.counters ∧ (mig0 false).headed = true ∧ (mig0 false).held = [] := by
  decide +kernel

/-- A page for a migration key: which one is a free value. -/
theorem test_hyp_firmware_page : ∃ page, (vfBusy 0x110).firmwarePage = some page := by
  have hm : 0 ∈ (List.range 4096).filter (fun i => decide ((vfBusy 0x110).pageSt i = pageFree) &&
      decide ((vfBusy 0x110).keyPlace i = .pool ∨ (vfBusy 0x110).keyPlace i = .firmware)) :=
    List.mem_filter.2 ⟨List.mem_range.2 (by omega), by decide +kernel⟩
  unfold State.firmwarePage
  generalize (List.range 4096).filter _ = l at hm ⊢
  cases l with
  | nil => cases hm
  | cons a t =>
    have : (vfBusy 0x110).freeNat % (a :: t).length < (a :: t).length := Nat.mod_lt _ (by simp)
    exact ⟨_, List.getElem?_eq_getElem this⟩

/-! ### Hypotheses: storage and feeds -/

def sq0 : NvSq := ⟨16, 3, 4, 0, 0⟩
def cq0 : NvCq := ⟨16, 0, 0, 0, true, [], 0⟩
def ctrl1 : NvCtrl := { NvCtrl.init with en := true, rdy := true, granted := 8, sqs := [(0, sq0)], cqs := [(0, cq0)] }
/-- PF1's controller, in service. -/
def nv (x : NvCtrl) : State :=
  { fnAt 1 fn0 with store := { s0.store with ctrls := [(1, x)] } }.setFlag blkNvc.enable true
def io : NvCtrl := { ctrl1 with sqs := [(0, ⟨16, 0, 0, 0, 0⟩), (8, sq0)], cqs := [(0, cq0), (8, cq0)] }
def ioHdr : NvHdr := ⟨1, 8, 5, 9, false⟩

/-- NvReady as a check. -/
def nvReady (s : State) (h : NvHdr) (q : NvSq) : Bool :=
  let x := s.nvCtrl h.ctrl
  decide (Tab.find? x.sqs h.sq = some q) && q.waiting && x.rdy && x.turn h.sq && s.busMaster (ctrlFn h.ctrl) && s.flag blkNvc.enable &&
    s.admits && s.coreUp (if h.sq = 0 then 1 else 4) && decide (s.store.cmds.length < 4096) && !h.bad &&
    match Tab.find? x.cqs q.cq with
    | some cq => decide (cq.held = []) && cq.room
    | none => false

theorem nvReady_of (s : State) (h : NvHdr) (q : NvSq) (hr : nvReady s h q = true) : NvReady s h q := by
  simp only [nvReady, Bool.and_eq_true, decide_eq_true_eq, Bool.not_eq_true', and_assoc] at hr
  obtain ⟨a, b, c, d, e, f, g, i, j, k, l⟩ := hr
  refine ⟨a, b, c, d, e, f, g, i, j, k, ?_⟩
  split at l
  · next cq hc => simp only [Bool.and_eq_true, decide_eq_true_eq] at l; exact ⟨cq, hc, l.1, l.2⟩
  · cases l

theorem test_hyp_nvme_queues :
    nvReady (nv ctrl1) hdr sq0 ∧ (∃ c ∈ [cq0], c.room = true) ∧ 15 < sq0.size ∧ sq0.size ≤ 16 ∧
    Tab.find? ((nv ctrl1).nvCtrl 1).sqs 5 = none ∧
    (let e : NvCpl := ⟨0, 1, 0, 0, []⟩
     let q : NvCq := { cq0 with held := [e], tail := 15 }
     q.held = [e] ∧ ({ q with head := 5 } : NvCq).room = true) ∧
    nvReady (nv { io with sqs := [(0, sq0), (8, sq0)] }) hdr sq0 ∧
    (let s := nv { io with sqs := [(0, sq0), (8, sq0)] }
     let x := s.nvCtrl 1
     Tab.find? x.cqs 8 = some cq0 ∧ 8 ≤ x.granted ∧ Tab.find? x.sqs 7 = none ∧ Tab.find? x.cqs 7 = none ∧ 0 < ctrlVectors 1 ∧
     Tab.find? x.sqs 8 = some sq0 ∧ Tab.risingFrom 0 x.sqs = true ∧ Tab.risingFrom 0 x.cqs = true ∧
     (∀ p ∈ s.store.cmds, ¬(p.2.ctrl = 1 ∧ p.2.sq = 8)) ∧ (∀ p ∈ x.sqs, p.2.cq ≠ 8) ∧ x.events = [] ∧ s.updBar ≠ 0) ∧
    (let s := nv ctrl1
     (s.nvCtrl 1).sqs.length = 1 ∧ (s.nvCtrl 1).cqs.length = 1 ∧ 6 ∈ featKept ∧ s.freeNsid = some 1) := by
  decide +kernel

def nsBase : Ns := ⟨{ nsRec with stripe := [0], extents := [[1]] }, 0, none, false, []⟩
/-- Drive 0 with 8 extents, label in place. -/
def drives (s : State) : State :=
  ((({ s with store := { s.store with drives := [(0, ⟨8, [], []⟩)] } }.setFlag (F.NVC_DRIVE_STS_PRESENT 0) true).setFlag
    (F.NVC_DRIVE_STS_UP 0) true))
theorem test_hyp_nvme_admin :
    (let s := drives (nv ctrl1)
     let ks := (List.range 8).filter (fun k => s.driveUp k && !s.flag (F.NVC_DRIVE_STS_BLANK k))
     ks = [0] ∧ (8 * 262144 + 262143) / 262144 ≤ (s.driveFree 0).length) ∧
    (let s := { nv ctrl1 with store := { (nv ctrl1).store with ns := [(9, nsBase)] } }
     (s.ns? 9).isSome = true ∧ nsBase.deleting = false ∧ nsBase.r.durable = false ∧ nsBase.r.ctrl = 0 ∧ s.ctrlExists 1 = true ∧
     (s.nvCtrl 1).aers = [] ∧ Tab.risingFrom 0 s.store.ns = true ∧ (∀ p ∈ s.store.cmds, p.2.ns ≠ 9) ∧ ∀ p ∈ s.store.feeds, p.2.feeds = []) ∧
    (let s := (nv ctrl1).setFlag F.PWR_STS_HOLDUP_OK true
     s.updBar = 0 ∧ s.dictReceiving = false ∧ s.mgmt.flash.active + 1 < 3) ∧
    (NvCtrl.init.en = false ∧ s0.ctrlExists 1 = true) ∧ (∀ p ∈ s0.store.ns, p.2.deleting = false) ∧
    (∀ n ∈ s0.ctrlNs 1, s0.wbOf n = []) ∧
    (let s := fnAt 1 { fn0 with msix := [(0, ⟨4096, 1, false⟩)] }
     Tab.find? (s.fn (ctrlFn 1)).msix 0 = some ⟨4096, 1, false⟩ ∧ s.busMaster (ctrlFn 1) = true ∧ (s.fn (ctrlFn 1)).fnMask = false) := by
  decide +kernel

/-- Namespace 9 of controller 1 under a bound key, on drive 0. -/
def nsKeyed : Ns := ⟨{ nsRec with keySource := 1, stripe := [0], extents := [[1]], ctrl := 1, owner := 1 }, 0, some 2, false, []⟩
def ioState : State :=
  let s := drives (nv io)
  let s := { s with trust := { s.trust with pages := [(2, ⟨shardKey, [], 0⟩)] }, store := { s.store with ns := [(9, nsKeyed)], wbBase := some (2 ^ 30) } }
  let s := (s.setFld (F.KEY_PAGE_STS_STATE 2) pageLoaded).setFld (F.KEY_PAGE_STS_OWNER 2) 1
  ((s.setFld (F.KEY_PAGE_STS_TYPE 2) 1).setFlag (F.KEY_PAGE_STS_ENC 2) true).setFlag (F.KEY_PAGE_STS_DEC 2) true

theorem test_hyp_nvme_blocks :
    nvReady ioState ioHdr sq0 ∧ ioHdr.sq ≠ 0 ∧ ioState.ns? 9 = some nsKeyed ∧ ioState.nsKeyPair 9 nsKeyed = some shardKey ∧
    (∀ l ∈ [0, 262143], ioState.ioStop ioHdr l 1 512 useEnc false true = 0 ∧ ioState.ioStop ioHdr l 1 512 useDec false true = 0) ∧
    ioState.ioStop ioHdr 0 1 65536 useEnc false true = 0 ∧ ioState.ioStop ioHdr 0 0 (2 ^ 64) useEnc false true = 0 ∧
    ioState.ioStop ioHdr 0 64 (2 ^ 64) useEnc false true = 0 ∧ wholeUnits (0, 64) ≠ [] ∧ Tab.find? ioState.store.wb (wbKey 9 0) = none ∧
    ioState.buffered nsKeyed 1 true = false ∧ ioState.wbRoom 9 0 1 = true ∧
    (let s := ioState.setFld F.NVC_WB_STS_MODE 1
     s.buffered nsKeyed 1 false = true ∧ reaches (s.setFlag (F.HBC_STS_INIT_DONE 0) true) Master.firmware (2 ^ 30) 4096) ∧
    ioState.wbOf 9 = [] ∧ ioHdr.nsid ≠ 0xFFFFFFFF ∧
    (let e : WbEnt := ⟨0, 0, true, 0⟩
     let s := { ioState with store := { ioState.store with wb := [(wbKey 9 7, e)] } }
     s.wbOf 9 = [(wbKey 9 7, e)] ∧ Tab.find? s.store.wb (wbKey 9 7) = some e) := by
  decide +kernel

/-- A read of one block that waits for its drive. -/
def cmdRead : NvCmd := ⟨1, 8, 5, 2, 9, 3, 1, 1, 0, [], [], [], [], []⟩
theorem test_hyp_drive_completions :
    (let s := { ioState with store := { ioState.store with cmds := [(0, cmdRead)], ops := [(0, ⟨0, 0, 3, 1, 9, .cmd 0⟩)] } }
     Tab.find? s.store.ops 0 = some ⟨0, 0, 3, 1, 9, .cmd 0⟩ ∧ Tab.find? s.store.cmds 0 = some cmdRead ∧ cmdRead.got = [] ∧
     Tab.find? (s.nvCtrl 1).sqs 8 = some sq0 ∧ Tab.find? (s.nvCtrl 1).cqs sq0.cq = some cq0 ∧ cq0.held = [] ∧ cq0.room = true ∧
     s.busMaster (ctrlFn 1) = true) ∧
    (let e : WbEnt := ⟨0, 4, false, 0⟩
     let s := { ioState with store := { ioState.store with wb := [(wbKey 9 7, e)], ops := [(0, ⟨0, 1, 7, 1, 9, .destage (wbKey 9 7) 4⟩)] } }
     Tab.find? s.store.wb (wbKey 9 7) = some e ∧ e.ver = 4 ∧ s.store.cmds = [] ∧ s.driveUp (nsPlace nsKeyed.r 7).1 = true ∧ s.coreUp 4 = true) ∧
    ({ nsKeyed with r := { nsKeyed.r with dirty := true } }).r.dirty = true ∧
    (let s := drives s0
     s.flag (F.NVC_DRIVE_STS_FAILED 0) = false ∧ s.flag (F.NVC_DRIVE_STS_PRESENT 0) = true ∧ s.store.ops = [] ∧ s.store.wb = [] ∧
     (s.setFlag (F.NVC_DRIVE_STS_FAILED 0) true).flag (F.NVC_DRIVE_STS_UP 0) = true) ∧
    s0.halfExists 6 = true ∧ (s0.setFlag (F.RTP_CFG_BIFURCATE 3) true).halfExists 7 = true ∧ s0.flag (F.NVC_DRIVE_STS_UP 6) = false ∧
    drvInfo.good = true ∧ drvInfo.labels = [] ∧ s0.store.gen < 1 ∧ s0.mgmt.lostFlush = false := by
  decide +kernel

/-- Feed ring 15 of partition 15, with one descriptor: one block of namespace 9 to the carrel of tile 0. -/
def feedDesc : Nat := dnum [(0, 1), (16, 3), (32, 9), (64, 5), (128, 1), (160, carrelAddr 0 0)]
def feedState : State :=
  let x := { nsKeyed with r := { nsKeyed.r with feedOwner := some 1 } }
  let s := { ioState with store := { ioState.store with ns := [(9, x)], feeds := [(15, ⟨1, 0, 0, []⟩)] } }
  let s := ((s.setFlag (F.MOD_PART_CFG_ENABLE 15) true).setFld (F.MOD_PART_TILES_TILES 15) 1).setFld (F.MOD_PART_CFG_OWNER 15) 1
  let s := (s.setFlag (F.NVC_FEED_CTRL_ENABLE 15) true).setFld (F.NVC_FEED_BASE_HI 15) (carrelAddr 0 65536 / 2 ^ 32)
  let s := s.setFld (F.NVC_FEED_BASE_LO 15) (carrelAddr 0 65536 % 2 ^ 32)
  (s.setFld (F.NVC_FEED_CPL_HI 15) (carrelAddr 0 65536 / 2 ^ 32)).setFld (F.NVC_FEED_CPL_LO 15) (carrelAddr 0 73728 % 2 ^ 32)

theorem test_hyp_feeds :
    feedState.feedMaster lib 15 = true ∧ feedState.flag (F.NVC_FEED_CTRL_ENABLE 15) = true ∧ feedState.feedRing 15 = ⟨1, 0, 0, []⟩ ∧
    (let a := feedState.feedBase 15
     reaches feedState Master.firmware a 64 ∧ a = carrelAddr 0 65536 ∧ feedState.admits = true ∧ feedState.flag blkNvc.enable = true) ∧
    feedState.feedStop 15 feedDesc = 0 ∧ bits feedDesc 63 32 = 9 ∧ bits feedDesc 159 128 = 1 ∧ feedState.wbOf 9 = [] ∧
    feedState.feedStop 15 0 ≠ 0 ∧ reaches feedState Master.firmware (feedState.feedCpl 15) 8 ∧
    feedState.rangeAllocated (feedState.fld (F.MOD_PART_CFG_OWNER 15)) 15 (carrelAddr 0 0) 4096 = true ∧
    (let s := { feedState with store := { feedState.store with feeds := [(15, ⟨1, 1, 0, [(0, ⟨feedDesc, 0, feedMedium⟩)]⟩)] } }
     Tab.find? (s.feedRing 15).feeds 0 = some ⟨feedDesc, 0, feedMedium⟩) ∧ s0.feedRing 0 = FeedRing.init := by
  decide +kernel

/-! ### Hypotheses: front ports, RoCE and telemetry -/

/-- Port 0 with its link up and its blocks enabled. -/
def portUp (s : State) : State :=
  let s := (s.setFlag (F.FPP_PORT_STS_UP 0) true).setFlag (blkFpp 0).enable true
  (s.setFlag (blkFps 0).enable true).setFld (F.FPP_PORT_CFG_MAXFRAME 0) 9216
def p0 : State := portUp { s0 with carrelInit := true }
/-- Rule 4095 of port 0 with VALID and an action entry; it matches every frame. -/
def withRule (s : State) (a : Nat) : State :=
  (s.setReg (F.FPP_RULE 0 4095 26).off 1).setReg (F.FPP_RULE 0 4095 28).off (BitVec.ofNat 32 a)
/-- A ring entry of 16 places: enabled, its second word, its area and its completion area in the carrel of tile 0. -/
def ringAt (s : State) (f : Nat → Fld) (w1 : Nat) : State :=
  let put := fun (s : State) k v => s.setReg (f k).off (BitVec.ofNat 32 v)
  let a := carrelAddr 0 0
  let c := carrelAddr 0 0x40000
  put (put (put (put (put (put s 0 1) 1 w1) 4 (a % 2 ^ 32)) 5 (a / 2 ^ 32)) 6 (c % 2 ^ 32)) 7 (c / 2 ^ 32)
def rxState : State := ringAt (withRule p0 1) (fun k => F.FPP_RXRING 0 0 k) (11 + 4 * 256)
def txState (d : Nat) : State :=
  let s := ringAt p0 (fun k => F.FPP_TXRING 0 0 k) (4 * 8 * 256)
  let s := { s with ports := [(0, { Port.init with tx := [(0, ⟨1, 0, 0⟩)] })]
                    host := { s.host with pools := { s.host.pools with hbm := [(0, s.ownerPlace 0)] } } }
  (s.setFlag (F.HBC_STS_INIT_DONE 0) true).putMem (carrelAddr 0 0) (leBytes 32 d)

theorem test_hyp_ports_receive :
    s0.portRuns 0 = false ∧ p0.portRuns 0 = true ∧ fastMode (2 &&& 6) = some 1 ∧ fastMode (1 &&& 6) = none ∧
    macControl (zeros 12 ++ [0x88, 0x08, 0, 1] ++ zeros 44) = some 1 ∧
    (∀ a ∈ [0, 1], let s := withRule rxState a
      (match parseFrame (zeros 60) 4789 with
       | some q => decide (s.lookup 0 q (zeros 60) = some 4095) && decide (macControl (zeros 60) = none)
       | none => false) = true ∧
      (let x := pact (leAt (s.ruleBytes 0 4095) 112 16)
       x.target = a ∧ x.count = none ∧ x.police = none ∧ x.mirror = none ∧ x.decrypt = none ∧ ∀ o ∈ x.ops, o.1 = 0)) ∧
    rxState.rxRoom 0 0 60 = none ∧ (rxState.modPort 0 (fun x => { x with rx := [(0, ⟨0, 0, 16⟩)] })).rxRoom 0 0 60 = some true ∧
    (let x := rxState.rxEntry 0 0
     x.slotLog2 = 11 ∧ x.log2 = 4 ∧ reaches rxState Master.firmware x.area 60 ∧ reaches rxState Master.firmware x.cpl 16 ∧ x.area + 60 ≤ x.cpl) := by
  decide +kernel

theorem test_hyp_ports_tables :
    (let s := p0.setReg (F.FPP_RULE 0 4095 26).off 1
     p0.isSecure lib = true ∧ (p0.reg (F.FPP_RULE 0 4095 26).off).toNat.testBit 0 = false ∧ s.ruleOk 0 (s.ruleBytes 0 4095) = true) ∧
    (let s := (p0.setReg (F.FPP_RULE 0 4095 28).off 1).setReg (F.FPP_RULE 0 4095 26).off 1
     s.ruleOk 0 (s.ruleBytes 0 4095) = false) ∧
    Tab.risingFrom 0 p0.regs = true ∧ Tab.risingFrom 0 (p0.port 0).tokens = true ∧
    (p0.setFld (F.FPP_POLICER 0 1023 0) 5).policerRate 0 1023 ≠ 0 ∧
    (p0.ringMaster lib (rxState.rxEntry 0 0).owner = true ∧ (16 + 2 ^ 32 - 0) % 2 ^ 32 ≤ 2 ^ (rxState.rxEntry 0 0).log2) ∧
    2 ^ (rxState.rxEntry 0 0).log2 < (17 + 2 ^ 32 - 0) % 2 ^ 32 ∧ rxState.ringMaster ⟨.hostVf, 0, false⟩ (rxState.rxEntry 0 0).owner = false ∧
    (txState 0).ringMaster lib ((txState 0).txEntry 0 0).owner = true ∧ ((txState 0).txEntry 0 0).log2 = 4 := by
  decide +kernel

/-- A descriptor of 64 bytes of granule 0. -/
def txDesc : Nat := dnum [(0, 4096), (40, 64), (128, 7)]
theorem test_hyp_ports_transmit :
    (let s := txState txDesc
     let d := ofLe (s.readBytes (carrelAddr 0 0) 32)
     d = txDesc ∧ Memory.wf s.mem = true ∧ reaches s Master.firmware (carrelAddr 0 0) 32 ∧
     reaches s Master.firmware (carrelAddr 0 0x40000) 8 ∧ bits d 127 76 = 0 ∧ bits d 255 160 = 0 ∧ bits d 53 40 = 64 ∧ d.testBit 54 = false ∧
     d.testBit 55 = false ∧ s.rangeAllocated 0 16 4096 64 = true ∧ s.sealedIn 4096 64 = [] ∧
     reaches s Master.firmware 4096 64 ∧ (s.egPut 0 0 (s.readBytes 4096 64)).2 = true) ∧
    (let s := p0.modPort 0 (fun x => { x with queues := [(7, [zeros 60])] })
     s.egNext 0 = some (7, 7, s.fld (F.FPS_Q_CFG_WEIGHT 0 7) - 1) ∧ s.egQueue 0 7 = [zeros 60] ∧ p0.egNext 0 = none) := by
  decide +kernel

/-- A RoCE context on port 0 and the state that holds it as context 5. -/
def ctxR : Ctx := { ctx0 with typ := 1, pmtu := 0, peerIp := 0x0100000A, destQpn := 9, port := 0, remWrite := true, remRead := true
                              regionBase := carrelAddr 2 0, regionLen := 4096, rkey := 3, recvBase := carrelAddr 3 0, slotLog2 := 10, recvLog2 := 3, retryCnt := 7 }
def ro (x : Ctx) : State := portUp (gm x)
def roDesc (op : Nat) : State :=
  ro { ctxR with fetched := [(0, dnum [(0, op), (32, 64), (64, carrelAddr 0 64), (128, 0)])] }
/-- A RoCE v2 frame from 10.0.0.1 to 10.0.0.2 for queue pair 5. -/
def rframe (op psn : Nat) (body : List Byte) : List Byte :=
  let bth := beOf 1 op ++ [0, 0xFF, 0xFF, 0] ++ beOf 3 5 ++ [0] ++ beOf 3 psn
  let n := 8 + bth.length + body.length + 4
  let h := [0x45#8, 2] ++ beOf 2 (20 + n) ++ [0, 0, 0x40, 0, 64, 17, 0, 0, 10, 0, 0, 1, 10, 0, 0, 2]
  let k := splice h 10 (beOf 2 (onesCheck h)) ++ [0xC0, 0, 0x12, 0xB7] ++ beOf 2 n ++ [0, 0] ++ bth ++ body
  zeros 12 ++ [8, 0] ++ k ++ leBytes 4 (icrcOf 4 20 k)
/-- RoceArrives as a check, for queue pair 5. -/
def arrives (s : State) (src : Nat) (kind : RKind) (bs : List Byte) (f : RPkt → Bool) : Bool :=
  match rpkt bs (s.fld (F.FPP_PORT_CFG_VXLAN_PORT 0)) with
  | some q => decide (q.kind = kind) && q.icrc && !q.ce && decide (q.qp = 5) && decide (5 ∈ s.gma.cache ∧ (s.ctx 5).st = .ready ∧ (s.ctx 5).typ = 1) &&
      decide ((s.ctx 5).peerIp = q.src) && decide ((s.ctx 5).destQpn = src) && f q
  | none => false

theorem arrives_iff (s : State) (src : Nat) (kind : RKind) (bs : List Byte) (f : RPkt → Bool) (h : arrives s src kind bs f = true) :
    ∃ q, RoceArrives s 0 src kind bs q 5 ∧ f q = true := by
  unfold arrives at h
  split at h
  · next q hq =>
    simp only [Bool.and_eq_true, decide_eq_true_eq, Bool.not_eq_true', and_assoc] at h
    obtain ⟨a, b, c, d, e, g, i, j, k, l⟩ := h
    exact ⟨q, ⟨hq, a, b, c, d, by omega, e, g, i, j, k⟩, l⟩
  · cases h

theorem test_hyp_roce_requester :
    (∀ op ∈ [rSend, rWrite, rRead, rWriteImm], let s := roDesc op
      ((s.headDesc 5 op).isSome = true ∧ bits (dnum [(0, op), (32, 64), (64, carrelAddr 0 64), (128, 0)]) 63 32 = 64 ∧ (s.ctx 5).typ = 1 ∧
       (s.ctx 5).msgs.length < (s.ctx 5).maxOut ∧ 5 ∈ s.gma.cache ∧ (s.ctx 5).e2e = false ∧ 64 ≤ (s.ctx 5).mtu ∧
       reaches s (s.ctxMaster 5) (carrelAddr 0 64) 64)) ∧
    (let s := roDesc rRead
     (s.egPut 0 (s.ctx 5).egressQ (rocePacket (s.ctx 5) opReadReq 0 true (rethBytes 0 0 64) [])).2 = true) ∧
    (ro ctxR).headDesc 5 rSend = none := by
  decide +kernel

/-- One outstanding SEND of two packets. -/
def msgR : Msg := { id := 0, opNo := 0, opcode := rSend, pos := 0, localAddr := 0, remote := 0, len := 2048, space := 2, repeats := 0, resends := 0
                    bitmap := 0, wire := [], busy := [] }
def ctxSent (n : Nat) : Ctx :=
  { ctxR with msgs := [msgR], psnSend := 2, retries := n, ops := [(0, { descOp 0 (dnum [(0, rSend), (32, 2048)]) with sent := 2048 })], nextOp := 1 }
theorem test_hyp_roce_answers :
    arrives (ro (ctxSent 7)) 9 .ack (rframe 0x11 1 (aethBytes 0 1)) (fun q => decide (beAt q.body 0 1 / 32 = 0) && decide (q.psn = 1)) ∧
    ((ro (ctxSent 7)).ctx 5).msgs = [msgR] ∧ (ro (ctxSent 7)).acceptsRsp 5 = true ∧
    (let x := (ro (ctxSent 7)).ctx 5
     psnDiff 1 x.psnAck < psnDiff x.psnSend x.psnAck ∧ psnGe 1 (psnAdd msgR.id (msgR.space - 1)) = true ∧
     (Tab.find? x.ops 0).any (fun o => decide (o.sent = o.length) && !o.failed && !o.waiting && !o.notify && decide (o.tile = none)) = true) ∧
    arrives (ro ctxR) 9 .cnp (rframe 0x81 0 (zeros 16)) (fun _ => true) ∧
    ((ro (ctxSent 0)).ctx 5).retries = 0 ∧ ((ro (ctxSent 7)).ctx 5).retries = 7 := by
  decide +kernel

theorem test_hyp_roce_responder :
    arrives (ro ctxR) 9 .data (rframe 4 0 (zeros 8)) (fun q => decide (q.op = 4 ∧ q.psn = 0 ∧ q.body.length = 8)) ∧
    reaches (ro ctxR) ((ro ctxR).ctxMaster 5) (carrelAddr 3 0) 8 ∧ ((ro ctxR).ctx 5).noSlot = false ∧
    ((ro { ctxR with arriveCnt := 8 }).ctx 5).noSlot = true ∧
    arrives (ro ctxR) 9 .data (rframe 0xA 0 (rethBytes 4088 3 8 ++ zeros 8)) (fun q => decide (q.op = 0xA ∧ q.body.length = 24)) ∧
    ctxR.regionOk true 4088 3 8 = true ∧ ctxR.regionOk true 4089 3 8 = false ∧
    reaches (ro ctxR) ((ro ctxR).ctxMaster 5) (carrelAddr 2 4088) 8 ∧
    arrives (ro ctxR) 9 .data (rframe opReadReq 0 (rethBytes 0 3 8)) (fun q => decide (q.op = opReadReq ∧ q.body.length = 16)) ∧
    reaches (ro ctxR) ((ro ctxR).ctxMaster 5) (carrelAddr 2 0) 8 ∧
    arrives (ro ctxR) 9 .data (rframe 4 1 (zeros 8)) (fun q => decide (q.psn ≠ 0) && psnGe q.psn 0) ∧
    (match rpkt ((rframe 4 0 (zeros 8)).set 58 1) 4789 with | some q => !q.icrc && decide (q.kind = .data) | none => false) = true ∧
    (ro ctxR).ownsOrFw lib ctxR.owner = true := by
  decide +kernel

def telState : State :=
  let s := (p0.setFlag F.TEL_CTRL_ENABLE true).setFld (F.TEL_SEL_ID_QUEUE_ID 511) (2 ^ 24 + 15)
  ((s.setFld F.TEL_RING_HI (carrelAddr 0 0 / 2 ^ 32)).setFld F.TEL_RING_LO (carrelAddr 0 0 % 2 ^ 32)).setFld (F.FWM_CORE_STS_STATE 7) 1
theorem test_hyp_telemetry :
    (let s := telState
     let n := 2 ^ s.fld F.TEL_CTRL_RING_LOG2
     s.fld (F.TEL_SEL_ID_QUEUE_ID 511) = 2 ^ 24 + 15 ∧ s.queueDepth (2 ^ 24 + 15) = some 0 ∧ s.coreUp 7 = true ∧ s.tel.lost = 0 ∧ s.telFull = false ∧
     reaches s Master.firmware (carrelAddr 0 0) 16 ∧ ({ s with tel := { s.tel with head := n } }).telFull = true ∧
     ({ s with tel := { s.tel with inUs := 16 } }).tel.us = s.time ∧ n < apart 0 (2 ^ 32 - n - 1) ∧ apart (n % 2 ^ 32) 0 ≤ n) := by
  decide +kernel

/-! ### Hypotheses: the start sequence, firmware and pins -/

def standby : State := s0.setFld F.MOD_STS_STATE 1
theorem test_hyp_start :
    s0.fld F.MOD_STS_STATE = 0 ∧ s0.power.failing = false ∧ standby.fld F.MOD_STS_STATE = 1 ∧ standby.mgmt.start = none ∧
    standby.mgmt.held = 0 ∧ standby.mgmt.needCycle = false ∧ standby.mgmt.leakLow = false ∧ report.stop.2 = 0 ∧ report.stalls = [] ∧
    standby.store.ns = [] ∧ report.ms < 2 ^ 16 ∧
    (let bad := { report with slotOk := [false, false] }
     standby.bootChoice bad = none ∧ bad.stop.2 = 0 ∧ bad.stalls = []) ∧
    (let r := { report with stalls := [(4, [.tile 3])] }
     let s := { (s0.setFld F.MOD_STS_STATE 3).setFld F.MOD_STS_STEP 4 with mgmt := { s0.mgmt with start := some r } }
     s.mgmt.start = some r ∧ s.fld F.MOD_STS_STEP = 4 ∧ s.mgmt.held = 0 ∧ r.stalls = [(s.fld F.MOD_STS_STEP, [.tile 3])]) := by
  decide +kernel

theorem test_hyp_start_slot : standby.bootChoice report = some (0, false) := by decide +kernel

/-- A bundle without a payload. -/
def bundle : List Byte := (textBytes "RZLFWBDL") ++ [0, 0xB0, 0, 0] ++ zeros 244
def catalogue : List Byte := (textBytes "RZLFWCAT") ++ [1, 0xB0, 0, 0] ++ zeros 244
/-- A module in READY with its circulation cores up and HOLDUP_OK. -/
def readyMod (s : State) : State :=
  (((s.setFld F.MOD_STS_STATE 6).setFlag F.PWR_STS_HOLDUP_OK true).setFld (F.FWM_CORE_STS_STATE 2) 1).setFld (F.FWM_CORE_STS_STATE 5) 1

theorem test_hyp_firmware :
    (let s := readyMod s0
     2 ≤ s.fld F.MOD_STS_STATE ∧ s.power.failing = false ∧ s.fld (F.FWM_CORE_STS_STATE 2) = 1 ∧ s.mgmt.libDown = false ∧
     s0.fld (F.FWM_CORE_STS_STATE 7) ≠ 1 ∧ 2 ∉ s.mgmt.coreDown ∧ s.mgmt.flash.deferred = false ∧ s.host.moves = [] ∧ s.updBar = 0 ∧
     s.fld F.MOD_STS_STATE ≠ 7 ∧ s0.updBar ≠ 0 ∧ ((s.setFld F.MOD_STS_STATE 7).updBar = 0 ∧ (s.setFld F.MOD_STS_STATE 7).fld F.MOD_STS_STATE = 7)) ∧
    (let s := { readyMod s0 with mgmt := { s0.mgmt with libDown := true, coreDown := [2] } }
     s.mgmt.libDown = true ∧ 2 ∈ s.mgmt.coreDown ∧ s.mgmt.owed = [] ∧ s.mgmt.owedRestore = [] ∧ s.mgmt.waiting = []) ∧
    ((s0.setFld (F.FWM_CORE_STS_STATE 8) 1).fld (F.FWM_CORE_STS_STATE 8) = 1) ∧
    (let s := { s0 with dict := [(dictKey 0x7030 9, [4, 0, 0, 0])] }
     (ofLe (s.stored 0x7030 9)).testBit 2 = true ∧ (ofLe (s0.stored 0x7030 1)).testBit 0 = false ∧ s.logFifo.length ≤ 32) ∧
    (let s := { s0 with mgmt := { s0.mgmt with held := 3 } }
     s.mgmt.held = 3 ∧ (s.imageOf false bundle).isSome = true) ∧
    s0.mgmt.debugOn = false ∧ (let s := { s0 with mgmt := { s0.mgmt with debugOn := true } }
     (s.busRead Master.jtag regBase 4).2.2 = none) := by
  decide +kernel

/-! ### Hypotheses: the dictionary -/

/-- A module in READY whose management session 1 is open. -/
def dictState (x : Sess) : State := readyMod { s0 with carrelInit := true, mgmt := { s0.mgmt with sessions := [(1, { x with transport := 1 })] } }
def installer : Sess := { Sess.init with role := 2, slot := 1 }
def operator : Sess := { Sess.init with role := 1, slot := 8 }
def rowOf (idx sub : Nat) (f : ObjRow → Bool) : Bool := (objRow idx sub).any f

theorem test_hyp_dictionary :
    (dictState operator).dictReaches 1 = true ∧ s0.dictReaches 1 = false ∧
    rowOf 0x2003 1 (fun r => readBar ((dictState operator).sess 1) r = 0 && readBar ((dictState Sess.init).sess 1) r = abNotAuth) = true ∧
    (dictState operator).stateBar false 0x2003 = 0 ∧ indexExists 0x9999 = false ∧ indexExists 0x2003 = true ∧ objRow 0x2003 255 = none ∧
    ((dictState { operator with snap := some (0x2003, 1, [90]) }).sess 1).snap = some (0x2003, 1, [90]) ∧
    ((dictState operator).sess 1).snap = none ∧ ((dictState operator).sess 1).xfer = none ∧
    (dictState Sess.init).segmentBar ((dictState Sess.init).sess 1) (dh 1 0x2003 1 1) 1 ≠ 0 ∧ 5 ≤ (dictState operator).fld F.MOD_STS_STATE ∧
    (s0.setFld F.MOD_STS_STATE 4).fld F.MOD_STS_STATE < 5 ∧ ((dictState Sess.init).sess 1).role = 0 ∧ ((dictState operator).sess 1).role ≠ 0 := by
  decide +kernel

theorem test_hyp_login :
    (let key := List.replicate 96 (7 : Byte)
     let s := { dictState { Sess.init with nonce := some (zeros 48) } with dict := [(dictKey 0x5020 8, key)] }
     let data := [1, 8] ++ List.replicate 32 (7 : Byte) ++ zeros 96
     data.length = 130 ∧ leAt data 0 1 = 1 ∧ leAt data 1 1 = 8 ∧ s.stored 0x5020 8 = key ∧ allZero key = false ∧
     key.take 32 = (data.drop 2).take 32 ∧ (s.sess 1).transport ∉ s.mgmt.bars ∧ (s.sess 1).nonce ≠ none) ∧
    (let s := dictState operator
     s.mgmt.libDown = false ∧ s.mgmt.held = 0 ∧ ([9, 10].find? (fun n => (Tab.find? s.mgmt.sessions n).isNone) = some 9) ∧
     (∀ n ∈ [9, 10], (Tab.find? { s.mgmt with sessions := [(9, operator), (10, operator)] }.sessions n).isSome = true) ∧
     Tab.risingFrom 0 s.mgmt.sessions = true ∧ Tab.find? s0.mgmt.sessions 1 = none) := by
  decide +kernel

/-- MayWrite as a check, for session 1. -/
def writes (s : State) (d : DHdr) (data : List Byte) : Bool :=
  s.dictReaches d.sess && decide ((s.sess d.sess).xfer = none ∧ d.off = 0 ∧ d.total = data.length) &&
    decide (s.segmentBar (s.sess d.sess) d data.length = 0) && (objRow d.idx d.sub).any (fun r => !badValue r.ty data) &&
    decide (s.stateBar true d.idx = 0)

theorem mayWrite_of (s : State) (d : DHdr) (data : List Byte) (h : writes s d data = true) : ∃ r, MayWrite s d data r := by
  unfold writes at h
  simp only [Bool.and_eq_true, decide_eq_true_eq, and_assoc, Option.any_eq_true] at h
  obtain ⟨a, b, c, e, f, ⟨r, hr, hv⟩, g⟩ := h
  exact ⟨r, a, b, c, e, f, hr, by simpa using hv, g⟩

def inst : State := dictState installer
theorem test_hyp_writes :
    writes inst (dh 1 0x2003 1 1) [90] = true ∧ writes inst (dh 1 0x2003 1 1) [84] = true ∧ Tab.risingFrom 0 inst.dict = true ∧
    writes inst (dh 1 0xA111 4 1) [1] = true ∧ scrubberOf (inst.storedNat 0xA111 1) ≠ none ∧ scrubberOf (carrelAddr 0 0) = none ∧
    inst.mgmt.scrub = none ∧ inst.flag (memFld (memBlk false 0) 0x11C 0 0) = false ∧
    (let s := { inst.setFlag (F.HBC_STS_INIT_DONE 0) true with dict := [(dictKey 0xA111 1, leBytes 8 0), (dictKey 0xA111 2, leBytes 8 64)] }
     s.scrubParked false 0 0 64 = false ∧ s.storedNat 0xA111 2 = 64 ∧ (s.setFld F.MOD_PARKED0_STACKS 1).scrubParked false 0 0 64 = true) ∧
    writes inst (dh 1 0xA201 48 1) [0] = true ∧ inst.linkAbsent 47 = false ∧ regFits (F.MYL_EDDY_MODE 47).off 0 = true ∧
    writes inst (dh 1 0xA200 1 8) (zeros 8) = true ∧ regFits (F.FIN_LINK_CTRL_ARM 0).off 0 = true ∧
    regFits (F.FIN_LINK_PARAM_PARAM 0).off 0 = true ∧ inst.coreUp 2 = true ∧ inst.coreUp 5 = true ∧ inst.flag F.MYR_ROUTE_CTRL_SWAP = false := by
  decide +kernel

theorem test_hyp_dictionary_storage :
    writes (drives inst) (dh 1 0x4003 1 1) [0] = true ∧ (drives inst).driveUp 0 = true ∧ (drives inst).driveTaken 0 = [] ∧
    (let s := { drives (dictState operator) with store := { (drives (dictState operator)).store with ns := [(9, nsBase)] } }
     s.driveTaken 0 ≠ [] ∧ writes s (dh 1 0x4010 2 4) [9, 0, 0, 0] = true ∧ s.ns? 9 = some nsBase ∧ nsBase.deleting = false ∧
     classRole (s.sess 1).role nsBase.r.durable = true ∧ Tab.risingFrom 0 s.store.ns = true ∧ s.ctrlExists 1 = true ∧ nsBase.r.ctrl = 0 ∧
     s.ns? 8 = none) ∧
    (let a : NsAsk := ⟨false, 1, 0, [0], 8⟩
     a.extents ≠ 0 ∧ a.keySource ≤ 2 ∧ classRole 1 a.durable = true ∧ classRole 2 a.durable = false ∧ (drives inst).freeNsid ≠ none ∧
     (∀ k ∈ a.stripe, (drives inst).driveUp k = true ∧ (drives inst).flag (F.NVC_DRIVE_STS_BLANK k) = false ∧ a.extents ≤ ((drives inst).driveFree k).length)) ∧
    nsKeyed.r.keySource ≠ 0 ∧ ioState.pageSt 2 = pageLoaded ∧ ioState.bindAllowed nsKeyed 2 = true ∧ ioState.pageSt 3 ≠ pageLoaded := by
  decide +kernel

theorem test_hyp_dictionary_jobs :
    writes (dictState operator) (dh 1 0x9011 1 1) [1] = true ∧ inst.fld (F.MOD_CKPT_STS_PHASE 0) = 0 ∧ (inst.ck 0).round.active = false ∧
    (∀ m ∈ [inst.ownModule], m < 2 ^ 20) ∧ inst.ckOn 0 = false ∧
    ((List.range 128).find? (fun f => decide (fnOwner f = fnOwner 0) && inst.fnPresent f) = some 0 ∧ inst.partCheck 0 { partReq with role := 5 } ≠ 0) ∧
    inst.vfSet 2 = none ∧ inst.vfCreateCode (zeros 176) ≠ 0 := by
  decide +kernel

theorem test_hyp_dictionary_firmware :
    writes inst (dh 1 0xA300 4 1) [1] = true ∧ inst.flag F.MOD_STS_MOVING = false ∧ inst.cutHeld = false ∧ (inst.setFld F.MOD_STS_STATE 7).cutHeld = true ∧
    inst.activateWhy ≠ 0 ∧ inst.trust.sealed = [] ∧ inst.commitWhy = 0 ∧ s0.commitWhy ≠ 0 ∧
    (let s := { inst with mgmt := { inst.mgmt with flash := { inst.mgmt.flash with pending := some 1 } } }
     s.activateWhy = 0 ∧ s.activatesNow = true ∧ (s.setFlag F.PWR_STS_EMERGENCY true).activatesNow = false) ∧
    inst.imageWhy false bundle = 0 ∧ inst.imageWhy true catalogue = 0 ∧ inst.imageWhy false catalogue ≠ 0 ∧
    2 ∉ inst.mgmt.coreDown ∧ inst.fld (F.FWM_CORE_STS_STATE 2) = 1 ∧ writes inst (dh 1 0x7001 3 1) [1] = true ∧
    bundle.length = 256 ∧ writes inst (dh 1 0x7001 1 256) bundle = true ∧ writes inst (dh 1 0x1002 1 8) (zeros 8) = true := by
  decide +kernel

/-- The state after reset has the form that every step keeps. -/
theorem test_hyp_form : FormOk State.reset := by constructor <;> decide +kernel

end Sys2Proof.Tests
end

section
/-!
SUPPORT. The bits of a register that a write of one field leaves, and where a block's header lies.
-/
namespace Sys2Proof.Machine
open Sys2Proof

/-! ### Fields of one register -/

theorem testBit_bits (v hi lo i : Nat) : (bits v hi lo).testBit i = (decide (i < hi + 1 - lo) && v.testBit (lo + i)) := by
  simp [bits, Nat.testBit_mod_two_pow, Nat.testBit_shiftRight]

theorem testBit_setBits (w hi lo x i : Nat) (h : lo ≤ hi) :
    (setBits w hi lo x).testBit i = if lo ≤ i ∧ i ≤ hi then x.testBit (i - lo) else w.testBit i := by
  have hlow : w % 2 ^ lo < 2 ^ lo := Nat.mod_lt _ (Nat.two_pow_pos lo)
  have hx : x % 2 ^ (hi + 1 - lo) < 2 ^ (hi + 1 - lo) := Nat.mod_lt _ (Nat.two_pow_pos _)
  have e : setBits w hi lo x = 2 ^ lo * (2 ^ (hi + 1 - lo) * (w >>> (hi + 1)) + x % 2 ^ (hi + 1 - lo)) + w % 2 ^ lo := by
    have hp : 2 ^ (hi + 1) = 2 ^ lo * 2 ^ (hi + 1 - lo) := by rw [← Nat.pow_add]; congr 1; omega
    simp only [setBits]
    rw [hp, Nat.mul_add, Nat.mul_comm (w >>> (hi + 1)), Nat.mul_assoc, Nat.mul_comm (x % _)]
  rw [e, Nat.testBit_two_pow_mul_add _ hlow]
  by_cases h1 : i < lo
  · have : ¬(lo ≤ i ∧ i ≤ hi) := by omega
    simp [h1, this, Nat.testBit_mod_two_pow]
  · rw [if_neg h1, Nat.testBit_two_pow_mul_add _ hx]
    by_cases h2 : i ≤ hi
    · have : i - lo < hi + 1 - lo := by omega
      simp [this, h2, Nat.not_lt.1 h1, Nat.testBit_mod_two_pow]
    · have h3 : ¬(i - lo < hi + 1 - lo) := by omega
      have h4 : hi + 1 + (i - lo - (hi + 1 - lo)) = i := by omega
      simp [h3, h2, Nat.testBit_shiftRight, h4]

/-- A field that is set leaves the bits of every field apart from it. -/
theorem bits_setBits_of_disjoint (w hi lo x h l : Nat) (hf : lo ≤ hi) (hd : h < lo ∨ hi < l) :
    bits (setBits w hi lo x) h l = bits w h l := by
  apply Nat.eq_of_testBit_eq
  intro i
  simp only [testBit_bits, testBit_setBits _ _ _ _ _ hf]
  by_cases hi' : i < h + 1 - l
  · have : ¬(lo ≤ l + i ∧ l + i ≤ hi) := by omega
    simp [this]
  · simp [hi']

theorem State.fld_setFld_of_disjoint {s : State} {f g : Fld} {v : Nat} (hf : f.lo ≤ f.hi) (h32 : f.hi < 32)
    (hd : g.hi < f.lo ∨ f.hi < g.lo) : (s.setFld f v).fld g = s.fld g := by
  by_cases ho : g.off = f.off
  · simp only [State.fld, State.setFld, State.reg_setReg, if_true, BitVec.toNat_ofNat, ho]
    rw [Nat.mod_eq_of_lt (setBits_lt _ _ _ _ hf h32 (s.reg f.off).isLt), bits_setBits_of_disjoint _ _ _ _ _ _ hf hd]
  · exact State.fld_setFld_of_ne ho

theorem State.flag_setFlag_of_disjoint {s : State} {f g : Fld} {b : Bool} (hf : f.lo ≤ f.hi) (h32 : f.hi < 32)
    (hd : g.hi < f.lo ∨ f.hi < g.lo) : (s.setFlag f b).flag g = s.flag g := by
  simp [State.flag, State.setFlag, State.fld_setFld_of_disjoint hf h32 hd]

theorem State.reg_setFlag {s : State} {f : Fld} {b : Bool} {o : Nat} (h : o ≠ f.off) : (s.setFlag f b).reg o = s.reg o :=
  State.reg_setFld h

theorem State.flag_of_reg {s t : State} {f : Fld} (h : t.reg f.off = s.reg f.off) : t.flag f = s.flag f := by
  have hf : t.fld f = s.fld f := by rw [State.fld, State.fld, h]
  rw [State.flag, State.flag, hf]

@[simp] theorem State.setFlag_mem (s : State) (f : Fld) (b : Bool) : (s.setFlag f b).mem = s.mem := rfl
@[simp] theorem State.setFlag_cores (s : State) (f : Fld) (b : Bool) : (s.setFlag f b).cores = s.cores := rfl
@[simp] theorem State.setFlag_logFifo (s : State) (f : Fld) (b : Bool) : (s.setFlag f b).logFifo = s.logFifo := rfl

/-! ### Where a block lies (R45) -/

/-- Every block starts at a multiple of 64 KiB. -/
theorem blk_base_mod (b : Blk) : b.base % 0x10000 = 0 := by
  obtain ⟨k, i⟩ := b
  cases k <;> simp only [Blk.base, blockPlace] <;> omega

/-- The block and the offset within it that hold an offset name that offset, which lies below the doorbells. -/
theorem blockAt_some {off rel : Nat} {b : Blk} (h : blockAt off = some (b, rel)) : off = b.base + rel ∧ off < 0x2900000 := by
  obtain ⟨k, -, hk⟩ := List.exists_of_findSome?_eq_some h
  simp only [Option.ite_none_right_eq_some, Option.some.injEq, Prod.mk.injEq] at hk
  obtain ⟨hin, rfl, rfl⟩ := hk
  cases k <;> simp only [Blk.base, blockPlace] at hin ⊢ <;> omega

theorem regAt_some {off rel : Nat} {b : Blk} {r : RegRow} (h : regAt off = some (b, rel, r)) : blockAt off = some (b, rel) := by
  unfold regAt at h
  split at h
  · cases h
  next hb =>
    split at h
    · cases h
    next => cases h; exact hb

theorem inDoors_of_regAt {off rel : Nat} {b : Blk} {r : RegRow} (h : regAt off = some (b, rel, r)) : inDoors off = false := by
  have := (blockAt_some (regAt_some h)).2
  simp only [inDoors, decide_eq_false_iff_not]
  omega

/-! ### Posts to the log (R51, R52, R606) -/

/-- A post to the log leaves the register at an offset: the FIFO has room, or the register is none of those of the LOG block that
show a dropped entry. -/
def State.LogSpares (s : State) (o : Nat) : Prop :=
  s.logFifo.length < 64 ∨ (o ≠ F.LOG_DROPPED.off ∧ o ≠ (Blk.mk .log 0).errOff)

theorem State.LogSpares.congr {s t : State} {o : Nat} (h : s.LogSpares o) (ht : t.logFifo = s.logFifo) : t.LogSpares o := by
  unfold State.LogSpares; rwa [ht]

/-- An entry of an error bit joins the FIFO, or is dropped, and LOG_DROPPED counts it. -/
theorem State.postErr_eq (s : State) (b : Blk) (bit : Nat) (m : Master) (off data : Nat) :
    (s.logFifo.length < 64 ∧ (s.postErr b bit m off data).regs = s.regs) ∨
    (64 ≤ s.logFifo.length ∧
      s.postErr b bit m off data = (s.count F.LOG_DROPPED).setFlag ((Blk.mk .log 0).err 16) true) := by
  rcases Nat.lt_or_ge s.logFifo.length 64 with h | h
  · left; simp [State.postErr, State.postLog, h, Nat.not_le.2 h]
  · right; simp [State.postErr, State.postLog, h]

theorem State.reg_postErr {s : State} {o : Nat} (h : s.LogSpares o) (b : Blk) (bit : Nat) (m : Master) (off data : Nat) :
    (s.postErr b bit m off data).reg o = s.reg o := by
  rcases s.postErr_eq b bit m off data with ⟨-, hr⟩ | ⟨hfull, he⟩
  · simp [State.reg, hr]
  · obtain ⟨hd, hl⟩ := h.resolve_left (by omega)
    rw [he, State.reg_setFlag hl]
    exact State.reg_setFld hd

/-- A post leaves the error bits that every block has: what it may set is bit 16 of the LOG block. -/
theorem State.flag_err_postErr (s : State) (c b : Blk) {k : Nat} (hk : k < 16) (bit : Nat) (m : Master) (off data : Nat) :
    (s.postErr b bit m off data).flag (c.err k) = s.flag (c.err k) := by
  rcases s.postErr_eq b bit m off data with ⟨-, hr⟩ | ⟨-, he⟩
  · exact State.flag_of_reg (by simp only [State.reg, hr])
  · have hc := blk_base_mod c
    have hne : (c.err k).off ≠ F.LOG_DROPPED.off := by simp only [Blk.err, Blk.errOff, F.LOG_DROPPED]; omega
    rw [he, State.flag_setFlag_of_disjoint (Nat.le_refl _) (show 16 < 32 by decide) (Or.inl hk)]
    exact State.flag_of_reg (State.reg_setFld hne)

theorem State.reg_raise {s : State} {o : Nat} (h : s.LogSpares o) {b : Blk} (ho : o ≠ b.errOff) (bit : Nat) (m : Master)
    (off data : Nat) : (s.raise b bit m off data).reg o = s.reg o := by
  unfold State.raise
  rw [State.reg_postErr (h.congr (by rfl))]
  exact State.reg_setFlag ho

theorem State.flag_raise_of_room {s : State} (h : s.logFifo.length < 64) {b : Blk} {bit : Nat} (hb : bit < 32) (m : Master)
    (off data : Nat) : (s.raise b bit m off data).flag (b.err bit) = true := by
  have hl : (s.setFlag (b.err bit) true).LogSpares (b.err bit).off := .inl h
  unfold State.raise
  rw [State.flag_of_reg (State.reg_postErr hl ..)]
  exact State.flag_setFlag (Nat.le_refl _) hb

/-- A block-specific error bit leaves the error bits that every block has. -/
theorem State.flag_err_raise (s : State) (c b : Blk) {k bit : Nat} (hk : k < 16) (hb : 16 ≤ bit) (h32 : bit < 32) (m : Master)
    (off data : Nat) : (s.raise b bit m off data).flag (c.err k) = s.flag (c.err k) := by
  unfold State.raise
  rw [State.flag_err_postErr _ _ _ hk]
  exact State.flag_setFlag_of_disjoint (Nat.le_refl _) h32 (Or.inl (Nat.lt_of_lt_of_le hk hb))

theorem State.reg_raiseAccess {s : State} {o : Nat} (h : s.LogSpares o) {b : Blk}
    (ho : o ∉ [b.errOff, b.errMasterOff, b.errAddrOff]) (bit : Nat) (m : Master) (off data : Nat) :
    (s.raiseAccess b bit m off data).reg o = s.reg o := by
  simp only [List.mem_cons, List.not_mem_nil, or_false, not_or] at ho
  obtain ⟨he, hm, ha⟩ := ho
  unfold State.raiseAccess
  simp only [Bool.false_eq_true, if_false]
  split
  · rw [State.reg_postErr (h.congr (by rfl)), State.reg_setFlag he]; simp [hm, ha]
  · rw [State.reg_postErr (h.congr (by rfl)), State.reg_setFlag he]

/-- The bit of an access error reads 1 after it, whatever else is captured or posted. -/
theorem State.flag_raiseAccess (s : State) (b : Blk) {bit : Nat} (hb : bit < 16) (m : Master) (off data : Nat) :
    (s.raiseAccess b bit m off data).flag (b.err bit) = true := by
  simp only [State.raiseAccess, Bool.false_eq_true, if_false]
  rw [State.flag_err_postErr _ _ _ hb]
  exact State.flag_setFlag (Nat.le_refl _) (show bit < 32 by omega)

@[simp] theorem State.raise_mem (s : State) (b : Blk) (bit : Nat) (m : Master) (off data : Nat) :
    (s.raise b bit m off data).mem = s.mem := by
  obtain ⟨r, q, h, -⟩ := s.raise_cases b bit m off data; rw [h]

@[simp] theorem State.raise_cores (s : State) (b : Blk) (bit : Nat) (m : Master) (off data : Nat) :
    (s.raise b bit m off data).cores = s.cores := by
  obtain ⟨r, q, h, -⟩ := s.raise_cases b bit m off data; rw [h]

@[simp] theorem State.raiseAccess_mem (s : State) (b : Blk) (bit : Nat) (m : Master) (off data : Nat) (silent : Bool) :
    (s.raiseAccess b bit m off data silent).mem = s.mem := by
  obtain ⟨r, q, h, -⟩ := s.raiseAccess_cases b bit m off data silent; rw [h]

@[simp] theorem State.raiseAccess_cores (s : State) (b : Blk) (bit : Nat) (m : Master) (off data : Nat) (silent : Bool) :
    (s.raiseAccess b bit m off data silent).cores = s.cores := by
  obtain ⟨r, q, h, -⟩ := s.raiseAccess_cases b bit m off data silent; rw [h]

end Sys2Proof.Machine
end

section
/-!
SUPPORT. What the commands of a register and of a block's header do, said once.
-/
namespace Sys2Proof.Machine
open Sys2Proof

/-! ### The commands as their meanings -/

theorem exec_registerWrite (m : Master) (off width : Nat) (v : Word) (s : State) :
    exec (.registerWrite m off width v) s = Next (s.spaceWrite m off width v.toNat) := rfl
theorem exec_blockEnable (m : Master) (b : Blk) (s : State) :
    exec (.blockEnable m b) s = Next (s.viaReg m b.ctrlOff (fun s => s.enableBlock b)) := rfl
theorem exec_blockDisable (m : Master) (b : Blk) (s : State) :
    exec (.blockDisable m b) s = Next (s.viaReg m b.ctrlOff (fun s => s.disableBlock b)) := rfl
theorem exec_blockLock (m : Master) (b : Blk) (s : State) :
    exec (.blockLock m b) s = Next (s.viaReg m b.ctrlOff (fun s => s.setFlag b.lock true)) := rfl
theorem exec_blockDrainDone (b : Blk) (s : State) : exec (.blockDrainDone b) s = Next (s.blockDrained b) := rfl
theorem exec_cfgCrcEnablePassDone (b : Blk) (s : State) : exec (.cfgCrcEnablePassDone b) s = Next (s.enablePass b) := rfl
theorem exec_cfgCrcPass (b : Blk) (s : State) : exec (.cfgCrcPass b) s = Next (s.periodicPass b) := rfl

/-! ### A refused write of a register (R38, R48, R63, R64, R67) -/

/-- A write of a register that exists is the write of its row, and the commands it starts. -/
theorem State.spaceWrite_of_regAt {s : State} {off rel : Nat} {b : Blk} {r : RegRow} (hr : regAt off = some (b, rel, r))
    (ha : s.regAbsent off = false) (m : Master) (width v : Nat) :
    s.spaceWrite m off width v = (s.regWrite m off width v).1.fire m (s.regWrite m off width v).2 := by
  simp [State.spaceWrite, inDoors_of_regAt hr, ha]

theorem State.spaceWrite_guarded {s : State} {off rel : Nat} {b : Blk} {r : RegRow} (hr : regAt off = some (b, rel, r))
    (h4 : off % 4 = 0) (ha : s.regAbsent off = false) {m : Master} (hg : r.guarded = true) (hs : s.isSecure m = false)
    (width v : Nat) : s.spaceWrite m off width v = s.guardViolation b m off true := by
  have hoff : off / 4 * 4 = off := by omega
  have hw : s.regWrite m off width v = (s.guardViolation b m off true, []) := by
    simp [State.regWrite, hoff, hr, hg, hs, ← (blockAt_some (regAt_some hr)).1]
  rw [State.spaceWrite_of_regAt hr ha, hw]
  rfl

theorem State.spaceWrite_narrow {s : State} {off rel : Nat} {b : Blk} {r : RegRow} (hr : regAt off = some (b, rel, r))
    (h4 : off % 4 = 0) (ha : s.regAbsent off = false) {m : Master} (hs : r.guarded = true → s.isSecure m = true) {width : Nat}
    (hn : width < 4) (v : Nat) : s.spaceWrite m off width v = s.raiseAccess b errBadAccess m off := by
  have hoff : off / 4 * 4 = off := by omega
  have hok : (r.guarded && !s.isSecure m) = false := by cases hg : r.guarded <;> simp [hs, hg]
  have hw : s.regWrite m off width v = (s.raiseAccess b errBadAccess m off, []) := by
    simp [State.regWrite, hoff, hr, hok, hn, ← (blockAt_some (regAt_some hr)).1]
  rw [State.spaceWrite_of_regAt hr ha, hw]
  rfl

/-- Where there is no register, a write of any width is a hole. -/
theorem State.spaceWrite_no_register {s : State} {off : Nat} (hr : regAt (off / 4 * 4) = none) (hd : inDoors off = false)
    (m : Master) (width v : Nat) : s.spaceWrite m off width v = s.hole m (regBase + off) true := by
  have hw : s.regWrite m off width v = (s.hole m (regBase + off) true, []) := by simp [State.regWrite, hr]
  simp only [State.spaceWrite, hd, Bool.false_eq_true, if_false, hw]
  split <;> rfl

/-- After its error bit, a hole changes nothing but its three capture registers (R38, R39). -/
theorem State.hole_eq (s : State) (m : Master) (a : Nat) (write : Bool) :
    ∃ r, s.hole m a write = { s.raise blkMod 18 m (a % 2 ^ 32) (bits a 39 32) with regs := r } ∧
      ∀ o, o ∉ [0x20, 0x24, 0x28] → (s.hole m a write).reg o = (s.raise blkMod 18 m (a % 2 ^ 32) (bits a 39 32)).reg o := by
  simp only [State.hole]
  split
  · exact ⟨_, rfl, fun _ _ => rfl⟩
  · refine ⟨_, rfl, fun o ho => ?_⟩
    simp only [List.mem_cons, List.not_mem_nil, or_false, not_or] at ho
    obtain ⟨h0, h1, h2⟩ := ho
    rw [State.reg_setFlag h2, State.reg_setFlag h2, State.reg_setFld h2, State.reg_setFld h1, State.reg_setReg]
    exact if_neg h0

theorem State.flag_hole {s : State} (h : s.logFifo.length < 64) (m : Master) (a : Nat) (write : Bool) :
    (s.hole m a write).flag (blkMod.err 18) = true := by
  obtain ⟨_, -, hreg⟩ := s.hole_eq m a write
  rw [State.flag_of_reg (hreg _ (by decide))]
  exact State.flag_raise_of_room h (by decide) ..

theorem State.reg_hole {s : State} (h : s.logFifo.length < 64) {o : Nat} (ho : o ∉ [blkMod.errOff, 0x20, 0x24, 0x28])
    (m : Master) (a : Nat) (write : Bool) : (s.hole m a write).reg o = s.reg o := by
  obtain ⟨_, -, hreg⟩ := s.hole_eq m a write
  rw [List.mem_cons, not_or] at ho
  rw [hreg o ho.2, State.reg_raise (.inl h) ho.1]

@[simp] theorem State.hole_mem (s : State) (m : Master) (a : Nat) (write : Bool) : (s.hole m a write).mem = s.mem := by
  obtain ⟨r, he, -⟩ := s.hole_eq m a write
  rw [he]; exact State.raise_mem ..

@[simp] theorem State.hole_cores (s : State) (m : Master) (a : Nat) (write : Bool) : (s.hole m a write).cores = s.cores := by
  obtain ⟨r, he, -⟩ := s.hole_eq m a write
  rw [he]; exact State.raise_cores ..

/-! ### Guarded registers (R63, R64) -/

/-- A post to the log leaves every guarded register: those that show a dropped entry are not guarded. -/
theorem State.logSpares_of_guarded (s : State) {off rel : Nat} {b : Blk} {r : RegRow} (hr : regAt off = some (b, rel, r))
    (hh : rel < 0xFF00 ∨ 0xFF18 < rel) (hg : r.guarded = true) : s.LogSpares off := by
  refine .inr ⟨?_, ?_⟩ <;> rintro rfl
  · have hu : (regAt F.LOG_DROPPED.off).all (fun x => !x.2.2.guarded) = true := by decide +kernel
    simp [hr, hg] at hu
  · have hl : blockAt (Blk.mk .log 0).errOff = some (⟨.log, 0⟩, 0xFF08) := by decide
    rw [regAt_some hr] at hl
    cases hl
    omega

/-- A register outside its block's header is none of the error registers of the block. -/
theorem not_mem_errRegs {off rel : Nat} {b : Blk} (hb : blockAt off = some (b, rel)) (hh : rel < 0xFF00 ∨ 0xFF18 < rel) :
    off ∉ [b.errOff, b.errMasterOff, b.errAddrOff] := by
  have := (blockAt_some hb).1
  simp only [List.mem_cons, List.not_mem_nil, or_false, Blk.errOff, Blk.errMasterOff, Blk.errAddrOff]
  omega

theorem blockAt_lxc_errOff : ∀ t < 16, blockAt (blkLxc t).errOff = some (blkLxc t, 0xFF08) := by decide

theorem State.guardViolation_hostPf {s : State} {m : Master} (hm : m.cls = .hostPf) (b : Blk) (off : Nat) (write : Bool) :
    s.guardViolation b m off write = s.raiseAccess b errGuard m off (ofBool write) := by
  simp [State.guardViolation, State.isFrozen, hm]

theorem State.guardViolation_lectern {s : State} {m : Master} (hm : m.cls = .lectern) (hf : s.isFrozen m = false) (b : Blk)
    (off : Nat) (write : Bool) :
    s.guardViolation b m off write = (s.raiseAccess b errGuard m off (ofBool write)).freezeCore m.index := by
  simp [State.guardViolation, hf, hm]

theorem State.freezeCore_frozen (s : State) (t : Nat) : ((s.freezeCore t).core t).frozen = true := by
  simp [State.freezeCore, State.core, State.modCore, State.setCore]

@[simp] theorem State.freezeCore_mem (s : State) (t : Nat) : (s.freezeCore t).mem = s.mem := State.raise_mem ..

theorem State.reg_freezeCore {s : State} {o : Nat} (h : s.LogSpares o) {t : Nat} (ho : o ≠ (blkLxc t).errOff) :
    (s.freezeCore t).reg o = s.reg o := by
  unfold State.freezeCore
  rw [State.reg_raise (h.congr (by rfl)) ho]
  rfl

theorem State.flag_err_freezeCore (s : State) (b : Blk) {k : Nat} (hk : k < 16) (t : Nat) :
    (s.freezeCore t).flag (b.err k) = s.flag (b.err k) :=
  State.flag_err_raise _ _ _ hk (by decide) (by decide) ..

/-- A register off the header keeps its value when an access to it is refused. -/
theorem State.reg_raiseAccess_self {s : State} {off rel : Nat} {b : Blk} {r : RegRow} (hr : regAt off = some (b, rel, r))
    (hh : rel < 0xFF00 ∨ 0xFF18 < rel) (hl : s.LogSpares off) (bit : Nat) (m : Master) (data : Nat) :
    (s.raiseAccess b bit m off data).reg off = s.reg off :=
  State.reg_raiseAccess hl (not_mem_errRegs (regAt_some hr) hh) ..

end Sys2Proof.Machine

open Sys2Proof Sys2Proof.Machine

/-- Settles O5: each refusal is one error bit, with its capture and its log entry, and for a lectern core the freeze. -/
theorem registerWriteRefusals : Obligations.RegisterWriteRefusals := by
  unfold Obligations.RegisterWriteRefusals
  intro s m off width v hlog
  simp only [exec_registerWrite]
  refine ⟨fun b rel r hr h4 hh ha => ⟨fun hg hs hf hm => ?guarded, fun hs hn => ?narrow⟩, fun hr hd => ?hole⟩
  case guarded =>
    rw [State.spaceWrite_guarded hr h4 ha hg hs]
    have hreg := State.reg_raiseAccess_self hr hh (.inl hlog) errGuard m (ofBool true)
    have hflag := s.flag_raiseAccess b (show errGuard < 16 by decide) m off (ofBool true)
    rcases hm with hm | ⟨hm, hi⟩
    · rw [State.guardViolation_hostPf hm]
      exact ⟨_, rfl, hreg, hflag, by simp [hm], by simp, by simp⟩
    · have ho : off ≠ (blkLxc m.index).errOff := by
        rintro rfl
        have hb := blockAt_lxc_errOff m.index hi
        rw [regAt_some hr] at hb
        cases hb
        omega
      rw [State.guardViolation_lectern hm hf]
      refine ⟨_, rfl, ?_, ?_, fun _ => State.freezeCore_frozen .., by simp [hm], by simp⟩
      · rw [State.reg_freezeCore (State.logSpares_of_guarded _ hr hh hg) ho, hreg]
      · rw [State.flag_err_freezeCore _ _ (by decide)]; exact hflag
  case narrow =>
    rw [State.spaceWrite_narrow hr h4 ha hs hn]
    exact ⟨_, rfl, State.reg_raiseAccess_self hr hh (.inl hlog) .., State.flag_raiseAccess _ _ (by decide) .., by simp, by simp⟩
  case hole =>
    rw [State.spaceWrite_no_register hr hd]
    exact ⟨_, rfl, State.flag_hole hlog .., fun o ho => State.reg_hole hlog ho .., by simp, by simp⟩
end

section
/-!
SUPPORT. ENABLE, ACTIVE, LOCK and the configuration CRC of a block that is neither a link nor a tile (R50, R55 to R62).
-/
namespace Sys2Proof.Machine
open Sys2Proof

/-! ### What a block's control register shows -/

/-- A bit that is set leaves every other bit, of its register and of others. -/
theorem State.flag_setFlag_bit {s : State} {o o' i j : Nat} (hi : i < 32) (hij : j ≠ i) (v : Bool) :
    (s.setFlag ⟨o, i, i⟩ v).flag ⟨o', j, j⟩ = s.flag ⟨o', j, j⟩ :=
  State.flag_setFlag_of_disjoint (Nat.le_refl _) hi (Nat.lt_or_gt_of_ne hij)

@[simp] theorem State.flag_active_setFlag_enable (s : State) (b : Blk) (v : Bool) :
    (s.setFlag b.enable v).flag b.active = s.flag b.active := State.flag_setFlag_bit (by decide) (by decide) v
@[simp] theorem State.flag_crcCheck_setFlag_enable (s : State) (b : Blk) (v : Bool) :
    (s.setFlag b.enable v).flag b.crcCheck = s.flag b.crcCheck := State.flag_setFlag_bit (by decide) (by decide) v
@[simp] theorem State.flag_enable_setFlag_active (s : State) (b : Blk) (v : Bool) :
    (s.setFlag b.active v).flag b.enable = s.flag b.enable := State.flag_setFlag_bit (by decide) (by decide) v
@[simp] theorem State.flag_enable_setFlag_lock (s : State) (b : Blk) (v : Bool) :
    (s.setFlag b.lock v).flag b.enable = s.flag b.enable := State.flag_setFlag_bit (by decide) (by decide) v
@[simp] theorem State.flag_active_setFlag_lock (s : State) (b : Blk) (v : Bool) :
    (s.setFlag b.lock v).flag b.active = s.flag b.active := State.flag_setFlag_bit (by decide) (by decide) v
@[simp] theorem State.flag_enable_setFlag_enable (s : State) (b : Blk) (v : Bool) :
    (s.setFlag b.enable v).flag b.enable = v := State.flag_setFlag (Nat.le_refl _) (show 0 < 32 by decide)
@[simp] theorem State.flag_active_setFlag_active (s : State) (b : Blk) (v : Bool) :
    (s.setFlag b.active v).flag b.active = v := State.flag_setFlag (Nat.le_refl _) (show 8 < 32 by decide)
@[simp] theorem State.flag_lock_setFlag_lock (s : State) (b : Blk) (v : Bool) :
    (s.setFlag b.lock v).flag b.lock = v := State.flag_setFlag (Nat.le_refl _) (show 31 < 32 by decide)

/-- `t` shows ENABLE and ACTIVE of block `b` as `e` and `a`, and differs from `s` in no register but the block's control
register, and in no byte of memory. -/
def State.CtrlShows (s : State) (b : Blk) (t : State) (e a : Bool) : Prop :=
  t.flag b.enable = e ∧ t.flag b.active = a ∧ t.mem = s.mem ∧ ∀ o, o ≠ b.ctrlOff → t.reg o = s.reg o

theorem State.CtrlShows.refl (s : State) (b : Blk) : s.CtrlShows b s (s.flag b.enable) (s.flag b.active) :=
  ⟨rfl, rfl, rfl, fun _ _ => rfl⟩

theorem State.CtrlShows.setEnable {s t : State} {b : Blk} {e a : Bool} (h : s.CtrlShows b t e a) (v : Bool) :
    s.CtrlShows b (t.setFlag b.enable v) v a := by
  obtain ⟨-, ha, hm, hr⟩ := h
  exact ⟨by simp, by simp [ha], hm, fun o ho => (State.reg_setFlag ho).trans (hr o ho)⟩

theorem State.CtrlShows.setActive {s t : State} {b : Blk} {e a : Bool} (h : s.CtrlShows b t e a) (v : Bool) :
    s.CtrlShows b (t.setFlag b.active v) e v := by
  obtain ⟨he, -, hm, hr⟩ := h
  exact ⟨by simp [he], by simp, hm, fun o ho => (State.reg_setFlag ho).trans (hr o ho)⟩

theorem State.CtrlShows.setLock {s t : State} {b : Blk} {e a : Bool} (h : s.CtrlShows b t e a) (v : Bool) :
    s.CtrlShows b (t.setFlag b.lock v) e a := by
  obtain ⟨he, ha, hm, hr⟩ := h
  exact ⟨by simp [he], by simp [ha], hm, fun o ho => (State.reg_setFlag ho).trans (hr o ho)⟩

/-! ### Enable, disable and drain -/

/-- A master that the guard of a register admits reaches what the write does. -/
theorem State.viaReg_admitted {s : State} {m : Master} {off : Nat} (h4 : off / 4 * 4 = off)
    (h : ∀ b rel r, regAt off = some (b, rel, r) → r.guarded = true → s.isSecure m = true) (f : State → State) :
    s.viaReg m off f = f s := by
  unfold State.viaReg
  rw [h4]
  split
  · next b rel r hr => cases hg : r.guarded <;> simp [h b rel r hr, hg]
  · rfl

theorem ctrlOff_aligned (b : Blk) : b.ctrlOff / 4 * 4 = b.ctrlOff := by
  have hb := blk_base_mod b
  have he : b.ctrlOff = b.base + 0xFF04 := rfl
  omega

theorem State.blockStart_eq (s : State) {b : Blk} (hl : b.kind ≠ .myl) : s.blockStart b = s.setFlag b.active true := by
  simp [State.blockStart, hl]

/-- An enable that is not refused sets ENABLE, and ACTIVE with it unless the block still drains or waits for its pass. -/
theorem State.enableBlock_eq {s : State} {b : Blk} (hl : b.kind ≠ .myl)
    (hv : b.kind ≠ .myr ∨ s.flag F.MYR_FABRIC_ID_VALID = true) (hon : s.flag b.enable = false) :
    s.enableBlock b =
      if s.flag b.active = true ∨ s.flag b.crcCheck = true then s.setFlag b.enable true
      else (s.setFlag b.enable true).setFlag b.active true := by
  have hgo : ¬(s.flag b.enable = true ∨ (b.kind = .myr ∧ (!s.flag F.MYR_FABRIC_ID_VALID) = true)) := by
    rcases hv with hv | hv <;> simp [hon, hv]
  simp only [State.enableBlock, if_neg hgo, State.flag_active_setFlag_enable, State.flag_crcCheck_setFlag_enable,
    State.blockStart_eq _ hl, hl, false_and, if_false]
  cases s.flag b.active <;> cases s.flag b.crcCheck <;> simp

theorem State.enableBlock_without_id {s : State} {b : Blk} (hk : b.kind = .myr) (hv : s.flag F.MYR_FABRIC_ID_VALID = false) :
    s.enableBlock b = s := by
  simp [State.enableBlock, hk, hv]

/-- A disable leaves ENABLE 0 and keeps ACTIVE: what the block has accepted drains. -/
theorem State.CtrlShows.disable {s : State} {b : Blk} (ht : b.kind ≠ .til) (hl : b.kind ≠ .myl) :
    s.CtrlShows b (s.disableBlock b) false (s.flag b.active) := by
  cases hon : s.flag b.enable with
  | false =>
    have he : s.disableBlock b = s := by simp [State.disableBlock, hon]
    rw [he, ← hon]
    exact .refl s b
  | true =>
    have he : s.disableBlock b = s.setFlag b.enable false := by simp [State.disableBlock, ht, hl, hon]
    rw [he]
    exact (CtrlShows.refl s b).setEnable false

theorem State.blockDrained_eq {s : State} {b : Blk} (ht : b.kind ≠ .til) (hon : s.flag b.enable = false)
    (hact : s.flag b.active = true) (hb : s.blockBusy b = false) : s.blockDrained b = s.setFlag b.active false := by
  simp [State.blockDrained, State.blockRest, ht, hon, hact, hb]

/-! ### The passes of the configuration CRC -/

theorem crcBit_lt {c : Nat} (h : c < 2 ^ 32) : crcBit c < 2 ^ 32 := by
  unfold crcBit
  split
  · exact Nat.xor_lt_two_pow (by omega) (by decide)
  · omega

theorem crcByte_lt {c : Nat} (h : c < 2 ^ 32) (b : Byte) : crcByte c b < 2 ^ 32 := by
  have hx : c ^^^ b.toNat < 2 ^ 32 := Nat.xor_lt_two_pow h (by have := b.isLt; omega)
  have hrep : ∀ n, Nat.repeat crcBit n (c ^^^ b.toNat) < 2 ^ 32 := by
    intro n
    induction n with
    | zero => exact hx
    | succ n ih => exact crcBit_lt ih
  exact hrep 8

theorem crc32c_lt (bs : List Byte) : crc32c bs < 2 ^ 32 := by
  have hfold : ∀ (bs : List Byte) (c : Nat), c < 2 ^ 32 → bs.foldl crcByte c < 2 ^ 32 := by
    intro bs
    induction bs with
    | nil => exact fun _ h => h
    | cons b bs ih => exact fun c h => ih _ (crcByte_lt h b)
  exact Nat.xor_lt_two_pow (hfold bs _ (by decide)) (by decide)

/-- The CRC-32C of a block's gated image, as BLK_CFG_CRC shows it. -/
def State.cfgCrc (s : State) (b : Blk) : Word := BitVec.ofNat 32 (crc32c (s.cfgImage b))

theorem ctrlOff_ne_cfgCrcOff (b : Blk) : b.ctrlOff ≠ b.cfgCrcOff := by simp [Blk.ctrlOff, Blk.cfgCrcOff]

/-- The state once a pass has written its result to BLK_CFG_CRC (R60). -/
def State.withCrc (s : State) (b : Blk) : State := s.setReg b.cfgCrcOff (s.cfgCrc b)

@[simp] theorem State.withCrc_mem (s : State) (b : Blk) : (s.withCrc b).mem = s.mem := rfl
@[simp] theorem State.withCrc_reg_cfgCrcOff (s : State) (b : Blk) : (s.withCrc b).reg b.cfgCrcOff = s.cfgCrc b := by
  simp [State.withCrc]
@[simp] theorem State.withCrc_reg_ctrlOff (s : State) (b : Blk) : (s.withCrc b).reg b.ctrlOff = s.reg b.ctrlOff := by
  simp [State.withCrc, ctrlOff_ne_cfgCrcOff]

/-- A pass writes BLK_CFG_CRC and compares that value with BLK_CFG_REF. -/
theorem State.crcPass_eq (s : State) (b : Blk) :
    s.crcPass b = (s.withCrc b, decide (s.cfgCrc b = s.reg b.cfgRefOff)) := by
  have hiff : crc32c (s.cfgImage b) = (s.reg b.cfgRefOff).toNat ↔ s.cfgCrc b = s.reg b.cfgRefOff := by
    rw [← BitVec.toNat_inj, State.cfgCrc, BitVec.toNat_ofNat, Nat.mod_eq_of_lt (crc32c_lt _)]
  unfold State.crcPass
  simp only [Prod.mk.injEq]
  exact ⟨rfl, decide_eq_decide.2 hiff⟩

theorem State.logSpares_ctrlOff (s : State) (b : Blk) : s.LogSpares b.ctrlOff := by
  have := blk_base_mod b
  refine .inr ⟨?_, ?_⟩ <;> simp only [Blk.ctrlOff, F.LOG_DROPPED, Blk.errOff, Blk.base, blockPlace] at * <;> omega

theorem State.logSpares_cfgCrcOff (s : State) (b : Blk) : s.LogSpares b.cfgCrcOff := by
  have := blk_base_mod b
  refine .inr ⟨?_, ?_⟩ <;> simp only [Blk.cfgCrcOff, F.LOG_DROPPED, Blk.errOff, Blk.base, blockPlace] at * <;> omega

/-- A mismatch sets CFG_CRC and leaves the control register, BLK_CFG_CRC and memory. -/
theorem State.crcMismatch_spec (s : State) (b : Blk) :
    (s.crcMismatch b).flag (b.err 3) = true ∧ (s.crcMismatch b).reg b.ctrlOff = s.reg b.ctrlOff ∧
    (s.crcMismatch b).reg b.cfgCrcOff = s.reg b.cfgCrcOff ∧ (s.crcMismatch b).mem = s.mem := by
  refine ⟨State.flag_raiseAccess s b (show errCfgCrc < 16 by decide) .., State.reg_raiseAccess (s.logSpares_ctrlOff b) ?_ ..,
    State.reg_raiseAccess (s.logSpares_cfgCrcOff b) ?_ .., State.raiseAccess_mem ..⟩
  all_goals simp [Blk.ctrlOff, Blk.cfgCrcOff, Blk.errOff, Blk.errMasterOff, Blk.errAddrOff]

/-- Two states whose control registers of a block agree show the same ENABLE, ACTIVE and CRC_STOP. -/
theorem State.ctrl_flags_of_reg {s t : State} {b : Blk} (h : t.reg b.ctrlOff = s.reg b.ctrlOff) :
    t.flag b.enable = s.flag b.enable ∧ t.flag b.active = s.flag b.active ∧ t.flag b.crcStop = s.flag b.crcStop :=
  ⟨State.flag_of_reg h, State.flag_of_reg h, State.flag_of_reg h⟩

theorem State.enablePass_eq {s : State} {b : Blk} (hl : b.kind ≠ .myl) (hon : s.flag b.enable = true)
    (hact : s.flag b.active = false) (hchk : s.flag b.crcCheck = true) :
    s.enablePass b =
      if s.cfgCrc b = s.reg b.cfgRefOff then (s.withCrc b).setFlag b.active true
      else ((s.withCrc b).setFlag b.enable false).crcMismatch b := by
  simp [State.enablePass, State.passRunning, hon, hact, hchk, State.crcPass_eq, State.blockStart_eq _ hl]

theorem State.periodicPass_eq {s : State} {b : Blk} (hact : s.flag b.active = true) (hchk : s.flag b.crcCheck = true) :
    s.periodicPass b =
      if s.cfgCrc b = s.reg b.cfgRefOff then s.withCrc b
      else if s.flag b.crcStop = true then ((s.withCrc b).crcMismatch b).disableBlock b
      else (s.withCrc b).crcMismatch b := by
  obtain ⟨-, hctrl, -, -⟩ := (s.withCrc b).crcMismatch_spec b
  obtain ⟨-, -, hstop⟩ := State.ctrl_flags_of_reg (hctrl.trans (s.withCrc_reg_ctrlOff b))
  simp [State.periodicPass, hact, hchk, State.crcPass_eq, hstop]

/-- The end of the pass at enable (R62). -/
theorem State.enablePass_spec {s : State} {b : Blk} (hl : b.kind ≠ .myl) (hon : s.flag b.enable = true)
    (hact : s.flag b.active = false) (hchk : s.flag b.crcCheck = true) :
    (s.enablePass b).reg b.cfgCrcOff = s.cfgCrc b ∧ (s.enablePass b).mem = s.mem ∧
    (s.cfgCrc b = s.reg b.cfgRefOff → (s.enablePass b).flag b.enable = true ∧ (s.enablePass b).flag b.active = true) ∧
    (s.cfgCrc b ≠ s.reg b.cfgRefOff → (s.enablePass b).flag b.enable = false ∧ (s.enablePass b).flag b.active = false ∧
      (s.enablePass b).flag (b.err 3) = true) := by
  have hne := (ctrlOff_ne_cfgCrcOff b).symm
  obtain ⟨hue, hua, -⟩ := State.ctrl_flags_of_reg (s.withCrc_reg_ctrlOff b)
  rw [State.enablePass_eq hl hon hact hchk]
  by_cases hc : s.cfgCrc b = s.reg b.cfgRefOff
  · rw [if_pos hc]
    exact ⟨(State.reg_setFlag hne).trans (s.withCrc_reg_cfgCrcOff b), by simp, fun _ => ⟨by simp [hue, hon], by simp⟩,
      fun h => absurd hc h⟩
  · obtain ⟨herr, hctrl, hcrc, hmem⟩ := ((s.withCrc b).setFlag b.enable false).crcMismatch_spec b
    obtain ⟨hte, hta, -⟩ := State.ctrl_flags_of_reg hctrl
    rw [if_neg hc]
    exact ⟨hcrc.trans ((State.reg_setFlag hne).trans (s.withCrc_reg_cfgCrcOff b)), hmem, fun h => absurd h hc,
      fun _ => ⟨by simp [hte], by simp [hta, hua, hact], herr⟩⟩

/-- The end of a pass of an active block (R60, R61). -/
theorem State.periodicPass_spec {s : State} {b : Blk} (ht : b.kind ≠ .til) (hl : b.kind ≠ .myl) (hact : s.flag b.active = true)
    (hchk : s.flag b.crcCheck = true) :
    (s.periodicPass b).reg b.cfgCrcOff = s.cfgCrc b ∧ (s.periodicPass b).flag b.active = true ∧ (s.periodicPass b).mem = s.mem ∧
    (s.cfgCrc b = s.reg b.cfgRefOff → (s.periodicPass b).flag b.enable = s.flag b.enable) ∧
    (s.cfgCrc b ≠ s.reg b.cfgRefOff → (s.periodicPass b).flag (b.err 3) = true ∧
      (s.periodicPass b).flag b.enable = (s.flag b.enable && !s.flag b.crcStop)) := by
  obtain ⟨hue, hua, -⟩ := State.ctrl_flags_of_reg (s.withCrc_reg_ctrlOff b)
  rw [State.periodicPass_eq hact hchk]
  by_cases hc : s.cfgCrc b = s.reg b.cfgRefOff
  · rw [if_pos hc]
    exact ⟨s.withCrc_reg_cfgCrcOff b, hua.trans hact, rfl, fun _ => hue, fun h => absurd hc h⟩
  · obtain ⟨herr, hctrl, hcrc, hmem⟩ := (s.withCrc b).crcMismatch_spec b
    obtain ⟨hte, hta, -⟩ := State.ctrl_flags_of_reg hctrl
    replace hcrc := hcrc.trans (s.withCrc_reg_cfgCrcOff b)
    rw [if_neg hc]
    cases hstop : s.flag b.crcStop with
    | true =>
      obtain ⟨hde, hda, hdm, hdr⟩ := State.CtrlShows.disable (s := (s.withCrc b).crcMismatch b) ht hl
      have herrOff : (b.err 3).off ≠ b.ctrlOff := by simp [Blk.err, Blk.errOff, Blk.ctrlOff]
      rw [if_pos rfl]
      exact ⟨(hdr _ (ctrlOff_ne_cfgCrcOff b).symm).trans hcrc, by rw [hda, hta, hua, hact], hdm.trans hmem, fun h => absurd h hc,
        fun _ => ⟨(State.flag_of_reg (hdr _ herrOff)).trans herr, by simp [hde]⟩⟩
    | false =>
      rw [if_neg Bool.false_ne_true]
      exact ⟨hcrc, by rw [hta, hua, hact], hmem, fun h => absurd h hc, fun _ => ⟨herr, by simp [hte, hue]⟩⟩

end Sys2Proof.Machine

open Sys2Proof Sys2Proof.Machine

/-- Settles O7: ENABLE, ACTIVE and LOCK lie in one register, so each command is a few bits set in it; a pass adds BLK_CFG_CRC and the
error bit. -/
theorem blockEnableDrainLockAndCrc : Obligations.BlockEnableDrainLockAndCrc := by
  unfold Obligations.BlockEnableDrainLockAndCrc
  intro s m b ht hl hm
  have h0 := State.CtrlShows.refl s b
  simp only [exec_blockEnable, exec_blockDisable, exec_blockLock, exec_blockDrainDone, exec_cfgCrcEnablePassDone,
    exec_cfgCrcPass, State.viaReg_admitted (ctrlOff_aligned b) hm]
  refine ⟨fun hv hon => ?enable, fun hk hv => ?noId, fun _ => ?disable, fun hon hact hb => ?drain, ?lock,
    fun hon hact hchk => ?pass, fun hact hchk => ?periodic⟩
  case enable =>
    have h1 := h0.setEnable true
    rw [State.enableBlock_eq hl hv hon]
    refine ⟨fun hact hchk => ?_, fun hact hchk => ?_, fun hact => ?_⟩ <;> rw [hact] at h1
    · rw [if_neg (by simp [hact, hchk])]
      exact ⟨_, rfl, h1.setActive true⟩
    · rw [if_pos (.inr hchk)]
      exact ⟨_, rfl, h1⟩
    · rw [if_pos (.inl hact)]
      exact ⟨_, rfl, h1⟩
  case noId => rw [State.enableBlock_without_id hk hv]
  case disable => exact ⟨_, rfl, State.CtrlShows.disable ht hl⟩
  case drain =>
    rw [State.blockDrained_eq ht hon hact hb]
    rw [hon] at h0
    exact ⟨_, rfl, h0.setActive false⟩
  case lock => exact ⟨_, rfl, by simp, h0.setLock true⟩
  case pass => exact ⟨_, rfl, State.enablePass_spec hl hon hact hchk⟩
  case periodic => exact ⟨_, rfl, State.periodicPass_spec ht hl hact hchk⟩

end

section
/-!
SUPPORT. The state after reset (R212, R283, R579).
-/
namespace Sys2Proof.Machine
open Sys2Proof

theorem reset_formOk : FormOk State.reset := by constructor <;> decide

theorem reset_partHasTile (p t : Nat) (hp : p < 16) : State.reset.partHasTile p t = false := by
  have hoff : ∀ p < 16, State.reset.flag (F.MOD_PART_CFG_ENABLE p) = false ∧ State.reset.flag (F.MOD_PART_CFG_ACTIVE p) = false := by
    decide +kernel
  obtain ⟨he, ha⟩ := hoff p hp
  simp [State.partHasTile, he, ha]

theorem reset_partOf (t : Nat) : State.reset.partOf t = none := by
  simp only [State.partOf, List.find?_eq_none, List.mem_range]
  exact fun p hp => by simp [reset_partHasTile p t hp]

end Sys2Proof.Machine

open Sys2Proof Sys2Proof.Machine

/-- Settles O2: every table of the state is empty, so each reading is its default. -/
theorem resetState : Obligations.ResetState := by
  have hstate : State.reset.fld F.MOD_STS_STATE = 0 := by decide +kernel
  exact ⟨hstate, fun _ => rfl, fun _ => rfl, reset_formOk, rfl, rfl, fun _ => rfl, fun _ => ⟨rfl, rfl⟩, fun _ => rfl, reset_partOf⟩
end

section
/-!
SUPPORT. The aliased bits of registers and the counter pairs (R47, R69 to R71).
-/
namespace Sys2Proof.Machine
open Sys2Proof

/-! ### The commands as their meanings -/

theorem exec_bitAliasWrite (m : Master) (a : Nat) (v : Word) (s : State) :
    exec (.bitAliasWrite m a v) s =
      Next (if a % 4 = 0 then s.aliasPut m a v.toNat else s.hole m (aliasBase + a) true) := rfl
theorem exec_counterPairLoRead (m : Master) (off : Nat) (s : State) :
    exec (.counterPairLoRead m off) s = Next ((s.spaceRead m off).1.emit (.readData m (s.spaceRead m off).2)) := rfl

/-! ### A write of one field -/

theorem fieldWrite_rw {f : FieldRow} {x : Nat} (ha : f.acc = .rw) (ht : f.trig = false) (hx : f.least ≤ x ∧ x ≤ f.greatest)
    (old : Nat) (locked wol closed : Bool) : fieldWrite f old x locked wol closed = { val := x } := by
  simp [fieldWrite, ha, ht, Nat.not_lt.2 hx.1, Nat.not_lt.2 hx.2]

theorem fieldWrite_w1c {f : FieldRow} {x : Nat} (ha : f.acc = .w1c) (hx : f.least ≤ x ∧ x ≤ f.greatest)
    (old : Nat) (locked wol closed : Bool) : fieldWrite f old x locked wol closed = { val := clearBits old x } := by
  simp [fieldWrite, ha, Nat.not_lt.2 hx.1, Nat.not_lt.2 hx.2]

/-- A field whose write meets no error and starts nothing takes its value, and the rest of the register stays. -/
theorem State.applyFields_one {s : State} {b : Blk} {rel v y : Nat} {r : RegRow} {f : FieldRow}
    (h : ∀ locked wol closed, fieldWrite f (s.fld ⟨b.base + rel, f.hi, f.lo⟩) (bits v f.hi f.lo) locked wol closed =
      { val := y })
    (m : Master) : s.applyFields b m rel r [f] v = (s.setFld ⟨b.base + rel, f.hi, f.lo⟩ y, []) := by
  simp only [State.fld] at h
  simp [State.applyFields, writeFields, h, State.setFld]

/-- A register whose bit `n` was set holds it there, and its other bits as before. -/
theorem State.getLsbD_reg_setFld_bit (s : State) (off : Nat) {n : Nat} (hn : n < 32) (x k : Nat) :
    ((s.setFld ⟨off, n, n⟩ x).reg off).getLsbD k = if k = n then x.testBit 0 else (s.reg off).getLsbD k := by
  simp only [State.setFld, State.reg_setReg, if_true, BitVec.getLsbD_ofNat, testBit_setBits _ _ _ _ _ (Nat.le_refl n)]
  by_cases hk : k = n
  · subst hk; simp [hn]
  · have hne : ¬(n ≤ k ∧ k ≤ n) := by omega
    rw [if_neg hne, if_neg hk]
    by_cases h32 : k < 32
    · simp [h32, BitVec.getLsbD]
    · simp [h32, BitVec.getLsbD_of_ge _ _ (Nat.not_lt.1 h32)]

/-! ### A write of an aliased bit -/

/-- The aliased address of bit `n` of an aligned register names that register and that bit (R69). -/
theorem aliasAddr_names_bit {off n : Nat} (h4 : off % 4 = 0) (hn : n < 32) :
    (off * 8 + n) * 4 % 4 = 0 ∧ (off * 8 + n) * 4 / 128 * 4 = off ∧ (off * 8 + n) * 4 / 4 % 32 = n := by omega

section OneBitWrite
variable {s : State} {m : Master} {off n rel : Nat} {b : Blk} {r : RegRow} {f : FieldRow}
  (hr : regAt off = some (b, rel, r)) (h4 : off % 4 = 0) (hn : n < 32) (ha : s.regAbsent off = false)
  (hs : r.guarded = true → s.isSecure m = true)
  (hf : r.fields.find? (fun f => decide (f.lo ≤ n ∧ n ≤ f.hi)) = some f)
include hr h4 hn ha hs hf

/-- A write of an aliased bit that the guard admits is the write of the bit's field, and the commands it starts. -/
theorem State.aliasPut_of_regAt (v : Nat) :
    s.aliasPut m ((off * 8 + n) * 4) v =
      if f.lo < f.hi then s.raiseAccess b errBadAccess m off
      else if f.acc = .ro || f.acc = .rc || ((f.acc = .w1c || f.acc = .w1s) && v % 2 = 0) then s
      else
        let p := s.applyFields b m rel r [f] (v % 2 * 2 ^ n)
        p.1.fire m (p.2.map (fun t => (b, rel, t))) := by
  obtain ⟨-, hoff, hbit⟩ := aliasAddr_names_bit h4 hn
  have hok : (r.guarded && !s.isSecure m) = false := by cases hg : r.guarded <;> simp [hs, hg]
  simp only [State.aliasPut, State.aliasWrite, hoff, hbit, ha, hr, hok, hf, ← (blockAt_some (regAt_some hr)).1,
    Bool.false_eq_true, if_false]
  split
  · rfl
  · split <;> rfl

/-- A bit of a field of several bits is refused (R70, log 13). -/
theorem State.aliasPut_multi_bit (hw : f.lo < f.hi) (v : Nat) :
    s.aliasPut m ((off * 8 + n) * 4) v = s.raiseAccess b errBadAccess m off := by
  rw [State.aliasPut_of_regAt hr h4 hn ha hs hf, if_pos hw]

section OneBitField
variable (hlo : f.lo = n) (hhi : f.hi = n)
include hlo hhi

theorem State.aliasPut_ro (hacc : f.acc = .ro) (v : Nat) : s.aliasPut m ((off * 8 + n) * 4) v = s := by
  rw [State.aliasPut_of_regAt hr h4 hn ha hs hf, if_neg (by omega), if_pos (by simp [hacc])]

/-- What a write of an aliased bit sets, where its one-bit field takes `y` and starts nothing. -/
theorem State.aliasPut_one_bit {v y : Nat}
    (hgo : ¬(f.acc = .ro || f.acc = .rc || ((f.acc = .w1c || f.acc = .w1s) && v % 2 = 0)) = true)
    (hy : ∀ locked wol closed, fieldWrite f (s.fld ⟨off, n, n⟩) (v % 2) locked wol closed = { val := y }) :
    s.aliasPut m ((off * 8 + n) * 4) v = s.setFld ⟨off, n, n⟩ y := by
  have ho := (blockAt_some (regAt_some hr)).1
  have hx : bits (v % 2 * 2 ^ n) n n = v % 2 := by
    rw [bits, Nat.shiftRight_eq_div_pow, Nat.mul_div_cancel _ (Nat.two_pow_pos n), Nat.add_sub_cancel_left, Nat.pow_one,
      Nat.mod_mod]
  have hone : s.applyFields b m rel r [f] (v % 2 * 2 ^ n) = (s.setFld ⟨off, n, n⟩ y, []) := by
    rw [State.applyFields_one (y := y), hlo, hhi, ← ho]
    rwa [hlo, hhi, ← ho, hx]
  rw [State.aliasPut_of_regAt hr h4 hn ha hs hf, if_neg (by omega), if_neg hgo, hone]
  rfl

variable (h0 : f.least = 0) (h1 : f.greatest = 1)
include h0 h1

theorem State.aliasPut_rw (hacc : f.acc = .rw) (ht : f.trig = false) (v : Nat) :
    s.aliasPut m ((off * 8 + n) * 4) v = s.setFld ⟨off, n, n⟩ (v % 2) :=
  State.aliasPut_one_bit hr h4 hn ha hs hf hlo hhi (by simp [hacc]) (fieldWrite_rw hacc ht (by omega) _)

/-- A bit that a write of 1 clears: a write of 0 is nothing. -/
theorem State.aliasPut_w1c (hacc : f.acc = .w1c) (v : Nat) :
    s.aliasPut m ((off * 8 + n) * 4) v = if v % 2 = 1 then s.setFld ⟨off, n, n⟩ 0 else s := by
  split
  next hv =>
    have hclear : clearBits (s.fld ⟨off, n, n⟩) (v % 2) = 0 := by
      have hold : s.fld ⟨off, n, n⟩ < 2 := by simp only [State.fld, bits, Nat.add_sub_cancel_left]; omega
      rw [hv, clearBits, Nat.and_one_is_mod]
      omega
    refine State.aliasPut_one_bit hr h4 hn ha hs hf hlo hhi (by simp [hacc, hv]) fun _ _ _ => ?_
    rw [fieldWrite_w1c hacc (by omega), hclear]
  next hv =>
    rw [State.aliasPut_of_regAt hr h4 hn ha hs hf, if_neg (by omega), if_pos]
    have hv0 : v % 2 = 0 := by omega
    simp [hacc, hv0]

end OneBitField
end OneBitWrite

/-- The bit of a hole reads 1 after it, also where the log's FIFO is full: a dropped entry shows in the LOG block. -/
theorem State.flag_err_hole (s : State) (m : Master) (a : Nat) (write : Bool) :
    (s.hole m a write).flag (blkMod.err 18) = true := by
  obtain ⟨_, -, hreg⟩ := s.hole_eq m a write
  have hl : (s.setFlag (blkMod.err 18) true).LogSpares (blkMod.err 18).off := .inr (by decide)
  rw [State.flag_of_reg (hreg _ (by decide)), State.raise, State.flag_of_reg (State.reg_postErr hl ..)]
  exact State.flag_setFlag (Nat.le_refl _) (by decide)

/-! ### Counter pairs (R47) -/

/-- A counter pair lies in a front port, above its header. -/
theorem isPairLo_fpp {b : Blk} {rel : Nat} (h : isPairLo b rel = true) : b.kind = .fpp ∧ 0xA0000 ≤ rel := by
  simp only [isPairLo, Bool.and_eq_true, Bool.or_eq_true, decide_eq_true_eq] at h
  obtain ⟨hk, hrel⟩ := h
  exact ⟨hk, by omega⟩

theorem isPairHi_of_lo {b : Blk} {rel : Nat} (h : isPairLo b rel = true) : isPairHi b (rel + 4) = true := by
  simp [isPairHi, h]

/-- The registers of a front port show what they hold. -/
theorem State.view_fpp {b : Blk} {rel : Nat} (hk : b.kind = .fpp) (hrel : rel ≠ 0xFF00) (s : State) :
    s.view b rel = (s.reg (b.base + rel)).toNat := by
  simp [State.view, hk, hrel]

theorem State.spaceRead_of_regAt {s : State} {off rel : Nat} {b : Blk} {r : RegRow} (hr : regAt off = some (b, rel, r))
    (ha : s.regAbsent off = false) (m : Master) : s.spaceRead m off = s.regRead m off := by
  simp [State.spaceRead, inDoors_of_regAt hr, ha]

/-- A read of the _LO half answers it and captures _HI. -/
theorem State.spaceRead_pairLo {s : State} {off rel : Nat} {b : Blk} {r : RegRow} (hr : regAt off = some (b, rel, r))
    (h4 : off % 4 = 0) (ha : s.regAbsent off = false) (hg : r.guarded = false) (hp : isPairLo b rel = true)
    (hwo : r.maskOf .wo = 0) (m : Master) :
    s.spaceRead m off = ({ s with pairCap := Tab.set s.pairCap (off + 4) (s.reg (off + 4)) }, (s.reg off).toNat) := by
  obtain ⟨hk, hrel⟩ := isPairLo_fpp hp
  have hoff : off / 4 * 4 = off := by omega
  have ho := (blockAt_some (regAt_some hr)).1
  rw [State.spaceRead_of_regAt hr ha]
  simp [State.regRead, hoff, hr, hg, hp, hwo, clearBits, State.view_fpp hk (show rel ≠ 0xFF00 by omega),
    State.view_fpp hk (show rel + 4 ≠ 0xFF00 by omega), ← Nat.add_assoc, ← ho]

/-- A read of a _HI half that is captured answers the captured value. -/
theorem State.spaceRead_pairHi {u : State} {off rel : Nat} {b : Blk} {r : RegRow} (hr : regAt off = some (b, rel, r))
    (h4 : off % 4 = 0) (ha : u.regAbsent off = false) (hg : r.guarded = false) (hl : isPairLo b rel = false)
    (hp : isPairHi b rel = true) {c : Word} (hc : Tab.find? u.pairCap off = some c) (m : Master) :
    u.spaceRead m off = ({ u with pairCap := Tab.erase u.pairCap off }, c.toNat) := by
  have hoff : off / 4 * 4 = off := by omega
  rw [State.spaceRead_of_regAt hr ha]
  simp [State.regRead, hoff, hr, hg, hl, hp, ← (blockAt_some (regAt_some hr)).1, hc]

end Sys2Proof.Machine

open Sys2Proof Sys2Proof.Machine

/-- Settles O6: a write of an aliased bit is nothing, one bit of one register set, or one refusal; a read of _LO leaves its
_HI half in the capture, and the read of _HI finds it there. -/
theorem bitAliasAndCounterPairs : Obligations.BitAliasAndCounterPairs := by
  unfold Obligations.BitAliasAndCounterPairs
  simp only [exec_bitAliasWrite, exec_counterPairLoRead]
  refine ⟨fun s m off n v b rel r f hr h4 hn ha hs hf ht => ?bit, fun s m a v ha => ?misaligned,
    fun s u m off b rel r r' h4 hr hr' hg hg' hlo hhi ha ha' hwo _ _ => ?pair⟩
  case bit =>
    obtain ⟨hal, -, -⟩ := aliasAddr_names_bit h4 hn
    have hv : v.getLsbD 0 = decide (v.toNat % 2 = 1) := by rw [BitVec.getLsbD, Nat.testBit_zero]
    simp only [hal, if_true]
    refine ⟨fun hl hh h0 h1 => ⟨fun hacc => ?rw, fun hacc => ?w1c, fun hacc => ?ro⟩, fun hw hh hlog => ?multi⟩
    case rw =>
      rw [State.aliasPut_rw hr h4 hn ha hs hf hl hh h0 h1 hacc ht]
      refine ⟨_, rfl, fun k => ?_, fun o ho => State.reg_setFld ho, rfl⟩
      rw [State.getLsbD_reg_setFld_bit _ _ hn, hv]
      simp
    case w1c =>
      rw [State.aliasPut_w1c hr h4 hn ha hs hf hl hh h0 h1 hacc]
      refine ⟨_, rfl, ?_⟩
      by_cases h : v.toNat % 2 = 1
      · rw [if_pos h]
        refine ⟨fun k => ?_, fun o ho => State.reg_setFld ho, rfl⟩
        rw [State.getLsbD_reg_setFld_bit _ _ hn, hv]
        simp [h]
      · rw [if_neg h]
        exact ⟨fun k => by rw [hv]; simp [h], fun _ _ => rfl, rfl⟩
    case ro => rw [State.aliasPut_ro hr h4 hn ha hs hf hl hh hacc]
    case multi =>
      rw [State.aliasPut_multi_bit hr h4 hn ha hs hf hw]
      exact ⟨_, rfl, State.reg_raiseAccess_self hr hh (.inl hlog) .., State.flag_raiseAccess _ _ (by decide) .., by simp⟩
  case misaligned =>
    rw [if_neg ha]
    exact ⟨_, rfl, State.flag_err_hole .., by simp⟩
  case pair =>
    rw [State.spaceRead_pairLo hr h4 ha hg hlo hwo]
    refine ⟨_, rfl, rfl, rfl, fun hcap => ?_⟩
    have hc : Tab.find? u.pairCap (off + 4) = some (s.reg (off + 4)) := by rw [hcap]; simp [State.emit]
    rw [State.spaceRead_pairHi hr' (by omega) ha' hg' hhi (isPairHi_of_lo hlo) hc]
    exact ⟨_, rfl, rfl, rfl⟩
end

section
/-!
SUPPORT. How an LX core waits, and the debug registers that hold, step and restart it (R163, R186 to R188).
-/
namespace Sys2Proof.Machine
open Sys2Proof

/-! ### The commands as their meanings -/

theorem exec_wfe (c : Nat) (s : State) : exec (.wfe c) s = Next (s.lxIssue c opWfe) := rfl
theorem exec_wfeWake (c : Nat) (s : State) : exec (.wfeWake c) s = Next (s.wfeWake c) := rfl
theorem exec_lxcRestart (m : Master) (t : Nat) (s : State) : exec (.lxcRestart m t) s = Next (s.lxcRestart m t) := rfl
theorem exec_lxcStep (m : Master) (t : Nat) (s : State) :
    exec (.lxcStep m t) s = Next (s.viaReg m (F.LXC_CTRL_STEP t).off (fun s => s.lxcStep t)) := rfl
theorem exec_lxcHalt (m : Master) (t : Nat) (on : Bool) (s : State) :
    exec (.lxcHalt m t on) s = Next (s.viaReg m (F.LXC_CTRL_HALT t).off (fun s => s.lxcHalt t on)) := rfl
theorem exec_lxcDoorbellRing (m : Master) (t : Nat) (s : State) :
    exec (.lxcDoorbellRing m t) s = Next (s.latchIrq t irqDoorbell) := rfl

/-! ### One core changed -/

@[simp] theorem State.core_modCore (s : State) (c : Nat) (f : Core → Core) : (s.modCore c f).core c = f (s.core c) := by
  simp [State.modCore]
@[simp] theorem State.modCore_mem (s : State) (c : Nat) (f : Core → Core) : (s.modCore c f).mem = s.mem := rfl
@[simp] theorem State.modCore_regs (s : State) (c : Nat) (f : Core → Core) : (s.modCore c f).regs = s.regs := rfl
@[simp] theorem State.modCore_tile (s : State) (c t : Nat) (f : Core → Core) : (s.modCore c f).tile t = s.tile t := rfl
@[simp] theorem State.setFlag_core (s : State) (f : Fld) (v : Bool) (c : Nat) : (s.setFlag f v).core c = s.core c := rfl

/-! ### A core that can retire an instruction -/

/-- Such a core runs in LX mode and is not frozen (R186). -/
theorem LxReady.runs {s : State} {c n : Nat} (h : LxReady s c n) :
    (s.core c).st = .running ∧ (s.core c).frozen = false ∧ (s.core c).compat = false := by
  have hr := h.1
  simp only [State.coreRuns, Bool.and_eq_true, decide_eq_true_eq, Bool.not_eq_true'] at hr
  obtain ⟨⟨⟨hst, hf⟩, hc⟩, -⟩ := hr
  exact ⟨hst, hf, hc⟩

/-- HALT is not set, and the hardware stacks hold no more than their cells (R152, R187). -/
theorem LxReady.halt_and_stacks {s : State} {c n : Nat} (h : LxReady s c n) :
    (s.core c).halt = false ∧ (s.core c).ds.length ≤ 32 ∧ (s.core c).rs.length ≤ 16 := by
  obtain ⟨-, -, -, -, hstacks⟩ := h
  exact hstacks

/-- The tile of such a lectern core is not calm (R131). -/
theorem LxReady.not_calm {s : State} {c n : Nat} (h : LxReady s c n) (hc : c < 16) : (s.tile c).calm = false := by
  have hr := h.1
  have h16 : ¬16 ≤ c := by omega
  simp only [State.coreRuns, Bool.and_eq_true, Bool.or_eq_true, h16, decide_false, Bool.not_eq_true', Bool.false_eq_true,
    false_or] at hr
  obtain ⟨-, hcalm, -⟩ := hr
  exact hcalm

/-- The checks, operands and spills of an instruction that a ready core can do leave the state as it is (R153, R172). -/
theorem LxReady.prepares {s : State} {c : Nat} {i : LxOp} (h : LxReady s c i.bytes.length) (hb : 0 < i.bytes.length)
    (he : i.emulate = false) (hu : i.undef = false) (hp : i.privOnly = true → (s.core c).priv = true) (hk : i.pick = false)
    (hnd : i.nd ≤ (s.core c).ds.length) (hnr : i.nr ≤ (s.core c).rs.length)
    (hod : (s.core c).ds.length + i.od - i.nd ≤ 32) (hor : (s.core c).rs.length + i.orr - i.nr ≤ 16)
    (hl : i.late c (s.core c) = none) : s.lxCheck c i = .go s 0 ∧ s.lxPrepare c i = .go s 0 := by
  have hgd : (s.core c).spillGroups .data i.nd i.od = 0 := Core.spillGroups_zero hod
  have hgr : (s.core c).spillGroups .ret i.nr i.orr = 0 := Core.spillGroups_zero hor
  have hoperands : s.lxOperands c i = (.go s 0, i.nd) := by
    simp [State.lxOperands, hk, State.lxNeed_in_hardware (k := .data) hnd, State.lxNeed_in_hardware (k := .ret) hnr]
  have hlate : lxLate c (s.core c) i = none := by
    obtain ⟨-, -, -, hwe, -⟩ := h
    cases ha : i.access (s.core c) <;> simp [lxLate, hl, hk, Core.noRoom, hgd, hgr, Core.watches, hwe, ha]
  have hpriv : (i.privOnly && !(s.core c).priv) = false := by cases hq : i.privOnly <;> simp [hp, hq]
  exact ⟨by simp [State.lxCheck, h.fetch hb, he, hu, hpriv],
    by simp [State.lxPrepare, hoperands, hlate, hk, hgd, hgr, State.lxSpill]⟩

/-- An instruction that stalls leaves the core as it was, waiting. -/
theorem State.lxIssue_stalls {s : State} {c : Nat} {i : LxOp} {w : Wait} (hruns : s.coreRuns c false = true)
    (hf : (s.core c).frozen = false) (hc : s.lxCheck c i = .go s 0) (hp : s.lxPrepare c i = .go s 0)
    (hrun : i.run s c = .stall s w) (hw : w ≠ .none) :
    s.lxIssue c i = s.setCore c { s.core c with st := .waiting, wait := w } := by
  simp [State.lxIssue, hruns, State.lxExec, hc, hp, hrun, State.unlessFrozen, hf, State.modCore, Core.rewind, hw]

/-! ### WFE (R163) -/

theorem State.lxIssue_wfe_pending {s : State} {c : Nat} (h : LxReady s c 1) (hi : irqReady c (s.core c) ≠ 0) :
    s.lxIssue c opWfe = s.retired c (s.core c).ds (s.core c).rs ((s.core c).pc + 1) 1 := by
  obtain ⟨-, hf, -⟩ := h.runs
  obtain ⟨hh, hds, hrs⟩ := h.halt_and_stacks
  have hrun : opWfe.run s c = .done s ((s.core c).pc + 1) 1 := if_pos hi
  exact State.lxIssue_retires (i := opWfe) h (by decide) rfl rfl (by simp [opWfe]) rfl (Nat.zero_le _) (Nat.zero_le _) hds hrs
    rfl hrun hf hh

/-- A WFE without an enabled source keeps its PC and waits. -/
theorem State.lxIssue_wfe_waits {s : State} {c : Nat} (h : LxReady s c 1) (hi : irqReady c (s.core c) = 0) :
    s.lxIssue c opWfe = s.setCore c { s.core c with st := .waiting, wait := .wfe } := by
  obtain ⟨-, hf, -⟩ := h.runs
  obtain ⟨-, hds, hrs⟩ := h.halt_and_stacks
  obtain ⟨hc, hp⟩ := LxReady.prepares (i := opWfe) h (by decide) rfl rfl (by simp [opWfe]) rfl (Nat.zero_le _) (Nat.zero_le _)
    hds hrs rfl
  have hrun : opWfe.run s c = .stall s .wfe := if_neg (by simp [hi])
  exact State.lxIssue_stalls h.1 hf hc hp hrun (by simp)

/-- A core in WFE that sees an enabled source goes on behind the WFE. -/
theorem State.wfeWake_eq {s : State} {c : Nat} (hst : (s.core c).st = .waiting) (hw : (s.core c).wait = .wfe)
    (hi : irqReady c (s.core c) ≠ 0) (hh : (s.core c).halt = false) :
    s.wfeWake c = s.setCore c (({ s.core c with st := .running, wait := .none } : Core).moved ((s.core c).pc + 1) 1) := by
  simp [State.wfeWake, hst, hw, hi, State.modCore, Core.retire, Core.moved, hh]

/-! ### RESTART (R187) -/

theorem State.lxcRestart_librarian {m : Master} (hm : m.cls = .librarian) (s : State) (t : Nat) :
    s.lxcRestart m t = s.modCore t (fun x => x.start t) := if_pos hm

/-- Debug reaches every register but RESTART: its write is a violation of the guard, which changes no core. -/
theorem State.lxcRestart_debug {m : Master} (hm : m.cls = .debug) (s : State) (t : Nat) :
    s.lxcRestart m t = s.raiseAccess (blkLxc t) errGuard m (F.LXC_CTRL_RESTART t).off (ofBool true) := by
  simp [State.lxcRestart, State.guardViolation, State.isFrozen, hm]

/-- What a start of a lectern core with an image leaves (R156, R187). -/
theorem Core.start_lectern {x : Core} {t : Nat} (ht : t < 16) {img : LoadedImage} (hi : x.image = some img)
    (hh : x.halt = false) :
    let y := x.start t
    y.st = .running ∧ y.frozen = false ∧ y.pc = img.entry ∧ y.ds = [] ∧ y.rs = [] ∧ y.dsMem = img.dsBase ∧
      y.rsMem = img.rsBase ∧ y.priv = false ∧ y.ie = false := by
  simp [Core.start, hi, hh, ht]

/-! ### HALT and STEP (R187) -/

/-- The guard of a register admits a secure master (R63). -/
theorem State.viaReg_secure {s : State} {m : Master} (hs : s.isSecure m = true) (off : Nat) (f : State → State) :
    s.viaReg m off f = f s := by
  unfold State.viaReg
  split <;> simp [hs]

/-- HALT 1 puts a running core in DEBUG. -/
theorem State.lxcHalt_of_running {s : State} {t : Nat} (hst : (s.core t).st = .running) :
    (s.lxcHalt t true).core t = { s.core t with halt := true, st := .debug } := by
  simp [State.lxcHalt, hst]

/-- HALT 0 resumes a core in DEBUG. -/
theorem State.lxcHalt_of_debug {s : State} {t : Nat} (hst : (s.core t).st = .debug) :
    (s.lxcHalt t false).core t = { s.core t with halt := false, st := .running } := by
  simp [State.lxcHalt, hst]

theorem State.lxcHalt_flag (s : State) (t : Nat) (on : Bool) : (s.lxcHalt t on).flag (F.LXC_CTRL_HALT t) = on :=
  State.flag_setFlag (Nat.le_refl _) (show 0 < 32 by decide)

/-- A zero byte at the front is a NOP (R160). -/
theorem lxDecode_zero {c : Nat} {bs : List Byte} (h : bs.headD 0 = 0) : lxDecode c bs = opNop := by
  simp only [lxDecode, lxDecodeStack, h]
  rfl

/-- A ready core in LX mode with a zero byte at its PC retires a NOP. -/
theorem State.execAtPc_nop {s : State} {c : Nat} (h : LxReady s c 1) (hz : Tab.getD (s.core c).im (s.core c).pc 0 = 0) :
    s.execAtPc c = s.retired c (s.core c).ds (s.core c).rs ((s.core c).pc + 1) 1 := by
  obtain ⟨-, -, hlx⟩ := h.runs
  obtain ⟨-, hds, -⟩ := h.halt_and_stacks
  have hop : lxDecode c ((s.core c).imBytes (s.core c).pc 9) = opNop := lxDecode_zero hz
  calc s.execAtPc c = s.lxIssue c opNop := by simp [State.execAtPc, hlx, hop, State.lxIssue, h.1]
    _ = _ := State.lxIssue_pure (n := 0) (o := 0) h (by decide) (Nat.zero_le _) hds

/-- A step of a core that owes one: it runs the instruction at its PC, is in DEBUG again, and STEP reads 0. -/
theorem State.lxcStep_eq {s : State} {t : Nat} (hst : (s.core t).st = .debug) (hf : (s.core t).frozen = false)
    (hcalm : (s.tile t).calm = false) :
    s.lxcStep t = (((s.setCore t { s.core t with st := .running }).execAtPc t).modCore t
      (fun x => if x.st = .running then { x with st := .debug } else x)).setFlag (F.LXC_CTRL_STEP t) false :=
  if_pos ⟨hst, by simp [hf], by simp [hcalm]⟩

theorem State.lxcStep_nop {s : State} {t : Nat} (ht : t < 16)
    (h : LxReady (s.setCore t { s.core t with st := .running }) t 1) (hst : (s.core t).st = .debug)
    (hz : Tab.getD (s.core t).im (s.core t).pc 0 = 0) :
    s.lxcStep t = (s.setCore t (({ s.core t with st := .debug } : Core).moved ((s.core t).pc + 1) 1)).setFlag
      (F.LXC_CTRL_STEP t) false := by
  obtain ⟨-, hf, -⟩ := h.runs
  rw [State.core_setCore, if_pos rfl] at hf
  rw [State.lxcStep_eq hst hf (h.not_calm ht), State.execAtPc_nop h (by simpa using hz)]
  simp [State.retired, State.modCore, Core.moved]

/-! ### The doorbell (R188) -/

/-- A latched pulse source is pending: sources 1 to 3 are the latched ones (R175). -/
theorem irqPend_latched {n : Nat} (hn : Nat.testBit 0xE n = true) (c : Nat) (x : Core) :
    (irqPend c { x with irqLatch := putBit x.irqLatch n true }).testBit n = true := by
  simp [irqPend, putBit, hn, Nat.testBit_two_pow_self]

end Sys2Proof.Machine

open Sys2Proof Sys2Proof.Machine

/-- Settles O20: each command is an update of one core, and of LXC_CTRL or the block's error registers. -/
theorem lxWaitsAndDebugControl : Obligations.LxWaitsAndDebugControl := by
  unfold Obligations.LxWaitsAndDebugControl
  simp only [exec_wfe, exec_wfeWake, exec_lxcRestart, exec_lxcStep, exec_lxcHalt, exec_lxcDoorbellRing]
  refine ⟨fun s c h => ⟨fun hi => ?pending, fun hi => ?waits⟩, fun s c hst hw hi hh => ?wake, fun s t ht =>
    ⟨fun m img hm hi hh => ?restart, fun m hm => ?refused, fun m hs => ⟨fun hst => ?halt, fun hst => ?resume,
      fun h hst hz => ?step⟩, fun m => ?doorbell⟩⟩
  case pending => rw [State.lxIssue_wfe_pending h hi]
  case waits => rw [State.lxIssue_wfe_waits h hi]
  case wake => rw [State.wfeWake_eq hst hw hi hh]
  case restart =>
    rw [State.lxcRestart_librarian hm]
    obtain ⟨hst, hf, hpc, hds, hrs, hdm, hrm, hpriv, hie⟩ := Core.start_lectern ht hi hh
    exact ⟨_, rfl, by simpa using ⟨hst, hf, hpc, hds, hrs, hdm, hrm, hpriv, hie⟩⟩
  case refused =>
    rw [State.lxcRestart_debug hm]
    exact ⟨_, rfl, by simp [State.core], State.flag_raiseAccess _ _ (by decide) .., by simp⟩
  case halt =>
    rw [State.viaReg_secure hs]
    exact ⟨_, rfl, by rw [State.lxcHalt_of_running hst], by rw [State.lxcHalt_of_running hst], State.lxcHalt_flag .., rfl⟩
  case resume =>
    rw [State.viaReg_secure hs]
    exact ⟨_, rfl, by rw [State.lxcHalt_of_debug hst], by rw [State.lxcHalt_of_debug hst], State.lxcHalt_flag .., rfl⟩
  case step =>
    rw [State.viaReg_secure hs, State.lxcStep_nop ht h hst hz]
    exact ⟨_, rfl, by simp [Core.moved]⟩
  case doorbell =>
    have hcore : (s.latchIrq t irqDoorbell).core t =
        { s.core t with irqLatch := putBit (s.core t).irqLatch irqDoorbell true } := State.core_modCore ..
    refine ⟨_, rfl, ?_, by rw [hcore], by rw [hcore], rfl, rfl⟩
    rw [hcore]
    exact irqPend_latched (by decide) ..
end

section
/-!
SUPPORT. The sum of ledger words of one anchor, which `ledger_add` forms word by word (R94), and the bytes of a word (R92).
-/
namespace Sys2Proof.Machine
open Sys2Proof

/-! ### Little-endian bytes (R9) -/

@[simp] theorem length_leBytes (n v : Nat) : (leBytes n v).length = n := by
  induction n generalizing v with
  | zero => rfl
  | succ n ih => simp [leBytes, ih]

theorem ofLe_leBytes (n v : Nat) : ofLe (leBytes n v) = v % 256 ^ n := by
  induction n generalizing v with
  | zero => simp [leBytes, ofLe, Nat.mod_one]
  | succ n ih =>
    have hp : 256 ^ (n + 1) = 256 * 256 ^ n := Nat.pow_succ'
    rw [leBytes, ofLe, ih, BitVec.toNat_ofNat, hp]
    exact Nat.mod_mul.symm

/-- The number at the front of a byte string. -/
theorem leAt_leBytes_append (n v : Nat) (bs : List Byte) : leAt (leBytes n v ++ bs) 0 n = v % 256 ^ n := by
  rw [leAt, List.drop_zero, List.take_left' (length_leBytes n v), ofLe_leBytes]

/-- A number behind the one at the front. -/
theorem leAt_leBytes_append_of_le {n lo : Nat} (h : n ≤ lo) (v k : Nat) (bs : List Byte) :
    leAt (leBytes n v ++ bs) lo k = leAt bs (lo - n) k := by
  rw [leAt, leAt, List.drop_append, List.drop_of_length_le (by simpa using h), length_leBytes, List.nil_append]

/-- Two bytes of a signed number of 16 bits give it back. -/
theorem sext_emod {x : Int} (hlo : -2 ^ 15 ≤ x) (hhi : x < 2 ^ 15) : sext 16 (x % 65536).toNat = x := by
  simp only [sext]
  split <;> omega

/-! ### The bytes of a ledger word (R92) -/

theorem LWord.ofBytes_bytes {w : LWord} (hf : w.flags < 2 ^ 16) (ht : w.terms < 2 ^ 32) (hlo : -2 ^ 15 ≤ w.anchor)
    (hhi : w.anchor < 2 ^ 15) : LWord.ofBytes w.bytes = w := by
  have hv : w.value.toNat % 256 ^ 20 = w.value.toNat := Nat.mod_eq_of_lt w.value.isLt
  have ha : (w.anchor % 65536).toNat % 256 ^ 2 = (w.anchor % 65536).toNat := by omega
  have hf' : w.flags % 256 ^ 2 = w.flags := Nat.mod_eq_of_lt hf
  have ht' : w.terms % 256 ^ 4 = w.terms := Nat.mod_eq_of_lt ht
  simp only [LWord.ofBytes, LWord.bytes, List.append_assoc, leAt_leBytes_append_of_le, Nat.reduceLeDiff, Nat.reduceSub,
    leAt_leBytes_append, hv, ha, hf', ht', sext_emod hlo hhi, BitVec.ofNat_toNat, BitVec.setWidth_eq]

/-! ### The sum of words (R94) -/

/-- COUNT_SAT, where a number of terms does not fit in TERMS (R84). -/
def countSat (t : Nat) : Nat := if 0xFFFFFFFF < t then flagCountSat else 0

/-- A count that was saturated, added to, sets COUNT_SAT as the count of all the terms does. -/
theorem countSat_or_saturated (t u : Nat) : countSat t ||| countSat (min t 0xFFFFFFFF + u) = countSat (t + u) := by
  unfold countSat
  rcases Nat.lt_or_ge 0xFFFFFFFF t with h | h
  · rw [if_pos h, if_pos (show 0xFFFFFFFF < t + u by omega)]
    split <;> decide
  · rw [if_neg (by omega), Nat.min_eq_left h, Nat.zero_or]

theorem testBit_countSat (t : Nat) : (countSat t).testBit 8 = false := by
  unfold countSat; split <;> decide

/-- A word that is not empty, has the anchor `a`, is not marked ANCHOR_MIX, and has a TERMS of 32 bits. -/
structure LWord.Adds (a : Int) (w : LWord) : Prop where
  full : w.isEmpty = false
  anchor : w.anchor = a
  unmixed : w.flags.testBit 8 = false
  terms : w.terms < 2 ^ 32

/-- The number of terms of all of some words. -/
def LWord.count (ws : List LWord) : Nat := (ws.map (fun w => w.terms)).foldl (· + ·) 0

/-- The flags of all of some words together. -/
def LWord.orFlags (ws : List LWord) : Nat := (ws.map (fun w => w.flags)).foldl (· ||| ·) 0

/-- The sum of words of the anchor `a`, formed at once: what `ledger_add` makes of them, word by word (`foldl_ledgerAdd`). -/
def LWord.total (a : Int) (ws : List LWord) : LWord where
  value := (ws.map (fun w => w.value)).foldl (· + ·) 0
  anchor := a
  flags := LWord.orFlags ws ||| countSat (LWord.count ws)
  terms := min (LWord.count ws) 0xFFFFFFFF

@[simp] theorem LWord.count_concat (ws : List LWord) (w : LWord) : LWord.count (ws ++ [w]) = LWord.count ws + w.terms := by
  simp [LWord.count]

@[simp] theorem LWord.orFlags_concat (ws : List LWord) (w : LWord) :
    LWord.orFlags (ws ++ [w]) = LWord.orFlags ws ||| w.flags := by
  simp [LWord.orFlags]

theorem LWord.testBit_orFlags {ws : List LWord} (h : ∀ w ∈ ws, w.flags.testBit 8 = false) :
    (LWord.orFlags ws).testBit 8 = false := by
  refine List.foldlRecOn (motive := fun f : Nat => f.testBit 8 = false) _ _ (Nat.zero_testBit 8) fun f hf g hg => ?_
  obtain ⟨w, hw, rfl⟩ := List.mem_map.1 hg
  rw [Nat.testBit_or, hf, h w hw, Bool.or_false]

/-- The order of the words plays no part in their sum. -/
theorem LWord.total_perm (a : Int) {ws vs : List LWord} (h : ws.Perm vs) : LWord.total a ws = LWord.total a vs := by
  have hvalue : (ws.map (fun w => w.value)).foldl (· + ·) 0 = (vs.map (fun w => w.value)).foldl (· + ·) 0 :=
    (h.map _).foldl_eq' (fun x _ y _ z => by ac_rfl) 0
  have hcount : LWord.count ws = LWord.count vs := (h.map _).foldl_eq' (fun x _ y _ z => Nat.add_right_comm z x y) 0
  have hflags : LWord.orFlags ws = LWord.orFlags vs := (h.map _).foldl_eq' (fun x _ y _ z => by ac_rfl) 0
  rw [LWord.total, LWord.total, hvalue, hcount, hflags]

theorem LWord.total_singleton {a : Int} {w : LWord} (h : w.Adds a) : LWord.total a [w] = w := by
  obtain ⟨value, anchor, flags, terms⟩ := w
  obtain ⟨-, rfl, -, ht⟩ := h
  have ht' : terms ≤ 0xFFFFFFFF := by simpa using Nat.le_of_lt_succ ht
  simp [LWord.total, LWord.count, LWord.orFlags, countSat, ht', Nat.not_lt.2 ht']

/-- A word that is not empty makes the sum one that is not empty. -/
theorem LWord.total_full {a : Int} {ws : List LWord} (hne : ws ≠ []) (h : ∀ w ∈ ws, w.Adds a) :
    (LWord.total a ws).isEmpty = false := by
  have hw := (h _ (List.getLast_mem hne)).full
  rw [← List.dropLast_concat_getLast hne]
  simp only [LWord.isEmpty, Bool.and_eq_false_iff, decide_eq_false_iff_not] at hw ⊢
  simp only [LWord.total, LWord.count_concat, LWord.orFlags_concat, Nat.or_eq_zero_iff]
  omega

/-! ### `ledger_add` (R94) -/

theorem ledgerAdd_empty (fv : Nat) (d : LWord) {s : LWord} (h : s.isEmpty = true) : ledgerAdd fv d s = d := if_pos h

theorem ledgerAdd_to_empty (fv : Nat) {d s : LWord} (hs : s.isEmpty = false) (hd : d.isEmpty = true) : ledgerAdd fv d s = s := by
  simp [ledgerAdd, hs, hd]

/-- Two words that are not empty and share an anchor: nothing of the sum comes from the free value. -/
theorem ledgerAdd_same_anchor (fv : Nat) {d s : LWord} (hs : s.isEmpty = false) (hd : d.isEmpty = false)
    (ha : d.anchor = s.anchor) (hd8 : d.flags.testBit 8 = false) (hs8 : s.flags.testBit 8 = false) :
    ledgerAdd fv d s = ⟨d.value + s.value, d.anchor, d.flags ||| s.flags ||| countSat (d.terms + s.terms),
      min (d.terms + s.terms) 0xFFFFFFFF⟩ := by
  simp [ledgerAdd, countSat, hs, hd, ha, hd8, hs8]

/-- One more word joins the sum. -/
theorem ledgerAdd_total (fv : Nat) {a : Int} {ws : List LWord} {w : LWord} (hne : ws ≠ []) (hws : ∀ w ∈ ws, w.Adds a)
    (hw : w.Adds a) : ledgerAdd fv (LWord.total a ws) w = LWord.total a (ws ++ [w]) := by
  have h8 : (LWord.total a ws).flags.testBit 8 = false := by
    rw [LWord.total, Nat.testBit_or, LWord.testBit_orFlags fun w h => (hws w h).unmixed, testBit_countSat, Bool.or_false]
  rw [ledgerAdd_same_anchor fv hw.full (LWord.total_full hne hws) hw.anchor.symm h8 hw.unmixed]
  have hflags : LWord.orFlags ws ||| countSat (LWord.count ws) ||| w.flags |||
        countSat (min (LWord.count ws) 0xFFFFFFFF + w.terms) =
      LWord.orFlags ws ||| w.flags ||| countSat (LWord.count ws + w.terms) := by
    rw [← countSat_or_saturated (LWord.count ws) w.terms]
    ac_rfl
  have hterms : min (min (LWord.count ws) 0xFFFFFFFF + w.terms) 0xFFFFFFFF = min (LWord.count ws + w.terms) 0xFFFFFFFF := by
    omega
  simp [LWord.total, hflags, hterms]

/-- The words of a list that are not empty. -/
def LWord.fulls (ws : List LWord) : List LWord := ws.filter (fun w => !w.isEmpty)

theorem LWord.fulls_cons_empty {w : LWord} (h : w.isEmpty = true) (ws : List LWord) :
    LWord.fulls (w :: ws) = LWord.fulls ws := by
  simp [LWord.fulls, h]

theorem LWord.fulls_cons_full {w : LWord} (h : w.isEmpty = false) (ws : List LWord) :
    LWord.fulls (w :: ws) = w :: LWord.fulls ws := by
  simp [LWord.fulls, h]

/-- Words added to a sum give the sum of all. -/
theorem foldl_ledgerAdd_total (fv : Nat) {a : Int} {ws acc : List LWord} (hne : acc ≠ []) (hacc : ∀ w ∈ acc, w.Adds a)
    (hws : ∀ w ∈ LWord.fulls ws, w.Adds a) :
    ws.foldl (ledgerAdd fv) (LWord.total a acc) = LWord.total a (acc ++ LWord.fulls ws) := by
  induction ws generalizing acc with
  | nil => simp [LWord.fulls]
  | cons w ws ih =>
    rw [List.foldl_cons]
    cases he : w.isEmpty with
    | true =>
      rw [LWord.fulls_cons_empty he] at hws ⊢
      rw [ledgerAdd_empty fv _ he, ih hne hacc hws]
    | false =>
      rw [LWord.fulls_cons_full he] at hws ⊢
      obtain ⟨hw, hws⟩ := List.forall_mem_cons.1 hws
      have hacc' : ∀ v ∈ acc ++ [w], v.Adds a := List.forall_mem_append.2 ⟨hacc, List.forall_mem_singleton.2 hw⟩
      rw [ledgerAdd_total fv hne hacc hw, ih (by simp) hacc' hws, List.append_assoc, List.singleton_append]

/-- Words added to a word that is not empty. -/
theorem foldl_ledgerAdd_full (fv : Nat) {a : Int} {d : LWord} {ws : List LWord} (hd : d.isEmpty = false)
    (h : ∀ w ∈ LWord.fulls (d :: ws), w.Adds a) : ws.foldl (ledgerAdd fv) d = LWord.total a (LWord.fulls (d :: ws)) := by
  rw [LWord.fulls_cons_full hd] at h ⊢
  obtain ⟨hda, hws⟩ := List.forall_mem_cons.1 h
  calc ws.foldl (ledgerAdd fv) d = ws.foldl (ledgerAdd fv) (LWord.total a [d]) := by rw [LWord.total_singleton hda]
    _ = LWord.total a (d :: LWord.fulls ws) :=
      foldl_ledgerAdd_total fv (List.cons_ne_nil d []) (List.forall_mem_singleton.2 hda) hws

/-- Where every word is empty, the first one stays. -/
theorem foldl_ledgerAdd_of_fulls_nil (fv : Nat) {d : LWord} {ws : List LWord} (h : LWord.fulls ws = []) :
    ws.foldl (ledgerAdd fv) d = d := by
  induction ws with
  | nil => rfl
  | cons w ws ih =>
    cases he : w.isEmpty with
    | false =>
      rw [LWord.fulls_cons_full he] at h
      exact absurd h (List.cons_ne_nil _ _)
    | true =>
      rw [LWord.fulls_cons_empty he] at h
      rw [List.foldl_cons, ledgerAdd_empty fv _ he, ih h]

/-- Words added to a word give the sum of those that are not empty, the first one among them: an empty one gives way to the first
word that is not empty. -/
theorem foldl_ledgerAdd (fv : Nat) {a : Int} {d : LWord} {ws : List LWord} (hne : LWord.fulls (d :: ws) ≠ [])
    (h : ∀ w ∈ LWord.fulls (d :: ws), w.Adds a) : ws.foldl (ledgerAdd fv) d = LWord.total a (LWord.fulls (d :: ws)) := by
  cases hd : d.isEmpty with
  | false => exact foldl_ledgerAdd_full fv hd h
  | true =>
    rw [LWord.fulls_cons_empty hd] at hne h ⊢
    induction ws with
    | nil => exact absurd rfl hne
    | cons w ws ih =>
      rw [List.foldl_cons]
      cases hw : w.isEmpty with
      | false => rw [ledgerAdd_to_empty fv hw hd, foldl_ledgerAdd_full fv hw h]
      | true =>
        rw [LWord.fulls_cons_empty hw] at hne h ⊢
        rw [ledgerAdd_empty fv _ hw, ih hne h]

end Sys2Proof.Machine

open Sys2Proof Sys2Proof.Machine

/-- Settles O36: in either order the words add up to `LWord.total` of those that are not empty, a sum that no order changes. -/
theorem ledgerAdditionIsOrderFree : Obligations.LedgerAdditionIsOrderFree := by
  unfold Obligations.LedgerAdditionIsOrderFree
  intro a d ws vs fv gv hperm hok
  refine ⟨fun hne => ?sum, fun hnil => ?empty, fun hf ht hlo hhi => LWord.ofBytes_bytes hf ht hlo hhi⟩
  case sum =>
    have hfulls : (LWord.fulls (d :: ws)).Perm (LWord.fulls (d :: vs)) := (hperm.cons d).filter _
    have hws : ∀ w ∈ LWord.fulls (d :: ws), w.Adds a := by
      intro w hw
      obtain ⟨hmem, hfull⟩ := List.mem_filter.1 hw
      obtain ⟨hterms, he⟩ := hok w hmem
      have hfull : w.isEmpty = false := by simpa using hfull
      obtain ⟨hanchor, hunmixed⟩ := he.resolve_left (by simp [hfull])
      exact ⟨hfull, hanchor, hunmixed, hterms⟩
    have hvs : ∀ w ∈ LWord.fulls (d :: vs), w.Adds a := fun w hw => hws w (hfulls.mem_iff.2 hw)
    have hvne : LWord.fulls (d :: vs) ≠ [] := fun h => hne (List.perm_nil.1 (h ▸ hfulls))
    rw [foldl_ledgerAdd fv hne hws, foldl_ledgerAdd gv hvne hvs, LWord.total_perm a hfulls.symm]
    exact ⟨rfl, rfl, rfl, rfl⟩
  case empty =>
    have hsub : LWord.fulls ws ⊆ LWord.fulls (d :: ws) := List.filter_subset _ (List.subset_cons_self d ws)
    exact foldl_ledgerAdd_of_fulls_nil fv (List.subset_nil.1 (hnil ▸ hsub))
end
